-- ==== Sys2Proof/Word.lean ====
section
/-! DEFINITION. The word types of the Keamas: scalar registers, bytes, vector registers, predicates, virtual addresses, code words (R10, R11, R12, R25, R234). -/

namespace Sys2Proof

/-- A scalar register value (R10). -/
abbrev Word := BitVec 64
/-- A byte of memory (R2). -/
abbrev Byte := BitVec 8
/-- A vector register value (R11). -/
abbrev VecReg := BitVec 2048
/-- A predicate: one bit per byte lane (R12). -/
abbrev Pred := BitVec 256
/-- A virtual address (R234). -/
abbrev VAddr := BitVec 55
/-- A code word (R25). -/
abbrev Code := BitVec 32

end Sys2Proof
end

