-- ==== Sys2Proof/Config.lean ====
section
/-! DEFINITION. What the manual leaves open: free values (opaque, so that nothing proves one) and what an implementation fixes without the manual stating it. -/

namespace Sys2Proof.Config

/-- DESIGN CHOICE [log 3]: a free 64-bit value; the first argument is State.fresh, the second tells the uses of one step apart (R58, R93, R209). -/
opaque freeWord : Nat → Nat → BitVec 64
/-- DESIGN CHOICE [log 3]: a free vector register value, read before its result has landed (R58). -/
opaque freeVec : Nat → Nat → BitVec 2048
/-- DESIGN CHOICE [log 3]: a free predicate value, read before its load has landed (R128). -/
opaque freePred : Nat → Nat → BitVec 256
/-- DESIGN CHOICE [log 3]: a free byte (R169, R191, R193, R237, R310, R361). -/
opaque freeByte : Nat → Nat → BitVec 8
/-- DESIGN CHOICE [log 3]: a free choice between two outcomes the manual allows (R298). -/
opaque freeBool : Nat → Nat → Bool
/-- DESIGN CHOICE [log 6]: the nanoseconds that pass in a step; the model gives steps no duration. -/
opaque elapsed : Nat → Nat
/-- R328: the hash of a flow's (eng, dst, tc) that chooses one of 24 ports is the device's own and is not specified [log 22]. -/
opaque portHash : Nat → Nat → Nat → Nat
/-- R335: the DSCP value of a traffic class, which the manual does not state [log 35]. -/
opaque dscp : Nat → Nat
/-- R352: how CORR, VETO and PREDICT records code an array; the manual gives no coding [log 29]. -/
opaque arrayCode : Nat → BitVec 64
/-- R239: which row of which bank a DRAM access activates, if any; the manual maps addresses to channels only [log 13]. -/
opaque dramRow : Nat → Nat → Option Nat
/-- R239: the bank of a DRAM byte, as a number of the package, which the manual does not map [log 13]. -/
opaque dramBank : Nat → Nat
/-- R239: the two rows on each side of a row [log 13]. -/
opaque rowsBeside : Nat → List Nat
/-- R360: whether the firmware image's ML-DSA-87 signature verifies [log 21]. -/
opaque signatureOk : List (BitVec 8) → Bool
/-- R360: the SHA3-512 digest of bytes: a firmware image's, or a report's fields' (R363) [log 21]. -/
opaque digest : List (BitVec 8) → BitVec 512
/-- R362: AES-256 key unwrap: the identity of the key unwrapped from the bytes at an address, or none when it fails [log 21]. -/
opaque unwrapKey : List (BitVec 8) → Option Nat
/-- R363: byte n of the ML-DSA-87 signature, made with the device identity key over the digest of a report's fields [log 21]. -/
opaque signatureByte : BitVec 512 → Nat → BitVec 8
/-- R363: the identity certificate that Akdom issued at manufacture [log 21]. -/
opaque certificate : List (BitVec 8)
/-- R360: whether the training of the DRAM (0), of Relef (1) or of fabric port p (2 + p) succeeds at a reset [log 21]. -/
opaque trains : Nat → Nat → Bool

end Sys2Proof.Config
end

