-- ==== Sys2Proof/Machine/Library.lean ====
section
/-! DEFINITION. The micro-word layout of R162 and the routine library present at reset (R164). -/

namespace Sys2Proof.Machine

/-- A micro-word from its fields (R162); imm is given as its 32-bit value, the flag bits being imm[3:0]. -/
def microWord (i e : Bool) (op : BitVec 4) (d a : BitVec 2) (imm : BitVec 32) (tgt : BitVec 10) : BitVec 64 :=
  (if i then 1#1 else 0#1) ++ (if e then 1#1 else 0#1) ++ op ++ d ++ a ++ 0#12 ++ imm ++ tgt

/-- The words of one routine of R164, from word 16n: LDA flags and LDB flags (imm[0] T, imm[1] G, imm[2] Y), and the flags of its SCAT if it has one. The E word asks for A form T (imm[0]), B form T (imm[1]) and A gathered (imm[2]). -/
def routineWords (n : Nat) (lda ldb : BitVec 32) (scat : Option (BitVec 32)) : List (Nat × BitVec 64) :=
  let b := 16 * n
  let ew : BitVec 32 := (lda &&& 1) ||| ((ldb &&& 1) <<< 1) ||| (((lda >>> 1) &&& 1) <<< 2)
  [(b, microWord false true 2 0 0 ew 0),
   (b + 1, microWord false false 0xB 0 0 8 0),
   (b + 2, microWord false false 0xE 0 0 0 0),
   (b + 3, microWord false false 4 1 0 0 0),
   (b + 4, microWord false false 8 0 1 lda 0),
   (b + 5, microWord false false 9 0 1 ldb 0),
   (b + 6, microWord true false 0xA 0 1 0 0),
   (b + 7, microWord false false 5 1 0 1 0),
   (b + 8, microWord false false 6 0 0 0 (BitVec.ofNat 10 (b + 4)))] ++
  match scat with
  | none => [(b + 9, microWord false false 1 0 0 0 0)]
  | some f => [(b + 9, microWord false false 0xC 0 0 f 0), (b + 10, microWord false false 1 0 0 0 0)]

/-- The library present at reset (R164): routines 0 to 15 in words 0 to 255; every other word is zero. -/
def library : List (Nat × BitVec 64) :=
  routineWords 0 0 0 none ++ routineWords 1 0 1 none ++ routineWords 2 1 0 none ++ routineWords 3 1 1 none ++
  routineWords 4 2 0 none ++ routineWords 5 2 1 none ++ routineWords 6 0 0 (some 0) ++ routineWords 7 0 1 (some 0) ++
  routineWords 8 2 0 (some 2) ++ routineWords 9 2 1 (some 2) ++ routineWords 10 4 0 none ++ routineWords 11 4 1 none ++
  routineWords 12 5 0 none ++ routineWords 13 5 1 none ++ routineWords 14 6 0 (some 6) ++
  [(240, microWord false true 2 0 0 0 0), (241, microWord false false 0xD 0 0 0 0), (242, microWord false false 1 0 0 0 0)]

end Sys2Proof.Machine
end

