-- ==== Sys2Proof/Syntax.lean ====
section
/-! DEFINITION. The instructions: the 242 slot words of R44, the empty bundle (R27), and the 96 events of the operation table that have no encoding. -/

namespace Sys2Proof

/-- The element width of the vector form (R39). -/
inductive Width where
  | byte | half | word | dword
  deriving DecidableEq, Repr

/-- The vb operand of the vector form: a vector register, or a scalar register x0 to x31 (R39, bit s). -/
inductive VOpnd where
  | v (n : BitVec 5)
  | x (n : BitVec 5)
  deriving DecidableEq, Repr

/-- A fabric packet: a 64-byte header and its payload (R323). -/
structure Packet where
  hdr : BitVec 512
  payload : List Byte
  /-- the 8-byte words of the payload, or of an ARESULT's value, that came poisoned: poison travels with the data (R307) [log 34] -/
  bad : List Nat := []
  /-- the bytes of a WRITE's payload that it does not write: a part of a line of which only some bytes are dirty (R240) [log 58] -/
  skip : List Nat := []
  deriving DecidableEq, Repr

/-- A storage array that a scrubber reads (R345, R346). -/
inductive ScrubArray where
  | scratchpad
  | accumulator (core : Nat) (engine bank : Bool)
  | plane (core : Nat) (lit : Bool)
  | microStore (core : Nat) (lit : Bool)
  | ring
  | dram
  | afterglow (die : Nat)
  deriving DecidableEq, Repr

/-- What a checked read of a protected word finds (R345). -/
inductive EccResult where
  | clean | corrected | uncorrectable
  deriving DecidableEq, Repr

/-- One constructor per row of the operation table. `g` is the guard predicate (R30). -/
inductive Instr where
  /-- NOP (R27). An empty bundle (mask 0) issues for one cycle plus W and may still carry the header's predicate logic. -/
  | nop (plop : BitVec 3) (pd pa pb : BitVec 4) (wait : BitVec 3) (rp : Bool)
  /-- ADD (R62). xd := xs1 + xs2 modulo 2^64. -/
  | add (g : BitVec 4) (d : BitVec 6) (a : BitVec 6) (b : BitVec 6)
  /-- SUB (R62). xd := xs1 − xs2 modulo 2^64. -/
  | sub (g : BitVec 4) (d : BitVec 6) (a : BitVec 6) (b : BitVec 6)
  /-- AND (R62). Bitwise AND. -/
  | and (g : BitVec 4) (d : BitVec 6) (a : BitVec 6) (b : BitVec 6)
  /-- OR (R62). Bitwise OR. -/
  | or (g : BitVec 4) (d : BitVec 6) (a : BitVec 6) (b : BitVec 6)
  /-- XOR (R62). Bitwise XOR. -/
  | xor (g : BitVec 4) (d : BitVec 6) (a : BitVec 6) (b : BitVec 6)
  /-- ANDN (R62). xd := xs1 AND NOT xs2. -/
  | andn (g : BitVec 4) (d : BitVec 6) (a : BitVec 6) (b : BitVec 6)
  /-- ORN (R62). xd := xs1 OR NOT xs2. -/
  | orn (g : BitVec 4) (d : BitVec 6) (a : BitVec 6) (b : BitVec 6)
  /-- SLL (R63). Shift left logical by xs2, giving 0 for shifts of 64 or more. -/
  | sll (g : BitVec 4) (d : BitVec 6) (a : BitVec 6) (b : BitVec 6)
  /-- SRL (R63). Shift right logical by xs2, giving 0 for shifts of 64 or more. -/
  | srl (g : BitVec 4) (d : BitVec 6) (a : BitVec 6) (b : BitVec 6)
  /-- SRA (R63). Arithmetic shift right by min(xs2, 63). -/
  | sra (g : BitVec 4) (d : BitVec 6) (a : BitVec 6) (b : BitVec 6)
  /-- ROL (R63). Rotate left by xs2 mod 64. -/
  | rol (g : BitVec 4) (d : BitVec 6) (a : BitVec 6) (b : BitVec 6)
  /-- ROR (R63). Rotate right by xs2 mod 64. -/
  | ror (g : BitVec 4) (d : BitVec 6) (a : BitVec 6) (b : BitVec 6)
  /-- MUL (R64). Low 64 bits of the product. -/
  | mul (g : BitVec 4) (d : BitVec 6) (a : BitVec 6) (b : BitVec 6)
  /-- MULH (R64). High 64 bits of the signed product. -/
  | mulh (g : BitVec 4) (d : BitVec 6) (a : BitVec 6) (b : BitVec 6)
  /-- MULHU (R64). High 64 bits of the unsigned product. -/
  | mulhu (g : BitVec 4) (d : BitVec 6) (a : BitVec 6) (b : BitVec 6)
  /-- DIV (R65). Signed quotient truncated toward zero, with fixed results for zero divisors and overflow. -/
  | div (g : BitVec 4) (d : BitVec 6) (a : BitVec 6) (b : BitVec 6)
  /-- DIVU (R65). Unsigned quotient; all ones for a zero divisor. -/
  | divu (g : BitVec 4) (d : BitVec 6) (a : BitVec 6) (b : BitVec 6)
  /-- REM (R65). Signed remainder with the dividend's sign. -/
  | rem (g : BitVec 4) (d : BitVec 6) (a : BitVec 6) (b : BitVec 6)
  /-- REMU (R65). Unsigned remainder. -/
  | remu (g : BitVec 4) (d : BitVec 6) (a : BitVec 6) (b : BitVec 6)
  /-- MIN (R62). Signed minimum. -/
  | min (g : BitVec 4) (d : BitVec 6) (a : BitVec 6) (b : BitVec 6)
  /-- MAX (R62). Signed maximum. -/
  | max (g : BitVec 4) (d : BitVec 6) (a : BitVec 6) (b : BitVec 6)
  /-- MINU (R62). Unsigned minimum. -/
  | minu (g : BitVec 4) (d : BitVec 6) (a : BitVec 6) (b : BitVec 6)
  /-- MAXU (R62). Unsigned maximum. -/
  | maxu (g : BitVec 4) (d : BitVec 6) (a : BitVec 6) (b : BitVec 6)
  /-- ADDS (R62). Signed saturating add, counting nothing. -/
  | adds (g : BitVec 4) (d : BitVec 6) (a : BitVec 6) (b : BitVec 6)
  /-- SUBS (R62). Signed saturating subtract, counting nothing. -/
  | subs (g : BitVec 4) (d : BitVec 6) (a : BitVec 6) (b : BitVec 6)
  /-- SLT (R62). 1 if xs1 < xs2 signed, else 0. -/
  | slt (g : BitVec 4) (d : BitVec 6) (a : BitVec 6) (b : BitVec 6)
  /-- SLTU (R62). 1 if xs1 < xs2 unsigned, else 0. -/
  | sltu (g : BitVec 4) (d : BitVec 6) (a : BitVec 6) (b : BitVec 6)
  /-- SEQ (R62). 1 if xs1 = xs2, else 0. -/
  | seq (g : BitVec 4) (d : BitVec 6) (a : BitVec 6) (b : BitVec 6)
  /-- CLZ (R66). Count leading zero bits. -/
  | clz (g : BitVec 4) (d : BitVec 6) (a : BitVec 6)
  /-- CTZ (R66). Count trailing zero bits. -/
  | ctz (g : BitVec 4) (d : BitVec 6) (a : BitVec 6)
  /-- POPC (R66). Count one bits. -/
  | popc (g : BitVec 4) (d : BitVec 6) (a : BitVec 6)
  /-- BREV (R66). Reverse the bit order. -/
  | brev (g : BitVec 4) (d : BitVec 6) (a : BitVec 6)
  /-- BSWAP (R66). Reverse the byte order. -/
  | bswap (g : BitVec 4) (d : BitVec 6) (a : BitVec 6)
  /-- SEXTB (R66). Sign-extend the low byte. -/
  | sextb (g : BitVec 4) (d : BitVec 6) (a : BitVec 6)
  /-- SEXTH (R66). Sign-extend the low 16 bits. -/
  | sexth (g : BitVec 4) (d : BitVec 6) (a : BitVec 6)
  /-- SEXTW (R66). Sign-extend the low 32 bits. -/
  | sextw (g : BitVec 4) (d : BitVec 6) (a : BitVec 6)
  /-- PEQ (R67). Set every lane of pd to the result of xs1 = xs2. -/
  | peq (g : BitVec 4) (p : BitVec 4) (a : BitVec 6) (b : BitVec 6)
  /-- PNE (R67). Set every lane of pd to the result of xs1 ≠ xs2. -/
  | pne (g : BitVec 4) (p : BitVec 4) (a : BitVec 6) (b : BitVec 6)
  /-- PLT (R67). Set every lane of pd to the result of a signed less-than. -/
  | plt (g : BitVec 4) (p : BitVec 4) (a : BitVec 6) (b : BitVec 6)
  /-- PGE (R67). Set every lane of pd to the result of a signed greater-or-equal. -/
  | pge (g : BitVec 4) (p : BitVec 4) (a : BitVec 6) (b : BitVec 6)
  /-- PLTU (R67). Set every lane of pd to the result of an unsigned less-than. -/
  | pltu (g : BitVec 4) (p : BitVec 4) (a : BitVec 6) (b : BitVec 6)
  /-- PGEU (R67). Set every lane of pd to the result of an unsigned greater-or-equal. -/
  | pgeu (g : BitVec 4) (p : BitVec 4) (a : BitVec 6) (b : BitVec 6)
  /-- PTOX (R68). xd := 64 lanes of a predicate, selected by k. -/
  | ptox (g : BitVec 4) (d : BitVec 6) (p : BitVec 4) (k : BitVec 6)
  /-- XTOP (R68). Replace 64 lanes of pd, selected by k, with xs. -/
  | xtop (g : BitVec 4) (p : BitVec 4) (a : BitVec 6) (k : BitVec 6)
  /-- PCNT (R68). Count the lanes set in both ps and pm. -/
  | pcnt (g : BitVec 4) (d : BitVec 6) (p : BitVec 4) (q : BitVec 4)
  /-- ADDI (R69). Add a sign-extended 9-bit immediate. -/
  | addi (g : BitVec 4) (d : BitVec 6) (a : BitVec 6) (m : BitVec 9)
  /-- ANDI (R69). AND with a sign-extended immediate. -/
  | andi (g : BitVec 4) (d : BitVec 6) (a : BitVec 6) (m : BitVec 9)
  /-- ORI (R69). OR with a sign-extended immediate. -/
  | ori (g : BitVec 4) (d : BitVec 6) (a : BitVec 6) (m : BitVec 9)
  /-- XORI (R69). XOR with a sign-extended immediate. -/
  | xori (g : BitVec 4) (d : BitVec 6) (a : BitVec 6) (m : BitVec 9)
  /-- SLLI (R69). Shift left logical by an immediate 0–63. -/
  | slli (g : BitVec 4) (d : BitVec 6) (a : BitVec 6) (m : BitVec 9)
  /-- SRLI (R69). Shift right logical by an immediate 0–63. -/
  | srli (g : BitVec 4) (d : BitVec 6) (a : BitVec 6) (m : BitVec 9)
  /-- SRAI (R69). Shift right arithmetic by an immediate 0–63. -/
  | srai (g : BitVec 4) (d : BitVec 6) (a : BitVec 6) (m : BitVec 9)
  /-- LIH (R70). xd := (xd << 15) OR imm15, truncated to 64 bits. -/
  | lih (g : BitVec 4) (d : BitVec 6) (m : BitVec 15)
  /-- LDB (R71). Load a byte, sign-extended. -/
  | ldb (g : BitVec 4) (t : BitVec 6) (b : BitVec 6) (o : BitVec 8)
  /-- LDBU (R71). Load a byte, zero-extended. -/
  | ldbu (g : BitVec 4) (t : BitVec 6) (b : BitVec 6) (o : BitVec 8)
  /-- LDH (R71). Load 2 bytes, sign-extended. -/
  | ldh (g : BitVec 4) (t : BitVec 6) (b : BitVec 6) (o : BitVec 8)
  /-- LDHU (R71). Load 2 bytes, zero-extended. -/
  | ldhu (g : BitVec 4) (t : BitVec 6) (b : BitVec 6) (o : BitVec 8)
  /-- LDW (R71). Load 4 bytes, sign-extended. -/
  | ldw (g : BitVec 4) (t : BitVec 6) (b : BitVec 6) (o : BitVec 8)
  /-- LDWU (R71). Load 4 bytes, zero-extended. -/
  | ldwu (g : BitVec 4) (t : BitVec 6) (b : BitVec 6) (o : BitVec 8)
  /-- LDD (R71). Load 8 bytes. -/
  | ldd (g : BitVec 4) (t : BitVec 6) (b : BitVec 6) (o : BitVec 8)
  /-- LDQ (R72). Load 16 bytes single-copy atomically into a register pair. -/
  | ldq (g : BitVec 4) (t : BitVec 6) (b : BitVec 6) (o : BitVec 8)
  /-- STB (R71). Store a byte. -/
  | stb (g : BitVec 4) (t : BitVec 6) (b : BitVec 6) (o : BitVec 8)
  /-- STH (R71). Store 2 bytes. -/
  | sth (g : BitVec 4) (t : BitVec 6) (b : BitVec 6) (o : BitVec 8)
  /-- STW (R71). Store 4 bytes. -/
  | stw (g : BitVec 4) (t : BitVec 6) (b : BitVec 6) (o : BitVec 8)
  /-- STD (R71). Store 8 bytes. -/
  | std (g : BitVec 4) (t : BitVec 6) (b : BitVec 6) (o : BitVec 8)
  /-- STQ (R72). Store a register pair as 16 bytes single-copy atomically. -/
  | stq (g : BitVec 4) (t : BitVec 6) (b : BitVec 6) (o : BitVec 8)
  /-- PRF (R73). Prefetch a far 64-byte line into L1, never faulting. -/
  | prf (g : BitVec 4) (b : BitVec 6) (o : BitVec 8)
  /-- ZLN (R73). Store 64 zero bytes at an aligned line. -/
  | zln (g : BitVec 4) (b : BitVec 6) (o : BitVec 8)
  /-- BR (R77). Branch to the header address plus 4 × off20. -/
  | br (g : BitVec 4) (o : BitVec 20)
  /-- CALL (R77). Branch and write the return address to x63. -/
  | call (g : BitVec 4) (o : BitVec 20)
  /-- JR (R77). Jump to the address in xs. -/
  | jr (g : BitVec 4) (a : BitVec 6)
  /-- JALR (R77). Jump to xs and write the return address to xd. -/
  | jalr (g : BitVec 4) (d : BitVec 6) (a : BitVec 6)
  /-- LOOP (R81). Start hardware loop level k with the count in xc, or skip the body if zero. -/
  | loop (g : BitVec 4) (k : BitVec 2) (c : BitVec 6) (l : BitVec 9)
  /-- LOOPI (R81). Start hardware loop level k with an immediate count. -/
  | loopi (g : BitVec 4) (k : BitVec 2) (n : BitVec 9) (l : BitVec 9)
  /-- LOOPP (R81). Start a software-pipelined loop with S stages and set the stage predicates. -/
  | loopp (g : BitVec 4) (k : BitVec 2) (c : BitVec 6) (n : BitVec 3) (l : BitVec 9)
  /-- LEXIT (R84). End loop level k and every deeper level and continue after the body. -/
  | lexit (g : BitVec 4) (k : BitVec 2)
  /-- VADD (R116). Wrapping lane add. -/
  | vadd (g : BitVec 4) (w : Width) (d : BitVec 5) (a : BitVec 5) (b : VOpnd)
  /-- VSUB (R116). Wrapping lane subtract. -/
  | vsub (g : BitVec 4) (w : Width) (d : BitVec 5) (a : BitVec 5) (b : VOpnd)
  /-- VADDS (R116). Signed saturating lane add. -/
  | vadds (g : BitVec 4) (w : Width) (d : BitVec 5) (a : BitVec 5) (b : VOpnd)
  /-- VSUBS (R116). Signed saturating lane subtract. -/
  | vsubs (g : BitVec 4) (w : Width) (d : BitVec 5) (a : BitVec 5) (b : VOpnd)
  /-- VADDSU (R116). Unsigned saturating lane add. -/
  | vaddsu (g : BitVec 4) (w : Width) (d : BitVec 5) (a : BitVec 5) (b : VOpnd)
  /-- VSUBSU (R116). Unsigned saturating lane subtract. -/
  | vsubsu (g : BitVec 4) (w : Width) (d : BitVec 5) (a : BitVec 5) (b : VOpnd)
  /-- VMUL (R116). Low n bits of the lane product. -/
  | vmul (g : BitVec 4) (w : Width) (d : BitVec 5) (a : BitVec 5) (b : VOpnd)
  /-- VMULH (R116). High n bits of the signed lane product. -/
  | vmulh (g : BitVec 4) (w : Width) (d : BitVec 5) (a : BitVec 5) (b : VOpnd)
  /-- VMULHU (R116). High n bits of the unsigned lane product. -/
  | vmulhu (g : BitVec 4) (w : Width) (d : BitVec 5) (a : BitVec 5) (b : VOpnd)
  /-- VMULQ (R116). Q-format multiply with rounding mode selected by m. -/
  | vmulq (g : BitVec 4) (w : Width) (d : BitVec 5) (a : BitVec 5) (b : VOpnd) (m : Bool)
  /-- VMIN (R116). Signed lane minimum. -/
  | vmin (g : BitVec 4) (w : Width) (d : BitVec 5) (a : BitVec 5) (b : VOpnd)
  /-- VMAX (R116). Signed lane maximum. -/
  | vmax (g : BitVec 4) (w : Width) (d : BitVec 5) (a : BitVec 5) (b : VOpnd)
  /-- VMINU (R116). Unsigned lane minimum. -/
  | vminu (g : BitVec 4) (w : Width) (d : BitVec 5) (a : BitVec 5) (b : VOpnd)
  /-- VMAXU (R116). Unsigned lane maximum. -/
  | vmaxu (g : BitVec 4) (w : Width) (d : BitVec 5) (a : BitVec 5) (b : VOpnd)
  /-- VAND (R116). Bitwise lane AND. -/
  | vand (g : BitVec 4) (w : Width) (d : BitVec 5) (a : BitVec 5) (b : VOpnd)
  /-- VOR (R116). Bitwise lane OR. -/
  | vor (g : BitVec 4) (w : Width) (d : BitVec 5) (a : BitVec 5) (b : VOpnd)
  /-- VXOR (R116). Bitwise lane XOR. -/
  | vxor (g : BitVec 4) (w : Width) (d : BitVec 5) (a : BitVec 5) (b : VOpnd)
  /-- VANDN (R116). Bitwise a AND NOT b. -/
  | vandn (g : BitVec 4) (w : Width) (d : BitVec 5) (a : BitVec 5) (b : VOpnd)
  /-- VSLL (R117). Lane shift left logical. -/
  | vsll (g : BitVec 4) (w : Width) (d : BitVec 5) (a : BitVec 5) (b : VOpnd)
  /-- VSRL (R117). Lane shift right logical. -/
  | vsrl (g : BitVec 4) (w : Width) (d : BitVec 5) (a : BitVec 5) (b : VOpnd)
  /-- VSRA (R117). Lane shift right arithmetic. -/
  | vsra (g : BitVec 4) (w : Width) (d : BitVec 5) (a : BitVec 5) (b : VOpnd)
  /-- VABS (R116). Saturating lane absolute value. -/
  | vabs (g : BitVec 4) (w : Width) (d : BitVec 5) (a : BitVec 5)
  /-- VNEG (R116). Saturating lane negation. -/
  | vneg (g : BitVec 4) (w : Width) (d : BitVec 5) (a : BitVec 5)
  /-- VAVG (R116). Rounded-up lane average, signed or unsigned by m. -/
  | vavg (g : BitVec 4) (w : Width) (d : BitVec 5) (a : BitVec 5) (b : VOpnd) (m : Bool)
  /-- VMOV (R116). Copy lanes of va. -/
  | vmov (g : BitVec 4) (w : Width) (d : BitVec 5) (a : BitVec 5)
  /-- VSEL (R118). Write every element from va where the guard is active and from vb elsewhere. -/
  | vsel (g : BitVec 4) (w : Width) (d : BitVec 5) (a : BitVec 5) (b : VOpnd)
  /-- VCLS (R116). Count leading sign bits per lane. -/
  | vcls (g : BitVec 4) (w : Width) (d : BitVec 5) (a : BitVec 5)
  /-- VPOPC (R116). Count one bits per lane. -/
  | vpopc (g : BitVec 4) (w : Width) (d : BitVec 5) (a : BitVec 5)
  /-- VCMPEQ (R119). Lane compare for equality into a predicate. -/
  | vcmpeq (g : BitVec 4) (w : Width) (p : BitVec 4) (a : BitVec 5) (b : VOpnd)
  /-- VCMPNE (R119). Lane compare for inequality into a predicate. -/
  | vcmpne (g : BitVec 4) (w : Width) (p : BitVec 4) (a : BitVec 5) (b : VOpnd)
  /-- VCMPLT (R119). Signed lane less-than into a predicate. -/
  | vcmplt (g : BitVec 4) (w : Width) (p : BitVec 4) (a : BitVec 5) (b : VOpnd)
  /-- VCMPLE (R119). Signed lane less-or-equal into a predicate. -/
  | vcmple (g : BitVec 4) (w : Width) (p : BitVec 4) (a : BitVec 5) (b : VOpnd)
  /-- VCMPLTU (R119). Unsigned lane less-than into a predicate. -/
  | vcmpltu (g : BitVec 4) (w : Width) (p : BitVec 4) (a : BitVec 5) (b : VOpnd)
  /-- VCMPLEU (R119). Unsigned lane less-or-equal into a predicate. -/
  | vcmpleu (g : BitVec 4) (w : Width) (p : BitVec 4) (a : BitVec 5) (b : VOpnd)
  /-- VNARROW (R120). Shift down, round and saturate a register pair to half width, counting and censusing against a slot. -/
  | vnarrow (g : BitVec 4) (w : Width) (d : BitVec 5) (a : BitVec 5) (b : BitVec 5) (m : Bool)
  /-- VWIDEN (R121). Extend one half of va to double width with a left shift. -/
  | vwiden (g : BitVec 4) (w : Width) (d : BitVec 5) (a : BitVec 5) (b : BitVec 5) (m : Bool)
  /-- VSHRR (R122). Rounding shift right at unchanged width. -/
  | vshrr (g : BitVec 4) (w : Width) (d : BitVec 5) (a : BitVec 5) (b : BitVec 5)
  /-- VSSHR (R122). Signed bidirectional shift, saturating left and rounding right. -/
  | vsshr (g : BitVec 4) (w : Width) (d : BitVec 5) (a : BitVec 5) (b : BitVec 5)
  /-- VSPLAT (R124). Broadcast a scalar to every active element. -/
  | vsplat (g : BitVec 4) (w : Width) (d : BitVec 5) (b : BitVec 5)
  /-- VEXTR (R124). Extract an indexed element into a scalar register. -/
  | vextr (g : BitVec 4) (w : Width) (d : BitVec 5) (a : BitVec 5) (b : BitVec 5) (m : Bool)
  /-- VINSR (R124). Insert a scalar into an indexed element. -/
  | vinsr (g : BitVec 4) (w : Width) (d : BitVec 5) (a : BitVec 5) (b : BitVec 5)
  /-- VIOTA (R124). Write lane or active-element indices plus a base. -/
  | viota (g : BitVec 4) (w : Width) (d : BitVec 5) (b : BitVec 5) (m : Bool)
  /-- VCB4 (R123). Decode CB4 codes through a slot's codebook to INT8. -/
  | vcb4 (g : BitVec 4) (d : BitVec 5) (a : BitVec 5) (b : BitVec 5) (m : Bool)
  /-- VQ4P (R123). Saturate and pack two INT8 registers into INT4. -/
  | vq4p (g : BitVec 4) (d : BitVec 5) (a : BitVec 5)
  /-- VQ4U (R123). Unpack INT4 elements to INT8. -/
  | vq4u (g : BitVec 4) (d : BitVec 5) (a : BitVec 5) (m : Bool)
  /-- VREDADD (R125). Sum the active elements into bits 63:0 of vd. -/
  | vredadd (g : BitVec 4) (w : Width) (d : BitVec 5) (a : BitVec 5) (b : Option (BitVec 5)) (m : Bool)
  /-- VREDMAX (R125). Maximum of the active elements into bits 63:0 of vd. -/
  | vredmax (g : BitVec 4) (w : Width) (d : BitVec 5) (a : BitVec 5) (b : Option (BitVec 5)) (m : Bool)
  /-- VREDMIN (R125). Minimum of the active elements into bits 63:0 of vd. -/
  | vredmin (g : BitVec 4) (w : Width) (d : BitVec 5) (a : BitVec 5) (b : Option (BitVec 5)) (m : Bool)
  /-- VREDOR (R125). OR of the active elements into bits 63:0 of vd. -/
  | vredor (g : BitVec 4) (w : Width) (d : BitVec 5) (a : BitVec 5) (b : Option (BitVec 5))
  /-- VTORQ (R126). Reserve a return-queue entry and push an element into it. -/
  | vtorq (g : BitVec 4) (w : Width) (a : BitVec 5) (b : Option (BitVec 5)) (m : Bool)
  /-- VCENS (R127). Record the headroom census of active elements, optionally counting range-end values. -/
  | vcens (g : BitVec 4) (w : Width) (a : BitVec 5) (b : BitVec 5) (m : Bool)
  /-- VEXP (R147). Table-based e^x of INT16 inputs into Q1.15. -/
  | vexp (g : BitVec 4) (d : BitVec 5) (a : BitVec 5) (b : BitVec 5)
  /-- VRCP (R148). Exact floor reciprocal 2^s / d, flagging a zero divisor. -/
  | vrcp (g : BitVec 4) (d : BitVec 5) (a : BitVec 5) (b : BitVec 5)
  /-- VRSQ (R148). Largest y with y² × x ≤ 2^s, flagging a zero operand. -/
  | vrsq (g : BitVec 4) (d : BitVec 5) (a : BitVec 5) (b : BitVec 5)
  /-- VDIV (R149). Signed INT32 lane division truncated toward zero. -/
  | vdiv (g : BitVec 4) (d : BitVec 5) (a : BitVec 5) (b : VOpnd)
  /-- VOPT (R150). Fused optimiser step updating weight, momentum and variance with saturation counts. -/
  | vopt (g : BitVec 4) (d : BitVec 5) (a : BitVec 5) (b : BitVec 5)
  /-- VBMM (R133). 8 × 8 bit-matrix multiply over GF(2) or OR-AND per 64-bit element. -/
  | vbmm (g : BitVec 4) (d : BitVec 5) (a : BitVec 5) (b : VOpnd) (m : Bool)
  /-- VPDEP (R134). Parallel bit deposit under a mask. -/
  | vpdep (g : BitVec 4) (w : Width) (d : BitVec 5) (a : BitVec 5) (b : VOpnd)
  /-- VPEXT (R134). Parallel bit extract under a mask. -/
  | vpext (g : BitVec 4) (w : Width) (d : BitVec 5) (a : BitVec 5) (b : VOpnd)
  /-- VBPERM (R135). Gather eight indexed bits of each 64-bit element. -/
  | vbperm (g : BitVec 4) (d : BitVec 5) (a : BitVec 5) (b : VOpnd)
  /-- VPERM (R136). Table lookup of elements by index from one or two registers. -/
  | vperm (g : BitVec 4) (w : Width) (d : BitVec 5) (a : BitVec 5) (b : BitVec 5) (m : Bool)
  /-- VSLIDE (R137). Slide elements by a signed scalar amount. -/
  | vslide (g : BitVec 4) (w : Width) (d : BitVec 5) (a : BitVec 5) (b : BitVec 5) (m : Bool)
  /-- VSPUSH (R140). Append active elements to a stream buffer. -/
  | vspush (g : BitVec 4) (w : Width) (n : BitVec 2) (a : BitVec 5)
  /-- VSPOP (R140). Fill active elements from the front of a stream buffer, optionally writing a fill predicate. -/
  | vspop (g : BitVec 4) (w : Width) (d : BitVec 5) (n : BitVec 2) (p : BitVec 4) (m : Bool)
  /-- VSFLUSH (R140). Return the element count of a stream buffer and empty it. -/
  | vsflush (g : BitVec 4) (w : Width) (d : BitVec 5) (n : BitVec 2)
  /-- VSLEN (R140). Return the element count of a stream buffer. -/
  | vslen (g : BitVec 4) (w : Width) (d : BitVec 5) (n : BitVec 2)
  /-- VLD (R128). Contiguous vector load. -/
  | vld (g : BitVec 4) (w : Width) (d : BitVec 5) (a : BitVec 5) (b : Option (BitVec 5))
  /-- VST (R128). Contiguous vector store. -/
  | vst (g : BitVec 4) (w : Width) (d : BitVec 5) (a : BitVec 5) (b : Option (BitVec 5))
  /-- VLDS (R128). Strided vector load. -/
  | vlds (g : BitVec 4) (w : Width) (d : BitVec 5) (a : BitVec 5) (b : BitVec 5)
  /-- VSTS (R128). Strided vector store. -/
  | vsts (g : BitVec 4) (w : Width) (d : BitVec 5) (a : BitVec 5) (b : BitVec 5)
  /-- VLDX (R128). Indexed vector gather. -/
  | vldx (g : BitVec 4) (w : Width) (d : BitVec 5) (a : BitVec 5) (b : BitVec 5) (m : Bool)
  /-- VSTX (R128). Indexed vector scatter. -/
  | vstx (g : BitVec 4) (w : Width) (d : BitVec 5) (a : BitVec 5) (b : BitVec 5) (m : Bool)
  /-- VLDT (R129). Load a row or column of a swizzled scratchpad tile. -/
  | vldt (g : BitVec 4) (w : Width) (d : BitVec 5) (a : BitVec 5) (b : BitVec 5)
  /-- VSTT (R129). Store a row or column of a swizzled scratchpad tile. -/
  | vstt (g : BitVec 4) (w : Width) (d : BitVec 5) (a : BitVec 5) (b : BitVec 5)
  /-- VLDB (R128). Load one element and broadcast it to every active element. -/
  | vldb (g : BitVec 4) (w : Width) (d : BitVec 5) (a : BitVec 5) (b : Option (BitVec 5))
  /-- VLDP (R128). Load a 256-bit predicate from memory. -/
  | vldp (g : BitVec 4) (p : BitVec 4) (a : BitVec 5) (b : Option (BitVec 5))
  /-- VSTP (R128). Store a 256-bit predicate to memory. -/
  | vstp (g : BitVec 4) (p : BitVec 4) (a : BitVec 5) (b : Option (BitVec 5))
  /-- MPW (R156). Write parameter register mp[k] of an engine. -/
  | mpw (g : BitVec 4) (a : BitVec 6) (k : BitVec 3) (e : Bool)
  /-- MPR (R156). Read parameter register mp[k] of an engine. -/
  | mpr (g : BitVec 4) (d : BitVec 6) (k : BitVec 3) (e : Bool)
  /-- MCFG (R156). Set an engine's format pair after a drain. -/
  | mcfg (g : BitVec 4) (a : BitVec 6) (e : Bool)
  /-- MDRAIN (R158). Wait until every command of the engine has completed and return a status summary. -/
  | mdrain (g : BitVec 4) (d : BitVec 6) (e : Bool)
  /-- MCALL (R159). Queue a microprogram routine call to one engine or an engine pair. -/
  | mcall (g : BitVec 4) (r : BitVec 6) (c : BitVec 6) (p : Bool) (e : Bool)
  /-- MCALLG (R166). Queue a routine call with the gang member index applied to Y words. -/
  | mcallg (g : BitVec 4) (r : BitVec 6) (c : BitVec 6) (p : Bool) (e : Bool)
  /-- MSPEC (R165). Open a speculation, copying or zeroing the shadow bank. -/
  | mspec (g : BitVec 4) (z : Bool) (e : Bool)
  /-- MCOMMIT (R165). Exchange the banks so the shadow contents become lit. -/
  | mcommit (g : BitVec 4) (e : Bool)
  /-- MDISCARD (R165). Close a speculation leaving the lit bank unchanged. -/
  | mdiscard (g : BitVec 4) (e : Bool)
  /-- MZERO (R165). Zero the working bank or a rectangle of it. -/
  | mzero (g : BitVec 4) (a : BitVec 6) (z : Bool) (e : Bool)
  /-- MACCLD (R167). Load an INT32 rectangle of the accumulator from memory. -/
  | maccld (g : BitVec 4) (x : BitVec 6) (a : BitVec 6) (e : Bool)
  /-- MACCST (R167). Shift down, round, saturate and store an accumulator rectangle with counts and census. -/
  | maccst (g : BitVec 4) (x : BitVec 6) (a : BitVec 6) (e : Bool)
  /-- MUCW (R163). Write a micro-word of the lit or shadow microprogram store. -/
  | mucw (g : BitVec 4) (x : BitVec 6) (a : BitVec 6) (h : Bool) (e : Bool)
  /-- MUCR (R163). Read a micro-word of the lit or shadow store. -/
  | mucr (g : BitVec 4) (d : BitVec 6) (x : BitVec 6) (h : Bool) (e : Bool)
  /-- MSTAT (R170). Reserve a return-queue entry filled with engine statistics when the engine reaches the command. -/
  | mstat (g : BitVec 4) (k : BitVec 2) (e : Bool)
  /-- MRPG (R170). Read the engine's row-progress register. -/
  | mrpg (g : BitVec 4) (d : BitVec 6) (e : Bool)
  /-- ERW (R175). Write a copy engine geometry or arbitration register. -/
  | erw (g : BitVec 4) (a : BitVec 6) (n : BitVec 6)
  /-- ERD (R173). Read a copy engine geometry or arbitration register. -/
  | erd (g : BitVec 4) (d : BitVec 6) (n : BitVec 6)
  /-- CPY (R186). Queue a tile copy with optional transform. -/
  | cpy (g : BitVec 4) (c : BitVec 6) (o : BitVec 6) (y : Bool) (z : Bool)
  /-- CPYM (R186). Queue a multicast copy into the scratchpads of a mask of cores. -/
  | cpym (g : BitVec 4) (c : BitVec 6) (o : BitVec 6) (y : Bool) (z : Bool)
  /-- CPYX (R186). Queue an indexed gather or scatter copy through a row table. -/
  | cpyx (g : BitVec 4) (c : BitVec 6) (t : BitVec 6) (z : Bool)
  /-- CPYW (R187). Queue a tile-by-tile copy gated by a permit counter or pushed into a queue. -/
  | cpyw (g : BitVec 4) (c : BitVec 6) (o : BitVec 6) (y : Bool) (z : Bool)
  /-- CPYC (R194). Cancel the engine's copy commands whose tags are in the mask. -/
  | cpyc (g : BitVec 4) (d : BitVec 6) (m : BitVec 6)
  /-- COLL (R197). Start a collective over a handle's buckets on a collective engine. -/
  | coll (g : BitVec 4) (h : BitVec 6) (c : BitVec 6)
  /-- CSIG (R198). Release a bucket and set its ready bit in the handle. -/
  | csig (g : BitVec 4) (h : BitVec 6) (k : BitVec 6)
  /-- ACQ (R201). Read a memory object's generation and acquire it. -/
  | acq (g : BitVec 4) (d : BitVec 6) (a : BitVec 6)
  /-- REL (R201). Release a memory object and increment its generation at the home. -/
  | rel (g : BitVec 4) (d : BitVec 6) (a : BitVec 6)
  /-- BIND (R202). Add a region binding to the context's region table. -/
  | bind (g : BitVec 4) (d : BitVec 6) (a : BitVec 6) (b : BitVec 6)
  /-- UNBIND (R202). Remove a binding without writing back. -/
  | unbind (g : BitVec 4) (a : BitVec 6)
  /-- FENCE (R203). Hold later accesses until earlier ones are performed at scope k. -/
  | fence (g : BitVec 4) (k : BitVec 6)
  /-- QMAKE (R209). Turn a creation block into a live queue. -/
  | qmake (g : BitVec 4) (d : BitVec 6) (a : BitVec 6)
  /-- QPUSH (R210). Push an 8-byte payload as the next queue entry, spilling when its slot is busy. -/
  | qpush (g : BitVec 4) (d : BitVec 6) (a : BitVec 6) (b : BitVec 6)
  /-- QPOP (R210). Pop the next entry of a cursor and take a token. -/
  | qpop (g : BitVec 4) (d : BitVec 6) (a : BitVec 6)
  /-- QFREE (R210). Return the task's oldest token of a queue cursor. -/
  | qfree (g : BitVec 4) (a : BitVec 6)
  /-- MBSEND (R211). Send a 16-byte message to a mailbox. -/
  | mbsend (g : BitVec 4) (d : BitVec 6) (a : BitVec 6) (b : BitVec 6)
  /-- MBRECV (R211). Receive the oldest entry of an owned mailbox. -/
  | mbrecv (g : BitVec 4) (d : BitVec 6) (p : BitVec 4) (k : BitVec 6)
  /-- MBBIND (R211). Bind or unbind a mailbox of the core to a task record. -/
  | mbbind (g : BitVec 4) (a : BitVec 6) (k : BitVec 6)
  /-- SBARM (R206). Announce bytes and commands for a stage barrier's open phase. -/
  | sbarm (g : BitVec 4) (a : BitVec 6) (b : BitVec 6)
  /-- SBWAIT (R207). Wait until the barrier's phase changes, then read and acquire it. -/
  | sbwait (g : BitVec 4) (d : BitVec 6) (a : BitVec 6) (b : BitVec 6)
  /-- SBTST (R207). Read and acquire a stage barrier without waiting. -/
  | sbtst (g : BitVec 4) (d : BitVec 6) (a : BitVec 6)
  /-- DBAR (R208). Arrive at a domain barrier, holding a tag that completes with the generation. -/
  | dbar (g : BitVec 4) (k : BitVec 6) (t : BitVec 6)
  /-- WAITANY (R204). Wait until any masked tag completes and acquire the completed tags. -/
  | waitany (g : BitVec 4) (d : BitVec 6) (a : BitVec 6)
  /-- WAITALL (R204). Wait until every masked tag completes and return their error bits. -/
  | waitall (g : BitVec 4) (d : BitVec 6) (a : BitVec 6)
  /-- FFR (R204). Return the lowest completed masked tag without waiting. -/
  | ffr (g : BitVec 4) (d : BitVec 6) (a : BitVec 6)
  /-- TAGCLR (R204). Clear masked bits in ctb and cte. -/
  | tagclr (g : BitVec 4) (a : BitVec 6)
  /-- RQPOP (R92). Take the oldest return-queue reservation, waiting until it lands. -/
  | rqpop (g : BitVec 4) (d : BitVec 6)
  /-- LDACQ (R203). Load 8 bytes and acquire, invalidating the whole L1. -/
  | ldacq (g : BitVec 4) (d : BitVec 6) (a : BitVec 6) (k : BitVec 6)
  /-- STREL (R203). Perform earlier accesses at scope k, release the object and store 8 bytes. -/
  | strel (g : BitVec 4) (t : BitVec 6) (a : BitVec 6) (k : BitVec 6)
  /-- INVR (R203). Write back and invalidate L1 lines meeting a range. -/
  | invr (g : BitVec 4) (a : BitVec 6) (b : BitVec 6)
  /-- WBR (R203). Write back L1 lines meeting a range. -/
  | wbr (g : BitVec 4) (a : BitVec 6) (b : BitVec 6)
  /-- TSPAWN (R218). Spawn a plain task from a record. -/
  | tspawn (g : BitVec 4) (a : BitVec 6)
  /-- TSPAWNR (R218). Spawn a range task. -/
  | tspawnr (g : BitVec 4) (a : BitVec 6)
  /-- TSPAWNG (R218). Spawn a gang task. -/
  | tspawng (g : BitVec 4) (a : BitVec 6)
  /-- FSPAWN (R218). Spawn a future and add it to the reference list. -/
  | fspawn (g : BitVec 4) (a : BitVec 6)
  /-- FREF (R224). Add a consumer reference to a live future. -/
  | fref (g : BitVec 4) (a : BitVec 6)
  /-- FDROP (R224). Drop a reference to a future, eclipsing it if none remain. -/
  | fdrop (g : BitVec 4) (a : BitVec 6)
  /-- FGET (R224). Read a DONE future's result atomically, or its state. -/
  | fget (g : BitVec 4) (d : BitVec 6) (a : BitVec 6) (p : BitVec 4)
  /-- TDEC (R219). Subtract from a record's dependence counter, readying it at zero. -/
  | tdec (g : BitVec 4) (d : BitVec 6) (a : BitVec 6) (b : BitVec 6)
  /-- TCONT (R220). End the task's use of the core and continue it later at a new entry. -/
  | tcont (g : BitVec 4) (a : BitVec 6) (b : BitVec 6)
  /-- TEND (R220). End the task, writing its result and notifying. -/
  | tend (g : BitVec 4) (a : BitVec 6)
  /-- TYIELD (R221). Save and requeue the task, unconditionally or only on a pending request. -/
  | tyield (g : BitVec 4) (k : BitVec 6)
  /-- RNEXT (R222). Claim the next chunk of the running range task. -/
  | rnext (g : BitVec 4) (d : BitVec 6)
  /-- NXTREQ (R93). Request the next tile from a queue or the range task, answered 8 cycles later. -/
  | nxtreq (g : BitVec 4) (d : BitVec 6) (a : BitVec 6)
  /-- PLOAD (R227). Ask the loader to fill the shadow plane with an image. -/
  | pload (g : BitVec 4) (a : BitVec 6) (t : BitVec 6)
  /-- PSWAP (R228). Save the task and exchange the lit and shadow planes. -/
  | pswap (g : BitVec 4)
  /-- TSRD (R230). Read a field of a scale slot. -/
  | tsrd (g : BitVec 4) (d : BitVec 6) (n : BitVec 6) (f : BitVec 6)
  /-- TSWR (R230). Write a field of a scale slot. -/
  | tswr (g : BitVec 4) (n : BitVec 6) (a : BitVec 6) (f : BitVec 6)
  /-- TSCLR (R230). Reset a slot's census to 63 and satc to 0. -/
  | tsclr (g : BitVec 4) (n : BitVec 6)
  /-- SRD (R230). Read a system register. -/
  | srd (g : BitVec 4) (d : BitVec 6) (r : BitVec 12)
  /-- SWR (R230). Write a system register under its access class. -/
  | swr (g : BitVec 4) (a : BitVec 6) (r : BitVec 12)
  /-- TRAP (R231). Raise the TRAP cause after the bundle completes. -/
  | trap (g : BitVec 4) (k : BitVec 12)
  /-- ERET (R232). Close the handler segment, clear th, restore Mirror state and resume at sys.epc. -/
  | eret (g : BitVec 4)
  /-- FEAT (R229). Read unit presence, plane image identifiers or core position. -/
  | feat (g : BitVec 4) (d : BitVec 6) (k : BitVec 6)
  /-- AADD (R212). Atomic add returning the old value. -/
  | aadd (g : BitVec 4) (z : BitVec 2) (d : BitVec 6) (a : BitVec 6) (b : BitVec 6)
  /-- AMIN (R212). Atomic signed minimum. -/
  | amin (g : BitVec 4) (z : BitVec 2) (d : BitVec 6) (a : BitVec 6) (b : BitVec 6)
  /-- AMAX (R212). Atomic signed maximum. -/
  | amax (g : BitVec 4) (z : BitVec 2) (d : BitVec 6) (a : BitVec 6) (b : BitVec 6)
  /-- AMINU (R212). Atomic unsigned minimum. -/
  | aminu (g : BitVec 4) (z : BitVec 2) (d : BitVec 6) (a : BitVec 6) (b : BitVec 6)
  /-- AMAXU (R212). Atomic unsigned maximum. -/
  | amaxu (g : BitVec 4) (z : BitVec 2) (d : BitVec 6) (a : BitVec 6) (b : BitVec 6)
  /-- AAND (R212). Atomic AND. -/
  | aand (g : BitVec 4) (z : BitVec 2) (d : BitVec 6) (a : BitVec 6) (b : BitVec 6)
  /-- AOR (R212). Atomic OR. -/
  | aor (g : BitVec 4) (z : BitVec 2) (d : BitVec 6) (a : BitVec 6) (b : BitVec 6)
  /-- AXOR (R212). Atomic XOR. -/
  | axor (g : BitVec 4) (z : BitVec 2) (d : BitVec 6) (a : BitVec 6) (b : BitVec 6)
  /-- ASWAP (R212). Atomic swap. -/
  | aswap (g : BitVec 4) (z : BitVec 2) (d : BitVec 6) (a : BitVec 6) (b : BitVec 6)
  /-- ACAS (R212). Atomic compare-and-swap against rd. -/
  | acas (g : BitVec 4) (z : BitVec 2) (d : BitVec 6) (a : BitVec 6) (b : BitVec 6)
  /-- AADDS (R212). Atomic signed saturating add. -/
  | aadds (g : BitVec 4) (z : BitVec 2) (d : BitVec 6) (a : BitVec 6) (b : BitVec 6)
  /-- REDADD (R215). Non-returning add reduction, retiring at issue. -/
  | redadd (g : BitVec 4) (z : BitVec 2) (a : BitVec 6) (b : BitVec 6)
  /-- REDMIN (R215). Non-returning signed minimum reduction. -/
  | redmin (g : BitVec 4) (z : BitVec 2) (a : BitVec 6) (b : BitVec 6)
  /-- REDMAX (R215). Non-returning signed maximum reduction. -/
  | redmax (g : BitVec 4) (z : BitVec 2) (a : BitVec 6) (b : BitVec 6)
  /-- REDADDS (R215). Non-returning saturating add reduction. -/
  | redadds (g : BitVec 4) (z : BitVec 2) (a : BitVec 6) (b : BitVec 6)
  /-- REDOR (R215). Non-returning OR reduction. -/
  | redor (g : BitVec 4) (z : BitVec 2) (a : BitVec 6) (b : BitVec 6)
  /-- LOAD_LAND (R59). A scoreboarded far load's data arrives, lands in its destination and releases stalled bundles.Data: R59: the far result at place k of core c lands. -/
  | loadLand (c : Nat) (k : Nat) (r : EccResult)
  /-- RETURN_QUEUE_LAND (R92). A VTORQ or MSTAT value lands in its reserved return-queue entry, ending any RQPOP wait on it.Data: R92: return-queue entry k of core c lands. -/
  | returnQueueLand (c : Nat) (k : Nat)
  /-- MATRIX_COMMAND_ACCEPT (R283). A matrix engine takes the command at the head of its queue and starts its sequencer.-/
  | matrixCommandAccept (c : Nat) (e : Bool)
  /-- MICRO_END (R162). Micro-word END: the call completes after the running step and writes.-/
  | microEnd (c : Nat) (e : Bool)
  /-- MICRO_NOP (R162). Micro-word NOP, with E the entry check of R161.-/
  | microNop (c : Nat) (e : Bool)
  /-- MICRO_SETM (R162). Micro-word SETM loads a counter from a field of a parameter register.-/
  | microSetm (c : Nat) (e : Bool)
  /-- MICRO_SETI (R162). Micro-word SETI loads a counter with an immediate.-/
  | microSeti (c : Nat) (e : Bool)
  /-- MICRO_ADDI (R162). Micro-word ADDI adds an immediate to a counter.-/
  | microAddi (c : Nat) (e : Bool)
  /-- MICRO_BNZ (R162). Micro-word BNZ decrements a counter and branches if non-zero.-/
  | microBnz (c : Nat) (e : Bool)
  /-- MICRO_JMP (R162). Micro-word JMP branches unconditionally.-/
  | microJmp (c : Nat) (e : Bool)
  /-- MICRO_LDA (R162). Micro-word LDA starts loading an A chunk into a staging half.-/
  | microLda (c : Nat) (e : Bool)
  /-- MICRO_LDB (R162). Micro-word LDB starts loading a B chunk into a staging half.-/
  | microLdb (c : Nat) (e : Bool)
  /-- MICRO_MAC (R162). Micro-word MAC waits for its chunk's loads and starts a chunk step of R109.-/
  | microMac (c : Nat) (e : Bool)
  /-- MICRO_ZERO (R162). Micro-word ZERO zeroes the C region, conditionally on zf with Z.-/
  | microZero (c : Nat) (e : Bool)
  /-- MICRO_SCAT (R162). Micro-word SCAT adds accumulator rows saturating into scattered memory rows.-/
  | microScat (c : Nat) (e : Bool)
  /-- MICRO_ADDV (R162). Micro-word ADDV adds a bias vector into the C region saturating.-/
  | microAddv (c : Nat) (e : Bool)
  /-- MICRO_CHK (R162). Micro-word CHK sets a counter to ceil(K / 64).-/
  | microChk (c : Nat) (e : Bool)
  /-- MICRO_RESERVED (R162). A reserved or malformed micro-word ends the call FORMAT.-/
  | microReserved (c : Nat) (e : Bool)
  /-- STAGING_LOAD_COMPLETE (R284). An A or B pipe load of a chunk finishes landing in its staging half.Data: R284: a load of pipe A (false) or B (true) has landed in its staging half. -/
  | stagingLoadComplete (c : Nat) (e : Bool) (p : Bool)
  /-- MAC_STEP_COMPLETE (R283). A MAC step finishes its run time and its chunk sums are applied.-/
  | macStepComplete (c : Nat) (e : Bool)
  /-- MATRIX_COMMAND_COMPLETE (R159). A matrix command completes, writing its completion word, tag and counts.-/
  | matrixCommandComplete (c : Nat) (e : Bool)
  /-- COPY_COMMAND_START (R279). A copy command whose hazard edges have cleared makes its first access.-/
  | copyCommandStart (c : Nat) (e : Bool)
  /-- PERMIT_GRANT (R281). A parked permit request is granted at the counter's home as the count rises.-/
  | permitGrant (c : Nat) (e : Bool)
  /-- COPY_GRANULE_WRITE (R280). A copy engine writes one granule at its destination bank.-/
  | copyGranuleWrite (c : Nat) (e : Bool)
  /-- COPY_COMMAND_COMPLETE (R185). A copy command completes with a status, writing its completion word, tag and counts.Data: R185: the in-flight command at place k completes. -/
  | copyCommandComplete (c : Nat) (e : Bool) (k : Nat)
  /-- COLLECTIVE_START (R288). A collective engine takes a queued COLL and reads its handle.Data: R288: collective engine n starts its next collective. -/
  | collectiveStart (n : Nat)
  /-- READY_BIT_SET (R288). A CSIG's OR lands at the handle's home and the engine rereads the ready bits.Data: R198, R288: the CSIG at the head of copy engine e of core c lands. -/
  | readyBitSet (c : Nat) (e : Bool)
  /-- COLLECTIVE_COMPLETE (R339). A collective completes at a member once its final chunks are written and its CHUNKs acknowledged.-/
  | collectiveComplete (n : Nat)
  /-- NXTREQ_ANSWER (R93). The coordinates of a next-tile request arrive in xd.-/
  | nxtreqAnswer (c : Nat)
  /-- RED_TRANSLATE (R215). A retired RED is translated at the network interface and sent, parked or dropped.-/
  | redTranslate (c : Nat)
  /-- PAGE_WALK_COMPLETE (R296). A page-table walk ends with a translation, a miss, PROTECTION or POISON.Data: R296: the walk at place k of the walks under way ends. -/
  | pageWalkComplete (k : Nat)
  /-- FAULT_RECORD_WRITE (R305). A fault record is written into the fault queue when space allows, advancing head.Data: R305: the oldest waiting record of context a. -/
  | faultRecordWrite (a : Nat)
  /-- VERDICT_RETRY (R301). A retry verdict frees the pending entry, resumes waiters and replays parked REDs.Data: R301: verdict for context a, page p. -/
  | verdictRetry (a : Nat) (p : Nat)
  /-- VERDICT_TRANSLATION (R301). A TRANSLATION verdict ends waiting commands and traps waiting tasks with TRANSLATION.-/
  | verdictTranslation (a : Nat) (p : Nat)
  /-- VERDICT_PROTECTION (R301). A PROTECTION verdict ends waiting commands and traps waiting tasks with PROTECTION.-/
  | verdictProtection (a : Nat) (p : Nat)
  /-- VERDICT_DROP (R301). A drop verdict stops waiting tasks, ends commands TRANSLATION and drops parked REDs.-/
  | verdictDrop (a : Nat) (p : Nat)
  /-- SELECT (R263). At a drain point the scheduler selects, reserves, splits or idles for a core.Data: R263: selection for core c. -/
  | select (c : Nat)
  /-- IMAGE_LOAD_START (R265). After a quantum with no core holding its image, the scheduler loads it into a shadow plane.Data: R265: for the READY task of context a with record t. -/
  | imageLoadStart (a : Nat) (t : Nat)
  /-- PLANE_LOAD_COMPLETE (R287). A shadow-plane load finishes with OK, FORMAT, POISON or CANCELLED.-/
  | planeLoadComplete (c : Nat)
  /-- TIME_SLICE_EXPIRY (R270). A slice ends and either sets a preemption request with grace or restarts.-/
  | timeSliceExpiry (c : Nat)
  /-- GRACE_EXPIRY (R270). The grace count reaches zero and the save is forced before the next bundle.-/
  | graceExpiry (c : Nat)
  /-- SAVE_COMPLETE (R311). The save header with valid is written and the task becomes SAVED.-/
  | saveComplete (c : Nat)
  /-- ECLIPSE_RECLAIM (R226). An eclipsed running future ends at its next reclamation point.-/
  | eclipseReclaim (c : Nat)
  /-- TASK_FINISH (R309). Once its commands and REDs drain, the ended task's record is finalised, notify decremented and done counted.-/
  | taskFinish (a : Nat) (t : Nat)
  /-- DIMMER_UPDATE (R349). Every 10 µs the power controller sets each cluster's dimmer level.Data: R349: module power p in units of 0.5 W, the clusters' Tj in units of 0.25 degrees. -/
  | dimmerUpdate (p : Nat) (t : List Nat)
  /-- GOVERNOR_WINDOW_END (R347). At each 100 ms window end the governor raises the safe step of clean domains.-/
  | governorWindowEnd
  /-- SCRUB (R346). A periodic scrub reads and corrects ECC words of an array.Data: R346: array x, word address a, what the read finds. -/
  | scrub (x : ScrubArray) (a : Nat) (r : EccResult)
  /-- FREEZE_SIGNAL (R354). A die receiving the freeze signal writes PROPAGATE and runs its post-window.Data: R354: die d receives the signal of die o with trigger seq q. -/
  | freezeSignal (d : Nat) (o : Nat) (q : Nat)
  /-- HOLDBACK_END (R239). The bank hold-back of 180 ns expires and queued requests proceed.-/
  | holdbackEnd (r : Nat)
  /-- REGULAR_REFRESH (R239). Regular refresh of a row every 32 ms resets its activation count.-/
  | regularRefresh (r : Nat)
  /-- WRITE_PACKET (R325). A WRITE packet is delivered in flow order, held or discarded as duplicate.Data: R325: packet p arrives on port n. -/
  | writePacket (n : Nat) (p : Packet)
  /-- READ_PACKET (R325). A READ packet is delivered in flow order and answered with RDATA.-/
  | readPacket (n : Nat) (p : Packet)
  /-- RDATA_PACKET (R325). Read data returns to its requester.-/
  | rdataPacket (n : Nat) (p : Packet)
  /-- ATOMIC_PACKET (R326). An ATOMIC executes once, caching its result, and duplicates are answered from the cache.-/
  | atomicPacket (n : Nat) (p : Packet)
  /-- ARESULT_PACKET (R326). An ARESULT returns an atomic's old value and acknowledges it.-/
  | aresultPacket (n : Nat) (p : Packet)
  /-- RED_PACKET (R325). A RED packet is performed once in flow order.-/
  | redPacket (n : Nat) (p : Packet)
  /-- CHUNK_PACKET (R332). A collective chunk arrives and is reduced, forwarded, written or held pending.-/
  | chunkPacket (n : Nat) (p : Packet)
  /-- ACK_PACKET (R325). An ACK frees retry descriptors and may complete a remote copy.-/
  | ackPacket (n : Nat) (p : Packet)
  /-- BEACON_PACKET (R329). A beacon arriving clears a port's neighbour suspicion.-/
  | beaconPacket (n : Nat) (p : Packet)
  /-- PROBE_PACKET (R329). A probe is answered, clearing suspicion at the prober.-/
  | probePacket (n : Nat) (p : Packet)
  /-- PACKET_FORWARD (R323). An intermediate hop checks a packet and forwards it on its route.-/
  | packetForward (n : Nat) (p : Packet)
  /-- PACKET_AGE_DISCARD (R323). A packet waiting over 100 µs in a hop's queue is discarded.Data: R323: packet p has waited over 100 us in port n's queue. -/
  | packetAgeDiscard (n : Nat) (p : Packet)
  /-- ACK_SEND (R325). The destination sends an ACK within 1 µs of a delivery.Data: R325: the destination flow at place k sends an ACK. -/
  | ackSend (k : Nat)
  /-- RETX_TIMEOUT (R327). An unacknowledged descriptor times out, is retransmitted and may move its flow's route.Data: R327: the descriptor at place k times out. -/
  | retxTimeout (k : Nat)
  /-- PORT_DOWN (R328). A port failing training or declared failed goes down and affected packets are retransmitted.-/
  | portDown (n : Nat)
  /-- BEACON_SEND (R329). Every 1 µs a package sends a beacon on every up port.-/
  | beaconSend
  /-- BEACON_MISS (R329). Three missed beacons make the neighbour suspect and the port down.Data: R329: three beacons in a row are missed on port n. -/
  | beaconMiss (n : Nat)
  /-- PROBE_SEND (R329). Every 10 µs the membership controller probes a suspect package.-/
  | probeSend (q : Nat)
  /-- PEER_LOST_DECLARE (R329). 100 µs without an answer declares a package lost to the whole pod.-/
  | peerLostDeclare (q : Nat)
  /-- LOST_DECLARATION (R330). A package applies a loss declaration, ending traffic and collectives naming the peer.-/
  | lostDeclaration (q : Nat)
  /-- HOST_MEMORY_ACCESS (R356). A host access through the memory window is performed at the byte's home.Data: R356: write (x) or read of n bytes at physical address a, value v. -/
  | hostMemoryAccess (x : Bool) (a : Nat) (n : Nat) (v : Nat)
  /-- HOST_SCRATCHPAD_ACCESS (R356). A host 8- or 16-byte access reaches a core scratchpad.-/
  | hostScratchpadAccess (x : Bool) (a : Nat) (n : Nat) (v : Nat)
  /-- LAUNCH (R258). A launch word starts a root task as the matching spawn, or is refused and latched.Data: R258: launch word w at die d. -/
  | launch (d : Nat) (w : Word)
  /-- LAUNCH_DROP (R359). A record address written to the drop register acts as FDROP of the host's reference.-/
  | launchDrop (d : Nat) (w : Word)
  /-- CONTEXT_REGISTER (R358). A descriptor address written to ctxreg registers a context.-/
  | contextRegister (w : Word)
  /-- CONTEXT_DELETE (R358). An ASID written to ctxdel removes its context unless records are live.-/
  | contextDelete (w : Word)
  /-- HALT (R314). An ASID written to halt stops dispatch and saves every running task of the context.-/
  | halt (w : Word)
  /-- HALT_DRAIN_DONE (R314). When the context's work has drained, queue state and the halt list are written.-/
  | haltDrainDone
  /-- RESUME (R315). A halt-list address written to a resume register readies every listed record under a new ASID.-/
  | resume (d : Nat) (w : Word)
  /-- TLBINV_PAGE (R358). A tlbinv write for one page of an ASID starts an invalidation.-/
  | tlbinvPage (w : Word)
  /-- TLBINV_ASID (R358). A tlbinv write with the whole-ASID bit starts an invalidation of the ASID.-/
  | tlbinvAsid (w : Word)
  /-- TLBINV_DONE (R358). An invalidation completes when no TLB holds a match and earlier walks have ended.-/
  | tlbinvDone
  /-- PACKAGE_ADMIT (R330). A package identifier written to admit is admitted again and its flows reset.-/
  | packageAdmit (w : Word)
  /-- MODE_WRITE (R343). A write to the mode register changes the device modes, or is ignored if reserved.-/
  | modeWrite (w : Word)
  /-- THRESHOLD_WRITE (R348). A write of Tm and Tp takes effect at the next window end.-/
  | thresholdWrite (w : Word)
  /-- ROW_THRESHOLD_WRITE (R239). A write of the row-activation threshold is taken if in range and otherwise ignored.-/
  | rowThresholdWrite (w : Word)
  /-- AFTERGLOW_RUN (R353). Writing run while frozen returns a die's Afterglow to recording.-/
  | afterglowRun (d : Nat) (w : Word)
  /-- KEY_LOAD (R362). A keycmd write unwraps a key into a key slot.-/
  | keyLoad (w : Word)
  /-- ATTEST (R363). A buffer address written to attest starts an attestation report.-/
  | attest (w : Word)
  /-- ATTEST_DONE (R363). The security processor writes the signed report and sets done.-/
  | attestDone
  /-- BOOT_GO (R360). The firmware length written to bootgo starts verification and the rest of start-up.-/
  | bootGo (w : Word)
  /-- MGMT_WRITE (R358). A write to a management register without behaviour of its own, or an ignored and counted write.Data: R358: management offset o. -/
  | mgmtWrite (o : Nat) (w : Word)
  /-- COLD_RESET (R360). A cold reset runs the start-up sequence from the ROM and clears Afterglow and the timestamp.-/
  | coldReset
  /-- WARM_RESET (R360). A warm reset replaces keys, retrains, reverifies the boot store and keeps Afterglow.-/
  | warmReset
  /-- SUPPLY_LOSS (R354). Loss of supply empties Afterglow and clears its seq and lost.-/
  | supplyLoss
  /-- L1_EVICTION (R240). The L1 data cache evicts a line at a moment of its own choosing and writes back that line's dirty bytes to their homes.Data: R240: the line at place k of core c's L1. -/
  | l1Eviction (c : Nat) (k : Nat)
  deriving DecidableEq, Repr

end Sys2Proof
end

