-- ==== Sys2Proof/Machine/State.lean ====
section
/-! DEFINITION. The state of a Keamas package: plain data, everything the manual gives the machine, and the state right after reset. -/

namespace Sys2Proof.Machine

/-- Why the machine stops. -/
inductive Fault where
  /-- R350: after a thermal trip every core clock of the package has stopped; no core issues until a warm or cold reset. Raised by the step of a core and by the meanings' step wrapper; safe: nothing runs on. -/
  | coreClocksStopped
  deriving DecidableEq, Repr

/-- Why the model gives a step no meaning. -/
inductive Refusal where
  /-- No meaning is written for this instruction. Raised by exec's arms; safe. -/
  | notModelled (mnemonic : String)
  /-- The event at the head of the agenda cannot occur in this state (it names a command, a packet or a place that is not there, or its conditions do not hold). Raised by the events' meanings; safe: an event that cannot occur has no effect to model [log 19]. -/
  | eventNotEnabled (mnemonic : String)
  /-- The operation acts on an object whose home is another package, and R323 has no packet that carries it (task records and futures). Raised by the task instructions; safe [log 20]. -/
  | remoteHome (mnemonic : String)
  /-- The agenda names something other than an event of the operation table, or a core that does not exist. Raised by step; safe [log 5]. -/
  | badAgenda
  deriving DecidableEq, Repr

/-- Cause codes of R302. -/
inductive Cause where
  | none | illegalInstruction | illegalSlot | illegalBundle | badTarget | misaligned | translation | protection | poison
  | mirror | operandFormat | illegalOperand | featureAbsent | saturation | scope | quota | eclipsedRef | preempt | trap
  deriving DecidableEq, Repr

/-- Engine status codes of R168. -/
inductive Status where
  | ok | translation | protection | poison | overlap | overrun | underrun | partially | cancelled | eclipsed | format
  | peerLost | quota | scope
  deriving DecidableEq, Repr

/-- What a fault registers (R20, R302): its cause and the place it names. -/
structure Exc where
  cause : Cause
  addr : VAddr := 0
  slot : BitVec 3 := 7
  opnd : BitVec 3 := 7
  elem : BitVec 16 := 0xFFFF
  /-- the access was a write (R303) -/
  wr : Bool := false
  /-- a kind-4 record with this status is due: a malformed or poisoned walk, or a lost package (R296, R304, R330) -/
  rec4 : Option Status := none
  /-- the units that a FEATURE_ABSENT word needs (R266) -/
  units : BitVec 6 := 0
  deriving DecidableEq, Repr

/-- A register file of 2^n registers. -/
abbrev File (n : Nat) (α : Type) := Vector α (2 ^ n)

/-- A task: its context and its record's address, and for a gang its member number (R216, R269). -/
structure TaskId where
  asid : Nat
  record : VAddr
  member : Nat
  deriving DecidableEq, Repr, Inhabited

/-- Loop registers, vector rotating base and loop-buffer valid bit (R11, R13). -/
structure LoopRegs where
  lc : Vector (BitVec 32) 3
  lb : Vector VAddr 3
  ln : Vector (BitVec 9) 3
  vrb : BitVec 4
  valid : Bool
  deriving DecidableEq, Repr, Inhabited

/-- A tensor scale slot (R14). -/
structure ScaleSlot where
  exp : BitVec 8
  census : BitVec 6
  satc : BitVec 32
  satth : BitVec 32
  cb : BitVec 128
  bsa : VAddr
  deriving DecidableEq, Repr, Inhabited

/-- The fault registers (R20). -/
structure FaultRegs where
  epc : VAddr
  fcause : BitVec 8
  faddr : VAddr
  fslot : BitVec 3
  fopnd : BitVec 3
  felem : BitVec 16
  fimg : BitVec 32
  deriving DecidableEq, Repr, Inhabited

/-- The task-owned system registers of R20, R21 and R23 that no other structure holds. -/
structure SysRegs where
  th : Bool
  faults : FaultRegs
  segstate : BitVec 32
  tslice : Word
  preq : BitVec 32
  /-- when the grace count of preq began: its bits 31:16 read what remains (R20, R270) -/
  graceAt : Word
  optp : BitVec 18
  vflags : BitVec 2
  srseed : Word
  dom : Vector (BitVec 48) 4
  ecl : Bool
  prio : BitVec 3
  eclass : BitVec 2
  deriving DecidableEq, Repr, Inhabited

/-- The Mirror unit's live state of the open segment (R22, R34, R88). -/
structure Segment where
  count : BitVec 12
  crc : BitVec 16
  isOpen : Bool
  unchk : Bool
  expCount : BitVec 12
  expSig : BitVec 16
  scw : VAddr
  deriving DecidableEq, Repr, Inhabited

/-- The expected values kept beside sys.segstate while a handler runs (R22). -/
structure KeptSegment where
  expCount : BitVec 12
  expSig : BitVec 16
  scw : VAddr
  deriving DecidableEq, Repr, Inhabited

/-- A return-queue reservation (R92): `value` is none until an MSTAT's engine fills it, `due` is the cycle from which a VTORQ value has landed (0 once it has), `tag` names the MSTAT command that fills it, `bad` that its word is poisoned (R307, R345). -/
structure RqEntry where
  value : Option Word
  due : Nat
  tag : Nat
  bad : Bool := false
  deriving DecidableEq, Repr

/-- Completion bitmaps, held tags and the return queue (R18, R92, R184). -/
structure Completion where
  ctb : Word
  cte : Word
  held : Word
  rq : List RqEntry
  deriving DecidableEq, Repr, Inhabited

/-- A half-open interval of virtual addresses (R189, R278). -/
structure Interval where
  lo : Int
  hi : Int
  deriving DecidableEq, Repr

/-- An entry of the hazard unit (R278): the command's issue order, and its footprints as its addresses give them; the unit compares them as the core it is on names them (R279). -/
structure Hazard where
  seq : Nat
  /-- 0 ME0 (and pair calls), 1 ME1, 2 CE0, 3 CE1 -/
  eng : Nat
  reads : List Interval
  writes : List Interval
  /-- the half of a pair call that has ended, true for ME1's, and its status (R166) -/
  half : Option (Bool × Status)
  deriving DecidableEq, Repr

/-- The commands that class 0x8 queues (R153). -/
inductive MatKind where
  | mcall | mcallg
  | mspec (zero : Bool)
  | mcommit | mdiscard
  | mzero (all : Bool)
  | maccld | maccst
  | mstat (sel : BitVec 2)
  deriving DecidableEq, Repr

/-- A queued matrix command with its snapshot (R154). -/
structure MatCmd where
  seq : Nat
  kind : MatKind
  a : Word
  b : Word
  mp : File 3 Word
  mfmt : BitVec 8
  srctr : Word
  /-- gang member index applied to Y words (R166) -/
  member : Nat
  /-- the dom0.size at issue, for the Y words' stored shape (R160) -/
  gsize : Nat
  /-- one half of a pair call; the half on ME1 adds N to its columns (R166) -/
  pair : Bool
  bundle : VAddr
  image : BitVec 32
  deriving DecidableEq, Repr

/-- An accumulator bank: 128 x 320 INT32 by row x 320 + column, unlisted elements 0 (R16). -/
structure AccBank where
  cells : List (Nat × BitVec 32)
  dirty : Bool
  /-- ECC words (pairs of elements) that are poisoned (R307, R345). -/
  poison : List Nat
  deriving DecidableEq, Repr, Inhabited

/-- A 64-byte line of another package that an engine has asked for, and its bytes once they are there (R324). -/
structure Fetched where
  pkg : Nat
  pa : Nat
  /-- the sequence number of the READ -/
  seq : BitVec 32
  data : Option (List Byte)
  /-- the 8-byte words that came poisoned (R307) -/
  bad : List Nat
  deriving DecidableEq, Repr

/-- A chunk in a staging half: elements and block exponents, row after row (R97, R162). -/
structure Chunk where
  elems : List (List Int)
  exps : List (List Nat)
  deriving DecidableEq, Repr

/-- A staging half of an engine's A or B pipe (R162, R284): `word` is the load's micro-word; the rows already there are kept. -/
inductive Staging where
  | empty
  /-- `before`: the chunks that the half received since the last MAC that read it, and that this load replaces -/
  | loading (chunk : BitVec 32) (word : BitVec 64) (rows : Chunk) (before : List (BitVec 32))
  | landed (chunk : BitVec 32) (word : BitVec 64) (rows : Chunk) (before : List (BitVec 32))
  deriving DecidableEq, Repr

/-- A running MAC step (R109, R283): its half, whether its word is interruptible, and its chunks of A and B. -/
structure MacStep where
  half : Bool
  pausable : Bool
  a : Chunk
  b : Chunk
  /-- a half was loaded again before the MAC: the manual does not say what its step adds [log 3] -/
  replaced : Bool
  deriving DecidableEq, Repr

/-- Where a sequencer stands (R285). -/
structure SeqPoint where
  pos : Nat
  mq : Vector (BitVec 32) 4
  a0 : Staging
  a1 : Staging
  b0 : Staging
  b1 : Staging
  deriving DecidableEq, Repr

/-- Where a command's access missed, for its fault records (R170, R193, R303). -/
structure MissAt where
  va : VAddr
  slot : Nat
  opnd : Nat
  elem : Nat
  wr : Bool
  /-- the pending-page table had no room for the page: the access is tried again (R299) -/
  full : Bool
  deriving DecidableEq, Repr

/-- A running matrix command (R162, R283, R285). -/
structure MatRun where
  cmd : MatCmd
  /-- next micro-word (calls), counters and staging halves -/
  pt : SeqPoint
  /-- rows done: of a transfer, or of the SCAT or ADDV under way -/
  row : Nat
  /-- the MAC step that runs now -/
  step : Option MacStep
  /-- the checkpoint of the last interruptible word that started (R285) -/
  check : Option SeqPoint
  /-- codebooks and block-scale addresses of A and B, read at the start (R96) -/
  cbA : BitVec 128
  cbB : BitVec 128
  bsA : VAddr
  bsB : VAddr
  fetched : List Fetched
  /-- END has executed, or the command failed: what remains is completion -/
  ended : Option Status
  /-- saturations counted and census values, per scale slot, applied at completion (R15) -/
  sats : List (BitVec 6 × Nat)
  census : List (BitVec 6 × Nat)
  /-- the miss that holds it up (R170) -/
  missing : Option MissAt
  /-- paused after an interruptible word for a save (R171) -/
  paused : Bool
  deriving DecidableEq, Repr

/-- A matrix engine (R16, R154 to R158, R170). -/
structure MatEngine where
  mp : File 3 Word
  mfmt : BitVec 8
  mrp : BitVec 64
  lit : AccBank
  shadow : AccBank
  /-- the speculation flag, in engine order (R165) -/
  spec : Bool
  /-- the speculation as tracked at issue (R155) -/
  specIssue : Bool
  queue : List MatCmd
  run : Option MatRun
  firstBad : BitVec 8
  firstOp : BitVec 6
  bad : BitVec 16
  completed : BitVec 32
  lastStatus : BitVec 8
  lastOp : BitVec 6
  /-- no command has been queued since the last MDRAIN ended, or since the task's start (R156) [log 45] -/
  drained : Bool
  /-- an MDRAIN has ended, and no command has been queued since (R163) -/
  mdrained : Bool
  deriving DecidableEq, Repr, Inhabited

/-- The commands that class 0x9 queues (R173). -/
inductive CopyKind where
  | cpy | cpym
  | cpyx (scatter : Bool)
  | cpyw | coll | csig
  deriving DecidableEq, Repr

/-- A queued copy or collective command with its snapshot (R174). -/
structure CopyCmd where
  seq : Nat
  kind : CopyKind
  /-- xc (copies, COLL) or xk (CSIG) -/
  ctl : Word
  /-- xo, or the table xt of CPYX, or the handle xh -/
  opr : Word
  addS : Bool
  addD : Bool
  geo : File 4 Word
  srctr : Word
  /-- the issuing slot, 4 C0 or 5 C1 -/
  slot : Nat
  bundle : VAddr
  image : BitVec 32
  deriving DecidableEq, Repr

/-- Progress of a started copy (R181, R185, R187, R280). -/
structure CopyRun where
  cmd : CopyCmd
  /-- elements, or for row transforms destination bytes, already written -/
  pos : Nat
  /-- units of skipped CPYX rows among them (R186) -/
  skipped : Nat
  /-- a permit is held for the tile under way (R281) -/
  permit : Bool
  /-- the request for a permit that is on its way to another package: the package and the ATOMIC's number [log 20] -/
  asked : Option (Nat × BitVec 32)
  /-- the sequence number and slot address of the queue entry under way (R187) -/
  entry : Option (Nat × Nat)
  /-- the entry's bytes and header are sent: its push is performed once they and the stores released with it are (R187, R242) -/
  headed : Bool
  sats : Nat
  census : Nat
  overrun : Bool
  /-- the source of a memmove, read whole before any write (R191) -/
  held : Option (List Byte)
  missing : Option MissAt
  fetched : List Fetched
  deriving DecidableEq, Repr

/-- A command whose last access is made and that has not completed (R174): its status, and the packets a remote copy waits on (R325). -/
structure CopyFlight where
  run : CopyRun
  status : Status
  deriving DecidableEq, Repr

/-- A copy engine (R17, R174). -/
structure CopyEngine where
  geo : File 4 Word
  queue : List CopyCmd
  run : Option CopyRun
  flight : List CopyFlight
  deriving DecidableEq, Repr, Inhabited

/-- A queue token held by a task (R210). -/
structure Token where
  queue : VAddr
  cursor : Nat
  seq : Nat
  deriving DecidableEq, Repr

/-- Where and what a far result lands (R59): vectors by physical register, with the bytes written. -/
inductive FarVal where
  | x (d : BitVec 6) (v : Word)
  | pair (d : BitVec 6) (v : BitVec 128)
  | vec (phys : BitVec 5) (v : VecReg) (mask : Pred)
  | pred (d : BitVec 4) (v : Pred) (mask : Pred)
  /-- an FGET: the pair and the predicate; of a future that is not DONE, its state alone (R274) -/
  | fget (d : BitVec 6) (v : BitVec 128) (p : BitVec 4) (done : Bool)
  deriving DecidableEq, Repr

/-- Bytes of a far load that are on their way from another package (R59, R240): the READ that brings their line, where in the line they lie, those of them that the core had stored itself, and the places of the result that they fill. -/
structure FarPart where
  pkg : Nat
  /-- the sequence number of the READ -/
  seq : BitVec 32
  off : Nat
  bytes : List (Option Byte)
  places : List Nat
  /-- the access, for what it may raise -/
  exc : Exc
  /-- the bytes cannot come, and why (R130) -/
  fail : Option Exc := none
  deriving DecidableEq, Repr

/-- What a bundle may have changed besides memory, engines and objects: the registers as they stood before it, so that a fault found when a far result comes back nullifies it (R31, R74) [log 31]. -/
structure Undo where
  pc : VAddr
  x : File 6 Word
  v : File 5 VecReg
  p : File 4 Pred
  ts : File 6 ScaleSlot
  vflags : BitVec 2
  loop : LoopRegs
  seg : Segment
  landX : File 6 Nat
  landV : File 5 Nat
  landP : File 4 Nat
  satPend : List (BitVec 3 × BitVec 6)
  regPoison : List Nat
  srctr : Word
  deriving DecidableEq, Repr

/-- A far result on its way (R59). -/
structure FarOp where
  val : FarVal
  /-- what it still waits for -/
  parts : List FarPart
  /-- the access it comes from, for an error found when it comes back (R345) -/
  exc : Exc
  /-- the bits from which the value is sign-extended when it lands (R71, R212); 0 for none -/
  ext : Nat
  /-- where its bundle stood (R31) -/
  undo : Undo
  /-- a bundle has issued since, or was its own, whose effects go beyond the registers [log 31] -/
  firm : Bool
  deriving DecidableEq, Repr

/-- A next-tile request whose answer is on its way (R93). -/
structure NxtReq where
  d : BitVec 6
  /-- the queue's handle, or the range task's record -/
  q : Word
  range : Bool
  due : Nat
  deriving DecidableEq, Repr

/-- A reduction that has retired and is not yet translated, or that is parked (R215, R308). -/
structure Red where
  task : TaskId
  op : Nat
  size : Nat
  va : VAddr
  operand : BitVec 64
  core : Nat
  bundle : VAddr
  image : BitVec 32
  /-- its sequence number in the deferred-reduction store, once parked (R308) -/
  seq : BitVec 32 := 0
  /-- a retry verdict has come, and its flow had no room: it stays in the store, to be sent next (R308, R324) -/
  go : Bool := false
  deriving DecidableEq, Repr

/-- Latency and scoreboard state of the core's results (R58, R59). -/
structure Scoreboard where
  /-- issue cycles: bundles and their W, not stalls -/
  cyc : Nat
  landX : File 6 Nat
  landV : File 5 Nat
  landP : File 4 Nat
  far : List FarOp
  nxt : List NxtReq
  deriving DecidableEq, Repr, Inhabited

/-- Everything a task owns (R7). -/
structure TaskState where
  id : TaskId
  x : File 6 Word
  v : File 5 VecReg
  p : File 4 Pred
  pc : VAddr
  loop : LoopRegs
  ts : File 6 ScaleSlot
  me0 : MatEngine
  me1 : MatEngine
  ce0 : CopyEngine
  ce1 : CopyEngine
  niarb : Word
  comp : Completion
  sys : SysRegs
  seg : Segment
  kept : KeptSegment
  streams : File 2 (List Byte)
  tokens : List Token
  refs : List VAddr
  spbase : BitVec 20
  splen : BitVec 21
  haz : List Hazard
  sb : Scoreboard
  /-- the issue order given to the next engine command (R190) -/
  nextSeq : Nat
  /-- scale slots that received counts the trap test has not yet seen, with the slot that counted (R105, R106) -/
  satPend : List (BitVec 3 × BitVec 6)
  /-- poisoned words of the register files: 32 × physical vector register + word, 1,024 + scalar register, 1,088 + 4 × predicate + word (R146, R307) -/
  regPoison : List Nat
  /-- poisoned 8-byte words of the stream buffers, by the first byte's place from the front, a word whose first bytes have been popped by 0 (R307, R345) -/
  streamPoison : File 2 (List Nat)
  deriving DecidableEq, Repr, Inhabited

/-- What a plane holds (R229). -/
inductive PlaneState where
  | empty | loading | loaded
  deriving DecidableEq, Repr

/-- A configuration plane (R7, R286, R364): code words by index, unlisted 0; micro-words by index, unlisted 0. -/
structure Plane where
  code : List (Nat × Code)
  base : VAddr
  clen : Nat
  micro : List (Nat × BitVec 64)
  fmt0 : BitVec 8
  fmt1 : BitVec 8
  image : BitVec 32
  state : PlaneState
  poison : List Nat
  deriving DecidableEq, Repr

/-- A plane load under way (R227, R265, R287). -/
structure PlaneLoad where
  image : BitVec 32
  /-- the task whose tag it completes; none for a load the scheduler started -/
  tag : Option (TaskId × BitVec 6)
  asid : Nat
  deriving DecidableEq, Repr

/-- A line of the L1 data cache (R240): a physical line of this package or another; which bytes it holds, which are dirty, which came poisoned. -/
structure L1Line where
  pkg : Option Nat
  line : Nat
  key : Nat
  data : BitVec 512
  present : BitVec 64
  dirty : BitVec 64
  poison : BitVec 64
  /-- the virtual line it was reached by, for the regions of R202 -/
  va : Nat
  deriving DecidableEq, Repr

/-- A mailbox (R211). -/
structure Mailbox where
  owner : Option TaskId
  entries : List (BitVec 128)
  /-- places of the entries that hold a poisoned word (R307, R345) -/
  bad : List Nat := []
  deriving DecidableEq, Repr

/-- What a core is doing (R259, R311). -/
inductive CoreMode where
  | idle
  | running
  /-- its task is eclipsed and issues nothing more; its engine commands are ending (R225) -/
  | eclipsing
  /-- a save is under way, for this reason; the fault met is kept for a verdict, and a verdict that came first: the page may be tried again, or a trap is due (R301) -/
  | saving (reason : Cause) (fault : Option Exc) (verdict : Option (Option Exc))
  deriving DecidableEq, Repr

/-- Mirror modes (R21, R343). -/
inductive MirrorMode where
  | strict | full | sampled
  deriving DecidableEq, Repr

/-- Power modes (R21, R343). -/
inductive PowerMode where
  | peak | rated | efficient
  deriving DecidableEq, Repr

/-- The operand values a bundle reads (R58): as its registers stood before it. -/
structure Operands where
  x : File 6 Word
  v : File 5 VecReg
  p : File 4 Pred
  ts : File 6 ScaleSlot
  sys : SysRegs
  vrb : BitVec 4
  niarb : Word
  fparb : Word
  deriving DecidableEq, Repr

/-- Where control goes after a bundle (R77, R81, R84, R232). -/
inductive Redirect where
  | none
  /-- a taken branch, call or jump (R83 applies) -/
  | branch (target : VAddr)
  /-- a loop that starts -/
  | enter (target : VAddr)
  /-- a skipped body or a LEXIT: a loop end may follow at the target (R82) -/
  | skip (target : VAddr)
  | eret
  deriving DecidableEq, Repr

/-- The bundle in issue. -/
structure Bundle where
  header : VAddr
  /-- the word after its last slot word -/
  next : VAddr
  /-- the slot whose word executes now -/
  slot : Nat
  /-- the bytes of its words, for the signature (R34) -/
  words : List Code
  redirect : Redirect
  /-- saturations counted, by scale slot (R104) -/
  sats : List (BitVec 6 × Nat)
  /-- census values reported, by scale slot (R107) -/
  census : List (BitVec 6 × Nat)
  /-- the slots that counted, with the scale slot (R105) -/
  satSlots : List (BitVec 3 × BitVec 6)
  /-- slots of the bundle that consumed random bits (R102) -/
  random : Nat
  /-- the precise fault a slot raised (R31) -/
  exc : Option Exc
  /-- the bundle must wait before it issues (R88) -/
  held : Bool
  /-- the wait is a bounded one (R88, R226, R270) -/
  bounded : Bool
  /-- the same bundle was already waiting when it was last tried (R92) -/
  again : Bool
  /-- its last slot has completed it: accounting, program counter and traps are done (R31) -/
  complete : Bool
  /-- each of its slots has passed its waits and checks -/
  checked : Bool
  /-- some slot's effects go beyond the registers [log 31] -/
  firm : Bool
  /-- its other slots have executed: the one that ends the task waits for their stores to be performed (R220) -/
  tail : Bool
  deriving DecidableEq, Repr

/-- What a held bundle has asked another package for, and the answer once it is there (R74, R201, R215, R224, R324, R326). -/
structure Ask where
  pkg : Nat
  pa : Nat
  len : Nat
  seq : BitVec 32
  /-- an ATOMIC, answered by an ARESULT; else a READ -/
  atomic : Bool
  /-- the bundle that asked is still waiting -/
  live : Bool
  val : Option (List Byte)
  /-- the answer came poisoned (R307) -/
  bad : Bool
  deriving DecidableEq, Repr

/-- A line of another package on its way into the L1 (R240): the READ that brings it. -/
structure Fill where
  pkg : Nat
  line : Nat
  key : Nat
  seq : BitVec 32
  /-- the virtual line it was asked by -/
  va : Nat
  /-- no acquire, invalidation or task switch has come since: the L1 keeps the line -/
  keep : Bool
  /-- asked by PRF: a poisoned line is dropped (R74) -/
  pref : Bool
  deriving DecidableEq, Repr

/-- The loop buffer (R7, R85): code words copied from the lit plane, with the ECC words that were poisoned. -/
structure LoopBuf where
  base : VAddr
  words : List Code
  /-- poisoned words, by index -/
  poison : List Nat
  /-- it is filled: the iteration under way issues from it -/
  ready : Bool
  deriving DecidableEq, Repr

/-- A core (R7): its task's state and what it owns itself. -/
structure Core where
  t : TaskState
  mode : CoreMode
  lit : Plane
  shadow : Plane
  loading : Option PlaneLoad
  /-- the loop buffer (R7, R85) -/
  buf : LoopBuf
  l1 : List L1Line
  /-- lines of other packages on their way into the L1 -/
  fills : List Fill
  srctr : Word
  stallc : Word
  lodc : Word
  feat : BitVec 6
  mail : File 3 Mailbox
  /-- the Mirror mode that has taken effect here (R344) -/
  mirror : MirrorMode
  /-- the failover mode that has taken effect here, true for Careful (R21, R344) [log 63] -/
  failover : Bool
  /-- the task chosen early (R259) -/
  prefetch : Option TaskId
  /-- the gang this core is reserved for (R268) -/
  reserved : Option TaskId
  old : Operands
  /-- the registers before the bundle in issue -/
  undo : Undo
  bundle : Bundle
  /-- a trap whose entry waits for a next-tile answer (R60, R93) -/
  pendTrap : Option (Exc × VAddr)
  /-- what the held bundle has asked other packages for -/
  asks : List Ask
  /-- reductions at the network interface, retired and not yet translated (R215) -/
  reds : List Red
  /-- PSWAP: the planes change places when the save under way is complete (R228) -/
  swap : Bool
  deriving DecidableEq, Repr

/-- Physical memory (R235): cells by address, sorted, no entry equal to the unlisted 0 [log 2]; poisoned ECC words by first address; the key identity under which each 64-byte line was last written, unlisted 0; the identity now in force for ring memory and for each scratchpad [log 12]. -/
structure Mem where
  cells : List Host.Cell
  poison : List Nat
  lineKey : List (Nat × Nat)
  ringKey : Nat
  spKey : List (Nat × Nat)
  /-- the identity of the key in each of the 128 slots (R361), unlisted 0 -/
  slotKey : List (Nat × Nat)
  deriving DecidableEq, Repr

/-- A binding of a context's region table (R202). -/
structure Binding where
  asid : Nat
  index : Nat
  obj : Word
  base : Nat
  len : Nat
  scope : Nat
  deriving DecidableEq, Repr

/-- An entry of a live queue (R210). -/
structure QEntry where
  seq : Nat
  /-- virtual address of its slot -/
  slot : Nat
  /-- the spill page it lies in -/
  page : Option Nat
  /-- the push has been performed -/
  pushed : Bool
  /-- cursors that have returned its token -/
  returned : List Nat
  deriving DecidableEq, Repr

/-- The hardware state of a live queue (R209). -/
structure Queue where
  asid : Nat
  block : VAddr
  base : Nat
  lgent : Nat
  slot : Nat
  scope : Nat
  ncons : Nat
  /-- the creator's core, and its domain identifier at the creation scope -/
  core : Nat
  domain : Nat
  next : Nat
  cursors : List Nat
  entries : List QEntry
  deriving DecidableEq, Repr

/-- A spill page in use (R210). -/
structure SpillPage where
  asid : Nat
  page : Nat
  queue : VAddr
  used : Nat
  deriving DecidableEq, Repr

/-- An arrival at a domain barrier whose tag waits (R208). -/
structure Arrival where
  member : Nat
  gen : Nat
  task : TaskId
  tag : BitVec 6
  deriving DecidableEq, Repr

/-- A domain barrier of a context (R208). -/
structure DomBarrier where
  asid : Nat
  level : Nat
  /-- which domain of that level: gang, die, package, pod -/
  domain : Nat
  /-- members of the domain -/
  size : Nat
  /-- arrivals made, by member -/
  counts : List (Nat × Nat)
  waiting : List Arrival
  /-- members that have left a gang's domain -/
  gone : List Nat
  deriving DecidableEq, Repr

/-- A registered context (R257, R358). -/
structure Context where
  asid : Nat
  desc : Nat
  halted : Bool
  /-- it has been resumed here with records of another package, whose queues continue from their blocks (R315) -/
  moved : Bool
  deriving DecidableEq, Repr

/-- How a task ended (R309). -/
inductive EndKind where
  | done | eclipsed | stopped
  deriving DecidableEq, Repr

/-- What the scheduler keeps of a record that has been spawned, launched or split (R259, R266, R309). -/
structure SchedRec where
  task : TaskId
  die : Nat
  /-- ready time -/
  rt : Nat
  ready : Bool
  /-- the core a mailbox released it to (R211) -/
  pin : Option Nat
  /-- the launch port of a root task (R359) -/
  port : Option Nat
  /-- REDs of the task not yet performed or dropped (R309) -/
  reds : Nat
  /-- the task has ended this way and waits for its REDs and commands -/
  finish : Option EndKind
  /-- members of a gang that still run -/
  live : List Nat
  /-- references of a task that TCONT left without a core (R217) -/
  refs : List VAddr
  /-- since when no allowed core of its die has held or loaded the image it needs, while it is READY (R265) -/
  lackAt : Option Nat
  deriving DecidableEq, Repr

/-- A saved task (R310): what the save area's sections hold of it, the reason, and the fault a verdict may deliver (R301) [log 16]. -/
structure Saved where
  task : TaskId
  t : TaskState
  mail : List (Nat × List (BitVec 128))
  /-- the places of poisoned entries in them (R307) -/
  badMail : List (Nat × List Nat) := []
  reason : Cause
  fault : Option Exc
  /-- the verdict turned the miss into this trap (R301) -/
  deliver : Option Exc
  /-- a page the task waits on (R299) -/
  waits : Option Nat
  /-- the bytes of its declared scratchpad extent (R310) [log 16] -/
  pad : List Byte
  /-- its poisoned 8-byte words, by number (R307) -/
  badPad : List Nat := []
  /-- the core that saved it, and the time in its header (R310) -/
  core : Nat
  time : Nat
  /-- counts, census values and stage barriers of commands that have completed since, where the save area could not be written: the restore adds them (R311, R313) -/
  owedSats : List (BitVec 6 × Nat) := []
  owedCensus : List (BitVec 6 × Nat) := []
  owedBars : List Nat := []
  /-- its task has been stopped, or has ended: what is left of it are the engine commands that still run beside the core's next task (R231, R309) [log 51] -/
  ended : Bool := false
  deriving DecidableEq, Repr

/-- Whose permit request a counter's home has parked (R281). -/
inductive PermitFor where
  /-- a command of a task here -/
  | command (task : TaskId) (eng seq : Nat)
  /-- an ATOMIC of another package: its flow's engine, package and class, its number, and the fabric die it came by [log 20] -/
  | packet (eng src tc : Nat) (seq : BitVec 32) (die : Nat)
  deriving DecidableEq, Repr

/-- A permit request that a counter's home has parked (R281): whose it is, and the counter's physical address and key slot. -/
structure PermitReq where
  who : PermitFor
  pa : Nat
  key : Nat
  deriving DecidableEq, Repr

/-- The scheduler (R257 to R271) and what it shares with contexts. -/
structure Sched where
  contexts : List Context
  recs : List SchedRec
  saved : List Saved
  bindings : List Binding
  queues : List Queue
  spill : List SpillPage
  barriers : List DomBarrier
  /-- parked permit requests, oldest first (R281) -/
  permits : List PermitReq
  /-- the references that the host holds to futures it launched: context and record (R258, R359) -/
  hostRefs : List (Nat × VAddr)
  deriving DecidableEq, Repr

/-- A cached translation (R298): physical page, key slot, package, permissions. -/
structure Pte where
  pa : Nat
  key : Nat
  pkg : Option Nat
  r : Bool
  w : Bool
  x : Bool
  deriving DecidableEq, Repr

/-- A TLB entry of the package: the translation of a 64 KiB page of a context [log 11]. -/
structure TlbEntry where
  asid : Nat
  page : Nat
  pte : Pte
  deriving DecidableEq, Repr

/-- What remains of a command when its completion word is written: its counts, its stage barriers, its hazard entry and its tag (R15, R185, R282). -/
structure Closing where
  seq : Nat
  slot : Nat
  tag : Option (BitVec 6)
  /-- its status is OK -/
  ok : Bool
  sats : List (BitVec 6 × Nat)
  census : List (BitVec 6 × Nat)
  /-- core and offset of the barriers that count its completion -/
  bars : List (Nat × Nat)
  deriving DecidableEq, Repr

/-- A waiter on a pending page (R299, R301). -/
inductive Waiter where
  | task (t : TaskId)
  /-- a command of a task's engine: 0 ME0, 1 ME1, 2 CE0, 3 CE1 -/
  | engine (t : TaskId) (eng : Nat) (seq : Nat)
  | collective (n : Nat)
  | red (r : Red)
  /-- a completion word: its address and value, and what closes with it (R185) -/
  | word (t : TaskId) (addr : VAddr) (value : Word) (c : Closing) (bundle : VAddr) (image : BitVec 32)
  /-- a save or a restore of a task (R313) -/
  | save (t : TaskId)
  /-- a queue entry whose slot lies in another package (R210) -/
  | push (asid : Nat) (queue : VAddr) (seq : Nat)
  /-- a CSIG of a task that a collective engine holds (R174, R198) -/
  | signal (t : TaskId) (seq : Nat)
  deriving DecidableEq, Repr

/-- An entry of the pending-page table (R299). -/
structure PendingPage where
  asid : Nat
  page : Nat
  waiters : List Waiter
  deriving DecidableEq, Repr

/-- A fault record waiting to be written (R303, R304). -/
structure FaultRec where
  asid : Nat
  cause : Nat
  kind : Nat
  slot : Nat
  opnd : Nat
  elem : Nat
  core : Nat
  wr : Bool
  image : BitVec 32
  status : Nat
  bundle : VAddr
  va : VAddr
  pa : Option Nat
  task : VAddr
  deriving DecidableEq, Repr

/-- A page walk under way (R296): a prefetch of PRF, with its core. -/
structure Walk where
  asid : Nat
  va : VAddr
  core : Nat
  deriving DecidableEq, Repr

/-- An invalidation under way (R358): the ASID, the page or none for the whole ASID, and how many of the walks under way, the oldest, had started before it. -/
structure Inval where
  asid : Nat
  page : Option Nat
  older : Nat
  deriving DecidableEq, Repr

/-- Translation and fault reporting of the package (R295 to R308). -/
structure Xlat where
  tlb : List TlbEntry
  walks : List Walk
  pending : List PendingPage
  records : List FaultRec
  /-- the deferred-reduction store, in park order, and the number that the next one parked gets (R308) -/
  parked : List Red
  parkSeq : BitVec 32
  /-- completion words whose flow to another package is full (R185, R324) -/
  words : List Waiter
  /-- the invalidation under way (R358) -/
  inval : Option Inval
  deriving DecidableEq, Repr

/-- A retry descriptor (R327): the packet as it was sent; of a copy packet also where its walk stood, the units that it had skipped till then and the virtual address of its first byte, from which its payload is read again. -/
structure Descriptor where
  seq : BitVec 32
  tries : Nat
  /-- retransmission timeouts of this packet (R328) -/
  timeouts : Nat
  /-- the fabric die whose retry descriptor store holds it: 0 F0, 1 F1 (R327) -/
  die : Nat
  packet : Packet
  source : Option (Nat × Nat × VAddr)
  /-- lines of a source in another package that are read again for the payload (R190, R327) -/
  refetch : List Fetched
  /-- the command or requester it belongs to -/
  owner : Option Waiter
  deriving DecidableEq, Repr

/-- A flow at its source (R324, R328). -/
structure SrcFlow where
  eng : Nat
  dst : Nat
  tc : Nat
  next : BitVec 32
  route : Nat
  rseq : BitVec 32
  descs : List Descriptor
  deriving DecidableEq, Repr

/-- An entry of a result cache (R326): an executed ATOMIC's old value, whether the word was poisoned (R307), and the fabric die that caches it. -/
structure AtomResult where
  seq : BitVec 32
  old : BitVec 128
  bad : Bool
  die : Nat
  deriving DecidableEq, Repr

/-- A flow at its destination (R325, R326). -/
structure DstFlow where
  eng : Nat
  src : Nat
  tc : Nat
  next : BitVec 32
  /-- packets ahead of sequence, with the port each came by (R325) -/
  held : List (Nat × Packet)
  /-- results of executed ATOMICs -/
  results : List AtomResult
  /-- deliveries since the last ACK -/
  unacked : Nat
  deriving DecidableEq, Repr

/-- A package the membership controller suspects (R329): probes sent and 10 us intervals without an answer. -/
structure Suspect where
  pkg : Nat
  route : Nat
  probes : Nat
  deriving DecidableEq, Repr

/-- The fabric side of the package (R322 to R335). -/
structure Fabric where
  /-- ports that have failed or never trained -/
  down : List Nat
  /-- ports whose neighbour is suspect (R329) -/
  silent : List Nat
  portErr : List (Nat × Nat)
  lost : List Nat
  suspects : List Suspect
  /-- declarations of lost packages sent to the other packages of the pod: receiver and lost package, oldest first (R329) -/
  told : List (Nat × Nat)
  sources : List SrcFlow
  dests : List DstFlow
  /-- packets sent: port and packet, oldest first [log 20] -/
  sent : List (Nat × Packet)
  deriving DecidableEq, Repr

/-- A collective handed to a collective engine (R196, R288). -/
structure CollCmd where
  task : TaskId
  core : Nat
  eng : Nat
  cmd : CopyCmd
  deriving DecidableEq, Repr

/-- A CSIG handed to a collective engine (R174, R198): the bytes of the bucket that it signals, and the miss that holds it up. -/
structure Signal where
  cmd : CollCmd
  lo : Nat
  len : Nat
  missing : Option MissAt
  deriving DecidableEq, Repr

/-- A chunk of a running collective at this member (R331 to R333): what it holds and its contributor record, as bits by member. -/
structure CollChunk where
  bucket : Nat
  index : Nat
  acc : List Byte
  members : Nat
  /-- its final bytes are in the bucket -/
  final : Bool
  /-- members it has still to be sent to, and the one it went to last -/
  out : List Nat
  last : Option Nat
  deriving DecidableEq, Repr

/-- A running collective (R197, R331). -/
structure CollRun where
  cmd : CollCmd
  /-- the handle has been read (R196) -/
  begun : Bool
  ordinal : Nat
  op : Nat
  red : Nat
  /-- bytes of an element -/
  ew : Nat
  torus : Bool
  slot : BitVec 6
  buf : VAddr
  bbytes : Nat
  nb : Nat
  self : Nat
  group : List Nat
  recAddr : VAddr
  /-- the ready bits as it last read them (R288) -/
  ready : Nat
  /-- a chunk came that fits no chunk of this handle: the members' handles differ, and the buckets are undefined (R331, R340) -/
  differs : Bool
  chunks : List CollChunk
  sats : Nat
  fetched : List Fetched
  ended : Option Status
  missing : Option MissAt
  deriving DecidableEq, Repr

/-- A collective engine (R288). -/
structure CollEngine where
  run : Option CollRun
  queue : List CollCmd
  /-- collectives started on this engine -/
  ordinal : Nat
  /-- chunks that arrived before their collective started (R331) -/
  early : List Packet
  /-- the CSIGs handed to it whose ready bit is not set yet (R174, R198) -/
  signals : List Signal
  deriving DecidableEq, Repr

/-- The device modes (R343). -/
structure Modes where
  power : PowerMode
  mirror : MirrorMode
  ring : BitVec 3
  careful : Bool
  deriving DecidableEq, Repr

/-- A cluster's telemetry and rail (R347, R349, R351). -/
structure Cluster where
  tj : BitVec 12
  d : BitVec 4
  load : Nat
  step : Nat
  lock : Bool
  thr : Bool
  cap : BitVec 4
  safe : Nat
  deriving DecidableEq, Repr

/-- Power, modes and the error monitor (R343 to R351). -/
structure Power where
  modes : Modes
  /-- the power mode that has taken effect (R344) -/
  power : PowerMode
  clusters : Vector Cluster 48
  g : Nat
  pm : BitVec 16
  /-- the last interval was over 1.05 times the limit (R350) -/
  high : Bool
  hot : Bool
  tm : BitVec 16
  tp : BitVec 16
  /-- a threshold write waiting for the window's end (R348) -/
  pending : Option (BitVec 16 × BitVec 16)
  tripped : Bool
  /-- corrected errors in the open window, by array (R345, R347) -/
  counts : List (Nat × Nat)
  deriving DecidableEq, Repr

/-- The state of an Afterglow ring (R353, R354). -/
inductive AfterglowState where
  | recording
  | post (left : Nat)
  | frozen
  deriving DecidableEq, Repr

/-- An Afterglow record (R352). -/
structure AgRecord where
  time : Word
  seq : BitVec 32
  type : BitVec 8
  die : BitVec 3
  trig : Bool
  loc : BitVec 12
  a : Word
  b : Word
  deriving DecidableEq, Repr

/-- A die's Afterglow ring (R352 to R354): records by index, unlisted empty. -/
structure Afterglow where
  records : List (Nat × AgRecord)
  seq : BitVec 32
  state : AfterglowState
  post : BitVec 12
  lost : BitVec 32
  trigSeq : BitVec 32
  /-- records whose ECC word is poisoned (R345) -/
  poison : List Nat
  deriving DecidableEq, Repr

/-- A launch port (R359). -/
structure LaunchPort where
  ctx : BitVec 13
  accepted : Word
  errors : Word
  latched : Word
  done : Word
  deriving DecidableEq, Repr

/-- What a DRAM controller does when a row's count reaches the threshold (R239): the alert it raises to the management processor, and the rows it refreshes. -/
structure RowAlert where
  channel : Nat
  row : Nat
  refreshed : List Nat
  deriving DecidableEq, Repr

/-- The management registers (R358 to R365) and start-up. -/
structure Mgmt where
  bootst : Word
  /-- the sequence under way is a warm reset's (R360) -/
  warm : Bool
  errcnt : Word
  tsc : Word
  ports : Vector LaunchPort 4
  /-- the contexts being halted, oldest first (R314) -/
  halting : List Nat
  haltst : Word
  hlist : BitVec 52
  hlen : BitVec 32
  aging : BitVec 8
  pod : BitVec 28
  retx : BitVec 10
  sotx : BitVec 14
  udp : BitVec 16
  rmth : BitVec 15
  rmcnt : List (Nat × Nat)
  rowCounts : List (Nat × Nat)
  /-- banks whose requests are held back (R239) -/
  heldBanks : List Nat
  /-- alerts raised, oldest first (R239) -/
  alerts : List RowAlert
  fparb : Word
  loadedKeys : List Nat
  digest : BitVec 512
  bootStore : List Byte
  attestBuf : Option Nat
  /-- the bytes that the last host read was answered, lowest address first (R356, R358) [log 36] -/
  answer : List Byte
  deriving DecidableEq, Repr

/-- The stores of a fabric die (R345). -/
inductive FabricStore where
  | retry | reorder | result | pending
  deriving DecidableEq, Repr

/-- A word of a protected array, as the read that finds an error in it names it (R345). -/
inductive ReadPlace where
  /-- an array that a scrubber reads too, by the scrubber's address -/
  | scrubbed (x : ScrubArray) (a : Nat)
  /-- a vector register's word: 32 x physical register + word -/
  | vector (core w : Nat)
  | scalar (core r : Nat)
  /-- a predicate: 4 x predicate + word -/
  | predicate (core w : Nat)
  /-- a word of the L1's line at a place -/
  | l1 (core k w : Nat)
  /-- a stream buffer's word, by its first byte's place -/
  | stream (core n w : Nat)
  /-- an entry of a mailbox -/
  | mailbox (core k i : Nat)
  | returnQueue (core k : Nat)
  /-- a word of the loop buffer -/
  | loopBuffer (core k : Nat)
  /-- entry k of flow or collective engine f in a fabric die's store -/
  | store (die : Nat) (x : FabricStore) (f k : Nat)
  deriving DecidableEq, Repr

/-- What moves next: an event of the operation table, or a core that issues (R6) [log 5]. -/
inductive Move where
  | event (e : Instr)
  | core (n : Nat)
  /-- a freeze signal on its way to a die: its originator and trigger seq (R354) -/
  | freeze (die origin seq : Nat)
  /-- a host read of n bytes at a management offset (R356, R358) -/
  | mgmtRead (offset n : Nat)
  /-- a routine instruction's read of a 64-bit word of core n's vector register file, for an operand, finds it uncorrectable (R146, R345) [log 44] -/
  | regError (n word opd : Nat)
  /-- the read of a word of a protected array finds this (R345) [log 44] -/
  | readError (p : ReadPlace) (r : EccResult)
  /-- the start-up sequence goes on by a step (R360) -/
  | boot
  deriving DecidableEq, Repr

/-- The package: the core whose turn it is, the other cores, memory and everything around them. -/
structure State where
  core : Core
  /-- the number of the core whose turn it is -/
  cur : Nat
  /-- the other cores by number; an unlisted core is as after reset -/
  others : List (Nat × Core)
  mem : Mem
  sched : Sched
  xlat : Xlat
  fabric : Fabric
  colls : Vector CollEngine 32
  power : Power
  glow : Vector Afterglow 6
  mgmt : Mgmt
  agenda : List Move
  /-- how many free values have been used (plain counter of log 3) -/
  fresh : Nat
  deriving DecidableEq, Repr

/-- R14. -/
def ScaleSlot.reset : ScaleSlot := { exp := 0, census := 63, satc := 0, satth := 0, cb := 0, bsa := 0 }

/-- R16. -/
def AccBank.reset : AccBank := { cells := [], dirty := false, poison := [] }

/-- R16: INT8 by INT8, everything else empty or 0. -/
def MatEngine.reset : MatEngine :=
  { mp := .replicate _ 0, mfmt := 0x11, mrp := 0, lit := .reset, shadow := .reset, spec := false, specIssue := false,
    queue := [], run := none, firstBad := 0, firstOp := 0, bad := 0, completed := 0, lastStatus := 0, lastOp := 0,
    drained := true, mdrained := false }

/-- R17, R174. -/
def CopyEngine.reset : CopyEngine := { geo := .replicate _ 0, queue := [], run := none, flight := [] }

/-- R20: the fault registers' reset values. -/
def FaultRegs.reset : FaultRegs := { epc := 0, fcause := 0, faddr := 0, fslot := 7, fopnd := 7, felem := 0xFFFF, fimg := 0 }

/-- R23: identifier 0, index 0, size 1. -/
def domReset : BitVec 48 := 0x0001_0000_0000

/-- R20, R21, R23. -/
def SysRegs.reset : SysRegs :=
  { th := false, faults := .reset, segstate := 0, tslice := 0, preq := 0, graceAt := 0, optp := 0, vflags := 0, srseed := 0,
    dom := .replicate 4 domReset, ecl := false, prio := 0, eclass := 0 }

/-- R13, R20. -/
def LoopRegs.reset : LoopRegs :=
  { lc := .replicate 3 0, lb := .replicate 3 0, ln := .replicate 3 0, vrb := 0, valid := false }

def Segment.reset : Segment :=
  { count := 0, crc := 0, isOpen := false, unchk := false, expCount := 0, expSig := 0, scw := 0 }

def Scoreboard.reset : Scoreboard :=
  { cyc := 0, landX := .replicate _ 0, landV := .replicate _ 0, landP := .replicate _ 0, far := [], nxt := [] }

/-- The task state of a core before any dispatch: the values of R9, R13 to R23; the registers to which the manual gives no value before a dispatch hold 0 [log 1]. -/
def TaskState.reset : TaskState :=
  { id := { asid := 0, record := 0, member := 0 }, x := .replicate _ 0, v := .replicate _ 0, p := .replicate _ 0, pc := 0,
    loop := .reset, ts := .replicate _ .reset, me0 := .reset, me1 := .reset, ce0 := .reset, ce1 := .reset,
    niarb := 0x404040, comp := { ctb := 0, cte := 0, held := 0, rq := [] }, sys := .reset, seg := .reset,
    kept := { expCount := 0, expSig := 0, scw := 0 }, streams := .replicate _ [], tokens := [], refs := [], spbase := 0,
    splen := 0, haz := [], sb := .reset, nextSeq := 0, satPend := [], regPoison := [], streamPoison := .replicate _ [] }

/-- A plane after reset: no image, the library of R164, the reset formats of R16. -/
def Plane.reset : Plane :=
  { code := [], base := 0, clen := 0, micro := library, fmt0 := 0x11, fmt1 := 0x11, image := 0, state := .empty, poison := [] }

def Bundle.reset : Bundle :=
  { header := 0, next := 0, slot := 0, words := [], redirect := .none, sats := [], census := [], satSlots := [], random := 0,
    exc := none, held := false, bounded := false, again := false, complete := false, checked := false, firm := false, tail := false }

def Undo.reset : Undo :=
  { pc := 0, x := .replicate _ 0, v := .replicate _ 0, p := .replicate _ 0, ts := .replicate _ .reset, vflags := 0, loop := .reset,
    seg := .reset, landX := .replicate _ 0, landV := .replicate _ 0, landP := .replicate _ 0, satPend := [], regPoison := [], srctr := 0 }

/-- An empty loop buffer. -/
def LoopBuf.reset : LoopBuf := { base := 0, words := [], poison := [], ready := false }

/-- A core after reset (R20): idle, no task; the units of the part all present [log 1]. -/
def Core.reset : Core :=
  { t := .reset, mode := .idle, lit := .reset, shadow := .reset, loading := none, buf := .reset, l1 := [], fills := [], srctr := 0, stallc := 0,
    lodc := 0, feat := 0x3F, mail := .replicate _ { owner := none, entries := [] }, mirror := .full, failover := false,
    prefetch := none, reserved := none,
    old := { x := .replicate _ 0, v := .replicate _ 0, p := .replicate _ 0, ts := .replicate _ .reset, sys := .reset, vrb := 0, niarb := 0x404040, fparb := 0x404040 },
    undo := .reset, bundle := .reset, pendTrap := none, asks := [], reds := [], swap := false }

def Mem.reset : Mem := { cells := [], poison := [], lineKey := [], ringKey := 0, spKey := [], slotKey := [] }

/-- R351. -/
def Cluster.reset : Cluster :=
  { tj := 0, d := 15, load := 0, step := 0, lock := false, thr := false, cap := 15, safe := 0 }

/-- R343, R348, R349. -/
def Power.reset : Power :=
  { modes := { power := .peak, mirror := .full, ring := 0, careful := false }, power := .peak,
    clusters := .replicate 48 .reset, g := 15, pm := 0, high := false, hot := false, tm := 4, tp := 64, pending := none,
    tripped := false, counts := [] }

/-- R353. -/
def Afterglow.reset : Afterglow := { records := [], seq := 0, state := .recording, post := 256, lost := 0, trigSeq := 0, poison := [] }

def LaunchPort.reset : LaunchPort := { ctx := 0, accepted := 0, errors := 0, latched := 0, done := 0 }

/-- R358, R359, R180. -/
def Mgmt.reset : Mgmt :=
  { bootst := 0, warm := false, errcnt := 0, tsc := 0, ports := .replicate 4 .reset,
    halting := [], haltst := 0, hlist := 0, hlen := 0, aging := 16, pod := 0, retx := 20, sotx := 200, udp := 0,
    rmth := 1024, rmcnt := [], rowCounts := [], heldBanks := [], alerts := [], fparb := 0x404040, loadedKeys := [], digest := 0,
    bootStore := [], attestBuf := none, answer := [] }

/-- The package right after reset (R20, R343 to R365): every core idle, memory with nothing listed, no context, nothing to do. -/
def State.reset : State :=
  { core := .reset, cur := 0, others := [], mem := .reset,
    sched := { contexts := [], recs := [], saved := [], bindings := [], queues := [], spill := [], barriers := [], permits := [], hostRefs := [] },
    xlat := { tlb := [], walks := [], pending := [], records := [], parked := [], parkSeq := 0, words := [], inval := none },
    fabric := { down := [], silent := [], portErr := [], lost := [], suspects := [], told := [], sources := [], dests := [], sent := [] },
    colls := .replicate 32 { run := none, queue := [], ordinal := 0, early := [], signals := [] },
    power := .reset, glow := .replicate 6 .reset, mgmt := .reset, agenda := [], fresh := 0 }

end Sys2Proof.Machine
end

