-- ==== Sys2Proof/Machine/Base.lean ====
section
/-! DEFINITION. Sparse maps, byte order, and the accessors of cores, registers and tasks on which every operation rests. -/

namespace Sys2Proof.Machine

/-- The value at a key of a sparse map; an unlisted key holds the default. -/
def mapGet {α : Type} (d : α) (m : List (Nat × α)) (k : Nat) : α :=
  match m with
  | [] => d
  | (j, v) :: r => if j = k then v else mapGet d r k

/-- Put a value at its place in key order. -/
def mapPut {α : Type} (m : List (Nat × α)) (k : Nat) (v : α) : List (Nat × α) :=
  match m with
  | [] => [(k, v)]
  | (j, w) :: r => if k < j then (k, v) :: (j, w) :: r else if j = k then (k, v) :: r else (j, w) :: mapPut r k v

/-- Set a key; writing the default removes the entry, so that equal maps are equal lists. -/
def mapSet {α : Type} [DecidableEq α] (d : α) (m : List (Nat × α)) (k : Nat) (v : α) : List (Nat × α) :=
  if v = d then m.filter (fun e => !decide (e.1 = k)) else mapPut m k v

/-- The little-endian value of some bytes (R2). -/
def leNat (bs : List Byte) : Nat :=
  match bs with
  | [] => 0
  | b :: r => b.toNat + 256 * leNat r

/-- The n low bytes of a value, little-endian (R2). -/
def leBytes (n : Nat) (v : Nat) : List Byte :=
  match n with
  | 0 => []
  | k + 1 => BitVec.ofNat 8 v :: leBytes k (v / 256)

/-- Little-endian words of w bytes. -/
def wordsOf (w n : Nat) (bs : List Byte) : List Nat :=
  match n with
  | 0 => []
  | k + 1 => leNat (bs.take w) :: wordsOf w k (bs.drop w)

/-- Bits hi..lo of a value (R4). -/
def bitsOf (v hi lo : Nat) : Nat := v / 2 ^ lo % 2 ^ (hi - lo + 1)

/-- The register of a file that a register number names. -/
def fileGet {n : Nat} {α : Type} (f : File n α) (i : BitVec n) : α := f[i.toNat]'i.isLt

/-- A file with one register replaced. -/
def filePut {n : Nat} {α : Type} (f : File n α) (i : BitVec n) (v : α) : File n α := f.set i.toNat v i.isLt

/-- Change the core whose turn it is. -/
def State.modCore (s : State) (f : Core → Core) : State := { s with core := f s.core }

/-- Change the task state of the core whose turn it is. -/
def State.modT (s : State) (f : TaskState → TaskState) : State := { s with core := { s.core with t := f s.core.t } }

/-- Change the bundle in issue. -/
def State.modBundle (s : State) (f : Bundle → Bundle) : State := { s with core := { s.core with bundle := f s.core.bundle } }

/-- Change the scoreboard of the running task. -/
def State.modSb (s : State) (f : Scoreboard → Scoreboard) : State := s.modT fun t => { t with sb := f t.sb }

/-- Change the task's system registers. -/
def State.modSys (s : State) (f : SysRegs → SysRegs) : State := s.modT fun t => { t with sys := f t.sys }

/-- Change the completion state. -/
def State.modComp (s : State) (f : Completion → Completion) : State := s.modT fun t => { t with comp := f t.comp }

def State.modMgmt (s : State) (f : Mgmt → Mgmt) : State := { s with mgmt := f s.mgmt }
def State.modSched (s : State) (f : Sched → Sched) : State := { s with sched := f s.sched }
def State.modXlat (s : State) (f : Xlat → Xlat) : State := { s with xlat := f s.xlat }
def State.modFabric (s : State) (f : Fabric → Fabric) : State := { s with fabric := f s.fabric }
def State.modPower (s : State) (f : Power → Power) : State := { s with power := f s.power }

/-- Core n of the package. -/
def State.getCore (s : State) (n : Nat) : Core := if n = s.cur then s.core else mapGet Core.reset s.others n

/-- Replace core n. -/
def State.setCore (s : State) (n : Nat) (c : Core) : State :=
  if n = s.cur then { s with core := c } else { s with others := mapSet Core.reset s.others n c }

/-- Give core n the turn. -/
def State.switchTo (s : State) (n : Nat) : State :=
  if n = s.cur then s
  else { s with core := mapGet Core.reset s.others n, cur := n,
                others := mapSet Core.reset (mapSet Core.reset s.others n Core.reset) s.cur s.core }

/-- Do something as core n, then give the turn back. -/
def State.onCore (s : State) (n : Nat) (f : State → State) : State := (f (s.switchTo n)).switchTo s.cur

/-- The numbers of the cores of the package (R1). -/
def coreNumbers : List Nat := List.range 576

/-- The cores on which anything differs from reset, the current one first. -/
def State.liveCores (s : State) : List Nat := s.cur :: s.others.map (·.1)

/-- Die, row and column of a core (R234). -/
def coreDie (n : Nat) : Nat := n / 144
def coreRow (n : Nat) : Nat := n % 144 / 12
def coreCol (n : Nat) : Nat := n % 12
/-- The cluster of a core, 0 to 47 (R351). -/
def coreCluster (n : Nat) : Nat := 12 * coreDie n + 3 * (coreRow n / 3) + coreCol n / 4
/-- The 12-bit code of a core: die [1:0], row [7:4], column [11:8] (R229, R310, R352). -/
def coreCode (n : Nat) : Nat := coreDie n + 16 * coreRow n + 256 * coreCol n

/-- The package's own identifier (R322). -/
def State.pkgId (s : State) : Nat := (s.mgmt.pod.extractLsb' 12 16).toNat

/-- The next free-value index (R58 and the other values the manual leaves open). -/
def State.tick (s : State) : State := { s with fresh := s.fresh + 1 }

/-- Cause codes (R302). -/
def Cause.code (c : Cause) : Nat :=
  match c with
  | .none => 0 | .illegalInstruction => 1 | .illegalSlot => 2 | .illegalBundle => 3 | .badTarget => 4 | .misaligned => 5
  | .translation => 6 | .protection => 7 | .poison => 8 | .mirror => 9 | .operandFormat => 10 | .illegalOperand => 11
  | .featureAbsent => 12 | .saturation => 13 | .scope => 14 | .quota => 15 | .eclipsedRef => 16 | .preempt => 17 | .trap => 18

/-- Engine status codes (R168). -/
def Status.code (c : Status) : Nat :=
  match c with
  | .ok => 0 | .translation => 1 | .protection => 2 | .poison => 3 | .overlap => 4 | .overrun => 5 | .underrun => 6
  | .partially => 7 | .cancelled => 8 | .eclipsed => 9 | .format => 10 | .peerLost => 11 | .quota => 12 | .scope => 13

/-- The engine of a core that a number names: 0 ME0, 1 ME1. -/
def TaskState.me (t : TaskState) (e : Bool) : MatEngine := if e then t.me1 else t.me0
def TaskState.setMe (t : TaskState) (e : Bool) (m : MatEngine) : TaskState := if e then { t with me1 := m } else { t with me0 := m }
/-- 0 CE0, 1 CE1. -/
def TaskState.ce (t : TaskState) (e : Bool) : CopyEngine := if e then t.ce1 else t.ce0
def TaskState.setCe (t : TaskState) (e : Bool) (m : CopyEngine) : TaskState := if e then { t with ce1 := m } else { t with ce0 := m }

/-- The element at a place of a list. -/
def nth? {α : Type} (l : List α) (k : Nat) : Option α :=
  match l, k with
  | [], _ => none
  | a :: _, 0 => some a
  | _ :: r, k + 1 => nth? r k

/-- A list without the element at a place. -/
def dropNth {α : Type} (l : List α) (k : Nat) : List α :=
  match l, k with
  | [], _ => []
  | _ :: r, 0 => r
  | a :: r, k + 1 => a :: dropNth r k

/-- Change the element at a place. -/
def modNth {α : Type} (l : List α) (k : Nat) (f : α → α) : List α :=
  match l, k with
  | [], _ => []
  | a :: r, 0 => f a :: r
  | a :: r, k + 1 => a :: modNth r k f

/-- Change the first element that satisfies a test. -/
def modFirst {α : Type} (p : α → Bool) (f : α → α) (l : List α) : List α :=
  match l with
  | [] => []
  | a :: r => if p a then f a :: r else a :: modFirst p f r

/-- A list without the first element that satisfies a test. -/
def dropFirst {α : Type} (p : α → Bool) (l : List α) : List α :=
  match l with
  | [] => []
  | a :: r => if p a then r else a :: dropFirst p r

/-- Apply a state change for each element in order. -/
def forEach {α : Type} (l : List α) (f : α → State → State) (s : State) : State := l.foldl (fun s a => f a s) s

end Sys2Proof.Machine
end

