-- ==== Sys2Proof/Machine/Memory.lean ====
section
/-! DEFINITION. Physical memory, the address map and translation, and the L1 data cache (R234 to R241, R295 to R298, R307, R361). -/

namespace Sys2Proof.Machine

/-- The canonical form of a sparse map of bytes: keys strictly rising, no entry equal to the unlisted 0. -/
def cellsWf (m : List Host.Cell) : Bool :=
  match m with
  | [] => true
  | (_, v) :: [] => decide (v ≠ 0)
  | (a, v) :: (b, w) :: r => decide (a < b) && decide (v ≠ 0) && cellsWf ((b, w) :: r)

/-- Memory holds its cells in canonical form. -/
def Mem.wf (m : Mem) : Bool := cellsWf m.cells

def ringBase : Nat := 0x1_0000_0000_0000
def spBase : Nat := 0x2_0000_0000_0000
def mgmtBase : Nat := 0x3_0000_0000_0000

/-- The physical address of a byte of core n's scratchpad (R235). -/
def spAddr (n off : Nat) : Nat := spBase + 0x10_0000 * n + off

/-- The identity of the key, or of the generation of ring or scratchpad contents, in force for an access with a key slot (R237, R310, R361) [log 12]. -/
def Mem.keyAt (m : Mem) (slot pa : Nat) : Nat :=
  if pa < ringBase then mapGet 0 m.slotKey slot
  else if pa < spBase then m.ringKey
  else mapGet 0 m.spKey ((pa - spBase) / 0x10_0000)

/-- Read one byte. What was written under another key, or in another generation, reads as a free value (R237, R310, R361); a byte that nothing has written reads as 0 [log 2, log 12]. -/
def Mem.byte (m : Mem) (slot pa : Nat) : Byte :=
  if mapGet 0 m.lineKey (pa / 64) = m.keyAt slot pa then mapGet 0 m.cells pa
  else Config.freeByte (m.keyAt slot pa) pa

/-- Bring a line under the key in force: its bytes become what they read as (R361) [log 12]. -/
def Mem.rekey (m : Mem) (slot pa : Nat) : Mem :=
  if mapGet 0 m.lineKey (pa / 64) = m.keyAt slot pa then m
  else { m with
    cells := (List.range 64).foldl (fun c i => mapSet 0 c (pa / 64 * 64 + i) (m.byte slot (pa / 64 * 64 + i))) m.cells,
    lineKey := mapSet 0 m.lineKey (pa / 64) (m.keyAt slot pa) }

/-- Write one byte. -/
def Mem.putByte (m : Mem) (slot pa : Nat) (v : Byte) : Mem :=
  { m.rekey slot pa with cells := mapSet 0 (m.rekey slot pa).cells pa v }

/-- Read n bytes. -/
def Mem.bytes (m : Mem) (slot pa n : Nat) : List Byte :=
  match n with
  | 0 => []
  | k + 1 => m.byte slot pa :: m.bytes slot (pa + 1) k

/-- Write bytes in order. -/
def Mem.putBytes (m : Mem) (slot pa : Nat) (bs : List Byte) : Mem :=
  match bs with
  | [] => m
  | b :: r => (m.putByte slot pa b).putBytes slot (pa + 1) r

/-- The first address and the size of the ECC word of a byte (R307). -/
def eccSize (pa : Nat) : Nat := if pa < ringBase then 32 else 8
def eccWord (pa : Nat) : Nat := pa / eccSize pa * eccSize pa

/-- Some byte of the range is poisoned. -/
def Mem.poisoned (m : Mem) (pa n : Nat) : Bool :=
  m.poison.any fun w => decide (w < pa + n) && decide (pa < w + eccSize w)

/-- A write of n bytes at pa covers a whole ECC word. -/
def covers (pa n w : Nat) : Bool := decide (pa ≤ w) && decide (w + eccSize w ≤ pa + n)

/-- Write at the home: whole ECC words lose their poison, bytes of a poisoned word covered only in part are discarded (R307). -/
def Mem.storeFrom (m : Mem) (slot pa n a : Nat) (bs : List Byte) : Mem :=
  match bs with
  | [] => m
  | b :: r =>
    let skip := m.poison.contains (eccWord a) && !covers pa n (eccWord a)
    (if skip then m else m.putByte slot a b).storeFrom slot pa n (a + 1) r

def Mem.store (m : Mem) (slot pa : Nat) (bs : List Byte) : Mem :=
  let m' := if m.poison = [] then m.putBytes slot pa bs else m.storeFrom slot pa bs.length pa bs
  { m' with poison := m'.poison.filter fun w => !covers pa bs.length w }

/-- Every byte of an ECC word is among the bytes of some writes. -/
def wholeWord (ws : List (Nat × List Byte)) (w : Nat) : Bool :=
  (List.range (eccSize w)).all fun i => ws.any fun r => decide (r.1 ≤ w + i ∧ w + i < r.1 + r.2.length)

/-- Write bytes in order, but for those in the given ECC words. -/
def Mem.putBut (m : Mem) (bad : List Nat) (slot a : Nat) (bs : List Byte) : Mem :=
  match bs with
  | [] => m
  | b :: r => (if bad.contains (eccWord a) then m else m.putByte slot a b).putBut bad slot (a + 1) r

/-- Several writes that take effect together: words they cover between them lose their poison, the others' bytes are discarded (R74, R307). -/
def Mem.storeAll (m : Mem) (slot : Nat) (ws : List (Nat × List Byte)) : Mem :=
  let bad := m.poison.filter fun w => !wholeWord ws w
  { ws.foldl (fun m r => m.putBut bad slot r.1 r.2) m with poison := bad }

/-- One of several writes that take effect together loses bytes to a poisoned word (R307). -/
def Mem.discards (m : Mem) (ws : List (Nat × List Byte)) (pa n : Nat) : Bool :=
  m.poison.any fun w => decide (w < pa + n) && decide (pa < w + eccSize w) && !wholeWord ws w

/-- The write covers some poisoned word only in part (R307). -/
def Mem.storeDiscards (m : Mem) (pa n : Nat) : Bool :=
  m.poison.any fun w => decide (w < pa + n) && decide (pa < w + eccSize w) && !covers pa n w

/-- Poison an ECC word of physical memory (R307). -/
def State.poisonPa (s : State) (pa : Nat) : State :=
  { s with mem := { s.mem with poison := if s.mem.poison.contains (eccWord pa) then s.mem.poison else eccWord pa :: s.mem.poison } }

/-- An n-byte little-endian value at a physical address, under key slot 0 (what system software and the die's own agents use) [log 23]. -/
def State.phys (s : State) (pa n : Nat) : Nat := leNat (s.mem.bytes 0 pa n)

/-- Ring memory per slice: 8 MiB x (4 - s) / 4; 24 slices a die (R237). -/
def ringBytes (split : Nat) : Nat := 24 * (0x20_0000 * (4 - split))

/-- Where a byte lies inside its scratchpad: its bank, and the row of the bank (R236). -/
def scratchBank (o : Nat) : Nat := o / 64 % 32
def scratchRow (o : Nat) : Nat := o / 2048

/-- Where an offset of a die's ring range lies: its slice, and the offset inside the slice's ring memory (R237). -/
def ringSlice (o : Nat) : Nat := o / 4096 % 24
def ringOffset (o : Nat) : Nat := o / 98304 * 4096 + o % 4096

/-- The DRAM channel of a physical address, and its home: a slice of the channel's die (R238). -/
def channelOf (pa : Nat) : Nat := Nat.xor (bitsOf pa 16 9) (bitsOf pa 24 17)
def dramHome (pa : Nat) : Nat × Nat := (channelOf pa / 64, bitsOf pa 51 6 % 24)

/-! ### DRAM rows (R239) [log 13] -/

/-- Add a number to a list that does not hold it yet. -/
def addOnce (l : List Nat) (n : Nat) : List Nat := if l.contains n then l else n :: l

/-- The row that an access activates, if it is to DRAM and activates one. -/
def rowOpened (fresh pa : Nat) : Option Nat := if ringBase ≤ pa then none else Config.dramRow fresh pa

/-- The row's count reaches the threshold T. -/
def Mgmt.rowHot (m : Mgmt) (r : Option Nat) : Bool := (r.map fun k => decide (m.rmth.toNat ≤ mapGet 0 m.rowCounts k + 1)).getD false

/-- Row counts after an activation: one more, or 0 once T is reached. -/
def Mgmt.countRow (m : Mgmt) (r : Option Nat) : List (Nat × Nat) :=
  match r with
  | none => m.rowCounts
  | some k => if m.rowHot r then mapSet 0 m.rowCounts k 0 else mapPut m.rowCounts k (mapGet 0 m.rowCounts k + 1)

/-- An access may activate a DRAM row; a row that reaches T raises an alert, has the rows beside it refreshed, and holds back its bank (R239). -/
def Mgmt.activate (m : Mgmt) (fresh pa : Nat) : Mgmt :=
  let r := rowOpened fresh pa
  let c := channelOf pa
  { m with
    rowCounts := m.countRow r
    rmcnt := if m.rowHot r then mapPut m.rmcnt c (mapGet 0 m.rmcnt c + 1) else m.rmcnt
    heldBanks := if m.rowHot r then addOnce m.heldBanks (Config.dramBank pa) else m.heldBanks
    alerts := if m.rowHot r then m.alerts ++ [{ channel := c, row := r.getD 0, refreshed := Config.rowsBeside (r.getD 0) }] else m.alerts }

/-- The same for the package: nothing happens at an address that is not in DRAM. -/
def State.activate (s : State) (pa : Nat) : State := if ringBase ≤ pa then s else { s with mgmt := s.mgmt.activate s.fresh pa }

/-- A physical address of the map of R235, whatever package it belongs to. -/
def physMapped (pa : Nat) : Bool :=
  decide (pa < 0x200_0000_0000) || decide (ringBase ≤ pa ∧ pa < ringBase + 4 * 0x0C00_0000) || decide (spBase ≤ pa ∧ pa < spBase + 576 * 0x10_0000)

/-- A physical address that exists and that accesses of the package may reach (R235, R237). -/
def State.physOk (s : State) (pa : Nat) : Bool :=
  if pa < 0x200_0000_0000 then true
  else if ringBase ≤ pa ∧ pa < ringBase + 4 * 0x0C00_0000 then
    decide ((pa - ringBase) % 0x0C00_0000 < ringBytes s.power.modes.ring.toNat)
  else decide (spBase ≤ pa ∧ pa < spBase + 576 * 0x10_0000)

/-- Where a virtual address lies before translation (R234). -/
inductive Place where
  | window (off : Nat)
  | aperture (core off : Nat)
  | reserved
  | mapped
  deriving DecidableEq, Repr

def placeOf (va : VAddr) : Place :=
  let a := va.toNat
  if a < 0x10_0000 then .window a
  else if a < 0x40_0000_0000_0000 then .mapped
  else if a < 0x40_0000_2400_0000 then .aperture ((a - 0x40_0000_0000_0000) / 0x10_0000) (a % 0x10_0000)
  else .reserved

/-- The home of a byte: package, physical address, key slot. -/
structure Loc where
  pkg : Option Nat
  pa : Nat
  key : Nat
  deriving DecidableEq, Repr

/-- What an access needs of its page (R296). -/
structure Need where
  r : Bool
  w : Bool
  x : Bool
  deriving DecidableEq, Repr

def needR : Need := { r := true, w := false, x := false }
def needW : Need := { r := false, w := true, x := false }
def needRW : Need := { r := true, w := true, x := false }
def needX : Need := { r := false, w := false, x := true }

/-- The outcome of an address (R235, R296): `refused` and `forbidden` are PROTECTION without and with a malformed walk. -/
inductive Xl where
  | ok (l : Loc)
  | miss
  | refused
  | forbidden
  | poisoned
  deriving DecidableEq, Repr

/-- The descriptor's physical address of a registered context (R257). -/
def State.descOf (s : State) (asid : Nat) : Option Nat := (s.sched.contexts.find? fun c => c.asid = asid).map (·.desc)

/-- A field of a context's descriptor; an unregistered context reads as zero. -/
def State.desc (s : State) (asid off n : Nat) : Nat :=
  match s.descOf asid with
  | none => 0
  | some d => s.phys (d + off) n

/-- The core map of a context allows a core (R235, R257). -/
def State.coreAllowed (s : State) (asid n : Nat) : Bool :=
  decide (s.phys (s.desc asid 64 7 + n / 8) 1 / 2 ^ (n % 8) % 2 = 1)

/-- The three levels of a walk from a table's address (R295, R296): the translation, or how the walk ends. -/
def State.walkFrom (s : State) (levels : List Nat) (table : Nat) (va : Nat) : Except Xl Pte :=
  match levels with
  | [] => .error .forbidden
  | sh :: rest =>
    let ea := table + 8 * (va / 2 ^ sh % 8192)
    if s.physOk ea = false then .error .refused
    else if s.mem.poisoned ea 8 then .error .poisoned
    else
      let e := s.phys ea 8
      let pa := bitsOf e 51 16 * 0x1_0000
      if e % 2 = 0 then .error .miss
      else if bitsOf e 1 1 = 0 then
        if sh = 16 ∨ bitsOf e 15 2 ≠ 0 ∨ bitsOf e 63 52 ≠ 0 then .error .forbidden
        else s.walkFrom rest pa va
      else if sh = 42 ∨ bitsOf e 8 7 ≠ 0 ∨ (bitsOf e 6 6 = 0 ∧ bitsOf e 63 52 ≠ 0) then .error .forbidden
      else if sh = 29 ∧ (bitsOf e 28 16 ≠ 0 ∨ bitsOf e 5 5 = 1) then .error .forbidden
      else .ok { pa := pa + va % 2 ^ sh / 0x1_0000 * 0x1_0000, key := bitsOf e 15 9,
                 pkg := if bitsOf e 6 6 = 1 ∧ bitsOf e 63 52 ≠ s.pkgId % 4096 then some (bitsOf e 63 52 + s.pkgId / 4096 * 4096) else none,
                 r := bitsOf e 2 2 = 1, w := bitsOf e 3 3 = 1, x := bitsOf e 4 4 = 1 }

/-- Walk the context's page tables (R295). -/
def State.walk (s : State) (asid : Nat) (va : VAddr) : Except Xl Pte :=
  if s.descOf asid = none then .error .miss else s.walkFrom [42, 29, 16] (s.desc asid 8 7 % 2 ^ 52) va.toNat

/-- The level-3 table of a page, where the walk comes to one (R295). -/
def State.leafTable (s : State) (asid : Nat) (va : VAddr) : Option Nat :=
  if s.descOf asid = none then none
  else
    let next (table sh : Nat) : Option Nat :=
      let e := s.phys (table + 8 * (va.toNat / 2 ^ sh % 8192)) 8
      if e % 4 = 1 then some (bitsOf e 51 16 * 0x1_0000) else none
    (next (s.desc asid 8 7 % 2 ^ 52) 42).bind fun t => next t 29

/-- The pages of the page's aligned run of 32 whose leaves have c = 1, by their place in the run (R297). -/
def State.runPages (s : State) (asid : Nat) (va : VAddr) : List Nat :=
  match s.leafTable asid va with
  | none => []
  | some t =>
    let first := t + 8 * (va.toNat / 0x1_0000 % 8192 / 32 * 32)
    (List.range 32).filter fun j => decide (Nat.land (s.mem.byte 0 (first + 8 * j)).toNat 0x23 = 0x23)

/-- The page of the run through whose entry this access is translated, if not its own: any with c = 1, a free choice (R297) [log 11]. -/
def State.runChoice (s : State) (asid : Nat) (va : VAddr) : Option Nat :=
  match s.runPages asid va with
  | [] => none
  | l =>
    let j := (Config.freeWord s.fresh (0x4_0000 + va.toNat / 0x1_0000)).toNat % 64
    if l.contains j then some j else none

/-- Walk for a page, or for another page of its run and offset to its own position (R295, R297). -/
def State.walkRun (s : State) (asid : Nat) (va : VAddr) : Except Xl Pte :=
  match s.runChoice asid va with
  | none => s.walk asid va
  | some j =>
    let k := va.toNat / 0x1_0000
    match s.walk asid (BitVec.ofNat 55 ((k / 32 * 32 + j) * 0x1_0000)) with
    | .error x => .error x
    | .ok p => .ok { p with pa := (p.pa + 2 ^ 52 + k % 32 * 0x1_0000 - j * 0x1_0000) % 2 ^ 52 }

/-- Two translations agree in every field; a kernel can evaluate it on an unevaluated walk. -/
def Pte.same (a b : Pte) : Bool :=
  decide (a.pa = b.pa) && decide (a.key = b.key) && decide (a.pkg = b.pkg) && (a.r == b.r) && (a.w == b.w) && (a.x == b.x)

/-- The translation of a page: the walk's, or, while a TLB still holds another one, either of the two (R298) [log 11]. -/
def State.pageOf (s : State) (asid : Nat) (va : VAddr) : Except Xl Pte :=
  match s.xlat.tlb.find? fun e => e.asid = asid ∧ e.page = va.toNat / 0x1_0000 with
  | none => s.walkRun asid va
  | some e =>
    match s.walkRun asid va with
    | .ok p => if p.same e.pte then .ok p else if Config.freeBool s.fresh e.page then .ok e.pte else .ok p
    | .error x => if Config.freeBool s.fresh e.page then .ok e.pte else .error x

/-- An address with its access's needs, for an agent of context asid; `win` is the core whose local window it has, if any (R234, R235, R296). -/
def State.xlate (s : State) (win : Option Nat) (asid : Nat) (va : VAddr) (need : Need) : Xl :=
  match placeOf va with
  | .window off =>
    match win with
    | some n => .ok { pkg := none, pa := spAddr n off, key := 0 }
    | none => .refused
  | .aperture n off => if s.coreAllowed asid n then .ok { pkg := none, pa := spAddr n off, key := 0 } else .refused
  | .reserved => .refused
  | .mapped =>
    match s.pageOf asid va with
    | .error x => x
    | .ok p =>
      if (need.r && !p.r) || (need.w && !p.w) || (need.x && !p.x) then .refused
      else if (if p.pkg = none then s.physOk (p.pa + va.toNat % 0x1_0000) else physMapped (p.pa + va.toNat % 0x1_0000)) = false then .refused
      else .ok { pkg := p.pkg, pa := p.pa + va.toNat % 0x1_0000, key := p.key }

/-- The addresses of the table entries that a walk from a table reads (R295). -/
def State.walkReads (s : State) (levels : List Nat) (table va : Nat) : List Nat :=
  match levels with
  | [] => []
  | sh :: rest =>
    let ea := table + 8 * (va / 2 ^ sh % 8192)
    let e := s.phys ea 8
    ea :: if e % 4 = 1 then s.walkReads rest (bitsOf e 51 16 * 0x1_0000) va else []

/-- A walk for a page has read its tables (R239, R295). -/
def State.walked (s : State) (asid : Nat) (va : VAddr) : State :=
  (s.walkReads [42, 29, 16] (s.desc asid 8 7 % 2 ^ 52) va.toNat).foldl State.activate s

/-- The TLBs take up the translation that an access has used, by a walk where they do not hold it (R239, R298). -/
def State.noteTlb (s : State) (asid : Nat) (va : VAddr) : State :=
  match placeOf va with
  | .mapped =>
    if s.xlat.tlb.any fun e => decide (e.asid = asid ∧ e.page = va.toNat / 0x1_0000) then s
    else
      match s.walkRun asid va with
      | .ok p => (s.walked asid va).modXlat fun x => { x with tlb := { asid, page := va.toNat / 0x1_0000, pte := p } :: x.tlb }
      | .error _ => s
  | _ => s

/-- A read has used its pages' translations, and may have activated rows (R239, R298): one 64-byte line after another. -/
def State.touch (fuel : Nat) (s : State) (win : Option Nat) (asid : Nat) (va : VAddr) (n : Nat) : State :=
  match fuel with
  | 0 => s
  | f + 1 =>
    if n = 0 then s
    else
      let k := min n (64 - va.toNat % 64)
      let s1 := match s.xlate win asid va needR with
        | .ok l => (s.noteTlb asid va).activate (if l.pkg.isSome then ringBase else l.pa)
        | _ => s
      s1.touch f win asid (va + BitVec.ofNat 55 k) (n - k)

/-- The same for several reads of the running task. -/
def State.touchAll (s : State) (l : List (VAddr × Nat)) : State :=
  l.foldl (fun s q => s.touch (q.2 / 64 + 2) (some s.cur) s.core.t.id.asid q.1 q.2) s

/-- The address lies in the running core's own scratchpad window (R234). -/
def State.ownWindow (s : State) (va : VAddr) : Bool :=
  match placeOf va with
  | .window _ => true
  | .aperture n _ => decide (n = s.cur)
  | _ => false

/-- The address lies in some scratchpad window (R218). -/
def scratchpadVa (va : VAddr) : Bool :=
  match placeOf va with
  | .window _ => true
  | .aperture _ _ => true
  | _ => false

/-- An object's address in the core's local window, for an address inside its own window (R205, R234). -/
def State.ownOffset (s : State) (va : VAddr) : Option Nat :=
  match placeOf va with
  | .window off => some off
  | .aperture n off => if n = s.cur then some off else none
  | _ => none

/-- Why an agent's access failed. -/
inductive AccFail where
  | miss | refused | forbidden | poison | walkPoison | remote
  deriving DecidableEq, Repr

def Xl.fail (x : Xl) : AccFail :=
  match x with
  | .ok _ => .remote
  | .miss => .miss
  | .refused => .refused
  | .forbidden => .forbidden
  | .poisoned => .walkPoison

/-- The status a failed engine access ends with (R169, R193). -/
def AccFail.status (f : AccFail) : Status :=
  match f with
  | .miss => .translation
  | .refused => .protection
  | .forbidden => .protection
  | .poison => .poison
  | .walkPoison => .poison
  | .remote => .protection

/-- Read n bytes at their home for an agent, past every L1; the bytes lie in one page. -/
def State.agentRead (s : State) (win : Option Nat) (asid : Nat) (va : VAddr) (n : Nat) : Except AccFail (List Byte) :=
  match s.xlate win asid va needR with
  | .ok l =>
    match l.pkg with
    | some _ => .error .remote
    | none => if s.mem.poisoned l.pa n then .error .poison else .ok (s.mem.bytes l.key l.pa n)
  | x => .error x.fail

/-- Write bytes at their home for an agent; the bytes lie in one page. -/
def State.agentWrite (s : State) (win : Option Nat) (asid : Nat) (va : VAddr) (bs : List Byte) (need : Need) : Except AccFail State :=
  match s.xlate win asid va need with
  | .ok l =>
    match l.pkg with
    | some _ => .error .remote
    | none =>
      if s.mem.storeDiscards l.pa bs.length then .error .poison
      else .ok (({ s with mem := s.mem.store l.key l.pa bs } : State).activate l.pa)
  | x => .error x.fail

/-- Write bytes at their homes for an agent without a window, 64 at a time (R234). -/
def State.agentPut (s : State) (asid : Nat) (k : Nat) (va : VAddr) (bs : List Byte) : Except (AccFail × VAddr) State :=
  match k with
  | 0 => .ok s
  | j + 1 =>
    match s.agentWrite none asid va (bs.take 64) needW with
    | .error e => .error (e, va)
    | .ok s1 => s1.agentPut asid j (va + 64) (bs.drop 64)

/-- Read an n-byte value of a context for an agent without a window; a failed read is none. -/
def State.ctxRead (s : State) (asid : Nat) (va : VAddr) (n : Nat) : Option Nat :=
  match s.agentRead none asid va n with
  | .ok bs => some (leNat bs)
  | .error _ => none

/-! ### The L1 data cache (R240) -/

/-- Bits i..i+n-1 of a 64-bit mask. -/
def maskBits (i n : Nat) : BitVec 64 := BitVec.ofNat 64 ((2 ^ n - 1) * 2 ^ i)

/-- Byte i of a line. -/
def lineByte (d : BitVec 512) (i : Nat) : Byte := d.extractLsb' (8 * i) 8

/-- Put bytes into a line from byte i. -/
def linePut (d : BitVec 512) (i : Nat) (bs : List Byte) : BitVec 512 :=
  let n := bs.length
  let m : BitVec 512 := BitVec.ofNat 512 ((2 ^ (8 * n) - 1) * 2 ^ (8 * i))
  (d &&& ~~~m) ||| BitVec.ofNat 512 (leNat bs * 2 ^ (8 * i))

def L1Line.sameAs (l : L1Line) (loc : Loc) : Bool := decide (l.pkg = loc.pkg ∧ l.line = loc.pa / 64)

def l1Find (ls : List L1Line) (loc : Loc) : Option L1Line := ls.find? fun l => l.sameAs loc

/-- Put a line in place of the one for the same memory. -/
def l1Put (ls : List L1Line) (n : L1Line) : List L1Line :=
  n :: ls.filter fun l => !(decide (l.pkg = n.pkg ∧ l.line = n.line))

/-- The bytes of the line that are there, as a list from byte i. -/
def L1Line.slice (l : L1Line) (i n : Nat) : List Byte := (List.range n).map fun k => lineByte l.data (i + k)

/-- The line of a local byte as its home gives it, with the core's own dirty bytes kept on top (R240). -/
def State.l1Fetch (s : State) (loc : Loc) (va : VAddr) : L1Line :=
  let base := loc.pa / 64 * 64
  let home := (List.range 64).map fun i => s.mem.byte loc.key (base + i)
  let pois := (List.range 64).foldl (fun (m : BitVec 64) i => if s.mem.poisoned (base + i) 1 then m ||| maskBits i 1 else m) 0
  match l1Find s.core.l1 loc with
  | none =>
    { pkg := none, line := loc.pa / 64, key := loc.key, data := linePut 0 0 home, present := BitVec.allOnes 64, dirty := 0,
      poison := pois, va := va.toNat / 64 }
  | some o =>
    { o with
      data := (List.range 64).foldl (fun d i => if o.dirty.getLsbD i then linePut d i [lineByte o.data i] else d) (linePut 0 0 home),
      present := BitVec.allOnes 64, poison := pois &&& ~~~o.dirty }

/-- The dirty bytes of a line as writes, one per 16-byte part and run (R131, R240): offset and bytes. -/
def L1Line.dirtyRuns (l : L1Line) : List (Nat × List Byte) :=
  (List.range 64).foldr
    (fun i (acc : List (Nat × List Byte)) =>
      if l.dirty.getLsbD i then
        match acc with
        | (j, bs) :: r => if j = i + 1 ∧ j % 16 ≠ 0 then (i, lineByte l.data i :: bs) :: r else (i, [lineByte l.data i]) :: acc
        | [] => [(i, [lineByte l.data i])]
      else acc) []

/-- The context and place a store of the core is reported at. -/
def State.blankRec (s : State) (asid : Nat) : FaultRec :=
  { asid, cause := 0, kind := 0, slot := 7, opnd := 7, elem := 0xFFFF, core := s.cur, wr := false, image := s.core.lit.image,
    status := 0, bundle := 0, va := 0, pa := none, task := s.core.t.id.record }

/-- Add a record to those waiting to be written (R304, R305). -/
def State.addRec (s : State) (r : FaultRec) : State := s.modXlat fun x => { x with records := x.records ++ [r] }

/-- A write of the core met poison and is discarded in part: its kind-4 record (R304, R307). -/
def State.poisonedWrite (s : State) (va : VAddr) (pa : Nat) : State :=
  s.addRec { s.blankRec s.core.t.id.asid with cause := Cause.poison.code, kind := 4, wr := true, va, pa := some pa,
                                              status := Status.poison.code }

/-- A 16-byte part of a line is written at a local home, its runs of bytes together, with one kind-4 record if some of it is discarded (R240, R247, R307). -/
def State.homeWritePart (s : State) (key : Nat) (va : VAddr) (pa base : Nat) (runs : List (Nat × List Byte)) : State :=
  let d := runs.any fun r => s.mem.storeDiscards (base + r.1) r.2.length
  let s' := ({ s with mem := runs.foldl (fun m r => m.store key (base + r.1) r.2) s.mem } : State).activate pa
  if d then s'.poisonedWrite va pa else s'

/-- A write by the core's pipeline at a local home, with the kind-4 record of a discarded partial write (R307). -/
def State.homeWrite (s : State) (key pa : Nat) (va : VAddr) (bs : List Byte) : State :=
  let d := s.mem.storeDiscards pa bs.length
  let s' := ({ s with mem := s.mem.store key pa bs } : State).activate pa
  if d then s'.poisonedWrite va pa else s'

/-- An agent's write that poison cuts short: what covers whole ECC words is written, the rest discarded with its kind-4 record (R307). -/
def State.agentPartial (s : State) (win : Option Nat) (asid : Nat) (va : VAddr) (bs : List Byte) : State :=
  match s.xlate win asid va needW with
  | .ok l =>
    if l.pkg.isSome then s
    else
      (({ s with mem := s.mem.store l.key l.pa bs } : State).activate l.pa).addRec
        { s.blankRec asid with cause := Cause.poison.code, kind := 4, wr := true, va, pa := some l.pa, status := Status.poison.code }
  | _ => s

/-- A walk of an agent found a malformed or a poisoned entry: its kind-4 record (R296, R304). -/
def State.agentWalkRec (s : State) (asid : Nat) (f : AccFail) (va : VAddr) (wr : Bool) (task : VAddr) : State :=
  let r (st : Status) (c : Cause) : State :=
    s.addRec { s.blankRec asid with cause := c.code, kind := 4, wr, va, task, image := 0, status := st.code }
  match f with
  | .forbidden => r .protection .protection
  | .walkPoison => r .poison .poison
  | _ => s

/-- Write an n-byte value of a context for an agent without a window; a write that fails has no effect but a record of R304 or R307. -/
def State.ctxWrite (s : State) (asid : Nat) (va : VAddr) (n v : Nat) : State :=
  match s.agentWrite none asid va (leBytes n v) needW with
  | .ok s' => s'
  | .error .poison => s.agentPartial none asid va (leBytes n v)
  | .error f => s.agentWalkRec asid f va true 0

end Sys2Proof.Machine
end

