-- ==== Sys2Proof/Machine/Packet.lean ====
section
/-! DEFINITION. Fabric packets, routes, and the sending side of a flow (R322 to R324, R327, R328). -/

namespace Sys2Proof

/-- A header field by its first bit and width (R323). -/
def Packet.field (p : Packet) (lo n : Nat) : Nat := (p.hdr.extractLsb' lo n).toNat

def Packet.type (p : Packet) : Nat := p.field 0 4
def Packet.tc (p : Packet) : Nat := p.field 4 2
def Packet.plen (p : Packet) : Nat := p.field 6 6
def Packet.order (p : Packet) : Nat := p.field 13 3
def Packet.dirs (p : Packet) : Nat := p.field 16 3
def Packet.hops (p : Packet) : Nat := p.field 19 6
def Packet.src (p : Packet) : Nat := p.field 32 16
def Packet.dst (p : Packet) : Nat := p.field 48 16
def Packet.seq (p : Packet) : BitVec 32 := p.hdr.extractLsb' 64 32
def Packet.rseq (p : Packet) : BitVec 32 := p.hdr.extractLsb' 96 32
def Packet.eng (p : Packet) : Nat := p.field 128 12
def Packet.asid (p : Packet) : Nat := p.field 140 13
def Packet.key (p : Packet) : Nat := p.field 153 7
def Packet.pa (p : Packet) : Nat := p.field 192 52
def Packet.len (p : Packet) : Nat := p.field 244 12
def Packet.op (p : Packet) : Nat := p.field 256 64
def Packet.opnd (p : Packet) : BitVec 128 := p.hdr.extractLsb' 320 128
def Packet.crc (p : Packet) : BitVec 32 := p.hdr.extractLsb' 448 32

/-- Replace a header field. -/
def Packet.setField (p : Packet) (lo n v : Nat) : Packet :=
  { p with hdr := (p.hdr &&& ~~~(BitVec.ofNat 512 ((2 ^ n - 1) * 2 ^ lo))) ||| BitVec.ofNat 512 (v % 2 ^ n * 2 ^ lo) }

/-- One byte of the reflected CRC-32C (R323). -/
def crc32cByte (c : BitVec 32) (b : Byte) : BitVec 32 :=
  (List.range 8).foldl (fun (c : BitVec 32) _ => if c.getLsbD 0 then (c >>> 1) ^^^ 0x82F6_3B78#32 else c >>> 1)
    (c ^^^ b.zeroExtend 32)

/-- CRC-32C of some bytes (R323). -/
def crc32c (bs : List Byte) : BitVec 32 := ~~~(bs.foldl crc32cByte (BitVec.allOnes 32))

/-- The bytes that a packet's CRC covers: header bytes 0 to 55 with hops taken as 0, and the payload (R323). -/
def Packet.covered (p : Packet) : List Byte :=
  let h := (p.setField 19 6 0).hdr
  (List.range 56).map (fun i => h.extractLsb' (8 * i) 8) ++ p.payload

/-- The packet with the CRC its contents give. -/
def Packet.sealed (p : Packet) : Packet := p.setField 448 32 (crc32c p.covered).toNat

/-- The checks that every hop makes (R323): CRC, type, reserved bits, and a payload of plen flits. -/
def Packet.sound (p : Packet) : Bool :=
  decide (p.crc = crc32c p.covered) && decide (p.type ≤ 9) && decide (p.field 25 7 = 0) && decide (p.field 160 32 = 0) &&
  decide (p.field 480 32 = 0) && decide (p.plen ≤ 32) && decide (p.payload.length = 64 * p.plen) &&
  decide (p.len ≤ 2048) &&
  (if p.type = 3 ∨ p.type = 5 then decide (p.op < 64) else if p.type = 6 then decide (p.op < 2 ^ 55) else decide (p.op = 0))

end Sys2Proof

namespace Sys2Proof.Machine

/-- The fields that a sender gives a packet. -/
structure PacketSpec where
  type : Nat
  tc : Nat
  eng : Nat
  dst : Nat
  asid : Nat := 0
  key : Nat := 0
  pa : Nat := 0
  len : Nat := 0
  op : Nat := 0
  opnd : Nat := 0
  payload : List Byte := []
  bad : List Nat := []
  skip : List Nat := []
  deriving DecidableEq, Repr

/-- The payload filled up to whole flits (R323). -/
def padFlits (bs : List Byte) : List Byte := bs ++ List.replicate ((64 - bs.length % 64) % 64) 0

/-- Build and seal a packet (R323). -/
def mkPacket (src : Nat) (sp : PacketSpec) (seq rseq : BitVec 32) (order dirs : Nat) (retx : Bool) : Packet :=
  let pl := padFlits sp.payload
  let h := sp.type + sp.tc * 2 ^ 4 + pl.length / 64 * 2 ^ 6 + (if retx then 2 ^ 12 else 0) + order * 2 ^ 13 + dirs * 2 ^ 16 +
    src % 65536 * 2 ^ 32 + sp.dst % 65536 * 2 ^ 48 + seq.toNat * 2 ^ 64 + rseq.toNat * 2 ^ 96 + sp.eng * 2 ^ 128 +
    sp.asid * 2 ^ 140 + sp.key * 2 ^ 153 + sp.pa * 2 ^ 192 + sp.len * 2 ^ 244 + sp.op * 2 ^ 256 + sp.opnd % 2 ^ 128 * 2 ^ 320
  Packet.sealed { hdr := BitVec.ofNat 512 h, payload := pl, bad := sp.bad, skip := sp.skip }

/-- The pod's extent in dimension 0 x, 1 y, 2 z (R322, R358). -/
def State.extent (s : State) (dim : Nat) : Nat := (s.mgmt.pod.extractLsb' (4 * dim) 4).toNat + 1

/-- A package's coordinate in a dimension (R322). -/
def coordOf (pkg dim : Nat) : Nat := pkg / 16 ^ dim % 16

/-- The dimensions in the order of a route (R328): 0 xyz, 1 xzy, 2 yxz, 3 yzx, 4 zxy, 5 zyx. -/
def dimOrder (o : Nat) : List Nat :=
  match o with
  | 0 => [0, 1, 2] | 1 => [0, 2, 1] | 2 => [1, 0, 2] | 3 => [1, 2, 0] | 4 => [2, 0, 1] | _ => [2, 1, 0]

/-- g of R328. -/
def routeTwist (k : Nat) : Nat :=
  match k with
  | 0 => 0 | 1 => 1 | 2 => 2 | 3 => 4 | 4 => 3 | 5 => 5 | 6 => 6 | _ => 7

/-- The directions with fewer hops, plus on a tie (R328). -/
def State.shortDirs (s : State) (dst : Nat) : Nat :=
  [0, 1, 2].foldl (fun m d =>
    let e := s.extent d
    let fwd := (coordOf dst d + e - coordOf s.pkgId d) % e
    let bwd := (coordOf s.pkgId d + e - coordOf dst d) % e
    if fwd ≤ bwd then m else m + 2 ^ d) 0

/-- Order and directions of route i (R328). -/
def State.routeOf (s : State) (dst i : Nat) : Nat × Nat := (i % 6, Nat.xor (s.shortDirs dst) (routeTwist (i / 6)))

/-- The direction of the next hop of a packet at this package: 0 +x, 1 -x, 2 +y, 3 -y, 4 +z, 5 -z; none at its destination (R322, R328). -/
def State.nextDir (s : State) (dst order dirs : Nat) : Option Nat :=
  ((dimOrder order).find? fun d => decide (coordOf dst d ≠ coordOf s.pkgId d)).map fun d => 2 * d + dirs / 2 ^ d % 2

/-- A port that can carry packets (R322, R328, R329). -/
def State.portUp (s : State) (p : Nat) : Bool :=
  decide (s.extent (p / 48) > 1) && !(s.fabric.down.contains p) && !(s.fabric.silent.contains p)

/-- The port of a direction that a flow uses: the hashed one, or the next up port in ascending order, wrapping (R328). -/
def State.portFor (s : State) (dir eng dst tc : Nat) : Option Nat :=
  let h := Config.portHash eng dst tc % 24
  ((List.range 24).map fun i => 24 * dir + (h + i) % 24).find? fun p => s.portUp p

/-- The port of a packet's first hop: the torus inside the pod, an Ethernet port (144 to 147) to another pod (R328, R335). -/
def State.firstPort (s : State) (dst order dirs eng tc : Nat) : Option Nat :=
  if dst / 4096 ≠ s.pkgId / 4096 then
    ((List.range 4).map fun i => 144 + (Config.portHash eng dst tc + i) % 4).find? fun p => !(s.fabric.down.contains p)
  else
    match s.nextDir dst order dirs with
    | none => none
    | some d => s.portFor d eng dst tc

/-- The first route index from i on whose first hop is up; i itself when none is (R328). -/
def State.liveRoute (s : State) (eng dst tc i : Nat) : Nat :=
  (((List.range 48).map fun k => (i + k) % 48).find? fun k =>
    (s.firstPort dst (s.routeOf dst k).1 (s.routeOf dst k).2 eng tc).isSome).getD i

def SrcFlow.is (f : SrcFlow) (eng dst tc : Nat) : Bool := decide (f.eng = eng ∧ f.dst = dst ∧ f.tc = tc)

/-- A flow at its source; a new flow starts at sequence number 0 on route 0 (R324, R328). -/
def State.srcFlow (s : State) (eng dst tc : Nat) : SrcFlow :=
  (s.fabric.sources.find? fun f => f.is eng dst tc).getD { eng, dst, tc, next := 0, route := 0, rseq := 0, descs := [] }

/-- Replace a flow at its source. -/
def State.setSrcFlow (s : State) (f : SrcFlow) : State :=
  s.modFabric fun b => { b with sources := f :: b.sources.filter fun g => !(g.is f.eng f.dst f.tc) }

/-- The route that a flow's next packet takes, and its first hop (R328). -/
def State.routeNow (s : State) (f : SrcFlow) : Nat := s.liveRoute f.eng f.dst f.tc f.route
def State.hopOf (s : State) (f : SrcFlow) : Option Nat :=
  let rt := s.routeOf f.dst (s.routeNow f)
  s.firstPort f.dst rt.1 rt.2 f.eng f.tc

/-- The fabric die of a port: even ports lie on F0, odd ones on F1 (R322, R335); F0 for a packet that has no port. -/
def fabricDie (port : Option Nat) : Nat := port.getD 0 % 2

/-- Descriptors in the retry store of a fabric die (R327). -/
def State.retryHeld (s : State) (die : Nat) : Nat := (s.fabric.sources.map fun f => (f.descs.filter fun d => decide (d.die = die)).length).sum

/-- A flow may take n more packets: at most 4,096 unacknowledged, and their descriptors in the 2 MiB retry store of its fabric die (R324, R327) [log 64]. -/
def State.flowRoom (s : State) (eng dst tc n : Nat) : Bool :=
  let f := s.srcFlow eng dst tc
  decide (f.descs.length + n ≤ 4096) && decide (s.retryHeld (fabricDie (s.hopOf f)) + n ≤ 65536)

/-- A flow with no room for another packet (R324, R327). -/
def State.flowFull (s : State) (eng dst tc : Nat) : Bool := !s.flowRoom eng dst tc 1

/-- Put a packet on a port; with no port up it is not sent, and its descriptor will time out (R327, R328). -/
def State.emit (s : State) (port : Option Nat) (p : Packet) : State :=
  match port with
  | none => s
  | some n => s.modFabric fun b => { b with sent := b.sent ++ [(n, p)] }

/-- Send a data packet on its flow, leaving its retry descriptor (R324, R327). -/
def State.send (s : State) (sp : PacketSpec) (owner : Option Waiter) (source : Option (Nat × Nat × VAddr)) : State :=
  let f := s.srcFlow sp.eng sp.dst sp.tc
  let r := s.routeNow f
  let rt := s.routeOf sp.dst r
  let p := mkPacket s.pkgId sp f.next f.rseq rt.1 rt.2 false
  (s.setSrcFlow { f with next := f.next + 1, route := r,
                         descs := f.descs ++ [{ seq := f.next, tries := 1, timeouts := 0, die := fabricDie (s.hopOf f), packet := p, source, refetch := [], owner }] }).emit
    (s.hopOf f) p

/-- Send a WRITE of which some payload bytes are not to be written (R240) [log 58]. -/
def State.sendMasked (s : State) (sp : PacketSpec) (skip : List Nat) : State :=
  s.send { sp with skip } none none

/-- What carries a packet over an Ethernet port (R335): one UDP datagram to the port of the udp register, with the DSCP value of the packet's traffic class. -/
structure Datagram where
  port : Nat
  dscp : Nat
  packet : Packet
  deriving DecidableEq, Repr

/-- The datagram of a packet that leaves by an Ethernet port (R335) [log 35]. -/
def State.datagram (s : State) (p : Packet) : Datagram := { port := s.mgmt.udp.toNat, dscp := Config.dscp p.tc, packet := p }

/-- Send a packet that carries no flow: ACK, BEACON, PROBE, and the ARESULT that doubles as an acknowledgement (R324 to R326). -/
def State.sendPlain (s : State) (sp : PacketSpec) (seq : BitVec 32) : State :=
  let r := s.liveRoute sp.eng sp.dst sp.tc 0
  let rt := s.routeOf sp.dst r
  s.emit (s.firstPort sp.dst rt.1 rt.2 sp.eng sp.tc) (mkPacket s.pkgId sp seq 0 rt.1 rt.2 false)

end Sys2Proof.Machine
end

