-- ==== Sys2Proof/Machine/Records.lean ====
section
/-! DEFINITION. Afterglow, task records, references and eclipse, pending pages, and how a task ends (R216 to R226, R231, R299 to R309, R352 to R354). -/

namespace Sys2Proof.Machine

/-! ### Afterglow (R352 to R354) -/

/-- Types 1 to 4 freeze (R352). -/
def glowFreezes (type : Nat) : Bool := decide (1 ≤ type ∧ type ≤ 4)

/-- The record goes into the ring at index seq mod 4,096 (R352). -/
def Afterglow.put (g : Afterglow) (r : AgRecord) : Afterglow :=
  { g with records := mapPut g.records (g.seq.toNat % 4096) r, seq := g.seq + 1, poison := g.poison.filter (· ≠ g.seq.toNat % 4096) }

/-- After a record in the post-window (R354). -/
def postLeft (left : Nat) : AfterglowState := if left = 0 then .frozen else .post left

/-- An event at a die's Afterglow: recorded, a trigger, recorded in the post-window, or lost (R354). -/
def Afterglow.event (g : Afterglow) (r : AgRecord) (freezes : Bool) : Afterglow :=
  match g.state with
  | .recording =>
    if freezes then { g.put { r with trig := true } with trigSeq := g.seq, state := postLeft g.post.toNat }
    else g.put r
  | .post n => { g.put r with state := postLeft (n - 1) }
  | .frozen => { g with lost := g.lost + 1 }

/-- The Afterglow of a die. -/
def State.glowOf (s : State) (die : Nat) : Afterglow := (s.glow.toList)[die]?.getD Afterglow.reset

def State.setGlow (s : State) (die : Nat) (g : Afterglow) : State := { s with glow := s.glow.setIfInBounds die g }

/-- Write an event on a die; a die that freezes signals the other five (R354). -/
def State.glowEvent (s : State) (die type loc : Nat) (a b : Nat) : State :=
  let g := s.glowOf die
  let r : AgRecord := { time := s.mgmt.tsc, seq := g.seq, type := BitVec.ofNat 8 type, die := BitVec.ofNat 3 die, trig := false,
                        loc := BitVec.ofNat 12 loc, a := BitVec.ofNat 64 a, b := BitVec.ofNat 64 b }
  let s' := s.setGlow die (g.event r (glowFreezes type))
  if glowFreezes type && decide (g.state = .recording) then
    { s' with agenda := s'.agenda ++
        ((List.range 6).filter (· ≠ die)).map fun d => Move.freeze d die g.seq.toNat }
  else s'

/-! ### Task records (R216) -/

/-- A record's field: n bytes at an offset, 0 where it cannot be read. After a software store to a record in use, whose fields are then undefined (R216), the model takes the stored bytes [log 67]. -/
def State.recGet (s : State) (asid : Nat) (rec : VAddr) (off n : Nat) : Nat :=
  (s.ctxRead asid (rec + BitVec.ofNat 55 off) n).getD 0

def State.recSet (s : State) (asid : Nat) (rec : VAddr) (off n v : Nat) : State := s.ctxWrite asid (rec + BitVec.ofNat 55 off) n v

/-- Record states (R216). -/
def stInit : Nat := 0
def stWaiting : Nat := 1
def stReady : Nat := 2
def stRunning : Nat := 3
def stSaved : Nat := 4
def stDone : Nat := 5
def stEclipsed : Nat := 6
def stStopped : Nat := 7

def SchedRec.is (r : SchedRec) (asid : Nat) (rec : VAddr) : Bool := decide (r.task.asid = asid ∧ r.task.record = rec)

def State.schedRec (s : State) (asid : Nat) (rec : VAddr) : Option SchedRec := s.sched.recs.find? fun r => r.is asid rec

def State.modRec (s : State) (asid : Nat) (rec : VAddr) (f : SchedRec → SchedRec) : State :=
  s.modSched fun d => { d with recs := modFirst (fun r => r.is asid rec) f d.recs }

def State.now (s : State) : Nat := s.mgmt.tsc.toNat

/-- A plane holds an image (R229, R264). -/
def Plane.holds (p : Plane) (img : BitVec 32) : Bool := decide (p.state = .loaded) && decide (p.image = img)

/-- Some core of the record's die that its context allows holds its image in a plane (R265). -/
def State.imageHeld (s : State) (r : SchedRec) : Bool :=
  let img := BitVec.ofNat 32 (s.recGet r.task.asid r.task.record 8 4)
  s.liveCores.any fun n => decide (coreDie n = r.die) && s.coreAllowed r.task.asid n && ((s.getCore n).lit.holds img || (s.getCore n).shadow.holds img)

/-- Since when a READY record has lacked its image, brought up to date where that can change (R265). -/
def State.noteImages (s : State) : State :=
  s.modSched fun d => { d with recs := d.recs.map fun r =>
    { r with lackAt := if r.ready && !(s.imageHeld r) then some (r.lackAt.getD s.now) else none } }

/-- A record becomes READY: its state, its ready time, its place in its die's run queue (R259). -/
def State.makeReady (s : State) (asid : Nat) (rec : VAddr) : State :=
  ((s.recSet asid rec 0 1 stReady).modRec asid rec fun r => { r with ready := true, rt := s.now }).noteImages

/-- What subtracting k from a record's counter answers (R219): the new dep, whether it underflowed, whether the task becomes READY. -/
def tdecResult (old k state : Nat) : Nat × Bool × Bool :=
  let dep := if k > old then 0 else old - k
  (dep, decide (k > old), decide (old > 0 ∧ dep = 0 ∧ state = stWaiting))

/-- Subtract k from dep of a record, at its home (R219); `pin` is the core of a mailbox that released it (R211, R259). -/
def State.tdec (s : State) (asid : Nat) (rec : VAddr) (k : Nat) (pin : Option Nat) : Nat × State :=
  let old := s.recGet asid rec 24 4
  let r := tdecResult old k (s.recGet asid rec 0 1)
  let s1 := s.recSet asid rec 24 4 r.1
  let s2 := if r.2.1 then s1.recSet asid rec 3 1 (s1.recGet asid rec 3 1 / 8 * 8 + 4 + s1.recGet asid rec 3 1 % 4) else s1
  let s3 := if r.2.2 then
      let s' := s2.makeReady asid rec
      match pin with
      | none => s'
      | some c => (s'.modRec asid rec fun q => { q with pin := some c, die := coreDie c }).noteImages
    else s2
  (r.1, s3)

/-! ### Fault records (R303, R304) -/

/-- The physical address of a refused or poisoned access, where its address has a translation (R304). -/
def State.knownPa (s : State) (asid : Nat) (c : Cause) (va : VAddr) : Option Nat :=
  if c = .protection ∨ c = .poison then
    match placeOf va with
    | .mapped =>
      match s.pageOf asid va with
      | .ok p => some (p.pa + va.toNat % 0x1_0000)
      | .error _ => none
    | .window off => if c = .poison then some (spAddr s.cur off) else none
    | .aperture n off => if c = .poison then some (spAddr n off) else none
    | .reserved => none
  else none

/-- A kind-3 record with the stopping fault (R304). -/
def State.stopRec (s : State) (id : TaskId) (e : Exc) (epc : VAddr) : State :=
  s.addRec { s.blankRec id.asid with
    cause := e.cause.code, kind := 3, slot := e.slot.toNat, opnd := e.opnd.toNat, elem := e.elem.toNat, wr := e.wr, bundle := epc,
    va := e.addr, pa := if e.slot = 7 then none else s.knownPa id.asid e.cause e.addr, task := id.record }

/-- The cause a status corresponds to in a fault record (R302, R304). -/
def Status.cause (st : Status) : Cause :=
  match st with
  | .translation => .translation
  | .protection => .protection
  | .poison => .poison
  | _ => .none

/-- The kind-4 record of a command or a walk (R304). -/
def State.kind4 (s : State) (id : TaskId) (core slot opnd elem : Nat) (wr : Bool) (st : Status) (bundle va : VAddr) : State :=
  let cause := st.cause
  s.addRec { s.blankRec id.asid with
    cause := cause.code, kind := 4, slot, opnd, elem, core, wr, status := st.code, bundle, va, task := id.record }

/-- A dropped reduction: counted in the queue's dropped field, with its kind-5 record (R215, R304). -/
def State.dropRed (s : State) (r : Red) (st : Status) : State :=
  let fq := BitVec.ofNat 55 (s.desc r.task.asid 32 7)
  let cause := st.cause
  let s1 := if fq = 0 then s else s.ctxWrite r.task.asid (fq + 40) 8 (((s.ctxRead r.task.asid (fq + 40) 8).getD 0) + 1)
  (s1.addRec { s1.blankRec r.task.asid with
    cause := cause.code, kind := 5, slot := 0, opnd := 1, core := r.core, wr := true, image := r.image, status := st.code,
    bundle := r.bundle, va := r.va, task := r.task.record }).modRec r.task.asid r.task.record
      (fun q => { q with reds := q.reds - 1 })

/-! ### Pending pages (R299) -/

/-- The page number of an address. -/
def pageNo (va : VAddr) : Nat := va.toNat / 0x1_0000

def PendingPage.is (p : PendingPage) (asid page : Nat) : Bool := decide (p.asid = asid ∧ p.page = page)

/-- The fault queue's count of pending entries or parked reductions changes (R305). -/
def State.countField (s : State) (asid off : Nat) (f : Nat → Nat) : State :=
  let fq := BitVec.ofNat 55 (s.desc asid 32 7)
  if fq = 0 then s
  else s.ctxWrite asid (fq + BitVec.ofNat 55 off) 4 (f ((s.ctxRead asid (fq + BitVec.ofNat 55 off) 4).getD 0))

/-- A miss attaches to its page's entry, or makes the entry and writes its record (R299). -/
def State.missOn (s : State) (asid : Nat) (va : VAddr) (w : Waiter) (r : FaultRec) : State :=
  if s.xlat.pending.any fun p => p.is asid (pageNo va) then
    s.modXlat fun x => { x with pending := modFirst (fun p => p.is asid (pageNo va)) (fun p => { p with waiters := p.waiters ++ [w] }) x.pending }
  else
    ((s.modXlat fun x => { x with pending := x.pending ++ [{ asid, page := pageNo va, waiters := [w] }] }).addRec r).countField asid 48 (· + 1)

/-- No entry is free and the page has none: the requester waits (R299). -/
def State.pendingFull (s : State) (asid : Nat) (va : VAddr) : Bool :=
  decide (16384 ≤ s.xlat.pending.length) && !(s.xlat.pending.any fun p => p.is asid (pageNo va))

/-! ### The save area of a task (R310, R311) [log 16] -/

/-- The kind of a record (R216). -/
def State.recKind (s : State) (asid : Nat) (rec : VAddr) : Nat := bitsOf (s.recGet asid rec 0 8) 9 8

/-- The save area of a record (R216, R310). -/
def State.saveAt (s : State) (id : TaskId) : VAddr := BitVec.ofNat 55 (s.recGet id.asid id.record 72 8)

/-- The members of a gang have one save area between them, and each gets back what was kept of it; any other task has its own [log 16]. -/
def State.ownArea (s : State) (id : TaskId) : Bool := decide (s.recKind id.asid id.record ≠ 2)

/-- The byte at an offset of a section whose contents the manual names and whose coding it does not give: an unspecified function of the task's state and of its boxes [log 3, log 16]. -/
opaque sectionByte : TaskState → List (Nat × List (BitVec 128)) → Nat → Byte

/-- Some bytes of the save area whose coding the manual does not give (R310). -/
def codedBytes (t : TaskState) (mail : List (Nat × List (BitVec 128))) (off n : Nat) : List Byte := (List.range n).map fun i => sectionByte t mail (off + i)

/-- The save area holds a task's save, and no gang's: completions that come after the save change it (R311). -/
def State.areaOf (s : State) (v : Saved) : Bool := !v.ended && s.ownArea v.task

/-- The small registers in a task's save area, written again after a completion has changed them (R311); where that fails, the state kept of the task still has them. -/
def State.pokeSmall (s : State) (v : Saved) : State :=
  if s.areaOf v then
    match s.agentPut v.task.asid 4 (s.saveAt v.task + 0x440) (codedBytes v.t v.mail 0x440 256) with
    | .ok s1 => s1
    | .error _ => s
  else s

/-- The small registers of a task that is saved, in its save area (R311). -/
def State.pokeTask (s : State) (id : TaskId) : State := forEach (s.sched.saved.filter fun v => decide (v.task = id)) (fun v s => s.pokeSmall v) s

/-! ### Tags and domain barriers (R184, R208) -/

/-- One tag's bit. -/
def tagBit (t : BitVec 6) : Word := BitVec.ofNat 64 (2 ^ t.toNat)

/-- Taking a free tag clears its bits and holds it (R184). -/
def Completion.take (c : Completion) (t : BitVec 6) : Completion :=
  { c with ctb := c.ctb &&& ~~~(tagBit t), cte := c.cte &&& ~~~(tagBit t), held := c.held ||| tagBit t }

/-- A tag completes: its ctb bit, its cte bit if `bad`, and it is free (R18, R184). -/
def Completion.complete (c : Completion) (t : BitVec 6) (bad : Bool) : Completion :=
  { c with ctb := c.ctb ||| tagBit t, cte := if bad then c.cte ||| tagBit t else c.cte, held := c.held &&& ~~~(tagBit t) }

/-- A tag of a task completes, in its core's state, or in its saved state and its save area (R208, R311). -/
def State.completeTag (s : State) (id : TaskId) (t : BitVec 6) (bad : Bool) : State :=
  let on := s.liveCores.filter fun n => decide ((s.getCore n).mode ≠ .idle) && decide ((s.getCore n).t.id = id)
  let s1 := forEach on (fun n s => s.setCore n (let c := s.getCore n
                                                { c with t := { c.t with comp := c.t.comp.complete t bad } })) s
  (s1.modSched fun d => { d with saved := d.saved.map fun v =>
    if v.task = id then { v with t := { v.t with comp := v.t.comp.complete t bad } } else v }).pokeTask id

/-- Every member of the domain has made its n-th arrival, or has left without it (R208). The arrivals of a pod's other packages come by no packet of R323: how many each of them has made is a free choice each time it is asked [log 20]. -/
def DomBarrier.reached (b : DomBarrier) (fresh n : Nat) : Bool :=
  if b.level = 3 then (b.counts.any fun c => decide (n ≤ c.2)) && decide (n ≤ (Config.freeWord fresh 0x20000).toNat)
  else
  let have' := (b.counts.filter fun c => decide (n ≤ c.2)).length
  let left := (b.gone.filter fun m => !(b.counts.any fun c => decide (c.1 = m ∧ n ≤ c.2))).length
  decide (b.size ≤ have' + left)

/-- The tags of the generations that are complete complete OK, in whichever task holds them (R208). -/
def State.settleBarriers (s : State) : State :=
  let done := (s.sched.barriers.map fun b => b.waiting.filter fun a => b.reached s.fresh a.gen).flatten
  (forEach done (fun a s => s.completeTag a.task a.tag false) s).modSched fun d =>
    { d with barriers := d.barriers.map fun b => { b with waiting := b.waiting.filter fun a => !(b.reached s.fresh a.gen) } }

/-! ### References, eclipse and endings (R217, R220, R224, R225, R231, R309) -/

/-- The cores on which a record's task runs, with its members. -/
def State.coresOf (s : State) (asid : Nat) (rec : VAddr) : List Nat :=
  s.liveCores.filter fun n =>
    let c := s.getCore n
    decide (c.mode ≠ .idle) && decide (c.t.id.asid = asid ∧ c.t.id.record = rec)

/-- The launch port of a die (R359). -/
def State.portOf (s : State) (d : Nat) : LaunchPort := (s.mgmt.ports.toList)[d]?.getD LaunchPort.reset

def State.modPort (s : State) (d : Nat) (f : LaunchPort → LaunchPort) : State :=
  s.modMgmt fun m => { m with ports := m.ports.setIfInBounds d (f (s.portOf d)) }

/-- No engine command of the task is left (R231). -/
def TaskState.enginesIdle (t : TaskState) : Bool :=
  decide (t.me0.queue = []) && decide (t.me0.run = none) && decide (t.me1.queue = []) && decide (t.me1.run = none) &&
  decide (t.ce0.queue = []) && decide (t.ce0.run = none) && decide (t.ce0.flight = []) && decide (t.ce1.queue = []) &&
  decide (t.ce1.run = none) && decide (t.ce1.flight = []) && decide (t.haz = [])

/-- A record's end is complete: DONE is written, notify is decremented, a root task is reported to its port (R309, R359). -/
def State.finishNow (s : State) (asid : Nat) (rec : VAddr) : State :=
  match s.schedRec asid rec with
  | none => s
  | some q =>
    let s1 := if q.finish = some .done then s.recSet asid rec 0 1 stDone
              else if q.finish = some .eclipsed then s.recSet asid rec 0 1 stEclipsed
              else s
    let nt := BitVec.ofNat 55 (s1.recGet asid rec 64 8)
    let s2 := if nt = 0 then s1 else (s1.tdec asid nt 1 none).2
    let s3 := match q.port with
      | none => s2
      | some d => s2.modPort d fun p => { p with done := p.done + 1 }
    s3.modSched fun d => { d with
      recs := d.recs.filter fun r => !(r.is asid rec)
      saved := d.saved.filter fun v => !(v.ended && decide (v.task.asid = asid ∧ v.task.record = rec))
      barriers := d.barriers.filter fun b => !(decide (b.asid = asid ∧ b.level = 0 ∧ b.domain = rec.toNat / 128)) }

/-- A record owns a box, whichever of its members runs (R211). -/
def Mailbox.ownedBy (m : Mailbox) (asid : Nat) (rec : VAddr) : Bool :=
  match m.owner with
  | none => false
  | some o => decide (o.asid = asid ∧ o.record = rec)

/-- A core's boxes that a record owns are unbound, their entries discarded (R211). -/
def Core.unbindOf (c : Core) (asid : Nat) (rec : VAddr) : Core :=
  { c with mail := c.mail.map fun b => if b.ownedBy asid rec then { owner := none, entries := [] } else b }

/-- Nothing on a core names a record any longer: its boxes there are unbound, and a prefetch slot that held it is free (R211, R225, R259). -/
def Core.forgetRecord (c : Core) (asid : Nat) (rec : VAddr) : Core :=
  let c1 := c.unbindOf asid rec
  { c1 with prefetch := c1.prefetch.filter fun t => !(decide (t.asid = asid ∧ t.record = rec)) }

/-- The same on every core of the package. -/
def State.forgetRecord (s : State) (asid : Nat) (rec : VAddr) : State :=
  { s with core := s.core.forgetRecord asid rec, others := s.others.map fun e => (e.1, e.2.forgetRecord asid rec) }

/-- Engine commands of a record's task still run, though it has left its core (R231). -/
def State.commandsOf (s : State) (asid : Nat) (rec : VAddr) : Bool :=
  s.sched.saved.any fun v => v.ended && decide (v.task.asid = asid ∧ v.task.record = rec) && !v.t.enginesIdle

/-- The record's end waits for nothing more (R231, R309). -/
def State.mayFinish (s : State) (asid : Nat) (rec : VAddr) : Bool :=
  match s.schedRec asid rec with
  | none => false
  | some q => q.finish.isSome && decide (q.reds = 0) && q.live.isEmpty && !(s.commandsOf asid rec)

/-- The record ends this way; the last steps follow at once if nothing holds them (R309). -/
def State.finish (s : State) (asid : Nat) (rec : VAddr) (k : EndKind) : State :=
  let quiet := (s.coresOf asid rec).all (fun n => (s.getCore n).t.enginesIdle) && !(s.commandsOf asid rec)
  let s1 := match k with
    | .done => s
    | .eclipsed => if quiet then s.recSet asid rec 0 1 stEclipsed else s
    | .stopped => s.recSet asid rec 0 1 stStopped
  let s2 := (s1.forgetRecord asid rec).modRec asid rec fun q => { q with finish := some k, ready := false, lackAt := none }
  if s2.mayFinish asid rec then s2.finishNow asid rec else s2

def Queue.is (q : Queue) (asid : Nat) (block : VAddr) : Bool := decide (q.asid = asid ∧ q.block = block)

/-- The live queue that a handle names in a context (R209). -/
def State.heldQueue (s : State) (asid : Nat) (block : VAddr) : Option Queue := s.sched.queues.find? fun q => q.is asid block

/-- The queue whose state another package has written back into a block, if its marker is there: the manual does not give the layout, so an unspecified function of the block's bytes (R209, R314, R315) [log 3, log 15]. -/
opaque queueFrom : List Byte → Option Queue

/-- A queue of a context that has come from another package, read from its creation block (R209, R315) [log 15]. -/
def State.blockQueue (s : State) (asid : Nat) (block : VAddr) : Option Queue :=
  if s.sched.contexts.any fun c => decide (c.asid = asid) && c.moved then
    match s.agentRead none asid block 64 with
    | .error _ => none
    | .ok bs =>
      let n := leNat bs
      (queueFrom bs).map fun q => { q with asid, block, base := bitsOf n 54 0, lgent := bitsOf n 68 64, slot := bitsOf n 78 72, scope := bitsOf n 81 80,
                                           ncons := bitsOf n 85 82 }
  else none

/-- The live queue of a block (R209): one that the context holds here, or one that came with it (R315). -/
def State.liveQueue (s : State) (asid : Nat) (block : VAddr) : Option Queue :=
  match s.heldQueue asid block with
  | some q => some q
  | none => s.blockQueue asid block

/-- A live queue changes; one that came with its context is held here from then on. -/
def State.modQueue (s : State) (asid : Nat) (block : VAddr) (f : Queue → Queue) : State :=
  s.modSched fun d => { d with queues :=
    if (s.heldQueue asid block).isSome then modFirst (fun q => q.is asid block) f d.queues else d.queues ++ ((s.blockQueue asid block).map f).toList }

/-- A queue that has got a token back: a slot is free, and leaves the queue, once every cursor has returned its token (R210). -/
def Queue.giveBack (q : Queue) (cursor seq : Nat) : Queue :=
  let es := q.entries.map fun e => if e.seq = seq then { e with returned := cursor :: e.returned } else e
  { q with entries := es.filter fun e => decide (e.returned.length < q.ncons) }

/-- Spill pages whose entries are all free, and that no push fills, are credited back (R210). -/
def State.creditSpill (s : State) : State :=
  s.modSched fun d =>
    { d with spill := d.spill.filter fun p =>
        d.queues.any fun q => q.is p.asid p.queue && q.entries.any fun e => decide (e.page = some p.page) }

/-- A queue token goes back (R210). -/
def State.returnToken (s : State) (asid : Nat) (k : Token) : State := (s.modQueue asid k.queue fun q => q.giveBack k.cursor k.seq).creditSpill

/-- A gang member leaves the gang's domain barrier (R208). -/
def State.leaveGang (s : State) (id : TaskId) : State :=
  (s.modSched fun d =>
    { d with barriers := d.barriers.map fun b =>
        if b.asid = id.asid ∧ b.level = 0 ∧ b.domain = id.record.toNat / 128 then { b with gone := id.member :: b.gone } else b }).settleBarriers

/-- The commands that an engine of a task still holds, queued or under way. -/
def TaskState.heldSeqs (t : TaskState) : List Nat :=
  let me (m : MatEngine) : List Nat := m.queue.map (·.seq) ++ ((m.run.filter fun r => r.ended.isNone).map (·.cmd.seq)).toList
  let ce (m : CopyEngine) : List Nat := m.queue.map (·.seq) ++ (m.run.map (·.cmd.seq)).toList
  me t.me0 ++ me t.me1 ++ ce t.ce0 ++ ce t.ce1

/-- What still runs of a saved task: its commands that made their last access, and its collectives; those in the save area go with it (R311). -/
def TaskState.leftover (t : TaskState) : TaskState :=
  let me (m : MatEngine) : MatEngine := { m with queue := [], run := m.run.filter fun r => r.ended.isSome }
  let ce (m : CopyEngine) : CopyEngine := { m with queue := [], run := none }
  { t with me0 := me t.me0, me1 := me t.me1, ce0 := ce t.ce0, ce1 := ce t.ce1, tokens := [], refs := [],
           haz := t.haz.filter fun h => !(t.heldSeqs.contains h.seq) }

/-- A saved task of a record that ends leaves its commands in flight, if it has any (R231). -/
def Saved.leave (v : Saved) (asid : Nat) (f : VAddr) : Option Saved :=
  if v.task.asid = asid ∧ v.task.record = f ∧ v.ended = false then
    (if v.t.leftover.enginesIdle then none else some { v with t := v.t.leftover, ended := true, waits := none, deliver := none })
  else some v

/-- The saved state of a record's members is discarded, but for their commands in flight: their tokens go back, and they no longer count among its members; answers the references they held (R210, R225, R231). -/
def State.dropSavedOf (s : State) (asid : Nat) (f : VAddr) : State × List VAddr :=
  let sv := s.sched.saved.filter fun v => decide (v.task.asid = asid ∧ v.task.record = f) && !v.ended
  let s1 := forEach (sv.map fun v => v.t.tokens).flatten (fun k s => s.returnToken asid k) s
  let s2 := s1.modSched fun d =>
    { d with saved := d.saved.filterMap fun v => v.leave asid f,
             recs := modFirst (fun q => q.is asid f) (fun q => { q with live := q.live.filter fun m => !(sv.any fun v => decide (v.task.member = m)) }) d.recs }
  (forEach sv (fun v s => s.leaveGang v.task) s2, (sv.map fun v => v.t.refs).flatten)

/-- One reference to a future is dropped: its consumer count falls; a future that is not DONE and has no consumer left is eclipsed (R224, R225). Answers the references that the eclipsed task held. -/
def State.dropRef (s : State) (asid : Nat) (f : VAddr) : State × List VAddr :=
  let cons := s.recGet asid f 28 4 - 1
  let s1 := s.recSet asid f 28 4 cons
  let st := s1.recGet asid f 0 1
  if cons ≠ 0 ∨ st = stDone ∨ st = stEclipsed ∨ st = stStopped then (s1, [])
  else
    let q := s1.dropSavedOf asid f
    let refs := q.2 ++ ((q.1.schedRec asid f).map (·.refs)).getD []
    let s2 := q.1.modRec asid f fun q => { q with refs := [] }
    if st = stRunning then
      (forEach (s2.coresOf asid f) (fun n s => s.onCore n fun s => s.modSys fun y => { y with ecl := true }) s2, refs)
    else ((s2.modRec asid f fun q => { q with live := [] }).finish asid f .eclipsed, refs)

/-- Drop references in order, and the references of the tasks that this eclipses (R217, R225); the fuel bounds the chain. -/
def State.dropRefs (s : State) (asid : Nat) (fuel : Nat) (fs : List VAddr) : State :=
  match fuel, fs with
  | 0, _ => s
  | _, [] => s
  | n + 1, f :: r =>
    let q := s.dropRef asid f
    q.1.dropRefs asid n (r ++ q.2)

/-- Every reference there can be: 16 a record, and those given. -/
def State.refFuel (s : State) (fs : List VAddr) : Nat := 17 * (s.sched.recs.length + 1) + fs.length

/-- Free what the task on the current core holds: tags, tokens, mailbox bindings, stream buffers (R139, R210, R211, R220, R225, R231). -/
def State.freeHeld (s : State) : State :=
  let id := s.core.t.id
  let s1 := forEach s.core.t.tokens (fun k s => s.returnToken id.asid k) s
  let s2 := (s1.modCore fun c => { c.unbindOf id.asid id.record with
      loading := c.loading.map fun l => if (l.tag.map (·.1)) = some id then { l with tag := none } else l }).modSched fun d =>
    { d with barriers := d.barriers.map fun b => { b with waiting := b.waiting.filter fun a => !decide (a.task = id) } }
  (s2.modT fun t => { t with tokens := [], comp := { ctb := 0, cte := 0, held := 0, rq := [] },
                             streams := .replicate _ [] }).leaveGang id

/-- Drop every reference the task on the current core holds (R217). -/
def State.dropHeld (s : State) : State :=
  let id := s.core.t.id
  let fs := s.core.t.refs
  (s.modT fun t => { t with refs := [] }).dropRefs id.asid (s.refFuel fs) fs

/-- The weight of an energy class (R260). -/
def classWeight (c : Nat) : Nat :=
  match c with
  | 0 => 0 | 1 => 1 | 2 => 2 | _ => 4

def State.clusterOf (s : State) (k : Nat) : Cluster := s.power.clusters.toList[k]?.getD Cluster.reset

def State.modCluster (s : State) (k : Nat) (f : Cluster → Cluster) : State :=
  s.modPower fun p => { p with clusters := p.clusters.setIfInBounds k (f (s.clusterOf k)) }

/-! ### Writing back the L1 (R8, R203, R240) -/

/-- The network interface of the current core as a source engine (R324). -/
def State.netEng (s : State) : Nat := 1152 + s.cur

/-- The dirty bytes of a part of 16 as runs: offset in the line and bytes. -/
def L1Line.partRuns (l : L1Line) (j : Nat) : List (Nat × List Byte) := l.dirtyRuns.filter fun r => decide (r.1 / 16 = j)

/-- The bytes of a part of 16 that are not dirty, among those from its first dirty byte on. -/
def L1Line.partSkip (l : L1Line) (from' n : Nat) : List Nat := (List.range n).filter fun k => !(l.dirty.getLsbD (from' + k))

/-- Write one 16-byte part's dirty bytes: at their home here, or as one WRITE packet (R131, R240, R247, R330). -/
def State.writeBackPart (s : State) (l : L1Line) (j : Nat) : State :=
  match l.partRuns j with
  | [] => s
  | r :: rest =>
    let pa := 64 * l.line + r.1
    let va := BitVec.ofNat 55 (64 * l.va + r.1)
    match l.pkg with
    | none => s.homeWritePart l.key va pa (64 * l.line) (r :: rest)
    | some p =>
      let last := (rest.getLast?).getD r
      let n := last.1 + last.2.length - r.1
      if s.fabric.lost.contains p then s.kind4 s.core.t.id s.cur 7 7 0xFFFF true .peerLost 0 va
      else s.sendMasked { type := 0, tc := 0, eng := s.netEng, dst := p, asid := s.core.t.id.asid, key := l.key, pa, len := n,
                          payload := l.slice r.1 n } (l.partSkip r.1 n)

/-- Write back one line's dirty bytes, one write per 16-byte part (R131, R240). -/
def State.writeBackLine (s : State) (l : L1Line) : State := forEach (List.range 4) (fun j s => s.writeBackPart l j) s

/-- The line that a READ under way would bring, as an L1 line. -/
def Fill.line' (f : Fill) : L1Line :=
  { pkg := some f.pkg, line := f.line, key := f.key, data := 0, present := 0, dirty := 0, poison := 0, va := f.va }

/-- A line whose write-backs another package's full flow holds up (R324). -/
def State.lineStuck (s : State) (l : L1Line) : Bool :=
  match l.pkg with
  | none => false
  | some p =>
    decide (l.dirty ≠ 0) && !(s.fabric.lost.contains p) &&
    !(s.flowRoom s.netEng p 0 ((List.range 4).filter fun j => !(l.partRuns j).isEmpty).length)

/-- Write back some lines; answers those that must wait for their flow as well (R324). -/
def State.writeBackEach (s : State) (ls : List L1Line) : State × List L1Line :=
  ls.foldl (fun (q : State × List L1Line) l => if q.1.lineStuck l then (q.1, q.2 ++ [l]) else (q.1.writeBackLine l, q.2)) (s, [])

/-- Write back the lines a test selects, and drop them or keep them clean (R240); a line that must wait for its flow stays as it is (R324). -/
def State.writeBack (s : State) (sel : L1Line → Bool) (drop : Bool) : State :=
  let q := s.writeBackEach (s.core.l1.filter sel)
  let gone (l : L1Line) : Bool := sel l && !(q.2.any fun o => decide (o.pkg = l.pkg ∧ o.line = l.line))
  q.1.modCore fun c => { c with l1 := if drop then c.l1.filter fun l => !gone l
                                      else c.l1.map fun l => if gone l then { l with dirty := 0 } else l,
                                fills := if drop then c.fills.map fun f => if sel f.line' then { f with keep := false } else f else c.fills }

/-- Drop the whole L1 after writing it back (R8, R203, R240). -/
def State.flushL1 (s : State) : State := s.writeBack (fun _ => true) true

/-- Some line of the L1 waits for its flow (R324). -/
def State.writesStuck (s : State) : Bool := s.core.l1.any s.lineStuck

/-! ### Leaving a core -/

/-- The current core reaches its drain point: the task switch writes back and drops its L1, and its cluster's load falls (R8, R259, R260). -/
def State.drainPoint (s : State) (m : CoreMode) : State :=
  let w := classWeight s.core.t.sys.eclass.toNat
  (s.flushL1.modCluster (coreCluster s.cur) fun k => { k with load := k.load - w }).modCore fun c => { c with mode := m }

/-- A member of a record's task leaves for good; the last one ends the record (R220). -/
def State.memberEnds (s : State) (id : TaskId) (k : EndKind) : State :=
  let s1 := s.modRec id.asid id.record fun q => { q with live := q.live.filter (· ≠ id.member) }
  match s1.schedRec id.asid id.record with
  | none => s1
  | some q => if q.live.isEmpty then s1.finish id.asid id.record k else s1

/-- The engines of a task with nothing in them. -/
def TaskState.noEngines (t : TaskState) : TaskState := { t with me0 := .reset, me1 := .reset, ce0 := .reset, ce1 := .reset, haz := [] }

/-- What a task that has been stopped leaves on its core: a paused matrix call goes on (R171, R231). -/
def TaskState.unpaused (t : TaskState) : TaskState :=
  let f (m : MatEngine) : MatEngine := { m with run := m.run.map fun r => { r with paused := false } }
  { t with me0 := f t.me0, me1 := f t.me1 }

/-- The task on the current core leaves it for good: the engine commands that still run do so beside the core's next task (R231, R309) [log 51]. -/
def State.leaveCommands (s : State) : State :=
  let t := s.core.t
  if t.enginesIdle then s
  else
    (s.modSched fun d => { d with saved := d.saved ++ [{ task := t.id, t := t.unpaused, mail := [], reason := .none, fault := none, deliver := none,
                                                         waits := none, pad := [], core := s.cur, time := s.now, ended := true }] }).modT
      fun t => t.noEngines

/-- Stop the task on the current core (R231): nothing more issues, what it holds is freed, a kind-3 record is queued, and the record's end follows. -/
def State.stopTask (s : State) (e : Exc) (epc : VAddr) : State :=
  let id := s.core.t.id
  let s1 := (s.recSet id.asid id.record 0 1 stStopped)
  let s2 := s1.freeHeld.dropHeld
  let s3 := (s2.stopRec id e epc).leaveCommands.drainPoint .idle
  s3.memberEnds id .stopped

end Sys2Proof.Machine
end

