-- ==== Sys2Proof/Machine/Flags.lean ====
section
/-! DEFINITION. Clamping, shifting down, the stochastic generator, saturation counts, census, sticky flags, and the Mirror signature (R4, R34, R99 to R107, R144). -/

namespace Sys2Proof.Machine

/-- x clamped to n signed bits (R4). -/
def satS (n : Nat) (x : Int) : Int := max (-(2 ^ (n - 1) : Int)) (min (2 ^ (n - 1) - 1 : Int) x)
/-- x clamped to n unsigned bits (R4). -/
def satU (n : Nat) (x : Int) : Int := max 0 (min (2 ^ n - 1 : Int) x)
/-- floor(x / 2^k) (R4). -/
def asr (x : Int) (k : Nat) : Int := x.fdiv (2 ^ k : Int)
/-- The signed value of the low n bits of a natural number. -/
def sgn (n : Nat) (v : Nat) : Int := if v % 2 ^ n < 2 ^ (n - 1) then (v % 2 ^ n : Nat) else ((v % 2 ^ n : Nat) : Int) - (2 ^ n : Nat)
/-- The n-bit two's-complement pattern of an integer. -/
def pat (n : Nat) (x : Int) : Nat := (x % (2 ^ n : Int)).toNat

/-- Leading zero bits of an n-bit value (R66, R107). -/
def clzNat (n v : Nat) : Nat :=
  match n with
  | 0 => 0
  | k + 1 => if v / 2 ^ k % 2 = 1 then 0 else 1 + clzNat k v

/-- cls(x) at width n: leading bits equal to the sign, minus 1 (R4). -/
def clsInt (n : Nat) (x : Int) : Nat :=
  let v := pat n x
  (if v / 2 ^ (n - 1) % 2 = 1 then clzNat n (2 ^ n - 1 - v) else clzNat n v) - 1

/-- One bits of an n-bit value (R66). -/
def popNat (n v : Nat) : Nat :=
  match n with
  | 0 => 0
  | k + 1 => v / 2 ^ k % 2 + popNat k v

/-- The headroom h(q) of a stored value (R107): signed formats by cls, UINT16 by leading zeros capped at 15. -/
def headroom (n : Nat) (unsigned : Bool) (q : Int) : Nat := if unsigned then min 15 (clzNat n (pat n q)) else clsInt n q

/-- The random word of a lane (R101). -/
def rnd (seed c : Word) (l : Nat) : Nat :=
  let z := (seed.toNat + c.toNat * 2 ^ 8 + l) % 2 ^ 64
  let z := Nat.xor z (z / 2 ^ 30) * 0xBF58476D1CE4E5B9 % 2 ^ 64
  let z := Nat.xor z (z / 2 ^ 27) * 0x94D049BB133111EB % 2 ^ 64
  Nat.xor z (z / 2 ^ 31)

/-- sd(x, k, mode, l), with the random word of the lane (R99). -/
def sd (x : Int) (k mode : Nat) (r : Nat) : Int :=
  if k = 0 then x
  else
    match mode with
    | 0 => asr x k
    | 1 =>
      let q := asr x k
      let m := x - q * 2 ^ k
      if m > 2 ^ (k - 1) ∨ (m = 2 ^ (k - 1) ∧ q % 2 = 1) then q + 1 else q
    | 2 => if 0 ≤ x then asr (x + 2 ^ (k - 1)) k else -(asr (-x + 2 ^ (k - 1)) k)
    | _ => asr (x + ((r % 2 ^ k : Nat) : Int)) k

/-- One byte of the CRC-16 of R34. -/
def crc16Byte (c : BitVec 16) (b : Byte) : BitVec 16 :=
  (List.range 8).foldl (fun (c : BitVec 16) _ => if c.getLsbD 15 then (c <<< 1) ^^^ 0x1021#16 else c <<< 1)
    (c ^^^ (b.zeroExtend 16 <<< 8))

/-- The signature after some words (R34). -/
def crc16Words (c : BitVec 16) (ws : List Code) : BitVec 16 :=
  ws.foldl (fun c w =>
    crc16Byte (crc16Byte (crc16Byte (crc16Byte c (w.extractLsb' 0 8)) (w.extractLsb' 8 8)) (w.extractLsb' 16 8)) (w.extractLsb' 24 8)) c

/-- A field of a scale slot as TSRD reads it: exp sign-extended, the others zero-extended (R14, R230). -/
def ScaleSlot.field (t : ScaleSlot) (f : BitVec 6) : Word :=
  match f.toNat with
  | 0 => t.exp.signExtend 64
  | 1 => t.census.zeroExtend 64
  | 2 => t.satc.zeroExtend 64
  | 3 => t.satth.zeroExtend 64
  | 4 => t.cb.extractLsb' 0 64
  | 5 => t.cb.extractLsb' 64 64
  | _ => t.bsa.zeroExtend 64

/-- The 64 bytes of a scale slot in a save area: its fields by index, 8 bytes each (R14, R310) [log 16]. -/
def ScaleSlot.bytes (t : ScaleSlot) : List Byte := ((List.range 8).map fun i => leBytes 8 (if i < 7 then (t.field (BitVec.ofNat 6 i)).toNat else 0)).flatten

/-- A scale slot from its 64 bytes (R14, R310) [log 16]. -/
def slotOf (bs : List Byte) : ScaleSlot :=
  let w := (wordsOf 8 7 bs).toArray
  let f (i n : Nat) : BitVec n := BitVec.ofNat n (w.getD i 0)
  { exp := f 0 8, census := f 1 6, satc := f 2 32, satth := f 3 32, cb := f 5 64 ++ f 4 64, bsa := f 6 55 }

/-- satc + n, stopping at 0xFFFF_FFFF (R14, R104). -/
def ScaleSlot.count (t : ScaleSlot) (n : Nat) : ScaleSlot := { t with satc := BitVec.ofNat 32 (min (t.satc.toNat + n) 0xFFFFFFFF) }

/-- census := min(census, h) (R107). -/
def ScaleSlot.record (t : ScaleSlot) (h : Nat) : ScaleSlot := { t with census := BitVec.ofNat 6 (min t.census.toNat h) }

/-- The trap condition of a scale slot (R105). -/
def ScaleSlot.exceeds (t : ScaleSlot) : Bool := decide (t.satth ≠ 0) && decide (t.satc > t.satth)

/-- Apply counts and census values to the task's scale slots (R15). -/
def TaskState.applyCounts (t : TaskState) (sats census : List (BitVec 6 × Nat)) : TaskState :=
  let a := sats.foldl (fun f e => filePut f e.1 ((fileGet f e.1).count e.2)) t.ts
  { t with ts := census.foldl (fun f e => filePut f e.1 ((fileGet f e.1).record e.2)) a }

/-- Counts and census values that an engine command adds as it completes: a far load that is undone keeps them (R15, R31). -/
def TaskState.engineCounts (t : TaskState) (sats census : List (BitVec 6 × Nat)) (tests : List (BitVec 3 × BitVec 6)) : TaskState :=
  let add (f : File 6 ScaleSlot) : File 6 ScaleSlot := ({ t with ts := f }.applyCounts sats census).ts
  { t with ts := add t.ts, satPend := t.satPend ++ tests,
           sb := { t.sb with far := t.sb.far.map fun f =>
             { f with undo := { f.undo with ts := add f.undo.ts, satPend := f.undo.satPend ++ tests } } } }

/-- The bundle in issue counts n saturations against a slot; they are added when it completes (R15, R104). -/
def State.countSat (s : State) (t : BitVec 6) (n : Nat) : State :=
  if n = 0 then s
  else s.modBundle fun b => { b with sats := b.sats ++ [(t, n)], satSlots := b.satSlots ++ [(BitVec.ofNat 3 b.slot, t)] }

/-- The bundle in issue reports a census value (R107). -/
def State.census (s : State) (t : BitVec 6) (h : Nat) : State := s.modBundle fun b => { b with census := b.census ++ [(t, h)] }

/-- The counter value that the next consuming slot of the bundle uses (R102). -/
def State.rndCounter (s : State) : Word := s.core.srctr + BitVec.ofNat 64 s.core.bundle.random

/-- A slot of the bundle has consumed random bits (R102). -/
def State.useRandom (s : State) : State := s.modBundle fun b => { b with random := b.random + 1 }

/-- Set sticky flags of sys.vflags (R20, R144). -/
def State.setVflags (s : State) (m : BitVec 2) : State := s.modSys fun y => { y with vflags := y.vflags ||| m }

/-- sys.segstate as the open segment gives it (R22). -/
def Segment.pack (g : Segment) : BitVec 32 :=
  0#2 ++ (if g.unchk then 1#1 else 0#1) ++ (if g.isOpen then 1#1 else 0#1) ++ g.crc ++ g.count

/-- The Mirror state that sys.segstate and the values kept beside it describe (R22, R91). -/
def unpackSegment (w : BitVec 32) (k : KeptSegment) : Segment :=
  { count := w.extractLsb' 0 12, crc := w.extractLsb' 12 16, isOpen := w.getLsbD 28, unchk := w.getLsbD 29,
    expCount := k.expCount, expSig := k.expSig, scw := k.scw }

end Sys2Proof.Machine
end

