-- ==== Sys2Proof/Machine/Operands.lean ====
section
/-! DEFINITION. Every operand form: scalar, vector and predicate registers as they stood before the bundle (R10, R11, R12, R30, R39, R58). -/

namespace Sys2Proof.Machine

/-- The physical register of a vector name (R11). -/
def physV (vrb : BitVec 4) (n : BitVec 5) : BitVec 5 :=
  if n.toNat < 16 then n else BitVec.ofNat 5 (16 + (n.toNat - 16 + 16 - vrb.toNat) % 16)

/-- The operand values as the registers stand; a register whose last result has not landed gives a free value (R58) [log 8]. -/
def State.operands (s : State) : Operands :=
  let b := s.core.t.sb
  { x := Vector.ofFn fun i => if b.cyc < b.landX[i] then Config.freeWord s.fresh i else s.core.t.x[i],
    v := Vector.ofFn fun i => if b.cyc < b.landV[i] then Config.freeVec s.fresh i else s.core.t.v[i],
    p := Vector.ofFn fun i => if b.cyc < b.landP[i] then Config.freePred s.fresh i else s.core.t.p[i],
    ts := s.core.t.ts, sys := s.core.t.sys, vrb := s.core.t.loop.vrb, niarb := s.core.t.niarb, fparb := s.mgmt.fparb }

/-- A scalar operand; x0 reads as zero (R10). -/
def State.rdX (s : State) (r : BitVec 6) : Word := if r = 0 then 0 else fileGet s.core.old.x r

/-- A scalar operand named in a five-bit field, x0 to x31 (R39). -/
def State.rdS (s : State) (r : BitVec 5) : Word := s.rdX (r.zeroExtend 6)

/-- A scalar operand pair, low register first (R72, R212). -/
def State.rdPair (s : State) (r : BitVec 6) : BitVec 128 := s.rdX (r + 1) ++ s.rdX r

/-- A predicate operand; p0 reads all ones (R12). -/
def State.rdP (s : State) (r : BitVec 4) : Pred := if r = 0 then BitVec.allOnes 256 else fileGet s.core.old.p r

/-- A vector operand, under the rotation (R11). -/
def State.rdV (s : State) (n : BitVec 5) : VecReg := fileGet s.core.old.v (physV s.core.old.vrb n)

/-- The guard of an S, M or C slot: lane 0 (R30). -/
def State.guard (s : State) (g : BitVec 4) : Bool := (s.rdP g).getLsbD 0

/-- Element width in bits and bytes, and lanes in a register (R3, R39). -/
def Width.bits (w : Width) : Nat :=
  match w with
  | .byte => 8 | .half => 16 | .word => 32 | .dword => 64
def Width.bytes (w : Width) : Nat :=
  match w with
  | .byte => 1 | .half => 2 | .word => 4 | .dword => 8
def Width.lanes (w : Width) : Nat :=
  match w with
  | .byte => 256 | .half => 128 | .word => 64 | .dword => 32

/-- Lane l of width n bits of a register, unsigned (R95). -/
def lane (n : Nat) (v : VecReg) (l : Nat) : Nat := (v.extractLsb' (n * l) n).toNat

/-- Lane l, signed. -/
def laneS (n : Nat) (v : VecReg) (l : Nat) : Int := (v.extractLsb' (n * l) n).toInt

/-- A lane's activity: the guard bit of its lowest byte lane (R12, R30). -/
def active (w : Width) (g : Pred) (l : Nat) : Bool := g.getLsbD (Width.bytes w * l)

/-- A register built from its lanes' values, each taken modulo 2^n, lane 0 lowest. -/
def vecOf (n : Nat) (ls : List Nat) : VecReg := BitVec.ofNat 2048 (ls.foldr (fun x acc => x % 2 ^ n + 2 ^ n * acc) 0)

/-- A predicate from one bit per element: the element's byte lanes all hold its bit (R12). -/
def predOf (bytes : Nat) (bs : List Bool) : Pred :=
  BitVec.ofNat 256 (bs.foldr (fun b acc => (if b then 2 ^ bytes - 1 else 0) + 2 ^ bytes * acc) 0)

/-- Lanes of a vb operand: a vector register's, or the low bits of a scalar register in every lane (R39, R112). -/
def State.opLane (s : State) (n : Nat) (o : VOpnd) (l : Nat) : Nat :=
  match o with
  | .v r => lane n (s.rdV r) l
  | .x r => (s.rdS r).toNat % 2 ^ n

end Sys2Proof.Machine
end

