-- ==== Sys2Proof/Machine/Ops.lean ====
section
/-! DEFINITION. The named operations over registers and memory that the meanings share: guarded effects, writes with their latency, core loads and stores, waits, taking an exception and returning from one (R10 to R12, R58 to R60, R74, R231, R232). -/

namespace Sys2Proof.Machine

/-- The outcome type of every meaning. -/
abbrev Out := Host.Outcome State Fault Refusal

/-! ### Writing registers -/

/-- A later writer of the same register: the earlier request's coordinates no longer stay (R58, R93). -/
def NxtReq.cancel (q : NxtReq) (r : BitVec 6) : NxtReq := if q.d = r then { q with d := 0 } else q

/-- Write a scalar register with latency n; a write to x0 is discarded (R10, R58). -/
def State.setX (s : State) (r : BitVec 6) (v : Word) (n : Nat) : State :=
  if r = 0 then s
  else s.modT fun t =>
    { t with x := filePut t.x r v,
             sb := { t.sb with landX := filePut t.sb.landX r (t.sb.cyc + n), nxt := t.sb.nxt.map fun q => q.cancel r } }

/-- Write a scalar register named in a five-bit field. -/
def State.setS (s : State) (r : BitVec 5) (v : Word) (n : Nat) : State := s.setX (r.zeroExtend 6) v n

/-- Write a register pair, low half in the even register; the x0 half is discarded (R72, R212). -/
def State.setPair (s : State) (r : BitVec 6) (v : BitVec 128) (n : Nat) : State :=
  (s.setX r (v.extractLsb' 0 64) n).setX (r + 1) (v.extractLsb' 64 64) n

/-- Write a predicate, visible from the next bundle; p0 is never written (R12, R87). -/
def State.setP (s : State) (r : BitVec 4) (v : Pred) (n : Nat) : State :=
  if r = 0 then s
  else s.modT fun t => { t with p := filePut t.p r v, sb := { t.sb with landP := filePut t.sb.landP r (t.sb.cyc + n) } }

/-- Write a vector register, under the rotation (R11). -/
def State.setV (s : State) (r : BitVec 5) (v : VecReg) (n : Nat) : State :=
  s.modT fun t => { t with v := filePut t.v (physV s.core.old.vrb r) v,
                           sb := { t.sb with landV := filePut t.sb.landV (physV s.core.old.vrb r) (t.sb.cyc + n) } }

/-- The poisoned register-file words that a write of some byte lanes of a physical register leaves: those it does not replace whole (R146, R307). -/
def notRenewed (ph : BitVec 5) (m : Pred) (l : List Nat) : List Nat :=
  l.filter fun w => !(decide (w / 32 = ph.toNat) && decide (m.extractLsb' (8 * (w % 32)) 8 = 0xFF#8))

/-- A write of the byte lanes of a mask to a vector register clears the poison of the words it replaces (R307). -/
def State.renewV (s : State) (r : BitVec 5) (m : Pred) : State :=
  s.modT fun t => { t with regPoison := notRenewed (physV s.core.old.vrb r) m t.regPoison }

/-- The current content of a vector register, which inactive lanes keep (R30). -/
def State.curV (s : State) (r : BitVec 5) : VecReg := fileGet s.core.t.v (physV s.core.old.vrb r)

/-- The bits of a predicate's byte lanes spread over a register: every byte whose bit is set is all ones. -/
def byteMask (p : Pred) : VecReg :=
  BitVec.ofNat 2048 ((List.range 256).foldr (fun i acc => (if p.getLsbD i then 255 else 0) + 256 * acc) 0)

/-- Merge a result into a register's old value under a mask of byte lanes (R30). -/
def mergeV (old new : VecReg) (m : Pred) : VecReg := (new &&& byteMask m) ||| (old &&& ~~~(byteMask m))

/-- An effect that happens only with lane 0 of the guard set (R30). -/
def State.when (s : State) (g : BitVec 4) (f : State → State) : Out := .next (if s.guard g then f s else s)

/-! ### Holding a bundle (R88) -/

/-- The bundle waits before it issues: one stall cycle, nothing done (R88). -/
def State.hold (s : State) : State :=
  { s with core := { s.core with stallc := s.core.stallc + 1, bundle := { s.core.bundle with held := true } } }

/-- A bounded wait: an eclipse or a preemption request ends it (R88, R226, R270). -/
def State.waitHere (s : State) : State :=
  { s with core := { s.core with stallc := s.core.stallc + 1, bundle := { s.core.bundle with held := true, bounded := true } } }

/-! ### Taking an exception (R31, R60, R231) -/

/-- A loaded value sign-extended from n bits, 0 for none (R71, R212). -/
def signFrom (n : Nat) (v : Word) : Word := if n = 0 then v else BitVec.ofInt 64 (sgn n v.toNat)

/-- Bytes of a far result that have arrived, put in their place (R59). -/
def FarVal.put (f : FarVal) (place : Nat) (bs : List Byte) : FarVal :=
  let n := leNat bs * 2 ^ (8 * place)
  match f with
  | .x d v => .x d (v ||| BitVec.ofNat 64 n)
  | .pair d v => .pair d (v ||| BitVec.ofNat 128 n)
  | .vec ph v m => .vec ph (v ||| BitVec.ofNat 2048 n) m
  | .pred d v m => .pred d (v ||| BitVec.ofNat 256 n) m
  | .fget d v p ok => .fget d v p ok

/-- The poisoned words left when a word of some scalar registers is replaced (R307). -/
def freshX (ds : List (BitVec 6)) (l : List Nat) : List Nat := l.filter fun w => !(ds.any fun d => decide (w = 1024 + d.toNat))

/-- The poisoned words left when the lanes of a mask of a predicate are replaced (R307). -/
def freshP (d : BitVec 4) (m : Pred) (l : List Nat) : List Nat :=
  l.filter fun w => !(decide (1088 ≤ w ∧ (w - 1088) / 4 = d.toNat) && decide (m.extractLsb' (64 * (w % 4)) 64 = BitVec.allOnes 64))

/-- The register-file words that a far result replaces whole lose their poison. -/
def FarVal.fresh (f : FarVal) (l : List Nat) : List Nat :=
  match f with
  | .x d _ => freshX [d] l
  | .pair d _ => freshX [d, d + 1] l
  | .vec ph _ m => notRenewed ph m l
  | .pred d _ m => freshP d m l
  | .fget d _ p ok => freshP p (BitVec.allOnes 256) (freshX (if ok then [d, d + 1] else [d]) l)

/-- One scalar register of a snapshot. -/
def Undo.putX (u : Undo) (d : BitVec 6) (v : Word) : Undo :=
  if d = 0 then u else { u with x := filePut u.x d v, landX := filePut u.landX d 0 }

/-- One predicate of a snapshot. -/
def Undo.putP (u : Undo) (d : BitVec 4) (v m : Pred) : Undo :=
  if d = 0 then u else { u with p := filePut u.p d ((v &&& m) ||| (fileGet u.p d &&& ~~~m)), landP := filePut u.landP d 0 }

/-- Every lane of a predicate holds one relation's result (R67). -/
def predAll (b : Bool) : Pred := if b then BitVec.allOnes 256 else 0

/-- A far result of an earlier bundle lands in a later bundle's snapshot too (R31, R59). -/
def Undo.land (u : Undo) (f : FarOp) : Undo :=
  let u := { u with regPoison := f.val.fresh u.regPoison }
  match f.val with
  | .x d v => u.putX d (signFrom f.ext v)
  | .pair d v => (u.putX d (v.extractLsb' 0 64)).putX (d + 1) (v.extractLsb' 64 64)
  | .vec ph v m => { u with v := filePut u.v ph (mergeV (fileGet u.v ph) v m), landV := filePut u.landV ph 0 }
  | .pred d v m => u.putP d v m
  | .fget d v p ok =>
    let u1 := u.putX d (v.extractLsb' 0 64)
    (if ok then u1.putX (d + 1) (v.extractLsb' 64 64) else u1).putP p (predAll ok) (BitVec.allOnes 256)

/-- Land a far result (R59, R212). -/
def State.landFar (s : State) (f : FarOp) : State :=
  let s := s.modT fun t => { t with regPoison := f.val.fresh t.regPoison }
  match f.val with
  | .x d v => s.setX d (signFrom f.ext v) 0
  | .pair d v => s.setPair d v 0
  | .vec ph v m => s.modT fun t => { t with v := filePut t.v ph (mergeV (fileGet t.v ph) v m),
                                            sb := { t.sb with landV := filePut t.sb.landV ph t.sb.cyc } }
  | .pred d v m => s.setP d ((v &&& m) ||| (fileGet s.core.t.p d &&& ~~~m)) 0
  | .fget d v p ok => (if ok then s.setPair d v 0 else s.setX d (v.extractLsb' 0 64) 0).setP p (predAll ok) 0

/-- The far results with the one at place k gone, landed in the snapshots of those issued after it. -/
def landAtPlace (k : Nat) (f : FarOp) (l : List FarOp) : List FarOp :=
  l.take k ++ (l.drop (k + 1)).map fun g => { g with undo := g.undo.land f }

/-- The far result at place k lands (R59). -/
def State.landNth (s : State) (k : Nat) : State :=
  match nth? s.core.t.sb.far k with
  | none => s
  | some f => (s.modSb fun b => { b with far := landAtPlace k f b.far }).landFar f

/-- The far results whose bytes are there land, in issue order; the list bounds how often (R60). -/
def State.landReady (s : State) (l : List FarOp) : State :=
  match l with
  | [] => s
  | _ :: r =>
    match s.core.t.sb.far.findIdx? (fun f => f.parts.isEmpty) with
    | none => s
    | some k => (s.landNth k).landReady r

/-- Every result due from issued bundles lands, but for those that a queue or another package still owes (R59, R60, R93). -/
def State.settle (s : State) : State :=
  (s.landReady s.core.t.sb.far).modSb fun b => { b with landX := b.landX.map (min b.cyc), landV := b.landV.map (min b.cyc), landP := b.landP.map (min b.cyc) }

/-- Results are still due (R60). -/
def State.resultsDue (s : State) : Bool := !(s.core.t.sb.far.isEmpty && s.core.t.sb.nxt.isEmpty)

/-- The core's cycles as its own instructions see them: issue cycles and stalls (R59, R92). -/
def Core.clock (c : Core) : Nat := c.t.sb.cyc + c.stallc.toNat

/-- The code word at an address of the lit plane's code; none outside it (R364). -/
def Core.codeAt (c : Core) (a : VAddr) : Option Code :=
  let off := (a - c.lit.base).toNat
  if off < c.lit.clen ∧ off % 4 = 0 then some (mapGet 0 c.lit.code (off / 4)) else none

/-- The word at an address is a segment control word (R33). -/
def Core.isScw (c : Core) (a : VAddr) : Bool :=
  match c.codeAt a with
  | some w => decide (w.extractLsb' 28 4 = 0xE#4)
  | none => false

/-- The trap entry of the running task's context, where trap entry reaches it (R231): the lit plane holds image timg and the word at byte offset toff is an SCW. -/
def State.handler (s : State) : Option VAddr :=
  let asid := s.core.t.id.asid
  let a := s.core.lit.base + BitVec.ofNat 55 (s.desc asid 60 4)
  if s.descOf asid ≠ none ∧ s.core.lit.state = .loaded ∧ s.core.lit.image = BitVec.ofNat 32 (s.desc asid 56 4) ∧ s.core.isScw a = true then
    some a
  else none

/-- What the fault registers hold of a fault (R20, R231). -/
def Exc.regs (e : Exc) (epc : VAddr) (img : BitVec 32) : FaultRegs :=
  { epc, fcause := BitVec.ofNat 8 e.cause.code, faddr := e.addr, fslot := e.slot, fopnd := e.opnd, felem := e.elem, fimg := img }

/-- The open segment as trap entry leaves it in sys.segstate: for MIRROR never checked again (R90, R91). -/
def Segment.atTrap (g : Segment) (c : Cause) : Segment := if c = .mirror then { g with unchk := true } else g

/-- sys.epc at the faulting bundle, for a task that is saved there, with th 0 or 1 (R31, R299). -/
def State.noteEpc (s : State) (epc : VAddr) : State := s.modSys fun y => { y with faults := { y.faults with epc } }

/-- The fault registers and sys.segstate as trap entry leaves them, with the values kept beside it (R43, R91, R231, R266). -/
def State.noteFault (s : State) (e : Exc) (epc : VAddr) : State :=
  let g := s.core.t.seg.atTrap e.cause
  (s.modSys fun y => { y with faults := e.regs epc s.core.lit.image, segstate := g.pack }).modT fun t =>
    { t with kept := { expCount := g.expCount, expSig := g.expSig, scw := g.scw } }

/-- Trap entry, steps 2 to 4 of R231: the fault registers, segstate and the values kept beside it, th, and the handler; with th set already, or no handler to reach, the task is stopped. -/
def State.enterTrap (s : State) (e : Exc) (epc : VAddr) : State :=
  let t := s.core.t
  if t.sys.th then s.stopTask e epc
  else
    let s1 := s.noteFault e epc
    match s.handler with
    | none => s1.stopTask e epc
    | some a => (s1.modSys fun y => { y with th := true }).modT fun t => { t with seg := Segment.reset, pc := a }

/-- Trap entry waits for the results due, then enters (R60, R231); what a queue still owes keeps it waiting. -/
def State.trapOrWait (s : State) (e : Exc) (epc : VAddr) : State :=
  let s1 := s.settle
  if s1.resultsDue then s1.modCore fun c => { c with pendTrap := some (e, epc) } else s1.enterTrap e epc

/-- The copy engines' requests for permits that are on their way are withdrawn (R195, R281). -/
def TaskState.withdraw (t : TaskState) : TaskState :=
  let f (q : CopyEngine) : CopyEngine := { q with run := q.run.map fun r => { r with asked := none } }
  { t with ce0 := f t.ce0, ce1 := f t.ce1 }

/-- A parked request is a command's of this task (R281). -/
def PermitFor.of (p : PermitFor) (id : TaskId) : Bool :=
  match p with
  | .command task _ _ => decide (task = id)
  | .packet .. => false

/-- The task's save begins (R311); its parked permit requests are withdrawn (R281). -/
def State.startSave (s : State) (reason : Cause) (fault : Option Exc) : State :=
  let s1 := s.settle.modSched fun d => { d with permits := d.permits.filter fun q => !q.who.of s.core.t.id }
  s1.modCore fun c => { c with mode := .saving reason fault none, t := c.t.withdraw }

/-- A core access missed: its page's pending entry and record, and the save of its task (R31, R299, R304). -/
def State.takeMiss (s : State) (e : Exc) (epc : VAddr) : State :=
  let id := s.core.t.id
  if s.pendingFull id.asid e.addr then s.hold
  else
    let r : FaultRec := { s.blankRec id.asid with cause := Cause.translation.code, slot := e.slot.toNat, opnd := e.opnd.toNat,
                                                  elem := e.elem.toNat, wr := e.wr, bundle := epc, va := e.addr }
    ((s.missOn id.asid e.addr (.task id) r).noteEpc epc).startSave .translation (some e)

/-- A FEATURE_ABSENT fault outside a handler: the fault registers are written, the record needs the units, and the task is saved and requeued (R43, R266). -/
def State.takeFeature (s : State) (e : Exc) (epc : VAddr) : State :=
  let s := s.noteFault e epc
  let id := s.core.t.id
  let w := s.recGet id.asid id.record 0 8
  let f := Nat.lor (bitsOf w 21 16) e.units.toNat
  let s1 := s.recSet id.asid id.record 0 8 (w - bitsOf w 21 16 * 2 ^ 16 + f * 2 ^ 16)
  let others := (s1.coresOf id.asid id.record).filter (· ≠ s.cur)
  (forEach others (fun n s => s.onCore n fun s => s.modSys fun y => { y with preq := y.preq ||| 2 }) s1).startSave .featureAbsent none

/-- TAKING AN EXCEPTION: a miss saves the task (R299), FEATURE_ABSENT outside a handler requeues it (R266), every other cause enters the trap handler (R231). -/
def State.takeException (s : State) (e : Exc) (epc : VAddr) : State :=
  match e.cause with
  | .translation => s.takeMiss e epc
  | .featureAbsent => if s.core.t.sys.th then s.trapOrWait e epc else s.takeFeature e epc
  | .mirror => (s.glowEvent (coreDie s.cur) 2 (coreCode s.cur) e.addr.toNat (s.core.t.seg.atTrap .mirror).pack.toNat).trapOrWait e epc
  | _ =>
    match e.rec4 with
    | some st => (s.kind4 s.core.t.id s.cur e.slot.toNat e.opnd.toNat e.elem.toNat e.wr st epc e.addr).trapOrWait e epc
    | none => s.trapOrWait e epc

/-- The bundle that asked issues, faults or leaves: answers are dropped, and requests still on their way no longer count. -/
def Core.forgetAsks (c : Core) : Core :=
  { c with asks := (c.asks.filter fun q => decide (q.val = none)).map fun q => { q with live := false } }

/-- A slot raises a precise fault: the bundle is nullified, sys.epc is its header (R31). -/
def State.raise (s : State) (e : Exc) : State :=
  ((s.takeException e s.core.bundle.header).modBundle fun b => { b with exc := some e }).modCore fun c => c.forgetAsks

/-- The fault of the slot that executes now, without an address (R31). -/
def State.fault (s : State) (c : Cause) (opnd : BitVec 3) : State :=
  s.raise { cause := c, slot := BitVec.ofNat 3 s.core.bundle.slot, opnd }

/-- The fault of the slot that executes now, with an address. -/
def State.faultAt (s : State) (c : Cause) (opnd : BitVec 3) (a : VAddr) : State :=
  s.raise { cause := c, slot := BitVec.ofNat 3 s.core.bundle.slot, opnd, addr := a }

/-- RETURN FROM AN EXCEPTION, after the handler's segment has closed: th := 0, the Mirror state from sys.segstate, on at sys.epc (R91, R232). -/
def State.returnFromTrap (s : State) : State :=
  (s.modSys fun y => { y with th := false }).modT fun t =>
    { t with seg := unpackSegment t.sys.segstate t.kept, pc := t.sys.faults.epc }

/-! ### Core accesses (R71, R74, R130, R240) -/

/-- How a core access fails or must wait. -/
inductive AccErr where
  | exc (e : Exc)
  | wait
  /-- a wait that has sent a request -/
  | held (s : State)
  deriving DecidableEq, Repr

/-- Bytes loaded: far results land later (R59). -/
structure Loaded where
  bytes : List Byte
  far : Bool
  /-- bytes that another package has still to send; they stand as 0 in `bytes` -/
  parts : List FarPart
  state : State

/-- The access of the executing slot as a fault: cause, field, address, element. -/
def State.accExc (s : State) (c : Cause) (opnd : BitVec 3) (va : VAddr) (elem : BitVec 16) (wr : Bool) (rec4 : Option Status) : Exc :=
  { cause := c, addr := va, slot := BitVec.ofNat 3 s.core.bundle.slot, opnd, elem, wr, rec4 }

/-- The fault of an address that has no translation or is refused (R74, R235, R296). For POISON by a poisoned page-table read the manual names no operand field; the model gives the address field, as for the other faults of the walk [log 57]. -/
def State.xlExc (s : State) (x : Xl) (opnd : BitVec 3) (va : VAddr) (elem : BitVec 16) (wr : Bool) : Exc :=
  match x with
  | .ok _ => s.accExc .none opnd va elem wr none
  | .miss => s.accExc .translation opnd va elem wr none
  | .refused => s.accExc .protection opnd va elem wr none
  | .forbidden => s.accExc .protection opnd va elem wr (some .protection)
  | .poisoned => s.accExc .poison opnd va elem wr (some .poison)

/-- An access to a package declared lost: PROTECTION, with its kind-4 record's status PEER_LOST (R330). -/
def State.lostExc (s : State) (opnd : BitVec 3) (va : VAddr) (elem : BitVec 16) (wr : Bool) : Exc :=
  s.accExc .protection opnd va elem wr (some .peerLost)

/-- What a live request of the bundle has brought. -/
def Core.asked (c : Core) (sp : PacketSpec) : Option Ask :=
  c.asks.find? fun q => q.live && decide (q.pkg = sp.dst ∧ q.pa = sp.pa ∧ q.len = sp.len ∧ q.atomic = decide (sp.type = 3))

/-- Ask another package, or take its answer; the bundle is held meanwhile (R203, R324, R330) [log 28]. -/
def State.askFor (s : State) (sp : PacketSpec) (poison : Exc) : Except AccErr (List Byte × State) :=
  match s.core.asked sp with
  | some q =>
    match q.val with
    | some bs => if q.bad then .error (.exc poison) else .ok (bs, s)
    | none => .error .wait
  | none =>
    if s.flowFull sp.eng sp.dst sp.tc then .error .wait
    else
      let q := (s.srcFlow sp.eng sp.dst sp.tc).next
      .error (.held ((s.send sp none none).modCore fun c =>
        { c with asks := c.asks ++ [{ pkg := sp.dst, pa := sp.pa, len := sp.len, seq := q, atomic := decide (sp.type = 3), live := true, val := none, bad := false }] }))

/-- The line that leaves the L1 when one is put into it: the line longest unused, once the other lines fill its 1,024 places (R240) [log 62]. -/
def State.l1Victim (s : State) (pkg : Option Nat) (line : Nat) : Option L1Line :=
  let others := s.core.l1.filter fun o => !(decide (o.pkg = pkg ∧ o.line = line))
  if others.length < 1024 then none else others.getLast?

/-- The L1 has no place for a line, since the write-backs of the one that would leave wait for their flow (R324). -/
def State.l1Stuck (s : State) (l : Loc) : Bool := ((s.l1Victim l.pkg (l.pa / 64)).map s.lineStuck).getD false

/-- Put a line into the L1, whose 1,024 lines of 64 bytes it fills: the line longest unused goes first, written back (R240) [log 62]. -/
def State.l1Add (s : State) (n : L1Line) : State :=
  let s1 := match s.l1Victim n.pkg n.line with
    | none => s
    | some o => s.writeBack (fun q => decide (q.pkg = o.pkg ∧ q.line = o.line)) true
  s1.modCore fun c => { c with l1 := l1Put c.l1 n }

/-- The READ that brings a line of another package: one already on its way, or a new one; none while its flow is full (R240, R324). -/
def State.askFill (s : State) (l : Loc) (p : Nat) (va : VAddr) (pref : Bool) : Option (BitVec 32 × State) :=
  match s.core.fills.find? fun f => f.keep && decide (f.pkg = p ∧ f.line = l.pa / 64) with
  | some f => some (f.seq, s)
  | none =>
    if s.flowFull s.netEng p 0 then none
    else
      let q := (s.srcFlow s.netEng p 0).next
      some (q, (s.send { type := 1, tc := 0, eng := s.netEng, dst := p, asid := s.core.t.id.asid, key := l.key, pa := l.pa / 64 * 64,
                         len := 64 } none none).modCore fun c =>
        { c with fills := c.fills ++ [{ pkg := p, line := l.pa / 64, key := l.key, seq := q, va := va.toNat / 64, keep := true, pref }] })

/-- The bytes of a line that the L1 holds, or of those only the ones that the core has stored and not yet written back. -/
def heldBytes (o : Option L1Line) (own : Bool) (i n : Nat) : List (Option Byte) :=
  (List.range n).map fun k =>
    match o with
    | none => none
    | some l => if (if own then l.dirty else l.present).getLsbD (i + k) then some (lineByte l.data (i + k)) else none

/-- Load bytes of another package: from the L1 where it holds them all, or by a READ of their line, whose bytes come later, under the core's own dirty bytes; a bundle whose effects go beyond the registers waits for them (R31, R59, R74, R240, R330) [log 31]. -/
def State.loadRemote (s : State) (l : Loc) (p : Nat) (va : VAddr) (n : Nat) (opA opP : BitVec 3) (elem : BitVec 16) : Except AccErr Loaded :=
  let i := l.pa % 64
  let o := l1Find s.core.l1 l
  let all := heldBytes o false i n
  let bs := heldBytes o true i n
  if all.all (·.isSome) then
    if ((o.map (·.poison)).getD 0) &&& maskBits i n ≠ 0 then .error (.exc (s.accExc .poison opP va elem false none))
    else .ok { bytes := all.map (·.getD 0), far := true, parts := [], state := s.noteTlb s.core.t.id.asid va }
  else if s.fabric.lost.contains p then .error (.exc (s.lostExc opA va elem false))
  else
    match (s.noteTlb s.core.t.id.asid va).askFill l p va false with
    | none => .error .wait
    | some (q, s1) =>
      if s.core.bundle.firm then .error (.held s1)
      else .ok { bytes := bs.map (·.getD 0), far := true, state := s1,
                 parts := [{ pkg := p, seq := q, off := i, bytes := bs, places := [0], exc := s.accExc .none opA va elem false none }] }

/-- Load n bytes that lie in one aligned 64-byte line, as the core's pipeline (R71, R74, R240): `opA` is the field of the address, `opP` the field named for poison. -/
def State.load (s : State) (va : VAddr) (n : Nat) (opA opP : BitVec 3) (elem : BitVec 16) : Except AccErr Loaded :=
  let asid := s.core.t.id.asid
  match s.xlate (some s.cur) asid va needR with
  | .ok l =>
    if s.ownWindow va then
      if s.mem.poisoned l.pa n then .error (.exc (s.accExc .poison opP va elem false none))
      else .ok { bytes := s.mem.bytes l.key l.pa n, far := false, parts := [], state := s }
    else
      match l.pkg with
      | some p => s.loadRemote l p va n opA opP elem
      | none =>
        let i := l.pa % 64
        match (l1Find s.core.l1 l).filter fun o => decide (o.present &&& maskBits i n = maskBits i n) with
        | some o =>
          if o.poison &&& maskBits i n ≠ 0 then .error (.exc (s.accExc .poison opP va elem false none))
          else .ok { bytes := o.slice i n, far := true, parts := [], state := s.noteTlb asid va }
        | none =>
          let o := s.l1Fetch l va
          if o.poison &&& maskBits i n ≠ 0 then .error (.exc (s.accExc .poison opP va elem false none))
          else if s.l1Stuck l then .error .wait
          else .ok { bytes := o.slice i n, far := true, parts := [], state := ((s.noteTlb asid va).activate l.pa).l1Add o }
  | x => .error (.exc (s.xlExc x opA va elem false))

/-- Dirty bytes put into a line that may be there already. -/
def L1Line.putDirty (o : L1Line) (i : Nat) (bs : List Byte) : L1Line :=
  let m := maskBits i bs.length
  { o with data := linePut o.data i bs, present := o.present ||| m, dirty := o.dirty ||| m, poison := o.poison &&& ~~~m }

/-- A line of which nothing is there. -/
def blankLine (l : Loc) (va : VAddr) : L1Line :=
  { pkg := l.pkg, line := l.pa / 64, key := l.key, data := 0, present := 0, dirty := 0, poison := 0, va := va.toNat / 64 }

/-- Bytes that a vector store writes to the own scratchpad: the address they are reached by, their home, and the bytes. -/
structure OwnWrite where
  va : VAddr
  loc : Loc
  bytes : List Byte

/-- One element of a vector store: into the L1 line as dirty bytes, or, for the own scratchpad, among the bytes of the store under way (R130, R131, R240). -/
def State.storeInto (s : State) (own : List OwnWrite) (va : VAddr) (bs : List Byte) (opA : BitVec 3) (elem : BitVec 16) :
    Except AccErr (State × List OwnWrite) :=
  match s.xlate (some s.cur) s.core.t.id.asid va needW with
  | .ok l =>
    if s.ownWindow va then .ok (s, own ++ [{ va, loc := l, bytes := bs }])
    else if s.l1Stuck l then .error .wait
    else
      .ok ((s.noteTlb s.core.t.id.asid va).l1Add (((l1Find s.core.l1 l).getD (blankLine l va)).putDirty (l.pa % 64) bs), own)
  | x => .error (.exc (s.xlExc x opA va elem true))

/-- The scratchpad bytes of a vector store are written; each part of 16 bytes of which some are discarded leaves a kind-4 record (R74, R130, R131, R307) [log 60]. -/
def State.storeOwn (s : State) (own : List OwnWrite) : State :=
  let ws := own.map fun w => (w.loc.pa, w.bytes)
  let lost := own.filter fun w => s.mem.discards ws w.loc.pa w.bytes.length
  let parts := lost.foldl (fun (acc : List OwnWrite) w => if acc.any fun q => decide (q.loc.pa / 16 = w.loc.pa / 16) then acc else acc ++ [w]) []
  forEach parts (fun w s => s.poisonedWrite w.va w.loc.pa)
    { s with mem := s.mem.storeAll ((own.head?.map fun w => w.loc.key).getD 0) ws }

/-- Store bytes that lie in one aligned 64-byte line, as the core's pipeline: into the scratchpad, or into the L1 line as dirty bytes (R71, R240). -/
def State.store (s : State) (va : VAddr) (bs : List Byte) (opA : BitVec 3) (elem : BitVec 16) : Except AccErr State :=
  let asid := s.core.t.id.asid
  match s.xlate (some s.cur) asid va needW with
  | .ok l =>
    if s.ownWindow va then .ok (s.homeWrite l.key l.pa va bs)
    else if s.l1Stuck l then .error .wait
    else .ok ((s.noteTlb asid va).l1Add (((l1Find s.core.l1 l).getD (blankLine l va)).putDirty (l.pa % 64) bs))
  | x => .error (.exc (s.xlExc x opA va elem true))

/-- A failed access ends its slot: the precise fault, or a wait. -/
def State.accFail (s : State) (e : AccErr) : State :=
  match e with
  | .exc x => s.raise x
  | .wait => s.hold
  | .held s1 => s1.hold

/-- The core's cached copy of some bytes goes, but for the bytes it stored itself (R240, R241). -/
def Core.dropClean (c : Core) (l : Loc) (n : Nat) : Core :=
  { c with l1 := c.l1.map fun o => if o.sameAs l then { o with present := o.present &&& (~~~(maskBits (l.pa % 64) n) ||| o.dirty) } else o,
           fills := c.fills.map fun f => if some f.pkg = l.pkg ∧ f.line = l.pa / 64 then { f with keep := false } else f }

/-- The core's own stored bytes laid over bytes from their home (R75, R240). -/
def ownBytes (o : Option L1Line) (i : Nat) (bs : List Byte) : List Byte :=
  match o with
  | none => bs
  | some l => (bs.zip (List.range bs.length)).map fun q => if l.dirty.getLsbD (i + q.2) then lineByte l.data (i + q.2) else q.1

/-- Read n bytes of one line at their home, the core's own stored bytes laid over (R240, R241). -/
def State.homeRead (s : State) (va : VAddr) (n : Nat) (opA opP : BitVec 3) : Except AccErr (List Byte × State) :=
  let asid := s.core.t.id.asid
  match s.xlate (some s.cur) asid va needR with
  | .ok l =>
    match l.pkg with
    | none =>
      let o := s.l1Fetch l va
      if s.ownWindow va then
        if s.mem.poisoned l.pa n then .error (.exc (s.accExc .poison opP va 0xFFFF false none)) else .ok (s.mem.bytes l.key l.pa n, s)
      else if o.poison &&& maskBits (l.pa % 64) n ≠ 0 then .error (.exc (s.accExc .poison opP va 0xFFFF false none))
      else .ok (o.slice (l.pa % 64) n, ((s.noteTlb asid va).activate l.pa).modCore fun c => c.dropClean l n)
    | some p =>
      if s.fabric.lost.contains p then .error (.exc (s.lostExc opA va 0xFFFF false))
      else
        match s.askFor { type := 1, tc := 0, eng := s.netEng, dst := p, asid, key := l.key, pa := l.pa, len := n }
            (s.accExc .poison opP va 0xFFFF false none) with
        | .error e => .error e
        | .ok q => .ok (ownBytes (l1Find s.core.l1 l) (l.pa % 64) q.1, (q.2.noteTlb asid va).modCore fun c => c.dropClean l n)
  | x => .error (.exc (s.xlExc x opA va 0xFFFF false))

/-- A far result is on its way, with what it still waits for (R59). -/
def State.addFarParts (s : State) (val : FarVal) (exc : Exc) (ext : Nat) (parts : List FarPart) : State :=
  s.modT fun t => { t with sb := { t.sb with far := t.sb.far ++ [{ val, parts, exc, ext, undo := s.core.undo, firm := false }] } }

/-- A far result is on its way (R59). -/
def State.addFar (s : State) (val : FarVal) (exc : Exc) (ext : Nat) : State := s.addFarParts val exc ext []

/-- Deliver a loaded scalar, sign-extended from `ext` bits: after 4 cycles from the scratchpad, scoreboarded from anywhere else (R58, R59). -/
def State.deliverX (s : State) (d : BitVec 6) (l : Loaded) (e : Exc) (ext : Nat) : State :=
  let v := BitVec.ofNat 64 (leNat l.bytes)
  if l.far then s.addFarParts (.x d v) e ext l.parts else s.setX d (signFrom ext v) 4

/-- Deliver a loaded pair (R72). -/
def State.deliverPair (s : State) (d : BitVec 6) (l : Loaded) (e : Exc) : State :=
  let v := BitVec.ofNat 128 (leNat l.bytes)
  if l.far then s.addFarParts (.pair d v) e 0 l.parts else s.setPair d v 4

/-- Deliver a far scalar: scoreboarded (R59). -/
def State.deliverFar (s : State) (d : BitVec 6) (v : Word) (va : VAddr) : State :=
  s.addFar (.x d v) (s.accExc .none 1 va 0xFFFF false none) 0

/-- The operand that SCOPE, QUOTA and ERET's PROTECTION name: the manual does not state it, so a free value [log 3]. -/
def State.openOpnd (s : State) : BitVec 3 := BitVec.ofNat 3 (Config.freeWord s.fresh 0x100).toNat

/-! ### Regions and releases (R200, R202, R242) -/

/-- The bindings of an object in the running task's context (R202). -/
def State.boundTo (s : State) (obj : Word) : List Binding :=
  s.sched.bindings.filter fun b => decide (b.asid = s.core.t.id.asid) && decide (b.obj = obj)

/-- A line lies in one of the regions. -/
def lineIn (bs : List Binding) (l : L1Line) : Bool := bs.any fun b => decide (64 * l.va < b.base + b.len) && decide (b.base < 64 * l.va + 64)

/-- An object reference of a kind and identity (R200). -/
def objRef (kind id : Nat) : Word := BitVec.ofNat 64 (kind * 2 ^ 60 + id)

/-- Release an object: its regions' dirty lines reach their homes (R200, R242). -/
def State.release (s : State) (obj : Word) : State := s.writeBack (lineIn (s.boundTo obj)) false

/-- The packet carries bytes that the core's own stores wrote, and no engine's. -/
def Descriptor.ofStores (d : Descriptor) : Bool := d.owner.isNone

/-- Stores of the core that another package has not acknowledged yet: they are not performed (R200, R240, R325). -/
def State.writesDue (s : State) : Bool :=
  s.fabric.sources.any fun f => decide (f.eng = s.netEng) && f.descs.any fun d => decide (d.packet.type = 0) && d.ofStores

/-- After a release, go on once what it wrote is performed; the bundle waits meanwhile (R200, R242). -/
def State.afterWrites (s released : State) (f : State → State) : State :=
  if s.writesDue || released.writesDue || released.writesStuck then released.hold else f released

/-- After lines were written back and dropped, go on if none of them waits for its flow; the bundle waits meanwhile (R324). -/
def State.afterFlush (flushed : State) (f : State → State) : State := if flushed.writesStuck then flushed.hold else f flushed

/-- Acquire an object: its regions' lines are written back and dropped (R200, R240). -/
def State.acquire (s : State) (obj : Word) : State := s.writeBack (lineIn (s.boundTo obj)) true

/-- Release every earlier store of the task at package scope (R218 to R220). -/
def State.releaseAll (s : State) : State := s.writeBack (fun _ => true) false

/-! ### Tags (R184) -/

/-- The tag is held (R184). -/
def State.tagHeld (s : State) (t : BitVec 6) : Bool := s.core.t.comp.held.getLsbD t.toNat

end Sys2Proof.Machine
end

