-- ==== Sys2Proof/WellFormed.lean ====
section
/-! DEFINITION. Which instructions are well formed: the shapes and operand limits of R39 to R42, R12, and the ranges of an event's data. -/

namespace Sys2Proof

/-- The widths and fixed fields that each opcode allows (R39, R41, R42): where this is false the word raises ILLEGAL_INSTRUCTION. -/
def Instr.shapeOk (i : Instr) : Bool :=
  match i with
  | .vmulq _ w _ _ _ _ => w = .half ∨ w = .word
  | .vnarrow _ w _ _ _ m => w ≠ .byte ∧ (m = true → w = .word)
  | .vwiden _ w _ _ _ _ => w ≠ .dword
  | .vperm _ w _ _ _ m => m = true → w ≠ .byte
  | .mcall _ _ _ p e => p = true → e = false
  | .mcallg _ _ _ p e => p = true → e = false
  | .mstat _ k _ => k ≠ 3
  | .aadd _ z _ _ _ => z ≠ 3 ∧ z ≠ 2
  | .amin _ z _ _ _ => z ≠ 3 ∧ z ≠ 2
  | .amax _ z _ _ _ => z ≠ 3 ∧ z ≠ 2
  | .aminu _ z _ _ _ => z ≠ 3 ∧ z ≠ 2
  | .amaxu _ z _ _ _ => z ≠ 3 ∧ z ≠ 2
  | .aand _ z _ _ _ => z ≠ 3 ∧ z ≠ 2
  | .aor _ z _ _ _ => z ≠ 3 ∧ z ≠ 2
  | .axor _ z _ _ _ => z ≠ 3 ∧ z ≠ 2
  | .aswap _ z _ _ _ => z ≠ 3
  | .acas _ z _ _ _ => z ≠ 3
  | .aadds _ z _ _ _ => z ≠ 3 ∧ z ≠ 2
  | .redadd _ z _ _ => z ≠ 3 ∧ z ≠ 2
  | .redmin _ z _ _ => z ≠ 3 ∧ z ≠ 2
  | .redmax _ z _ _ => z ≠ 3 ∧ z ≠ 2
  | .redadds _ z _ _ => z ≠ 3 ∧ z ≠ 2
  | .redor _ z _ _ => z ≠ 3 ∧ z ≠ 2
  | _ => true

/-- The numbers of the system registers (R20). -/
def sysRegKnown (r : BitVec 12) : Bool :=
  decide (r.toNat ≤ 0x016) || (decide (0x020 ≤ r.toNat) && decide (r.toNat ≤ 0x02B))

/-- The operand limits checked at decode (R12, R20, R37, R38, R41 and the class chapters): the sys.fopnd of the first operand outside its limits; the word then raises ILLEGAL_OPERAND. -/
def Instr.operandFault (i : Instr) : Option (BitVec 3) :=
  match i with
  | .peq _ p _ _ | .pne _ p _ _ | .plt _ p _ _ | .pge _ p _ _ | .pltu _ p _ _ | .pgeu _ p _ _ => if p = 0 then some 0 else none
  | .ptox _ _ _ k => if 3 < k then some 2 else none
  | .xtop _ p _ k => if p = 0 then some 0 else if 3 < k then some 2 else none
  | .slli _ _ _ m | .srli _ _ _ m | .srai _ _ _ m => if 63 < m then some 2 else none
  | .ldq _ t _ _ | .stq _ t _ _ => if t.getLsbD 0 then some 0 else none
  | .loop _ k _ l | .loopi _ k _ l | .loopp _ k _ _ l =>
      if k = 3 then some 0 else if l = 0 ∨ l = 1 ∨ 256 < l then some 2 else none
  | .lexit _ k => if k = 3 then some 0 else none
  | .vcmpeq _ _ p _ _ | .vcmpne _ _ p _ _ | .vcmplt _ _ p _ _ | .vcmple _ _ p _ _ | .vcmpltu _ _ p _ _
  | .vcmpleu _ _ p _ _ | .vldp _ p _ _ => if p = 0 then some 0 else none
  | .vnarrow _ _ _ a _ _ | .vq4p _ _ a => if a = 31 then some 1 else none
  | .vperm _ _ _ a _ m | .vslide _ _ _ a _ m => if m = true ∧ a = 31 then some 1 else none
  | .vopt _ d a _ => if 29 < d then some 0 else if a = d ∨ a = d + 1 ∨ a = d + 2 then some 1 else none
  | .mzero _ a z _ => if z = true ∧ a ≠ 0 then some 1 else none
  | .erw _ _ n | .erd _ _ n => if 17 < n then some 2 else none
  | .bind _ _ _ b => if b.getLsbD 0 then some 2 else none
  | .fence _ k | .ldacq _ _ _ k | .strel _ _ _ k | .feat _ _ k => if 3 < k then some 2 else none
  | .mbsend _ _ _ b => if b.getLsbD 0 then some 2 else none
  | .mbrecv _ d p k => if d.getLsbD 0 then some 0 else if p = 0 then some 1 else if 7 < k then some 2 else none
  | .mbbind _ _ k => if 7 < k then some 2 else none
  | .dbar _ k _ => if 3 < k then some 1 else none
  | .fget _ d _ p => if d.getLsbD 0 then some 0 else if p = 0 then some 2 else none
  | .tend _ a => if a.getLsbD 0 then some 1 else none
  | .tyield _ k => if 1 < k then some 2 else none
  | .rnext _ d => if d.getLsbD 0 then some 0 else none
  | .tsrd _ _ _ f | .tswr _ _ _ f => if 6 < f then some 2 else none
  | .srd _ _ r | .swr _ _ r => if sysRegKnown r then none else some 4
  | .aswap _ z d _ b | .acas _ z d _ b =>
      if z = 2 ∧ d.getLsbD 0 = true then some 0 else if z = 2 ∧ b.getLsbD 0 = true then some 2 else none
  | _ => none

/-- The ranges of an event's data: 576 cores, 32 collective engines, 4 compute dies, 6 Afterglow rings, 148 ports, the last 4 of them Ethernet, 8192 ASIDs, 16-bit package identifiers. -/
def Instr.dataOk (i : Instr) : Bool :=
  match i with
  | .nop plop pd pa pb _ _ => if plop = 0 then pd = 0 ∧ pa = 0 ∧ pb = 0 else pd ≠ 0
  | .loadLand c _ _ | .returnQueueLand c _ | .matrixCommandAccept c _ | .microEnd c _ | .microNop c _ | .microSetm c _
  | .microSeti c _ | .microAddi c _ | .microBnz c _ | .microJmp c _ | .microLda c _ | .microLdb c _ | .microMac c _
  | .microZero c _ | .microScat c _ | .microAddv c _ | .microChk c _ | .microReserved c _ | .stagingLoadComplete c _ _
  | .macStepComplete c _ | .matrixCommandComplete c _ | .copyCommandStart c _ | .permitGrant c _ | .copyGranuleWrite c _
  | .copyCommandComplete c _ _ | .readyBitSet c _ | .nxtreqAnswer c | .redTranslate c | .select c | .planeLoadComplete c
  | .timeSliceExpiry c | .graceExpiry c | .saveComplete c | .eclipseReclaim c | .l1Eviction c _ => c < 576
  | .collectiveStart n | .collectiveComplete n => n < 32
  | .faultRecordWrite a | .verdictRetry a _ | .verdictTranslation a _ | .verdictProtection a _ | .verdictDrop a _
  | .imageLoadStart a _ | .taskFinish a _ => a < 8192
  | .launch d _ | .launchDrop d _ | .resume d _ => d < 4
  | .freezeSignal d o _ => d < 6 ∧ o < 6
  | .afterglowRun d _ => d < 6
  | .writePacket n _ | .readPacket n _ | .rdataPacket n _ | .atomicPacket n _ | .aresultPacket n _ | .redPacket n _
  | .chunkPacket n _ | .ackPacket n _ | .beaconPacket n _ | .probePacket n _ | .packetForward n _ | .packetAgeDiscard n _
  | .portDown n => n < 148
  | .beaconMiss n => n < 144
  | .probeSend q | .peerLostDeclare q | .lostDeclaration q => q < 65536
  | _ => true

/-- A well-formed instruction: its shape is one the encoding has, its operands are inside their limits, and an event's data are in range. -/
def Instr.wellFormed (i : Instr) : Bool :=
  i.shapeOk && i.operandFault.isNone && i.dataOk

end Sys2Proof
end

