-- ==== Sys2Proof/Decode.lean ====
section
/-! DEFINITION. The decoder of bundle headers, segment control words and slot words (R25 to R44), and the encoder written from the same tables. -/

namespace Sys2Proof

/-- Why a word is not an instruction (R33, R42, R43). -/
inductive Reject where
  /-- Class 0xD, a reserved opcode or width, or a must-be-zero field that is not zero. -/
  | illegalInstruction
  /-- A class that the slot does not accept. -/
  | illegalSlot
  /-- A header that breaks R29 or R33. -/
  | illegalBundle
  /-- An operand outside its limits; the field's sys.fopnd. -/
  | illegalOperand (fopnd : BitVec 3)
  deriving DecidableEq, Repr

/-- A bundle header (R27). -/
structure Header where
  /-- Slots present: bit 0 S, 1 V0, 2 V1, 3 M, 4 C0, 5 C1. -/
  mask : BitVec 6
  plop : BitVec 3
  pd : BitVec 4
  pa : BitVec 4
  pb : BitVec 4
  wait : BitVec 3
  rp : Bool
  deriving DecidableEq, Repr

/-- The width named by the two bits of w (R39). -/
def Width.ofCode (w : BitVec 2) : Width :=
  if w = 0#2 then .byte else if w = 1#2 then .half else if w = 2#2 then .word else .dword

/-- The two bits of w (R39). -/
def Width.code (w : Width) : BitVec 2 :=
  match w with
  | .byte => 0#2 | .half => 1#2 | .word => 2#2 | .dword => 3#2

/-- vb with its s bit (R39). -/
def vopnd (b : BitVec 5) (s : BitVec 1) : VOpnd := if s = 1#1 then .x b else .v b

def VOpnd.reg (o : VOpnd) : BitVec 5 :=
  match o with
  | .v n => n | .x n => n

def VOpnd.sbit (o : VOpnd) : BitVec 1 :=
  match o with
  | .v _ => 0#1 | .x _ => 1#1

/-- An optional scalar register in vb: present when s is 1 (R39). -/
def optX (b : BitVec 5) (s : BitVec 1) : Option (BitVec 5) := if s = 1#1 then some b else none

def optReg (o : Option (BitVec 5)) : BitVec 5 := o.getD 0#5
def optSbit (o : Option (BitVec 5)) : BitVec 1 := if o.isSome then 1#1 else 0#1
/-- A Boolean as one bit. -/
def flag (b : Bool) : BitVec 1 := if b then 1#1 else 0#1

/-- The general and coprocessor forms (R35, R40). -/
def generalWord (cls : BitVec 4) (op a b c : BitVec 6) (g : BitVec 4) : Code := cls ++ op ++ a ++ b ++ c ++ g
/-- The scalar immediate form (R36). -/
def immWord (op : BitVec 3) (d a : BitVec 6) (m : BitVec 9) (g : BitVec 4) : Code := 0x1#4 ++ op ++ d ++ a ++ m ++ g
/-- The scalar memory form (R37). -/
def memWord (op : BitVec 4) (t b : BitVec 6) (o : BitVec 8) (g : BitVec 4) : Code := 0x2#4 ++ op ++ t ++ b ++ o ++ g
/-- The control form (R38). -/
def controlWord (op : BitVec 4) (f : BitVec 20) (g : BitVec 4) : Code := 0x3#4 ++ op ++ f ++ g
/-- The vector form (R39). -/
def vectorWord (cls : BitVec 4) (op : BitVec 5) (w : BitVec 2) (d a b : BitVec 5) (s m : BitVec 1) (g : BitVec 4) : Code :=
  cls ++ op ++ w ++ d ++ a ++ b ++ s ++ m ++ g
/-- The atomic form (R41). -/
def atomicWord (z : BitVec 2) (op : BitVec 4) (d a b : BitVec 6) (g : BitVec 4) : Code := 0xC#4 ++ z ++ op ++ d ++ a ++ b ++ g

/-- The major class of a word (R25). -/
def Code.cls (w : Code) : BitVec 4 := w.extractLsb' 28 4

/-- Class 0x0 of R44 from its fields (general form); none for a reserved opcode or a must-be-zero field that is not zero (R42). -/
def readClass0 (op : BitVec 6) (a : BitVec 6) (b : BitVec 6) (c : BitVec 6) (g : BitVec 4) : Option Instr :=
  match op.toNat with
  | 0 => some (.add g a b c)
  | 1 => some (.sub g a b c)
  | 2 => some (.and g a b c)
  | 3 => some (.or g a b c)
  | 4 => some (.xor g a b c)
  | 5 => some (.andn g a b c)
  | 6 => some (.orn g a b c)
  | 7 => some (.sll g a b c)
  | 8 => some (.srl g a b c)
  | 9 => some (.sra g a b c)
  | 10 => some (.rol g a b c)
  | 11 => some (.ror g a b c)
  | 12 => some (.mul g a b c)
  | 13 => some (.mulh g a b c)
  | 14 => some (.mulhu g a b c)
  | 15 => some (.div g a b c)
  | 16 => some (.divu g a b c)
  | 17 => some (.rem g a b c)
  | 18 => some (.remu g a b c)
  | 19 => some (.min g a b c)
  | 20 => some (.max g a b c)
  | 21 => some (.minu g a b c)
  | 22 => some (.maxu g a b c)
  | 23 => some (.adds g a b c)
  | 24 => some (.subs g a b c)
  | 25 => some (.slt g a b c)
  | 26 => some (.sltu g a b c)
  | 27 => some (.seq g a b c)
  | 28 => if c = 0x0#6 then some (.clz g a b) else none
  | 29 => if c = 0x0#6 then some (.ctz g a b) else none
  | 30 => if c = 0x0#6 then some (.popc g a b) else none
  | 31 => if c = 0x0#6 then some (.brev g a b) else none
  | 32 => if c = 0x0#6 then some (.bswap g a b) else none
  | 33 => if c = 0x0#6 then some (.sextb g a b) else none
  | 34 => if c = 0x0#6 then some (.sexth g a b) else none
  | 35 => if c = 0x0#6 then some (.sextw g a b) else none
  | 36 => if a.extractLsb' 4 2 = 0x0#2 then some (.peq g (a.extractLsb' 0 4) b c) else none
  | 37 => if a.extractLsb' 4 2 = 0x0#2 then some (.pne g (a.extractLsb' 0 4) b c) else none
  | 38 => if a.extractLsb' 4 2 = 0x0#2 then some (.plt g (a.extractLsb' 0 4) b c) else none
  | 39 => if a.extractLsb' 4 2 = 0x0#2 then some (.pge g (a.extractLsb' 0 4) b c) else none
  | 40 => if a.extractLsb' 4 2 = 0x0#2 then some (.pltu g (a.extractLsb' 0 4) b c) else none
  | 41 => if a.extractLsb' 4 2 = 0x0#2 then some (.pgeu g (a.extractLsb' 0 4) b c) else none
  | 42 => if b.extractLsb' 4 2 = 0x0#2 then some (.ptox g a (b.extractLsb' 0 4) c) else none
  | 43 => if a.extractLsb' 4 2 = 0x0#2 then some (.xtop g (a.extractLsb' 0 4) b c) else none
  | 44 => if b.extractLsb' 4 2 = 0x0#2 ∧ c.extractLsb' 4 2 = 0x0#2 then some (.pcnt g a (b.extractLsb' 0 4) (c.extractLsb' 0 4)) else none
  | _ => none

/-- Class 0x1 of R44 from its fields (imm form); none for a reserved opcode or a must-be-zero field that is not zero (R42). -/
def readClass1 (op : BitVec 3) (d : BitVec 6) (a : BitVec 6) (m : BitVec 9) (g : BitVec 4) : Option Instr :=
  match op.toNat with
  | 0 => some (.addi g d a m)
  | 1 => some (.andi g d a m)
  | 2 => some (.ori g d a m)
  | 3 => some (.xori g d a m)
  | 4 => some (.slli g d a m)
  | 5 => some (.srli g d a m)
  | 6 => some (.srai g d a m)
  | 7 => some (.lih g d (a ++ m))
  | _ => none

/-- Class 0x2 of R44 from its fields (mem form); none for a reserved opcode or a must-be-zero field that is not zero (R42). -/
def readClass2 (op : BitVec 4) (t : BitVec 6) (b : BitVec 6) (o : BitVec 8) (g : BitVec 4) : Option Instr :=
  match op.toNat with
  | 0 => some (.ldb g t b o)
  | 1 => some (.ldbu g t b o)
  | 2 => some (.ldh g t b o)
  | 3 => some (.ldhu g t b o)
  | 4 => some (.ldw g t b o)
  | 5 => some (.ldwu g t b o)
  | 6 => some (.ldd g t b o)
  | 7 => some (.ldq g t b o)
  | 8 => some (.stb g t b o)
  | 9 => some (.sth g t b o)
  | 10 => some (.stw g t b o)
  | 11 => some (.std g t b o)
  | 12 => some (.stq g t b o)
  | 13 => if t = 0x0#6 then some (.prf g b o) else none
  | 14 => if t = 0x0#6 then some (.zln g b o) else none
  | _ => none

/-- Class 0x3 of R44 from its fields (control form); none for a reserved opcode or a must-be-zero field that is not zero (R42). -/
def readClass3 (op : BitVec 4) (f : BitVec 20) (g : BitVec 4) : Option Instr :=
  match op.toNat with
  | 0 => some (.br g f)
  | 1 => some (.call g f)
  | 2 => if f.extractLsb' 14 6 = 0x0#6 ∧ f.extractLsb' 0 8 = 0x0#8 then some (.jr g (f.extractLsb' 8 6)) else none
  | 3 => if f.extractLsb' 0 8 = 0x0#8 then some (.jalr g (f.extractLsb' 14 6) (f.extractLsb' 8 6)) else none
  | 4 => if f.extractLsb' 9 3 = 0x0#3 then some (.loop g (f.extractLsb' 18 2) (f.extractLsb' 12 6) (f.extractLsb' 0 9)) else none
  | 5 => some (.loopi g (f.extractLsb' 18 2) (f.extractLsb' 9 9) (f.extractLsb' 0 9))
  | 6 => some (.loopp g (f.extractLsb' 18 2) (f.extractLsb' 12 6) (f.extractLsb' 9 3) (f.extractLsb' 0 9))
  | 7 => if f.extractLsb' 0 18 = 0x0#18 then some (.lexit g (f.extractLsb' 18 2)) else none
  | _ => none

/-- Class 0x4 of R44 from its fields (vector form); none for a reserved opcode or a must-be-zero field that is not zero (R42). -/
def readClass4 (op : BitVec 5) (w : BitVec 2) (d : BitVec 5) (a : BitVec 5) (b : BitVec 5) (s : BitVec 1) (m : BitVec 1) (g : BitVec 4) : Option Instr :=
  match op.toNat with
  | 0 => if m = 0x0#1 then some (.vadd g (.ofCode w) d a (vopnd b s)) else none
  | 1 => if m = 0x0#1 then some (.vsub g (.ofCode w) d a (vopnd b s)) else none
  | 2 => if m = 0x0#1 then some (.vadds g (.ofCode w) d a (vopnd b s)) else none
  | 3 => if m = 0x0#1 then some (.vsubs g (.ofCode w) d a (vopnd b s)) else none
  | 4 => if m = 0x0#1 then some (.vaddsu g (.ofCode w) d a (vopnd b s)) else none
  | 5 => if m = 0x0#1 then some (.vsubsu g (.ofCode w) d a (vopnd b s)) else none
  | 6 => if m = 0x0#1 then some (.vmul g (.ofCode w) d a (vopnd b s)) else none
  | 7 => if m = 0x0#1 then some (.vmulh g (.ofCode w) d a (vopnd b s)) else none
  | 8 => if m = 0x0#1 then some (.vmulhu g (.ofCode w) d a (vopnd b s)) else none
  | 9 => some (.vmulq g (.ofCode w) d a (vopnd b s) (m = 1#1))
  | 10 => if m = 0x0#1 then some (.vmin g (.ofCode w) d a (vopnd b s)) else none
  | 11 => if m = 0x0#1 then some (.vmax g (.ofCode w) d a (vopnd b s)) else none
  | 12 => if m = 0x0#1 then some (.vminu g (.ofCode w) d a (vopnd b s)) else none
  | 13 => if m = 0x0#1 then some (.vmaxu g (.ofCode w) d a (vopnd b s)) else none
  | 14 => if m = 0x0#1 then some (.vand g (.ofCode w) d a (vopnd b s)) else none
  | 15 => if m = 0x0#1 then some (.vor g (.ofCode w) d a (vopnd b s)) else none
  | 16 => if m = 0x0#1 then some (.vxor g (.ofCode w) d a (vopnd b s)) else none
  | 17 => if m = 0x0#1 then some (.vandn g (.ofCode w) d a (vopnd b s)) else none
  | 18 => if m = 0x0#1 then some (.vsll g (.ofCode w) d a (vopnd b s)) else none
  | 19 => if m = 0x0#1 then some (.vsrl g (.ofCode w) d a (vopnd b s)) else none
  | 20 => if m = 0x0#1 then some (.vsra g (.ofCode w) d a (vopnd b s)) else none
  | 21 => if b = 0x0#5 ∧ s = 0x0#1 ∧ m = 0x0#1 then some (.vabs g (.ofCode w) d a) else none
  | 22 => if b = 0x0#5 ∧ s = 0x0#1 ∧ m = 0x0#1 then some (.vneg g (.ofCode w) d a) else none
  | 23 => some (.vavg g (.ofCode w) d a (vopnd b s) (m = 1#1))
  | 24 => if b = 0x0#5 ∧ s = 0x0#1 ∧ m = 0x0#1 then some (.vmov g (.ofCode w) d a) else none
  | 25 => if m = 0x0#1 then some (.vsel g (.ofCode w) d a (vopnd b s)) else none
  | 26 => if b = 0x0#5 ∧ s = 0x0#1 ∧ m = 0x0#1 then some (.vcls g (.ofCode w) d a) else none
  | 27 => if b = 0x0#5 ∧ s = 0x0#1 ∧ m = 0x0#1 then some (.vpopc g (.ofCode w) d a) else none
  | _ => none

/-- Class 0x5 of R44 from its fields (vector form); none for a reserved opcode or a must-be-zero field that is not zero (R42). -/
def readClass5 (op : BitVec 5) (w : BitVec 2) (d : BitVec 5) (a : BitVec 5) (b : BitVec 5) (s : BitVec 1) (m : BitVec 1) (g : BitVec 4) : Option Instr :=
  match op.toNat with
  | 0 => if d.extractLsb' 4 1 = 0x0#1 ∧ m = 0x0#1 then some (.vcmpeq g (.ofCode w) (d.extractLsb' 0 4) a (vopnd b s)) else none
  | 1 => if d.extractLsb' 4 1 = 0x0#1 ∧ m = 0x0#1 then some (.vcmpne g (.ofCode w) (d.extractLsb' 0 4) a (vopnd b s)) else none
  | 2 => if d.extractLsb' 4 1 = 0x0#1 ∧ m = 0x0#1 then some (.vcmplt g (.ofCode w) (d.extractLsb' 0 4) a (vopnd b s)) else none
  | 3 => if d.extractLsb' 4 1 = 0x0#1 ∧ m = 0x0#1 then some (.vcmple g (.ofCode w) (d.extractLsb' 0 4) a (vopnd b s)) else none
  | 4 => if d.extractLsb' 4 1 = 0x0#1 ∧ m = 0x0#1 then some (.vcmpltu g (.ofCode w) (d.extractLsb' 0 4) a (vopnd b s)) else none
  | 5 => if d.extractLsb' 4 1 = 0x0#1 ∧ m = 0x0#1 then some (.vcmpleu g (.ofCode w) (d.extractLsb' 0 4) a (vopnd b s)) else none
  | 6 => if s = 0x1#1 then some (.vnarrow g (.ofCode w) d a b (m = 1#1)) else none
  | 7 => if s = 0x1#1 then some (.vwiden g (.ofCode w) d a b (m = 1#1)) else none
  | 8 => if s = 0x1#1 ∧ m = 0x0#1 then some (.vshrr g (.ofCode w) d a b) else none
  | 9 => if s = 0x1#1 ∧ m = 0x0#1 then some (.vsshr g (.ofCode w) d a b) else none
  | 10 => if a = 0x0#5 ∧ s = 0x1#1 ∧ m = 0x0#1 then some (.vsplat g (.ofCode w) d b) else none
  | 11 => if s = 0x1#1 then some (.vextr g (.ofCode w) d a b (m = 1#1)) else none
  | 12 => if s = 0x1#1 ∧ m = 0x0#1 then some (.vinsr g (.ofCode w) d a b) else none
  | 13 => if a = 0x0#5 ∧ s = 0x1#1 then some (.viota g (.ofCode w) d b (m = 1#1)) else none
  | 14 => if w = 0x0#2 ∧ s = 0x1#1 then some (.vcb4 g d a b (m = 1#1)) else none
  | 15 => if w = 0x0#2 ∧ b = 0x0#5 ∧ s = 0x0#1 ∧ m = 0x0#1 then some (.vq4p g d a) else none
  | 16 => if w = 0x0#2 ∧ b = 0x0#5 ∧ s = 0x0#1 then some (.vq4u g d a (m = 1#1)) else none
  | 17 => if (s = 1#1 ∨ b = 0#5) then some (.vredadd g (.ofCode w) d a (optX b s) (m = 1#1)) else none
  | 18 => if (s = 1#1 ∨ b = 0#5) then some (.vredmax g (.ofCode w) d a (optX b s) (m = 1#1)) else none
  | 19 => if (s = 1#1 ∨ b = 0#5) then some (.vredmin g (.ofCode w) d a (optX b s) (m = 1#1)) else none
  | 20 => if m = 0x0#1 ∧ (s = 1#1 ∨ b = 0#5) then some (.vredor g (.ofCode w) d a (optX b s)) else none
  | 21 => if d = 0x0#5 ∧ (s = 1#1 ∨ b = 0#5) then some (.vtorq g (.ofCode w) a (optX b s) (m = 1#1)) else none
  | 22 => if d = 0x0#5 ∧ s = 0x1#1 then some (.vcens g (.ofCode w) a b (m = 1#1)) else none
  | _ => none

/-- Class 0x6 of R44 from its fields (vector form); none for a reserved opcode or a must-be-zero field that is not zero (R42). -/
def readClass6 (op : BitVec 5) (w : BitVec 2) (d : BitVec 5) (a : BitVec 5) (b : BitVec 5) (s : BitVec 1) (m : BitVec 1) (g : BitVec 4) : Option Instr :=
  match op.toNat with
  | 0 => if w = 0x1#2 ∧ s = 0x1#1 ∧ m = 0x0#1 then some (.vexp g d a b) else none
  | 1 => if w = 0x2#2 ∧ s = 0x1#1 ∧ m = 0x0#1 then some (.vrcp g d a b) else none
  | 2 => if w = 0x2#2 ∧ s = 0x1#1 ∧ m = 0x0#1 then some (.vrsq g d a b) else none
  | 3 => if w = 0x2#2 ∧ m = 0x0#1 then some (.vdiv g d a (vopnd b s)) else none
  | 4 => if w = 0x1#2 ∧ s = 0x1#1 ∧ m = 0x0#1 then some (.vopt g d a b) else none
  | 5 => if w = 0x3#2 then some (.vbmm g d a (vopnd b s) (m = 1#1)) else none
  | 6 => if m = 0x0#1 then some (.vpdep g (.ofCode w) d a (vopnd b s)) else none
  | 7 => if m = 0x0#1 then some (.vpext g (.ofCode w) d a (vopnd b s)) else none
  | 8 => if w = 0x3#2 ∧ m = 0x0#1 then some (.vbperm g d a (vopnd b s)) else none
  | 9 => if s = 0x0#1 then some (.vperm g (.ofCode w) d a b (m = 1#1)) else none
  | 10 => if s = 0x1#1 then some (.vslide g (.ofCode w) d a b (m = 1#1)) else none
  | 11 => if d.extractLsb' 2 3 = 0x0#3 ∧ b = 0x0#5 ∧ s = 0x0#1 ∧ m = 0x0#1 then some (.vspush g (.ofCode w) (d.extractLsb' 0 2) a) else none
  | 12 => if a.extractLsb' 2 3 = 0x0#3 ∧ b.extractLsb' 4 1 = 0x0#1 ∧ s = 0x0#1 then some (.vspop g (.ofCode w) d (a.extractLsb' 0 2) (b.extractLsb' 0 4) (m = 1#1)) else none
  | 13 => if a.extractLsb' 2 3 = 0x0#3 ∧ b = 0x0#5 ∧ s = 0x0#1 ∧ m = 0x0#1 then some (.vsflush g (.ofCode w) d (a.extractLsb' 0 2)) else none
  | 14 => if a.extractLsb' 2 3 = 0x0#3 ∧ b = 0x0#5 ∧ s = 0x0#1 ∧ m = 0x0#1 then some (.vslen g (.ofCode w) d (a.extractLsb' 0 2)) else none
  | _ => none

/-- Class 0x7 of R44 from its fields (vector form); none for a reserved opcode or a must-be-zero field that is not zero (R42). -/
def readClass7 (op : BitVec 5) (w : BitVec 2) (d : BitVec 5) (a : BitVec 5) (b : BitVec 5) (s : BitVec 1) (m : BitVec 1) (g : BitVec 4) : Option Instr :=
  match op.toNat with
  | 0 => if m = 0x0#1 ∧ (s = 1#1 ∨ b = 0#5) then some (.vld g (.ofCode w) d a (optX b s)) else none
  | 1 => if m = 0x0#1 ∧ (s = 1#1 ∨ b = 0#5) then some (.vst g (.ofCode w) d a (optX b s)) else none
  | 2 => if s = 0x1#1 ∧ m = 0x0#1 then some (.vlds g (.ofCode w) d a b) else none
  | 3 => if s = 0x1#1 ∧ m = 0x0#1 then some (.vsts g (.ofCode w) d a b) else none
  | 4 => if s = 0x0#1 then some (.vldx g (.ofCode w) d a b (m = 1#1)) else none
  | 5 => if s = 0x0#1 then some (.vstx g (.ofCode w) d a b (m = 1#1)) else none
  | 6 => if s = 0x1#1 ∧ m = 0x0#1 then some (.vldt g (.ofCode w) d a b) else none
  | 7 => if s = 0x1#1 ∧ m = 0x0#1 then some (.vstt g (.ofCode w) d a b) else none
  | 8 => if m = 0x0#1 ∧ (s = 1#1 ∨ b = 0#5) then some (.vldb g (.ofCode w) d a (optX b s)) else none
  | 9 => if w = 0x0#2 ∧ d.extractLsb' 4 1 = 0x0#1 ∧ m = 0x0#1 ∧ (s = 1#1 ∨ b = 0#5) then some (.vldp g (d.extractLsb' 0 4) a (optX b s)) else none
  | 10 => if w = 0x0#2 ∧ d.extractLsb' 4 1 = 0x0#1 ∧ m = 0x0#1 ∧ (s = 1#1 ∨ b = 0#5) then some (.vstp g (d.extractLsb' 0 4) a (optX b s)) else none
  | _ => none

/-- Class 0x8 of R44 from its fields (general form); none for a reserved opcode or a must-be-zero field that is not zero (R42). -/
def readClass8 (op : BitVec 6) (a : BitVec 6) (b : BitVec 6) (c : BitVec 6) (g : BitVec 4) : Option Instr :=
  match op.toNat with
  | 0 => if a = 0x0#6 ∧ c.extractLsb' 4 2 = 0x0#2 then some (.mpw g b (c.extractLsb' 1 3) ((c.extractLsb' 0 1) = 1#1)) else none
  | 1 => if b = 0x0#6 ∧ c.extractLsb' 4 2 = 0x0#2 then some (.mpr g a (c.extractLsb' 1 3) ((c.extractLsb' 0 1) = 1#1)) else none
  | 2 => if a = 0x0#6 ∧ c.extractLsb' 1 5 = 0x0#5 then some (.mcfg g b ((c.extractLsb' 0 1) = 1#1)) else none
  | 3 => if b = 0x0#6 ∧ c.extractLsb' 1 5 = 0x0#5 then some (.mdrain g a ((c.extractLsb' 0 1) = 1#1)) else none
  | 4 => if c.extractLsb' 2 4 = 0x0#4 then some (.mcall g a b ((c.extractLsb' 1 1) = 1#1) ((c.extractLsb' 0 1) = 1#1)) else none
  | 5 => if c.extractLsb' 2 4 = 0x0#4 then some (.mcallg g a b ((c.extractLsb' 1 1) = 1#1) ((c.extractLsb' 0 1) = 1#1)) else none
  | 6 => if a = 0x0#6 ∧ b = 0x0#6 ∧ c.extractLsb' 2 4 = 0x0#4 then some (.mspec g ((c.extractLsb' 1 1) = 1#1) ((c.extractLsb' 0 1) = 1#1)) else none
  | 7 => if a = 0x0#6 ∧ b = 0x0#6 ∧ c.extractLsb' 1 5 = 0x0#5 then some (.mcommit g ((c.extractLsb' 0 1) = 1#1)) else none
  | 8 => if a = 0x0#6 ∧ b = 0x0#6 ∧ c.extractLsb' 1 5 = 0x0#5 then some (.mdiscard g ((c.extractLsb' 0 1) = 1#1)) else none
  | 9 => if a = 0x0#6 ∧ c.extractLsb' 2 4 = 0x0#4 then some (.mzero g b ((c.extractLsb' 1 1) = 1#1) ((c.extractLsb' 0 1) = 1#1)) else none
  | 10 => if c.extractLsb' 1 5 = 0x0#5 then some (.maccld g a b ((c.extractLsb' 0 1) = 1#1)) else none
  | 11 => if c.extractLsb' 1 5 = 0x0#5 then some (.maccst g a b ((c.extractLsb' 0 1) = 1#1)) else none
  | 12 => if c.extractLsb' 2 4 = 0x0#4 then some (.mucw g a b ((c.extractLsb' 1 1) = 1#1) ((c.extractLsb' 0 1) = 1#1)) else none
  | 13 => if c.extractLsb' 2 4 = 0x0#4 then some (.mucr g a b ((c.extractLsb' 1 1) = 1#1) ((c.extractLsb' 0 1) = 1#1)) else none
  | 14 => if a = 0x0#6 ∧ b = 0x0#6 ∧ c.extractLsb' 3 3 = 0x0#3 then some (.mstat g (c.extractLsb' 1 2) ((c.extractLsb' 0 1) = 1#1)) else none
  | 15 => if b = 0x0#6 ∧ c.extractLsb' 1 5 = 0x0#5 then some (.mrpg g a ((c.extractLsb' 0 1) = 1#1)) else none
  | _ => none

/-- Class 0x9 of R44 from its fields (general form); none for a reserved opcode or a must-be-zero field that is not zero (R42). -/
def readClass9 (op : BitVec 6) (a : BitVec 6) (b : BitVec 6) (c : BitVec 6) (g : BitVec 4) : Option Instr :=
  match op.toNat with
  | 0 => if a = 0x0#6 then some (.erw g b c) else none
  | 1 => if b = 0x0#6 then some (.erd g a c) else none
  | 2 => if c.extractLsb' 2 4 = 0x0#4 then some (.cpy g a b ((c.extractLsb' 1 1) = 1#1) ((c.extractLsb' 0 1) = 1#1)) else none
  | 3 => if c.extractLsb' 2 4 = 0x0#4 then some (.cpym g a b ((c.extractLsb' 1 1) = 1#1) ((c.extractLsb' 0 1) = 1#1)) else none
  | 4 => if c.extractLsb' 1 5 = 0x0#5 then some (.cpyx g a b ((c.extractLsb' 0 1) = 1#1)) else none
  | 5 => if c.extractLsb' 2 4 = 0x0#4 then some (.cpyw g a b ((c.extractLsb' 1 1) = 1#1) ((c.extractLsb' 0 1) = 1#1)) else none
  | 6 => if c = 0x0#6 then some (.cpyc g a b) else none
  | 7 => if c = 0x0#6 then some (.coll g a b) else none
  | 8 => if c = 0x0#6 then some (.csig g a b) else none
  | _ => none

/-- Class 0xA of R44 from its fields (general form); none for a reserved opcode or a must-be-zero field that is not zero (R42). -/
def readClassA (op : BitVec 6) (a : BitVec 6) (b : BitVec 6) (c : BitVec 6) (g : BitVec 4) : Option Instr :=
  match op.toNat with
  | 0 => if c = 0x0#6 then some (.acq g a b) else none
  | 1 => if c = 0x0#6 then some (.rel g a b) else none
  | 2 => some (.bind g a b c)
  | 3 => if a = 0x0#6 ∧ c = 0x0#6 then some (.unbind g b) else none
  | 4 => if a = 0x0#6 ∧ b = 0x0#6 then some (.fence g c) else none
  | 5 => if c = 0x0#6 then some (.qmake g a b) else none
  | 6 => some (.qpush g a b c)
  | 7 => if c = 0x0#6 then some (.qpop g a b) else none
  | 8 => if a = 0x0#6 ∧ c = 0x0#6 then some (.qfree g b) else none
  | 9 => some (.mbsend g a b c)
  | 10 => if b.extractLsb' 4 2 = 0x0#2 then some (.mbrecv g a (b.extractLsb' 0 4) c) else none
  | 11 => if a = 0x0#6 then some (.mbbind g b c) else none
  | 12 => if a = 0x0#6 then some (.sbarm g b c) else none
  | 13 => some (.sbwait g a b c)
  | 14 => if c = 0x0#6 then some (.sbtst g a b) else none
  | 15 => if a = 0x0#6 then some (.dbar g b c) else none
  | 16 => if c = 0x0#6 then some (.waitany g a b) else none
  | 17 => if c = 0x0#6 then some (.waitall g a b) else none
  | 18 => if c = 0x0#6 then some (.ffr g a b) else none
  | 19 => if a = 0x0#6 ∧ c = 0x0#6 then some (.tagclr g b) else none
  | 20 => if b = 0x0#6 ∧ c = 0x0#6 then some (.rqpop g a) else none
  | 21 => some (.ldacq g a b c)
  | 22 => some (.strel g a b c)
  | 23 => if a = 0x0#6 then some (.invr g b c) else none
  | 24 => if a = 0x0#6 then some (.wbr g b c) else none
  | _ => none

/-- Class 0xB of R44 from its fields (general form); none for a reserved opcode or a must-be-zero field that is not zero (R42). -/
def readClassB (op : BitVec 6) (a : BitVec 6) (b : BitVec 6) (c : BitVec 6) (g : BitVec 4) : Option Instr :=
  match op.toNat with
  | 0 => if a = 0x0#6 ∧ c = 0x0#6 then some (.tspawn g b) else none
  | 1 => if a = 0x0#6 ∧ c = 0x0#6 then some (.tspawnr g b) else none
  | 2 => if a = 0x0#6 ∧ c = 0x0#6 then some (.tspawng g b) else none
  | 3 => if a = 0x0#6 ∧ c = 0x0#6 then some (.fspawn g b) else none
  | 4 => if a = 0x0#6 ∧ c = 0x0#6 then some (.fref g b) else none
  | 5 => if a = 0x0#6 ∧ c = 0x0#6 then some (.fdrop g b) else none
  | 6 => if c.extractLsb' 4 2 = 0x0#2 then some (.fget g a b (c.extractLsb' 0 4)) else none
  | 7 => some (.tdec g a b c)
  | 8 => if a = 0x0#6 then some (.tcont g b c) else none
  | 9 => if a = 0x0#6 ∧ c = 0x0#6 then some (.tend g b) else none
  | 10 => if a = 0x0#6 ∧ b = 0x0#6 then some (.tyield g c) else none
  | 11 => if b = 0x0#6 ∧ c = 0x0#6 then some (.rnext g a) else none
  | 12 => if c = 0x0#6 then some (.nxtreq g a b) else none
  | 13 => if a = 0x0#6 then some (.pload g b c) else none
  | 14 => if a = 0x0#6 ∧ b = 0x0#6 ∧ c = 0x0#6 then some (.pswap g) else none
  | 15 => some (.tsrd g a b c)
  | 16 => some (.tswr g a b c)
  | 17 => if a = 0x0#6 ∧ c = 0x0#6 then some (.tsclr g b) else none
  | 18 => some (.srd g a (b ++ c))
  | 19 => some (.swr g a (b ++ c))
  | 20 => if a = 0x0#6 then some (.trap g (b ++ c)) else none
  | 21 => if a = 0x0#6 ∧ b = 0x0#6 ∧ c = 0x0#6 then some (.eret g) else none
  | 22 => if b = 0x0#6 then some (.feat g a c) else none
  | _ => none

/-- Class 0xC of R44 from its fields (atomic form); none for a reserved opcode or a must-be-zero field that is not zero (R42). -/
def readClassC (z : BitVec 2) (op : BitVec 4) (d : BitVec 6) (a : BitVec 6) (b : BitVec 6) (g : BitVec 4) : Option Instr :=
  match op.toNat with
  | 0 => some (.aadd g z d a b)
  | 1 => some (.amin g z d a b)
  | 2 => some (.amax g z d a b)
  | 3 => some (.aminu g z d a b)
  | 4 => some (.amaxu g z d a b)
  | 5 => some (.aand g z d a b)
  | 6 => some (.aor g z d a b)
  | 7 => some (.axor g z d a b)
  | 8 => some (.aswap g z d a b)
  | 9 => some (.acas g z d a b)
  | 10 => some (.aadds g z d a b)
  | 11 => if d = 0x0#6 then some (.redadd g z a b) else none
  | 12 => if d = 0x0#6 then some (.redmin g z a b) else none
  | 13 => if d = 0x0#6 then some (.redmax g z a b) else none
  | 14 => if d = 0x0#6 then some (.redadds g z a b) else none
  | 15 => if d = 0x0#6 then some (.redor g z a b) else none
  | _ => none

/-- The instruction whose fields a slot word holds, by its class (R25, R44); none where the word raises ILLEGAL_INSTRUCTION or belongs in no slot. -/
def readSlot (w : Code) : Option Instr :=
  let g := w.extractLsb' 0 4
  match (Code.cls w).toNat with
  | 0 => readClass0 (w.extractLsb' 22 6) (w.extractLsb' 16 6) (w.extractLsb' 10 6) (w.extractLsb' 4 6) g
  | 1 => readClass1 (w.extractLsb' 25 3) (w.extractLsb' 19 6) (w.extractLsb' 13 6) (w.extractLsb' 4 9) g
  | 2 => readClass2 (w.extractLsb' 24 4) (w.extractLsb' 18 6) (w.extractLsb' 12 6) (w.extractLsb' 4 8) g
  | 3 => readClass3 (w.extractLsb' 24 4) (w.extractLsb' 4 20) g
  | 4 => readClass4 (w.extractLsb' 23 5) (w.extractLsb' 21 2) (w.extractLsb' 16 5) (w.extractLsb' 11 5) (w.extractLsb' 6 5) (w.extractLsb' 5 1) (w.extractLsb' 4 1) g
  | 5 => readClass5 (w.extractLsb' 23 5) (w.extractLsb' 21 2) (w.extractLsb' 16 5) (w.extractLsb' 11 5) (w.extractLsb' 6 5) (w.extractLsb' 5 1) (w.extractLsb' 4 1) g
  | 6 => readClass6 (w.extractLsb' 23 5) (w.extractLsb' 21 2) (w.extractLsb' 16 5) (w.extractLsb' 11 5) (w.extractLsb' 6 5) (w.extractLsb' 5 1) (w.extractLsb' 4 1) g
  | 7 => readClass7 (w.extractLsb' 23 5) (w.extractLsb' 21 2) (w.extractLsb' 16 5) (w.extractLsb' 11 5) (w.extractLsb' 6 5) (w.extractLsb' 5 1) (w.extractLsb' 4 1) g
  | 8 => readClass8 (w.extractLsb' 22 6) (w.extractLsb' 16 6) (w.extractLsb' 10 6) (w.extractLsb' 4 6) g
  | 9 => readClass9 (w.extractLsb' 22 6) (w.extractLsb' 16 6) (w.extractLsb' 10 6) (w.extractLsb' 4 6) g
  | 10 => readClassA (w.extractLsb' 22 6) (w.extractLsb' 16 6) (w.extractLsb' 10 6) (w.extractLsb' 4 6) g
  | 11 => readClassB (w.extractLsb' 22 6) (w.extractLsb' 16 6) (w.extractLsb' 10 6) (w.extractLsb' 4 6) g
  | 12 => readClassC (w.extractLsb' 26 2) (w.extractLsb' 22 4) (w.extractLsb' 16 6) (w.extractLsb' 10 6) (w.extractLsb' 4 6) g
  | _ => none

/-- Decode a slot word: reserved opcode, width or must-be-zero field first, then operand limits (R43 step 3). -/
def decodeSlot (w : Code) : Except Reject Instr :=
  match readSlot w with
  | none => .error .illegalInstruction
  | some i =>
    if i.shapeOk then
      match i.operandFault with
      | some f => .error (.illegalOperand f)
      | none => .ok i
    else .error .illegalInstruction

/-- The slots that accept a class (R25); slots are numbered 0 S, 1 V0, 2 V1, 3 M, 4 C0, 5 C1. -/
def slotAccepts (slot : Nat) (cls : BitVec 4) : Bool :=
  let c := cls.toNat
  match slot with
  | 0 => decide (c ≤ 3) || decide (10 ≤ c ∧ c ≤ 12)
  | 1 | 2 => decide (4 ≤ c ∧ c ≤ 7)
  | 3 => decide (c = 8)
  | _ => decide (c = 9)

/-- Decode the word in a slot (R43 step 3): class 0xD, then the slot's classes, then the word itself. -/
def decodeInSlot (slot : Nat) (w : Code) : Except Reject Instr :=
  if Code.cls w = 0xD#4 then .error .illegalInstruction
  else if slotAccepts slot (Code.cls w) then decodeSlot w
  else .error .illegalSlot

/-- The fields of a header word (R27). -/
def headerFields (w : Code) : Header :=
  { mask := w.extractLsb' 22 6, plop := w.extractLsb' 19 3, pd := w.extractLsb' 15 4, pa := w.extractLsb' 11 4,
    pb := w.extractLsb' 7 4, wait := w.extractLsb' 4 3, rp := w.getLsbD 3 }

/-- Decode the word at a header position that is not an SCW (R33, the first three rows of R29; R43 steps 1 and 2). -/
def decodeHeader (w : Code) : Except Reject Header :=
  if Code.cls w = 0xD#4 then .error .illegalInstruction
  else if Code.cls w ≠ 0xF#4 then .error .illegalBundle
  else if w.extractLsb' 0 3 ≠ 0#3 then .error .illegalBundle
  else
    let h := headerFields w
    if h.plop = 0 then
      if h.pd = 0 ∧ h.pa = 0 ∧ h.pb = 0 then .ok h else .error .illegalBundle
    else if h.pd = 0 then .error .illegalBundle
    else .ok h

/-- The word of a header (R27). -/
def headerWord (h : Header) : Code :=
  0xF#4 ++ h.mask ++ h.plop ++ h.pd ++ h.pa ++ h.pb ++ h.wait ++ flag h.rp ++ 0#3

/-- The empty bundle that a header without slots stands for (R27). -/
def nopOf (h : Header) : Instr := .nop h.plop h.pd h.pa h.pb h.wait h.rp

/-- The instruction of one word: a slot word, or the header of an empty bundle. -/
def decodeWord (w : Code) : Except Reject Instr :=
  if Code.cls w = 0xF#4 then
    match decodeHeader w with
    | .ok h => if h.mask = 0 then .ok (nopOf h) else .error .illegalBundle
    | .error r => .error r
  else if Code.cls w = 0xE#4 then .error .illegalSlot
  else decodeSlot w

/-- A code word from its four bytes, little-endian (R25). -/
def wordOfBytes (b0 b1 b2 b3 : Byte) : Code := b3 ++ b2 ++ b1 ++ b0

/-- The four bytes of a code word, lowest address first (R25). -/
def bytesOfWord (w : Code) : List Byte := [w.extractLsb' 0 8, w.extractLsb' 8 8, w.extractLsb' 16 8, w.extractLsb' 24 8]

/-- Decode from bytes: the instruction of the first word and the bytes after it. -/
def decodeBytes (bs : List Byte) : Except Reject (Instr × List Byte) :=
  match bs with
  | b0 :: b1 :: b2 :: b3 :: rest =>
    match decodeWord (wordOfBytes b0 b1 b2 b3) with
    | .ok i => .ok (i, rest)
    | .error r => .error r
  | _ => .error .illegalInstruction

/-- The instruction the decoder reads from a table row's word: one 32-bit word, laid out little-endian and decoded; the events have no word. -/
def decodeTableWord (nbits w : Nat) : Option Instr :=
  if nbits = 0 then none
  else
    match decodeBytes (bytesOfWord (BitVec.ofNat 32 w)) with
    | .ok (i, _) => some i
    | .error _ => none

/-- The word of an instruction, from the encoding tables of R27 and R35 to R44; none for an event. -/
def encode (i : Instr) : Option Code :=
  match i with
  | .nop plop pd pa pb wait rp => some (headerWord { mask := 0, plop, pd, pa, pb, wait, rp })
  | .add g d a b => some (generalWord 0x0#4 0x0#6 d a b g)
  | .sub g d a b => some (generalWord 0x0#4 0x1#6 d a b g)
  | .and g d a b => some (generalWord 0x0#4 0x2#6 d a b g)
  | .or g d a b => some (generalWord 0x0#4 0x3#6 d a b g)
  | .xor g d a b => some (generalWord 0x0#4 0x4#6 d a b g)
  | .andn g d a b => some (generalWord 0x0#4 0x5#6 d a b g)
  | .orn g d a b => some (generalWord 0x0#4 0x6#6 d a b g)
  | .sll g d a b => some (generalWord 0x0#4 0x7#6 d a b g)
  | .srl g d a b => some (generalWord 0x0#4 0x8#6 d a b g)
  | .sra g d a b => some (generalWord 0x0#4 0x9#6 d a b g)
  | .rol g d a b => some (generalWord 0x0#4 0xA#6 d a b g)
  | .ror g d a b => some (generalWord 0x0#4 0xB#6 d a b g)
  | .mul g d a b => some (generalWord 0x0#4 0xC#6 d a b g)
  | .mulh g d a b => some (generalWord 0x0#4 0xD#6 d a b g)
  | .mulhu g d a b => some (generalWord 0x0#4 0xE#6 d a b g)
  | .div g d a b => some (generalWord 0x0#4 0xF#6 d a b g)
  | .divu g d a b => some (generalWord 0x0#4 0x10#6 d a b g)
  | .rem g d a b => some (generalWord 0x0#4 0x11#6 d a b g)
  | .remu g d a b => some (generalWord 0x0#4 0x12#6 d a b g)
  | .min g d a b => some (generalWord 0x0#4 0x13#6 d a b g)
  | .max g d a b => some (generalWord 0x0#4 0x14#6 d a b g)
  | .minu g d a b => some (generalWord 0x0#4 0x15#6 d a b g)
  | .maxu g d a b => some (generalWord 0x0#4 0x16#6 d a b g)
  | .adds g d a b => some (generalWord 0x0#4 0x17#6 d a b g)
  | .subs g d a b => some (generalWord 0x0#4 0x18#6 d a b g)
  | .slt g d a b => some (generalWord 0x0#4 0x19#6 d a b g)
  | .sltu g d a b => some (generalWord 0x0#4 0x1A#6 d a b g)
  | .seq g d a b => some (generalWord 0x0#4 0x1B#6 d a b g)
  | .clz g d a => some (generalWord 0x0#4 0x1C#6 d a 0x0#6 g)
  | .ctz g d a => some (generalWord 0x0#4 0x1D#6 d a 0x0#6 g)
  | .popc g d a => some (generalWord 0x0#4 0x1E#6 d a 0x0#6 g)
  | .brev g d a => some (generalWord 0x0#4 0x1F#6 d a 0x0#6 g)
  | .bswap g d a => some (generalWord 0x0#4 0x20#6 d a 0x0#6 g)
  | .sextb g d a => some (generalWord 0x0#4 0x21#6 d a 0x0#6 g)
  | .sexth g d a => some (generalWord 0x0#4 0x22#6 d a 0x0#6 g)
  | .sextw g d a => some (generalWord 0x0#4 0x23#6 d a 0x0#6 g)
  | .peq g p a b => some (generalWord 0x0#4 0x24#6 (0x0#2 ++ p) a b g)
  | .pne g p a b => some (generalWord 0x0#4 0x25#6 (0x0#2 ++ p) a b g)
  | .plt g p a b => some (generalWord 0x0#4 0x26#6 (0x0#2 ++ p) a b g)
  | .pge g p a b => some (generalWord 0x0#4 0x27#6 (0x0#2 ++ p) a b g)
  | .pltu g p a b => some (generalWord 0x0#4 0x28#6 (0x0#2 ++ p) a b g)
  | .pgeu g p a b => some (generalWord 0x0#4 0x29#6 (0x0#2 ++ p) a b g)
  | .ptox g d p k => some (generalWord 0x0#4 0x2A#6 d (0x0#2 ++ p) k g)
  | .xtop g p a k => some (generalWord 0x0#4 0x2B#6 (0x0#2 ++ p) a k g)
  | .pcnt g d p q => some (generalWord 0x0#4 0x2C#6 d (0x0#2 ++ p) (0x0#2 ++ q) g)
  | .addi g d a m => some (immWord 0x0#3 d a m g)
  | .andi g d a m => some (immWord 0x1#3 d a m g)
  | .ori g d a m => some (immWord 0x2#3 d a m g)
  | .xori g d a m => some (immWord 0x3#3 d a m g)
  | .slli g d a m => some (immWord 0x4#3 d a m g)
  | .srli g d a m => some (immWord 0x5#3 d a m g)
  | .srai g d a m => some (immWord 0x6#3 d a m g)
  | .lih g d m => some (immWord 0x7#3 d (m.extractLsb' 9 6) (m.extractLsb' 0 9) g)
  | .ldb g t b o => some (memWord 0x0#4 t b o g)
  | .ldbu g t b o => some (memWord 0x1#4 t b o g)
  | .ldh g t b o => some (memWord 0x2#4 t b o g)
  | .ldhu g t b o => some (memWord 0x3#4 t b o g)
  | .ldw g t b o => some (memWord 0x4#4 t b o g)
  | .ldwu g t b o => some (memWord 0x5#4 t b o g)
  | .ldd g t b o => some (memWord 0x6#4 t b o g)
  | .ldq g t b o => some (memWord 0x7#4 t b o g)
  | .stb g t b o => some (memWord 0x8#4 t b o g)
  | .sth g t b o => some (memWord 0x9#4 t b o g)
  | .stw g t b o => some (memWord 0xA#4 t b o g)
  | .std g t b o => some (memWord 0xB#4 t b o g)
  | .stq g t b o => some (memWord 0xC#4 t b o g)
  | .prf g b o => some (memWord 0xD#4 0x0#6 b o g)
  | .zln g b o => some (memWord 0xE#4 0x0#6 b o g)
  | .br g o => some (controlWord 0x0#4 o g)
  | .call g o => some (controlWord 0x1#4 o g)
  | .jr g a => some (controlWord 0x2#4 (0x0#6 ++ a ++ 0x0#8) g)
  | .jalr g d a => some (controlWord 0x3#4 (d ++ a ++ 0x0#8) g)
  | .loop g k c l => some (controlWord 0x4#4 (k ++ c ++ 0x0#3 ++ l) g)
  | .loopi g k n l => some (controlWord 0x5#4 (k ++ n ++ l) g)
  | .loopp g k c n l => some (controlWord 0x6#4 (k ++ c ++ n ++ l) g)
  | .lexit g k => some (controlWord 0x7#4 (k ++ 0x0#18) g)
  | .vadd g w d a b => some (vectorWord 0x4#4 0x0#5 w.code d a b.reg b.sbit 0x0#1 g)
  | .vsub g w d a b => some (vectorWord 0x4#4 0x1#5 w.code d a b.reg b.sbit 0x0#1 g)
  | .vadds g w d a b => some (vectorWord 0x4#4 0x2#5 w.code d a b.reg b.sbit 0x0#1 g)
  | .vsubs g w d a b => some (vectorWord 0x4#4 0x3#5 w.code d a b.reg b.sbit 0x0#1 g)
  | .vaddsu g w d a b => some (vectorWord 0x4#4 0x4#5 w.code d a b.reg b.sbit 0x0#1 g)
  | .vsubsu g w d a b => some (vectorWord 0x4#4 0x5#5 w.code d a b.reg b.sbit 0x0#1 g)
  | .vmul g w d a b => some (vectorWord 0x4#4 0x6#5 w.code d a b.reg b.sbit 0x0#1 g)
  | .vmulh g w d a b => some (vectorWord 0x4#4 0x7#5 w.code d a b.reg b.sbit 0x0#1 g)
  | .vmulhu g w d a b => some (vectorWord 0x4#4 0x8#5 w.code d a b.reg b.sbit 0x0#1 g)
  | .vmulq g w d a b m => some (vectorWord 0x4#4 0x9#5 w.code d a b.reg b.sbit (flag m) g)
  | .vmin g w d a b => some (vectorWord 0x4#4 0xA#5 w.code d a b.reg b.sbit 0x0#1 g)
  | .vmax g w d a b => some (vectorWord 0x4#4 0xB#5 w.code d a b.reg b.sbit 0x0#1 g)
  | .vminu g w d a b => some (vectorWord 0x4#4 0xC#5 w.code d a b.reg b.sbit 0x0#1 g)
  | .vmaxu g w d a b => some (vectorWord 0x4#4 0xD#5 w.code d a b.reg b.sbit 0x0#1 g)
  | .vand g w d a b => some (vectorWord 0x4#4 0xE#5 w.code d a b.reg b.sbit 0x0#1 g)
  | .vor g w d a b => some (vectorWord 0x4#4 0xF#5 w.code d a b.reg b.sbit 0x0#1 g)
  | .vxor g w d a b => some (vectorWord 0x4#4 0x10#5 w.code d a b.reg b.sbit 0x0#1 g)
  | .vandn g w d a b => some (vectorWord 0x4#4 0x11#5 w.code d a b.reg b.sbit 0x0#1 g)
  | .vsll g w d a b => some (vectorWord 0x4#4 0x12#5 w.code d a b.reg b.sbit 0x0#1 g)
  | .vsrl g w d a b => some (vectorWord 0x4#4 0x13#5 w.code d a b.reg b.sbit 0x0#1 g)
  | .vsra g w d a b => some (vectorWord 0x4#4 0x14#5 w.code d a b.reg b.sbit 0x0#1 g)
  | .vabs g w d a => some (vectorWord 0x4#4 0x15#5 w.code d a 0x0#5 0x0#1 0x0#1 g)
  | .vneg g w d a => some (vectorWord 0x4#4 0x16#5 w.code d a 0x0#5 0x0#1 0x0#1 g)
  | .vavg g w d a b m => some (vectorWord 0x4#4 0x17#5 w.code d a b.reg b.sbit (flag m) g)
  | .vmov g w d a => some (vectorWord 0x4#4 0x18#5 w.code d a 0x0#5 0x0#1 0x0#1 g)
  | .vsel g w d a b => some (vectorWord 0x4#4 0x19#5 w.code d a b.reg b.sbit 0x0#1 g)
  | .vcls g w d a => some (vectorWord 0x4#4 0x1A#5 w.code d a 0x0#5 0x0#1 0x0#1 g)
  | .vpopc g w d a => some (vectorWord 0x4#4 0x1B#5 w.code d a 0x0#5 0x0#1 0x0#1 g)
  | .vcmpeq g w p a b => some (vectorWord 0x5#4 0x0#5 w.code (0x0#1 ++ p) a b.reg b.sbit 0x0#1 g)
  | .vcmpne g w p a b => some (vectorWord 0x5#4 0x1#5 w.code (0x0#1 ++ p) a b.reg b.sbit 0x0#1 g)
  | .vcmplt g w p a b => some (vectorWord 0x5#4 0x2#5 w.code (0x0#1 ++ p) a b.reg b.sbit 0x0#1 g)
  | .vcmple g w p a b => some (vectorWord 0x5#4 0x3#5 w.code (0x0#1 ++ p) a b.reg b.sbit 0x0#1 g)
  | .vcmpltu g w p a b => some (vectorWord 0x5#4 0x4#5 w.code (0x0#1 ++ p) a b.reg b.sbit 0x0#1 g)
  | .vcmpleu g w p a b => some (vectorWord 0x5#4 0x5#5 w.code (0x0#1 ++ p) a b.reg b.sbit 0x0#1 g)
  | .vnarrow g w d a b m => some (vectorWord 0x5#4 0x6#5 w.code d a b 0x1#1 (flag m) g)
  | .vwiden g w d a b m => some (vectorWord 0x5#4 0x7#5 w.code d a b 0x1#1 (flag m) g)
  | .vshrr g w d a b => some (vectorWord 0x5#4 0x8#5 w.code d a b 0x1#1 0x0#1 g)
  | .vsshr g w d a b => some (vectorWord 0x5#4 0x9#5 w.code d a b 0x1#1 0x0#1 g)
  | .vsplat g w d b => some (vectorWord 0x5#4 0xA#5 w.code d 0x0#5 b 0x1#1 0x0#1 g)
  | .vextr g w d a b m => some (vectorWord 0x5#4 0xB#5 w.code d a b 0x1#1 (flag m) g)
  | .vinsr g w d a b => some (vectorWord 0x5#4 0xC#5 w.code d a b 0x1#1 0x0#1 g)
  | .viota g w d b m => some (vectorWord 0x5#4 0xD#5 w.code d 0x0#5 b 0x1#1 (flag m) g)
  | .vcb4 g d a b m => some (vectorWord 0x5#4 0xE#5 0x0#2 d a b 0x1#1 (flag m) g)
  | .vq4p g d a => some (vectorWord 0x5#4 0xF#5 0x0#2 d a 0x0#5 0x0#1 0x0#1 g)
  | .vq4u g d a m => some (vectorWord 0x5#4 0x10#5 0x0#2 d a 0x0#5 0x0#1 (flag m) g)
  | .vredadd g w d a b m => some (vectorWord 0x5#4 0x11#5 w.code d a (optReg b) (optSbit b) (flag m) g)
  | .vredmax g w d a b m => some (vectorWord 0x5#4 0x12#5 w.code d a (optReg b) (optSbit b) (flag m) g)
  | .vredmin g w d a b m => some (vectorWord 0x5#4 0x13#5 w.code d a (optReg b) (optSbit b) (flag m) g)
  | .vredor g w d a b => some (vectorWord 0x5#4 0x14#5 w.code d a (optReg b) (optSbit b) 0x0#1 g)
  | .vtorq g w a b m => some (vectorWord 0x5#4 0x15#5 w.code 0x0#5 a (optReg b) (optSbit b) (flag m) g)
  | .vcens g w a b m => some (vectorWord 0x5#4 0x16#5 w.code 0x0#5 a b 0x1#1 (flag m) g)
  | .vexp g d a b => some (vectorWord 0x6#4 0x0#5 0x1#2 d a b 0x1#1 0x0#1 g)
  | .vrcp g d a b => some (vectorWord 0x6#4 0x1#5 0x2#2 d a b 0x1#1 0x0#1 g)
  | .vrsq g d a b => some (vectorWord 0x6#4 0x2#5 0x2#2 d a b 0x1#1 0x0#1 g)
  | .vdiv g d a b => some (vectorWord 0x6#4 0x3#5 0x2#2 d a b.reg b.sbit 0x0#1 g)
  | .vopt g d a b => some (vectorWord 0x6#4 0x4#5 0x1#2 d a b 0x1#1 0x0#1 g)
  | .vbmm g d a b m => some (vectorWord 0x6#4 0x5#5 0x3#2 d a b.reg b.sbit (flag m) g)
  | .vpdep g w d a b => some (vectorWord 0x6#4 0x6#5 w.code d a b.reg b.sbit 0x0#1 g)
  | .vpext g w d a b => some (vectorWord 0x6#4 0x7#5 w.code d a b.reg b.sbit 0x0#1 g)
  | .vbperm g d a b => some (vectorWord 0x6#4 0x8#5 0x3#2 d a b.reg b.sbit 0x0#1 g)
  | .vperm g w d a b m => some (vectorWord 0x6#4 0x9#5 w.code d a b 0x0#1 (flag m) g)
  | .vslide g w d a b m => some (vectorWord 0x6#4 0xA#5 w.code d a b 0x1#1 (flag m) g)
  | .vspush g w n a => some (vectorWord 0x6#4 0xB#5 w.code (0x0#3 ++ n) a 0x0#5 0x0#1 0x0#1 g)
  | .vspop g w d n p m => some (vectorWord 0x6#4 0xC#5 w.code d (0x0#3 ++ n) (0x0#1 ++ p) 0x0#1 (flag m) g)
  | .vsflush g w d n => some (vectorWord 0x6#4 0xD#5 w.code d (0x0#3 ++ n) 0x0#5 0x0#1 0x0#1 g)
  | .vslen g w d n => some (vectorWord 0x6#4 0xE#5 w.code d (0x0#3 ++ n) 0x0#5 0x0#1 0x0#1 g)
  | .vld g w d a b => some (vectorWord 0x7#4 0x0#5 w.code d a (optReg b) (optSbit b) 0x0#1 g)
  | .vst g w d a b => some (vectorWord 0x7#4 0x1#5 w.code d a (optReg b) (optSbit b) 0x0#1 g)
  | .vlds g w d a b => some (vectorWord 0x7#4 0x2#5 w.code d a b 0x1#1 0x0#1 g)
  | .vsts g w d a b => some (vectorWord 0x7#4 0x3#5 w.code d a b 0x1#1 0x0#1 g)
  | .vldx g w d a b m => some (vectorWord 0x7#4 0x4#5 w.code d a b 0x0#1 (flag m) g)
  | .vstx g w d a b m => some (vectorWord 0x7#4 0x5#5 w.code d a b 0x0#1 (flag m) g)
  | .vldt g w d a b => some (vectorWord 0x7#4 0x6#5 w.code d a b 0x1#1 0x0#1 g)
  | .vstt g w d a b => some (vectorWord 0x7#4 0x7#5 w.code d a b 0x1#1 0x0#1 g)
  | .vldb g w d a b => some (vectorWord 0x7#4 0x8#5 w.code d a (optReg b) (optSbit b) 0x0#1 g)
  | .vldp g p a b => some (vectorWord 0x7#4 0x9#5 0x0#2 (0x0#1 ++ p) a (optReg b) (optSbit b) 0x0#1 g)
  | .vstp g p a b => some (vectorWord 0x7#4 0xA#5 0x0#2 (0x0#1 ++ p) a (optReg b) (optSbit b) 0x0#1 g)
  | .mpw g a k e => some (generalWord 0x8#4 0x0#6 0x0#6 a (0x0#2 ++ k ++ flag e) g)
  | .mpr g d k e => some (generalWord 0x8#4 0x1#6 d 0x0#6 (0x0#2 ++ k ++ flag e) g)
  | .mcfg g a e => some (generalWord 0x8#4 0x2#6 0x0#6 a (0x0#5 ++ flag e) g)
  | .mdrain g d e => some (generalWord 0x8#4 0x3#6 d 0x0#6 (0x0#5 ++ flag e) g)
  | .mcall g r c p e => some (generalWord 0x8#4 0x4#6 r c (0x0#4 ++ flag p ++ flag e) g)
  | .mcallg g r c p e => some (generalWord 0x8#4 0x5#6 r c (0x0#4 ++ flag p ++ flag e) g)
  | .mspec g z e => some (generalWord 0x8#4 0x6#6 0x0#6 0x0#6 (0x0#4 ++ flag z ++ flag e) g)
  | .mcommit g e => some (generalWord 0x8#4 0x7#6 0x0#6 0x0#6 (0x0#5 ++ flag e) g)
  | .mdiscard g e => some (generalWord 0x8#4 0x8#6 0x0#6 0x0#6 (0x0#5 ++ flag e) g)
  | .mzero g a z e => some (generalWord 0x8#4 0x9#6 0x0#6 a (0x0#4 ++ flag z ++ flag e) g)
  | .maccld g x a e => some (generalWord 0x8#4 0xA#6 x a (0x0#5 ++ flag e) g)
  | .maccst g x a e => some (generalWord 0x8#4 0xB#6 x a (0x0#5 ++ flag e) g)
  | .mucw g x a h e => some (generalWord 0x8#4 0xC#6 x a (0x0#4 ++ flag h ++ flag e) g)
  | .mucr g d x h e => some (generalWord 0x8#4 0xD#6 d x (0x0#4 ++ flag h ++ flag e) g)
  | .mstat g k e => some (generalWord 0x8#4 0xE#6 0x0#6 0x0#6 (0x0#3 ++ k ++ flag e) g)
  | .mrpg g d e => some (generalWord 0x8#4 0xF#6 d 0x0#6 (0x0#5 ++ flag e) g)
  | .erw g a n => some (generalWord 0x9#4 0x0#6 0x0#6 a n g)
  | .erd g d n => some (generalWord 0x9#4 0x1#6 d 0x0#6 n g)
  | .cpy g c o y z => some (generalWord 0x9#4 0x2#6 c o (0x0#4 ++ flag y ++ flag z) g)
  | .cpym g c o y z => some (generalWord 0x9#4 0x3#6 c o (0x0#4 ++ flag y ++ flag z) g)
  | .cpyx g c t z => some (generalWord 0x9#4 0x4#6 c t (0x0#5 ++ flag z) g)
  | .cpyw g c o y z => some (generalWord 0x9#4 0x5#6 c o (0x0#4 ++ flag y ++ flag z) g)
  | .cpyc g d m => some (generalWord 0x9#4 0x6#6 d m 0x0#6 g)
  | .coll g h c => some (generalWord 0x9#4 0x7#6 h c 0x0#6 g)
  | .csig g h k => some (generalWord 0x9#4 0x8#6 h k 0x0#6 g)
  | .acq g d a => some (generalWord 0xA#4 0x0#6 d a 0x0#6 g)
  | .rel g d a => some (generalWord 0xA#4 0x1#6 d a 0x0#6 g)
  | .bind g d a b => some (generalWord 0xA#4 0x2#6 d a b g)
  | .unbind g a => some (generalWord 0xA#4 0x3#6 0x0#6 a 0x0#6 g)
  | .fence g k => some (generalWord 0xA#4 0x4#6 0x0#6 0x0#6 k g)
  | .qmake g d a => some (generalWord 0xA#4 0x5#6 d a 0x0#6 g)
  | .qpush g d a b => some (generalWord 0xA#4 0x6#6 d a b g)
  | .qpop g d a => some (generalWord 0xA#4 0x7#6 d a 0x0#6 g)
  | .qfree g a => some (generalWord 0xA#4 0x8#6 0x0#6 a 0x0#6 g)
  | .mbsend g d a b => some (generalWord 0xA#4 0x9#6 d a b g)
  | .mbrecv g d p k => some (generalWord 0xA#4 0xA#6 d (0x0#2 ++ p) k g)
  | .mbbind g a k => some (generalWord 0xA#4 0xB#6 0x0#6 a k g)
  | .sbarm g a b => some (generalWord 0xA#4 0xC#6 0x0#6 a b g)
  | .sbwait g d a b => some (generalWord 0xA#4 0xD#6 d a b g)
  | .sbtst g d a => some (generalWord 0xA#4 0xE#6 d a 0x0#6 g)
  | .dbar g k t => some (generalWord 0xA#4 0xF#6 0x0#6 k t g)
  | .waitany g d a => some (generalWord 0xA#4 0x10#6 d a 0x0#6 g)
  | .waitall g d a => some (generalWord 0xA#4 0x11#6 d a 0x0#6 g)
  | .ffr g d a => some (generalWord 0xA#4 0x12#6 d a 0x0#6 g)
  | .tagclr g a => some (generalWord 0xA#4 0x13#6 0x0#6 a 0x0#6 g)
  | .rqpop g d => some (generalWord 0xA#4 0x14#6 d 0x0#6 0x0#6 g)
  | .ldacq g d a k => some (generalWord 0xA#4 0x15#6 d a k g)
  | .strel g t a k => some (generalWord 0xA#4 0x16#6 t a k g)
  | .invr g a b => some (generalWord 0xA#4 0x17#6 0x0#6 a b g)
  | .wbr g a b => some (generalWord 0xA#4 0x18#6 0x0#6 a b g)
  | .tspawn g a => some (generalWord 0xB#4 0x0#6 0x0#6 a 0x0#6 g)
  | .tspawnr g a => some (generalWord 0xB#4 0x1#6 0x0#6 a 0x0#6 g)
  | .tspawng g a => some (generalWord 0xB#4 0x2#6 0x0#6 a 0x0#6 g)
  | .fspawn g a => some (generalWord 0xB#4 0x3#6 0x0#6 a 0x0#6 g)
  | .fref g a => some (generalWord 0xB#4 0x4#6 0x0#6 a 0x0#6 g)
  | .fdrop g a => some (generalWord 0xB#4 0x5#6 0x0#6 a 0x0#6 g)
  | .fget g d a p => some (generalWord 0xB#4 0x6#6 d a (0x0#2 ++ p) g)
  | .tdec g d a b => some (generalWord 0xB#4 0x7#6 d a b g)
  | .tcont g a b => some (generalWord 0xB#4 0x8#6 0x0#6 a b g)
  | .tend g a => some (generalWord 0xB#4 0x9#6 0x0#6 a 0x0#6 g)
  | .tyield g k => some (generalWord 0xB#4 0xA#6 0x0#6 0x0#6 k g)
  | .rnext g d => some (generalWord 0xB#4 0xB#6 d 0x0#6 0x0#6 g)
  | .nxtreq g d a => some (generalWord 0xB#4 0xC#6 d a 0x0#6 g)
  | .pload g a t => some (generalWord 0xB#4 0xD#6 0x0#6 a t g)
  | .pswap g => some (generalWord 0xB#4 0xE#6 0x0#6 0x0#6 0x0#6 g)
  | .tsrd g d n f => some (generalWord 0xB#4 0xF#6 d n f g)
  | .tswr g n a f => some (generalWord 0xB#4 0x10#6 n a f g)
  | .tsclr g n => some (generalWord 0xB#4 0x11#6 0x0#6 n 0x0#6 g)
  | .srd g d r => some (generalWord 0xB#4 0x12#6 d (r.extractLsb' 6 6) (r.extractLsb' 0 6) g)
  | .swr g a r => some (generalWord 0xB#4 0x13#6 a (r.extractLsb' 6 6) (r.extractLsb' 0 6) g)
  | .trap g k => some (generalWord 0xB#4 0x14#6 0x0#6 (k.extractLsb' 6 6) (k.extractLsb' 0 6) g)
  | .eret g => some (generalWord 0xB#4 0x15#6 0x0#6 0x0#6 0x0#6 g)
  | .feat g d k => some (generalWord 0xB#4 0x16#6 d 0x0#6 k g)
  | .aadd g z d a b => some (atomicWord z 0x0#4 d a b g)
  | .amin g z d a b => some (atomicWord z 0x1#4 d a b g)
  | .amax g z d a b => some (atomicWord z 0x2#4 d a b g)
  | .aminu g z d a b => some (atomicWord z 0x3#4 d a b g)
  | .amaxu g z d a b => some (atomicWord z 0x4#4 d a b g)
  | .aand g z d a b => some (atomicWord z 0x5#4 d a b g)
  | .aor g z d a b => some (atomicWord z 0x6#4 d a b g)
  | .axor g z d a b => some (atomicWord z 0x7#4 d a b g)
  | .aswap g z d a b => some (atomicWord z 0x8#4 d a b g)
  | .acas g z d a b => some (atomicWord z 0x9#4 d a b g)
  | .aadds g z d a b => some (atomicWord z 0xA#4 d a b g)
  | .redadd g z a b => some (atomicWord z 0xB#4 0x0#6 a b g)
  | .redmin g z a b => some (atomicWord z 0xC#4 0x0#6 a b g)
  | .redmax g z a b => some (atomicWord z 0xD#4 0x0#6 a b g)
  | .redadds g z a b => some (atomicWord z 0xE#4 0x0#6 a b g)
  | .redor g z a b => some (atomicWord z 0xF#4 0x0#6 a b g)
  | _ => none

end Sys2Proof
end

