-- ==== Sys2Proof/Machine/Regs.lean ====
section
/-! DEFINITION. Which registers each instruction names as destinations and as sources, and which units it needs (R29, R43, R59). -/

namespace Sys2Proof

/-- The registers an instruction names, by number: destinations and sources among scalar, vector and predicate registers (R29, R59). -/
structure Regs where
  xd : List Nat := []
  vd : List Nat := []
  pd : List Nat := []
  xs : List Nat := []
  vs : List Nat := []
  ps : List Nat := []
  deriving DecidableEq, Repr

/-- A register number and the next one. -/
def pairOf {n : Nat} (r : BitVec n) : List Nat := [r.toNat, r.toNat + 1]

/-- The scalar register of a vb operand, if it is one (R39). -/
def VOpnd.xs (o : VOpnd) : List Nat :=
  match o with
  | .x r => [r.toNat]
  | .v _ => []

/-- The vector register of a vb operand, if it is one (R39). -/
def VOpnd.vs (o : VOpnd) : List Nat :=
  match o with
  | .v r => [r.toNat]
  | .x _ => []

/-- An optional scalar register. -/
def optXs (o : Option (BitVec 5)) : List Nat :=
  match o with
  | some r => [r.toNat]
  | none => []

/-- The registers that an instruction names. -/
def Instr.regs (i : Instr) : Regs :=
  match i with
  | .nop _ pd pa pb _ _ => { pd := [pd.toNat], ps := [pa.toNat, pb.toNat] }
  | .add g d a b => { xd := [d.toNat], xs := [a.toNat, b.toNat], ps := [g.toNat] }
  | .sub g d a b => { xd := [d.toNat], xs := [a.toNat, b.toNat], ps := [g.toNat] }
  | .and g d a b => { xd := [d.toNat], xs := [a.toNat, b.toNat], ps := [g.toNat] }
  | .or g d a b => { xd := [d.toNat], xs := [a.toNat, b.toNat], ps := [g.toNat] }
  | .xor g d a b => { xd := [d.toNat], xs := [a.toNat, b.toNat], ps := [g.toNat] }
  | .andn g d a b => { xd := [d.toNat], xs := [a.toNat, b.toNat], ps := [g.toNat] }
  | .orn g d a b => { xd := [d.toNat], xs := [a.toNat, b.toNat], ps := [g.toNat] }
  | .sll g d a b => { xd := [d.toNat], xs := [a.toNat, b.toNat], ps := [g.toNat] }
  | .srl g d a b => { xd := [d.toNat], xs := [a.toNat, b.toNat], ps := [g.toNat] }
  | .sra g d a b => { xd := [d.toNat], xs := [a.toNat, b.toNat], ps := [g.toNat] }
  | .rol g d a b => { xd := [d.toNat], xs := [a.toNat, b.toNat], ps := [g.toNat] }
  | .ror g d a b => { xd := [d.toNat], xs := [a.toNat, b.toNat], ps := [g.toNat] }
  | .mul g d a b => { xd := [d.toNat], xs := [a.toNat, b.toNat], ps := [g.toNat] }
  | .mulh g d a b => { xd := [d.toNat], xs := [a.toNat, b.toNat], ps := [g.toNat] }
  | .mulhu g d a b => { xd := [d.toNat], xs := [a.toNat, b.toNat], ps := [g.toNat] }
  | .div g d a b => { xd := [d.toNat], xs := [a.toNat, b.toNat], ps := [g.toNat] }
  | .divu g d a b => { xd := [d.toNat], xs := [a.toNat, b.toNat], ps := [g.toNat] }
  | .rem g d a b => { xd := [d.toNat], xs := [a.toNat, b.toNat], ps := [g.toNat] }
  | .remu g d a b => { xd := [d.toNat], xs := [a.toNat, b.toNat], ps := [g.toNat] }
  | .min g d a b => { xd := [d.toNat], xs := [a.toNat, b.toNat], ps := [g.toNat] }
  | .max g d a b => { xd := [d.toNat], xs := [a.toNat, b.toNat], ps := [g.toNat] }
  | .minu g d a b => { xd := [d.toNat], xs := [a.toNat, b.toNat], ps := [g.toNat] }
  | .maxu g d a b => { xd := [d.toNat], xs := [a.toNat, b.toNat], ps := [g.toNat] }
  | .adds g d a b => { xd := [d.toNat], xs := [a.toNat, b.toNat], ps := [g.toNat] }
  | .subs g d a b => { xd := [d.toNat], xs := [a.toNat, b.toNat], ps := [g.toNat] }
  | .slt g d a b => { xd := [d.toNat], xs := [a.toNat, b.toNat], ps := [g.toNat] }
  | .sltu g d a b => { xd := [d.toNat], xs := [a.toNat, b.toNat], ps := [g.toNat] }
  | .seq g d a b => { xd := [d.toNat], xs := [a.toNat, b.toNat], ps := [g.toNat] }
  | .clz g d a => { xd := [d.toNat], xs := [a.toNat], ps := [g.toNat] }
  | .ctz g d a => { xd := [d.toNat], xs := [a.toNat], ps := [g.toNat] }
  | .popc g d a => { xd := [d.toNat], xs := [a.toNat], ps := [g.toNat] }
  | .brev g d a => { xd := [d.toNat], xs := [a.toNat], ps := [g.toNat] }
  | .bswap g d a => { xd := [d.toNat], xs := [a.toNat], ps := [g.toNat] }
  | .sextb g d a => { xd := [d.toNat], xs := [a.toNat], ps := [g.toNat] }
  | .sexth g d a => { xd := [d.toNat], xs := [a.toNat], ps := [g.toNat] }
  | .sextw g d a => { xd := [d.toNat], xs := [a.toNat], ps := [g.toNat] }
  | .peq g p a b => { pd := [p.toNat], xs := [a.toNat, b.toNat], ps := [g.toNat] }
  | .pne g p a b => { pd := [p.toNat], xs := [a.toNat, b.toNat], ps := [g.toNat] }
  | .plt g p a b => { pd := [p.toNat], xs := [a.toNat, b.toNat], ps := [g.toNat] }
  | .pge g p a b => { pd := [p.toNat], xs := [a.toNat, b.toNat], ps := [g.toNat] }
  | .pltu g p a b => { pd := [p.toNat], xs := [a.toNat, b.toNat], ps := [g.toNat] }
  | .pgeu g p a b => { pd := [p.toNat], xs := [a.toNat, b.toNat], ps := [g.toNat] }
  | .ptox g d p _ => { xd := [d.toNat], ps := [g.toNat, p.toNat] }
  | .xtop g p a _ => { pd := [p.toNat], xs := [a.toNat], ps := [g.toNat] }
  | .pcnt g d p q => { xd := [d.toNat], ps := [g.toNat, p.toNat, q.toNat] }
  | .addi g d a _ => { xd := [d.toNat], xs := [a.toNat], ps := [g.toNat] }
  | .andi g d a _ => { xd := [d.toNat], xs := [a.toNat], ps := [g.toNat] }
  | .ori g d a _ => { xd := [d.toNat], xs := [a.toNat], ps := [g.toNat] }
  | .xori g d a _ => { xd := [d.toNat], xs := [a.toNat], ps := [g.toNat] }
  | .slli g d a _ => { xd := [d.toNat], xs := [a.toNat], ps := [g.toNat] }
  | .srli g d a _ => { xd := [d.toNat], xs := [a.toNat], ps := [g.toNat] }
  | .srai g d a _ => { xd := [d.toNat], xs := [a.toNat], ps := [g.toNat] }
  | .lih g d _ => { xd := [d.toNat], xs := [d.toNat], ps := [g.toNat] }
  | .ldb g t b _ => { xd := [t.toNat], xs := [b.toNat], ps := [g.toNat] }
  | .ldbu g t b _ => { xd := [t.toNat], xs := [b.toNat], ps := [g.toNat] }
  | .ldh g t b _ => { xd := [t.toNat], xs := [b.toNat], ps := [g.toNat] }
  | .ldhu g t b _ => { xd := [t.toNat], xs := [b.toNat], ps := [g.toNat] }
  | .ldw g t b _ => { xd := [t.toNat], xs := [b.toNat], ps := [g.toNat] }
  | .ldwu g t b _ => { xd := [t.toNat], xs := [b.toNat], ps := [g.toNat] }
  | .ldd g t b _ => { xd := [t.toNat], xs := [b.toNat], ps := [g.toNat] }
  | .ldq g t b _ => { xd := pairOf t, xs := [b.toNat], ps := [g.toNat] }
  | .stb g t b _ => { xs := [t.toNat, b.toNat], ps := [g.toNat] }
  | .sth g t b _ => { xs := [t.toNat, b.toNat], ps := [g.toNat] }
  | .stw g t b _ => { xs := [t.toNat, b.toNat], ps := [g.toNat] }
  | .std g t b _ => { xs := [t.toNat, b.toNat], ps := [g.toNat] }
  | .stq g t b _ => { xs := [b.toNat] ++ pairOf t, ps := [g.toNat] }
  | .prf g b _ => { xs := [b.toNat], ps := [g.toNat] }
  | .zln g b _ => { xs := [b.toNat], ps := [g.toNat] }
  | .br g _ => { ps := [g.toNat] }
  | .call g _ => { xd := [63], ps := [g.toNat] }
  | .jr g a => { xs := [a.toNat], ps := [g.toNat] }
  | .jalr g d a => { xd := [d.toNat], xs := [a.toNat], ps := [g.toNat] }
  | .loop g _ c _ => { xs := [c.toNat], ps := [g.toNat] }
  | .loopi g _ _ _ => { ps := [g.toNat] }
  | .loopp g _ c _ _ => { xs := [c.toNat], ps := [g.toNat] }
  | .lexit g _ => { ps := [g.toNat] }
  | .vadd g _ d a b => { vd := [d.toNat], xs := b.xs, vs := [a.toNat] ++ b.vs, ps := [g.toNat] }
  | .vsub g _ d a b => { vd := [d.toNat], xs := b.xs, vs := [a.toNat] ++ b.vs, ps := [g.toNat] }
  | .vadds g _ d a b => { vd := [d.toNat], xs := b.xs, vs := [a.toNat] ++ b.vs, ps := [g.toNat] }
  | .vsubs g _ d a b => { vd := [d.toNat], xs := b.xs, vs := [a.toNat] ++ b.vs, ps := [g.toNat] }
  | .vaddsu g _ d a b => { vd := [d.toNat], xs := b.xs, vs := [a.toNat] ++ b.vs, ps := [g.toNat] }
  | .vsubsu g _ d a b => { vd := [d.toNat], xs := b.xs, vs := [a.toNat] ++ b.vs, ps := [g.toNat] }
  | .vmul g _ d a b => { vd := [d.toNat], xs := b.xs, vs := [a.toNat] ++ b.vs, ps := [g.toNat] }
  | .vmulh g _ d a b => { vd := [d.toNat], xs := b.xs, vs := [a.toNat] ++ b.vs, ps := [g.toNat] }
  | .vmulhu g _ d a b => { vd := [d.toNat], xs := b.xs, vs := [a.toNat] ++ b.vs, ps := [g.toNat] }
  | .vmulq g _ d a b _ => { vd := [d.toNat], xs := b.xs, vs := [a.toNat] ++ b.vs, ps := [g.toNat] }
  | .vmin g _ d a b => { vd := [d.toNat], xs := b.xs, vs := [a.toNat] ++ b.vs, ps := [g.toNat] }
  | .vmax g _ d a b => { vd := [d.toNat], xs := b.xs, vs := [a.toNat] ++ b.vs, ps := [g.toNat] }
  | .vminu g _ d a b => { vd := [d.toNat], xs := b.xs, vs := [a.toNat] ++ b.vs, ps := [g.toNat] }
  | .vmaxu g _ d a b => { vd := [d.toNat], xs := b.xs, vs := [a.toNat] ++ b.vs, ps := [g.toNat] }
  | .vand g _ d a b => { vd := [d.toNat], xs := b.xs, vs := [a.toNat] ++ b.vs, ps := [g.toNat] }
  | .vor g _ d a b => { vd := [d.toNat], xs := b.xs, vs := [a.toNat] ++ b.vs, ps := [g.toNat] }
  | .vxor g _ d a b => { vd := [d.toNat], xs := b.xs, vs := [a.toNat] ++ b.vs, ps := [g.toNat] }
  | .vandn g _ d a b => { vd := [d.toNat], xs := b.xs, vs := [a.toNat] ++ b.vs, ps := [g.toNat] }
  | .vsll g _ d a b => { vd := [d.toNat], xs := b.xs, vs := [a.toNat] ++ b.vs, ps := [g.toNat] }
  | .vsrl g _ d a b => { vd := [d.toNat], xs := b.xs, vs := [a.toNat] ++ b.vs, ps := [g.toNat] }
  | .vsra g _ d a b => { vd := [d.toNat], xs := b.xs, vs := [a.toNat] ++ b.vs, ps := [g.toNat] }
  | .vabs g _ d a => { vd := [d.toNat], vs := [a.toNat], ps := [g.toNat] }
  | .vneg g _ d a => { vd := [d.toNat], vs := [a.toNat], ps := [g.toNat] }
  | .vavg g _ d a b _ => { vd := [d.toNat], xs := b.xs, vs := [a.toNat] ++ b.vs, ps := [g.toNat] }
  | .vmov g _ d a => { vd := [d.toNat], vs := [a.toNat], ps := [g.toNat] }
  | .vsel g _ d a b => { vd := [d.toNat], xs := b.xs, vs := [a.toNat] ++ b.vs, ps := [g.toNat] }
  | .vcls g _ d a => { vd := [d.toNat], vs := [a.toNat], ps := [g.toNat] }
  | .vpopc g _ d a => { vd := [d.toNat], vs := [a.toNat], ps := [g.toNat] }
  | .vcmpeq g _ p a b => { pd := [p.toNat], xs := b.xs, vs := [a.toNat] ++ b.vs, ps := [g.toNat] }
  | .vcmpne g _ p a b => { pd := [p.toNat], xs := b.xs, vs := [a.toNat] ++ b.vs, ps := [g.toNat] }
  | .vcmplt g _ p a b => { pd := [p.toNat], xs := b.xs, vs := [a.toNat] ++ b.vs, ps := [g.toNat] }
  | .vcmple g _ p a b => { pd := [p.toNat], xs := b.xs, vs := [a.toNat] ++ b.vs, ps := [g.toNat] }
  | .vcmpltu g _ p a b => { pd := [p.toNat], xs := b.xs, vs := [a.toNat] ++ b.vs, ps := [g.toNat] }
  | .vcmpleu g _ p a b => { pd := [p.toNat], xs := b.xs, vs := [a.toNat] ++ b.vs, ps := [g.toNat] }
  | .vnarrow g _ d a b _ => { vd := [d.toNat], xs := [b.toNat], vs := pairOf a, ps := [g.toNat] }
  | .vwiden g _ d a b _ => { vd := [d.toNat], xs := [b.toNat], vs := [a.toNat], ps := [g.toNat] }
  | .vshrr g _ d a b => { vd := [d.toNat], xs := [b.toNat], vs := [a.toNat], ps := [g.toNat] }
  | .vsshr g _ d a b => { vd := [d.toNat], xs := [b.toNat], vs := [a.toNat], ps := [g.toNat] }
  | .vsplat g _ d b => { vd := [d.toNat], xs := [b.toNat], ps := [g.toNat] }
  | .vextr g _ d a b _ => { xd := [d.toNat], xs := [b.toNat], vs := [a.toNat], ps := [g.toNat] }
  | .vinsr g _ d a b => { vd := [d.toNat], xs := [a.toNat, b.toNat], ps := [g.toNat] }
  | .viota g _ d b _ => { vd := [d.toNat], xs := [b.toNat], ps := [g.toNat] }
  | .vcb4 g d a b _ => { vd := [d.toNat], xs := [b.toNat], vs := [a.toNat], ps := [g.toNat] }
  | .vq4p g d a => { vd := [d.toNat], vs := pairOf a, ps := [g.toNat] }
  | .vq4u g d a _ => { vd := [d.toNat], vs := [a.toNat], ps := [g.toNat] }
  | .vredadd g _ d a b _ => { vd := [d.toNat], xs := optXs b, vs := [a.toNat], ps := [g.toNat] }
  | .vredmax g _ d a b _ => { vd := [d.toNat], xs := optXs b, vs := [a.toNat], ps := [g.toNat] }
  | .vredmin g _ d a b _ => { vd := [d.toNat], xs := optXs b, vs := [a.toNat], ps := [g.toNat] }
  | .vredor g _ d a b => { vd := [d.toNat], xs := optXs b, vs := [a.toNat], ps := [g.toNat] }
  | .vtorq g _ a b _ => { xs := optXs b, vs := [a.toNat], ps := [g.toNat] }
  | .vcens g _ a b _ => { xs := [b.toNat], vs := [a.toNat], ps := [g.toNat] }
  | .vexp g d a b => { vd := [d.toNat], xs := [b.toNat], vs := [a.toNat], ps := [g.toNat] }
  | .vrcp g d a b => { vd := [d.toNat], xs := [b.toNat], vs := [a.toNat], ps := [g.toNat] }
  | .vrsq g d a b => { vd := [d.toNat], xs := [b.toNat], vs := [a.toNat], ps := [g.toNat] }
  | .vdiv g d a b => { vd := [d.toNat], xs := b.xs, vs := [a.toNat] ++ b.vs, ps := [g.toNat] }
  | .vopt g d a b => { vd := [d.toNat, d.toNat + 1, d.toNat + 2], xs := [b.toNat], vs := [d.toNat, d.toNat + 1, d.toNat + 2, a.toNat], ps := [g.toNat] }
  | .vbmm g d a b _ => { vd := [d.toNat], xs := b.xs, vs := [a.toNat] ++ b.vs, ps := [g.toNat] }
  | .vpdep g _ d a b => { vd := [d.toNat], xs := b.xs, vs := [a.toNat] ++ b.vs, ps := [g.toNat] }
  | .vpext g _ d a b => { vd := [d.toNat], xs := b.xs, vs := [a.toNat] ++ b.vs, ps := [g.toNat] }
  | .vbperm g d a b => { vd := [d.toNat], xs := b.xs, vs := [a.toNat] ++ b.vs, ps := [g.toNat] }
  | .vperm g _ d a b m => { vd := [d.toNat], vs := [b.toNat] ++ (if m then pairOf a else [a.toNat]), ps := [g.toNat] }
  | .vslide g _ d a b m => { vd := [d.toNat], xs := [b.toNat], vs := (if m then pairOf a else [a.toNat]), ps := [g.toNat] }
  | .vspush g _ _ a => { vs := [a.toNat], ps := [g.toNat] }
  | .vspop g _ d _ p _ => { vd := [d.toNat], pd := [p.toNat], ps := [g.toNat] }
  | .vsflush g _ d _ => { xd := [d.toNat], ps := [g.toNat] }
  | .vslen g _ d _ => { xd := [d.toNat], ps := [g.toNat] }
  | .vld g _ d a b => { vd := [d.toNat], xs := [a.toNat] ++ optXs b, ps := [g.toNat] }
  | .vst g _ d a b => { xs := [a.toNat] ++ optXs b, vs := [d.toNat], ps := [g.toNat] }
  | .vlds g _ d a b => { vd := [d.toNat], xs := [a.toNat, b.toNat], ps := [g.toNat] }
  | .vsts g _ d a b => { xs := [a.toNat, b.toNat], vs := [d.toNat], ps := [g.toNat] }
  | .vldx g _ d a b _ => { vd := [d.toNat], xs := [a.toNat], vs := [b.toNat], ps := [g.toNat] }
  | .vstx g _ d a b _ => { xs := [a.toNat], vs := [d.toNat, b.toNat], ps := [g.toNat] }
  | .vldt g _ d a b => { vd := [d.toNat], xs := [a.toNat, b.toNat], ps := [g.toNat] }
  | .vstt g _ d a b => { xs := [a.toNat, b.toNat], vs := [d.toNat], ps := [g.toNat] }
  | .vldb g _ d a b => { vd := [d.toNat], xs := [a.toNat] ++ optXs b, ps := [g.toNat] }
  | .vldp g p a b => { pd := [p.toNat], xs := [a.toNat] ++ optXs b, ps := [g.toNat] }
  | .vstp g p a b => { xs := [a.toNat] ++ optXs b, ps := [g.toNat, p.toNat] }
  | .mpw g a _ _ => { xs := [a.toNat], ps := [g.toNat] }
  | .mpr g d _ _ => { xd := [d.toNat], ps := [g.toNat] }
  | .mcfg g a _ => { xs := [a.toNat], ps := [g.toNat] }
  | .mdrain g d _ => { xd := [d.toNat], ps := [g.toNat] }
  | .mcall g r c _ _ => { xs := [r.toNat, c.toNat], ps := [g.toNat] }
  | .mcallg g r c _ _ => { xs := [r.toNat, c.toNat], ps := [g.toNat] }
  | .mspec g _ _ => { ps := [g.toNat] }
  | .mcommit g _ => { ps := [g.toNat] }
  | .mdiscard g _ => { ps := [g.toNat] }
  | .mzero g a _ _ => { xs := [a.toNat], ps := [g.toNat] }
  | .maccld g x a _ => { xs := [x.toNat, a.toNat], ps := [g.toNat] }
  | .maccst g x a _ => { xs := [x.toNat, a.toNat], ps := [g.toNat] }
  | .mucw g x a _ _ => { xs := [x.toNat, a.toNat], ps := [g.toNat] }
  | .mucr g d x _ _ => { xd := [d.toNat], xs := [x.toNat], ps := [g.toNat] }
  | .mstat g _ _ => { ps := [g.toNat] }
  | .mrpg g d _ => { xd := [d.toNat], ps := [g.toNat] }
  | .erw g a _ => { xs := [a.toNat], ps := [g.toNat] }
  | .erd g d _ => { xd := [d.toNat], ps := [g.toNat] }
  | .cpy g c o _ _ => { xs := [c.toNat, o.toNat], ps := [g.toNat] }
  | .cpym g c o _ _ => { xs := [c.toNat, o.toNat], ps := [g.toNat] }
  | .cpyx g c t _ => { xs := [c.toNat, t.toNat], ps := [g.toNat] }
  | .cpyw g c o _ _ => { xs := [c.toNat, o.toNat], ps := [g.toNat] }
  | .cpyc g d m => { xd := [d.toNat], xs := [m.toNat], ps := [g.toNat] }
  | .coll g h c => { xs := [h.toNat, c.toNat], ps := [g.toNat] }
  | .csig g h k => { xs := [h.toNat, k.toNat], ps := [g.toNat] }
  | .acq g d a => { xd := [d.toNat], xs := [a.toNat], ps := [g.toNat] }
  | .rel g d a => { xd := [d.toNat], xs := [a.toNat], ps := [g.toNat] }
  | .bind g d a b => { xd := [d.toNat], xs := [a.toNat] ++ pairOf b, ps := [g.toNat] }
  | .unbind g a => { xs := [a.toNat], ps := [g.toNat] }
  | .fence g _ => { ps := [g.toNat] }
  | .qmake g d a => { xd := [d.toNat], xs := [a.toNat], ps := [g.toNat] }
  | .qpush g d a b => { xd := [d.toNat], xs := [a.toNat, b.toNat], ps := [g.toNat] }
  | .qpop g d a => { xd := [d.toNat], xs := [a.toNat], ps := [g.toNat] }
  | .qfree g a => { xs := [a.toNat], ps := [g.toNat] }
  | .mbsend g d a b => { xd := [d.toNat], xs := [a.toNat] ++ pairOf b, ps := [g.toNat] }
  | .mbrecv g d p _ => { xd := pairOf d, pd := [p.toNat], ps := [g.toNat] }
  | .mbbind g a _ => { xs := [a.toNat], ps := [g.toNat] }
  | .sbarm g a b => { xs := [a.toNat, b.toNat], ps := [g.toNat] }
  | .sbwait g d a b => { xd := [d.toNat], xs := [a.toNat, b.toNat], ps := [g.toNat] }
  | .sbtst g d a => { xd := [d.toNat], xs := [a.toNat], ps := [g.toNat] }
  | .dbar g _ _ => { ps := [g.toNat] }
  | .waitany g d a => { xd := [d.toNat], xs := [a.toNat], ps := [g.toNat] }
  | .waitall g d a => { xd := [d.toNat], xs := [a.toNat], ps := [g.toNat] }
  | .ffr g d a => { xd := [d.toNat], xs := [a.toNat], ps := [g.toNat] }
  | .tagclr g a => { xs := [a.toNat], ps := [g.toNat] }
  | .rqpop g d => { xd := [d.toNat], ps := [g.toNat] }
  | .ldacq g d a _ => { xd := [d.toNat], xs := [a.toNat], ps := [g.toNat] }
  | .strel g t a _ => { xs := [t.toNat, a.toNat], ps := [g.toNat] }
  | .invr g a b => { xs := [a.toNat, b.toNat], ps := [g.toNat] }
  | .wbr g a b => { xs := [a.toNat, b.toNat], ps := [g.toNat] }
  | .tspawn g a => { xs := [a.toNat, 61], ps := [g.toNat] }
  | .tspawnr g a => { xs := [a.toNat, 61], ps := [g.toNat] }
  | .tspawng g a => { xs := [a.toNat, 61], ps := [g.toNat] }
  | .fspawn g a => { xs := [a.toNat, 61], ps := [g.toNat] }
  | .fref g a => { xs := [a.toNat], ps := [g.toNat] }
  | .fdrop g a => { xs := [a.toNat], ps := [g.toNat] }
  | .fget g d a p => { xd := pairOf d, pd := [p.toNat], xs := [a.toNat], ps := [g.toNat] }
  | .tdec g d a b => { xd := [d.toNat], xs := [a.toNat, b.toNat], ps := [g.toNat] }
  | .tcont g a b => { xs := [a.toNat, b.toNat, 61], ps := [g.toNat] }
  | .tend g a => { xs := [61] ++ pairOf a, ps := [g.toNat] }
  | .tyield g _ => { ps := [g.toNat] }
  | .rnext g d => { xd := pairOf d, xs := [61], ps := [g.toNat] }
  | .nxtreq g d a => { xd := [d.toNat], xs := [a.toNat, 61], ps := [g.toNat] }
  | .pload g a _ => { xs := [a.toNat], ps := [g.toNat] }
  | .pswap g => { ps := [g.toNat] }
  | .tsrd g d _ _ => { xd := [d.toNat], ps := [g.toNat] }
  | .tswr g _ a _ => { xs := [a.toNat], ps := [g.toNat] }
  | .tsclr g _ => { ps := [g.toNat] }
  | .srd g d _ => { xd := [d.toNat], ps := [g.toNat] }
  | .swr g a _ => { xs := [a.toNat], ps := [g.toNat] }
  | .trap g _ => { ps := [g.toNat] }
  | .eret g => { ps := [g.toNat] }
  | .feat g d _ => { xd := [d.toNat], ps := [g.toNat] }
  | .aadd g _ d a b => { xd := [d.toNat], xs := [a.toNat, b.toNat], ps := [g.toNat] }
  | .amin g _ d a b => { xd := [d.toNat], xs := [a.toNat, b.toNat], ps := [g.toNat] }
  | .amax g _ d a b => { xd := [d.toNat], xs := [a.toNat, b.toNat], ps := [g.toNat] }
  | .aminu g _ d a b => { xd := [d.toNat], xs := [a.toNat, b.toNat], ps := [g.toNat] }
  | .amaxu g _ d a b => { xd := [d.toNat], xs := [a.toNat, b.toNat], ps := [g.toNat] }
  | .aand g _ d a b => { xd := [d.toNat], xs := [a.toNat, b.toNat], ps := [g.toNat] }
  | .aor g _ d a b => { xd := [d.toNat], xs := [a.toNat, b.toNat], ps := [g.toNat] }
  | .axor g _ d a b => { xd := [d.toNat], xs := [a.toNat, b.toNat], ps := [g.toNat] }
  | .aswap g z d a b => { xd := (if z = 2 then pairOf d else [d.toNat]), xs := [a.toNat] ++ (if z = 2 then pairOf b else [b.toNat]), ps := [g.toNat] }
  | .acas g z d a b => { xd := (if z = 2 then pairOf d else [d.toNat]), xs := [a.toNat] ++ (if z = 2 then pairOf d else [d.toNat]) ++ (if z = 2 then pairOf b else [b.toNat]), ps := [g.toNat] }
  | .aadds g _ d a b => { xd := [d.toNat], xs := [a.toNat, b.toNat], ps := [g.toNat] }
  | .redadd g _ a b => { xs := [a.toNat, b.toNat], ps := [g.toNat] }
  | .redmin g _ a b => { xs := [a.toNat, b.toNat], ps := [g.toNat] }
  | .redmax g _ a b => { xs := [a.toNat, b.toNat], ps := [g.toNat] }
  | .redadds g _ a b => { xs := [a.toNat, b.toNat], ps := [g.toNat] }
  | .redor g _ a b => { xs := [a.toNat, b.toNat], ps := [g.toNat] }
  | .loadLand .. | .returnQueueLand .. | .matrixCommandAccept .. | .microEnd .. | .microNop .. | .microSetm ..
  | .microSeti .. | .microAddi .. | .microBnz .. | .microJmp .. | .microLda .. | .microLdb .. | .microMac ..
  | .microZero .. | .microScat .. | .microAddv .. | .microChk .. | .microReserved .. | .stagingLoadComplete ..
  | .macStepComplete .. | .matrixCommandComplete .. | .copyCommandStart .. | .permitGrant .. | .copyGranuleWrite ..
  | .copyCommandComplete .. | .collectiveStart .. | .readyBitSet .. | .collectiveComplete .. | .nxtreqAnswer ..
  | .redTranslate .. | .pageWalkComplete .. | .faultRecordWrite .. | .verdictRetry .. | .verdictTranslation ..
  | .verdictProtection .. | .verdictDrop .. | .select .. | .imageLoadStart .. | .planeLoadComplete ..
  | .timeSliceExpiry .. | .graceExpiry .. | .saveComplete .. | .eclipseReclaim .. | .taskFinish .. | .dimmerUpdate ..
  | .governorWindowEnd | .scrub .. | .freezeSignal .. | .holdbackEnd .. | .regularRefresh .. | .writePacket ..
  | .readPacket .. | .rdataPacket .. | .atomicPacket .. | .aresultPacket .. | .redPacket .. | .chunkPacket ..
  | .ackPacket .. | .beaconPacket .. | .probePacket .. | .packetForward .. | .packetAgeDiscard .. | .ackSend ..
  | .retxTimeout .. | .portDown .. | .beaconSend | .beaconMiss .. | .probeSend .. | .peerLostDeclare ..
  | .lostDeclaration .. | .hostMemoryAccess .. | .hostScratchpadAccess .. | .launch .. | .launchDrop ..
  | .contextRegister .. | .contextDelete .. | .halt .. | .haltDrainDone | .resume .. | .tlbinvPage ..
  | .tlbinvAsid .. | .tlbinvDone | .packageAdmit .. | .modeWrite .. | .thresholdWrite .. | .rowThresholdWrite ..
  | .afterglowRun .. | .keyLoad .. | .attest .. | .attestDone | .bootGo .. | .mgmtWrite .. | .coldReset | .warmReset
  | .supplyLoss | .l1Eviction .. => {}

/-- The units of sys.feat whose absence makes the word fault (R43 step 5, R166): bit 0 ME0, 1 ME1, 2 bit-logic, 3 stream switch, 4 routine unit, 5 CE1. -/
def Instr.units (i : Instr) (slot : Nat) : BitVec 6 :=
  if slot = 5 then 0x20
  else
    let me (e : Bool) : BitVec 6 := if e then 2 else 1
    match i with
    | .mpw _ _ _ e | .mpr _ _ _ e | .mcfg _ _ e | .mdrain _ _ e | .mspec _ _ e | .mcommit _ e | .mdiscard _ e
    | .mzero _ _ _ e | .maccld _ _ _ e | .maccst _ _ _ e | .mucw _ _ _ _ e | .mucr _ _ _ _ e | .mstat _ _ e
    | .mrpg _ _ e => me e
    | .mcall _ _ _ p e | .mcallg _ _ _ p e => if p then 3 else me e
    | .vbmm .. | .vpdep .. | .vpext .. | .vbperm .. => 4
    | .vspush .. | .vspop .. | .vsflush .. | .vslen .. => 8
    | .vexp .. | .vrcp .. | .vrsq .. | .vdiv .. | .vopt .. => 16
    | _ => 0

/-- The word has class 0xB (R226). -/
def Code.isTaskClass (w : Code) : Bool := decide (Code.cls w = 0xB#4)

/-- A word that ends the running of its bundle by its own effect, after every other slot of it: TEND, TCONT, TYIELD, PSWAP, TRAP, ERET [log 18]. -/
def Instr.last (i : Instr) : Bool :=
  match i with
  | .tend .. | .tcont .. | .tyield .. | .pswap .. | .trap .. | .eret .. => true
  | _ => false

/-- The word writes p8 to p15 as the stage predicates of a kernel: LOOPP (R81). -/
def Instr.startsStages (i : Instr) : Bool :=
  match i with
  | .loopp .. => true
  | _ => false

/-- Each active lane of the vector instruction uses the same byte lanes of its vector sources, and only those [log 44]. -/
def Instr.sameLanes (i : Instr) : Bool :=
  match i with
  | .vadd .. | .vsub .. | .vadds .. | .vsubs .. | .vaddsu .. | .vsubsu .. | .vmul .. | .vmulh .. | .vmulhu .. | .vmulq ..
  | .vmin .. | .vmax .. | .vminu .. | .vmaxu .. | .vand .. | .vor .. | .vxor .. | .vandn .. | .vsll .. | .vsrl .. | .vsra ..
  | .vabs .. | .vneg .. | .vavg .. | .vmov .. | .vsel .. | .vcls .. | .vpopc .. | .vcmpeq .. | .vcmpne .. | .vcmplt ..
  | .vcmple .. | .vcmpltu .. | .vcmpleu .. | .vshrr .. | .vsshr .. | .vcens .. | .vbmm .. | .vpdep .. | .vpext .. | .vbperm ..
  | .vspush .. | .vst .. | .vsts .. | .vstx .. | .vldx .. => true
  | _ => false

/-- A routine instruction, which checks its vector sources itself (R146). -/
def Instr.isRoutine (i : Instr) : Bool :=
  match i with
  | .vexp .. | .vrcp .. | .vrsq .. | .vdiv .. | .vopt .. => true
  | _ => false

/-- What the word does goes beyond the registers: stores, stream buffers, the return queue, and classes 0x8 to 0xC [log 31]. -/
def Code.firm (w : Code) : Bool :=
  let c := (Code.cls w).toNat
  let o := (w.extractLsb' 23 5).toNat
  if c = 2 then decide (16 ≤ o ∧ o / 2 ≠ 13)
  else if c = 5 then decide (o = 21)
  else if c = 6 then decide (11 ≤ o ∧ o ≤ 13)
  else if c = 7 then decide (o = 1 ∨ o = 3 ∨ o = 5 ∨ o = 7 ∨ o = 10)
  else decide (8 ≤ c ∧ c ≤ 12)

end Sys2Proof
end

