-- ==== Sys2Proof/Machine/Bundle.lean ====
section
/-! DEFINITION. Fetch, segments and the Mirror unit, decode of a bundle, loop ends, and what happens around the slots of a bundle: R25 to R34, R43, R59, R77, R82, R83, R88 to R91, R105, R106, R364. -/

namespace Sys2Proof.Machine

/-! ### Loop bodies and the loop buffer (R81, R85) -/

/-- The innermost active level (R81). -/
def LoopRegs.innermost (l : LoopRegs) : Option (Fin 3) :=
  if l.lc[2] ≠ 0 then some 2 else if l.lc[1] ≠ 0 then some 1 else if l.lc[0] ≠ 0 then some 0 else none

/-- The address of a level's body, bit 0 ignored (R85). -/
def LoopRegs.body (l : LoopRegs) (i : Fin 3) : VAddr := l.lb[i] &&& ~~~(1 : VAddr)

/-- The end of a level's body (R82). -/
def LoopRegs.bodyEnd (l : LoopRegs) (i : Fin 3) : VAddr := l.body i + BitVec.ofNat 55 (4 * l.ln[i].toNat)

/-- A position lies in a level's body. -/
def LoopRegs.inside (l : LoopRegs) (i : Fin 3) (a : VAddr) : Bool := decide (l.body i ≤ a ∧ a < l.bodyEnd i)

/-- The loop buffer filled with a body, as the lit plane holds it: poison travels with the words (R85, R307). -/
def Core.copyBody (c : Core) (base : VAddr) (n : Nat) (ready : Bool) : LoopBuf :=
  let at' (k : Nat) : VAddr := base + BitVec.ofNat 55 (4 * k)
  { base, words := (List.range n).map fun k => (c.codeAt (at' k)).getD 0,
    poison := (List.range n).filter fun k => c.lit.poison.contains ((at' k - c.lit.base).toNat / 8), ready }

/-- The buffer filled with the body of the innermost active level, or empty (R8, R85). -/
def Core.fillBuf (c : Core) (ready : Bool) : LoopBuf :=
  match c.t.loop.innermost with
  | none => .reset
  | some i => c.copyBody (c.t.loop.body i) (c.t.loop.ln[i]).toNat ready

/-- The place in the loop buffer from which the word at an address issues: in every iteration after the one that fills the buffer (R85). -/
def Core.buffered (c : Core) (a : VAddr) : Option Nat :=
  match c.t.loop.innermost with
  | none => none
  | some i =>
    if c.t.loop.valid && c.buf.ready && decide (c.buf.base = c.t.loop.body i) && c.t.loop.inside i a then some ((a - c.buf.base).toNat / 4)
    else none

/-- The loop buffer after a bundle (R85): a loop that starts fills it; at a loop-back it is filled, or, if it holds another level's body, refills in the iteration that follows. -/
def Core.nextBuf (c : Core) (before : LoopRegs) (r : Redirect) : LoopBuf :=
  match r, c.t.loop.innermost with
  | .enter _, _ => c.fillBuf false
  | _, none => c.buf
  | _, some i =>
    if before.lc[i] = c.t.loop.lc[i] then c.buf
    else if before.valid && decide (c.buf.base = c.t.loop.body i) then { c.buf with ready := true }
    else c.fillBuf false

/-! ### Fetch (R33, R307, R364) -/

/-- A fault of the whole bundle (R29, R43). -/
def wholeExc (c : Cause) (a : VAddr) : Exc := { cause := c, addr := a }

/-- The word at a position, from the lit plane or the loop buffer: BAD_TARGET outside the plane's code (R364), POISON from a poisoned word (R85, R307). -/
def Core.fetchWord (c : Core) (a : VAddr) : Except Exc Code :=
  match c.codeAt a with
  | none => .error (wholeExc .badTarget a)
  | some w =>
    match c.buffered a with
    | some k => if c.buf.poison.contains k then .error (wholeExc .poison a) else .ok (c.buf.words.getD k w)
    | none => if c.lit.poison.contains ((a - c.lit.base).toNat / 8) then .error (wholeExc .poison a) else .ok w

/-- n words from a position. -/
def Core.fetchWords (c : Core) (a : VAddr) (n : Nat) : Except Exc (List Code) :=
  match n with
  | 0 => .ok []
  | k + 1 =>
    match c.fetchWord a with
    | .error e => .error e
    | .ok w =>
      match c.fetchWords (a + 4) k with
      | .error e => .error e
      | .ok r => .ok (w :: r)

/-! ### Decode of a bundle (R29, R43) -/

/-- The slots present, in the order S, V0, V1, M, C0, C1 (R26). -/
def slotsOf (mask : BitVec 6) : List Nat := (List.range 6).filter fun i => mask.getLsbD i

/-- What a word that is no instruction raises (R42, R43). -/
def Reject.exc (r : Reject) (slot : Nat) : Exc :=
  let sl := BitVec.ofNat 3 slot
  match r with
  | .illegalInstruction => { cause := .illegalInstruction, slot := sl }
  | .illegalSlot => { cause := .illegalSlot, slot := sl }
  | .illegalBundle => { cause := .illegalBundle }
  | .illegalOperand f => { cause := .illegalOperand, slot := sl, opnd := f }

/-- Step 3 of R43: each slot word in order. -/
def decodeSlots (ws : List (Nat × Code)) : Except Exc (List (Nat × Instr)) :=
  match ws with
  | [] => .ok []
  | (k, w) :: r =>
    match decodeInSlot k w with
    | .error e => .error (Reject.exc e k)
    | .ok i =>
      match decodeSlots r with
      | .error e => .error e
      | .ok is => .ok ((k, i) :: is)

/-- Some number other than 0 stands twice in a list. -/
def hasTwice (l : List Nat) : Bool :=
  match l with
  | [] => false
  | a :: r => (decide (a ≠ 0) && r.contains a) || hasTwice r

/-- Some number, 0 included, stands twice in a list. -/
def hasTwice0 (l : List Nat) : Bool :=
  match l with
  | [] => false
  | a :: r => r.contains a || hasTwice0 r

/-- Step 4 of R43: two slots, or a slot and the header, name one destination (R29). -/
def conflicts (h : Header) (is : List (Nat × Instr)) : Bool :=
  hasTwice (is.map fun q => q.2.regs.xd).flatten || hasTwice0 (is.map fun q => q.2.regs.vd).flatten ||
  hasTwice ((if h.plop = 0 then [] else [h.pd.toNat]) ++ (is.map fun q => q.2.regs.pd).flatten)

/-- Step 5 of R43: the first word that needs an absent unit, with the units it needs. -/
def absentUnit (feat : BitVec 6) (is : List (Nat × Instr)) : Option Exc :=
  (is.find? fun q => decide (q.2.units q.1 &&& ~~~feat ≠ 0)).map fun q =>
    { cause := .featureAbsent, slot := BitVec.ofNat 3 q.1, units := q.2.units q.1 }

/-- A decoded bundle: its header, its words with the header first, its slots, and the word after it. -/
structure Decoded where
  head : Header
  words : List Code
  slots : List (Nat × Instr)
  next : VAddr

/-- The bundle crosses the body end of the innermost active level (R82). -/
def LoopRegs.crossed (l : LoopRegs) (h next : VAddr) : Bool :=
  match l.innermost with
  | none => false
  | some i => l.inside i h && decide (l.bodyEnd i < next)

/-- The checks of R43 on the bundle whose header word stands at the program counter. All slot words are fetched before any is decoded, and a body end that the bundle crosses is found with step 4: the manual gives neither its place [log 40]. -/
def Core.decodeBundle (c : Core) (w : Code) : Except Exc Decoded :=
  match decodeHeader w with
  | .error .illegalInstruction => .error (wholeExc .illegalInstruction 0)
  | .error _ => .error (wholeExc .illegalBundle 0)
  | .ok h =>
    match c.fetchWords (c.t.pc + 4) (slotsOf h.mask).length with
    | .error e => .error e
    | .ok ws =>
      match decodeSlots ((slotsOf h.mask).zip ws) with
      | .error e => .error e
      | .ok is =>
        let next := c.t.pc + BitVec.ofNat 55 (4 + 4 * ws.length)
        if conflicts h is || c.t.loop.crossed c.t.pc next then .error (wholeExc .illegalBundle 0)
        else
          match absentUnit c.feat is with
          | some e => .error e
          | none => .ok { head := h, words := w :: ws, slots := is, next }

/-! ### Segments (R22, R33, R34, R88 to R91) -/

/-- The bundle would take the count past the expected one (R90). -/
def Segment.overrun (g : Segment) (wait : BitVec 3) : Bool :=
  g.isOpen && !g.unchk && decide (g.count.toNat + 1 + wait.toNat > g.expCount.toNat)

/-- An issued bundle's count and signature (R34); an unchecked count stops at 4,095 (R89). -/
def Segment.account (g : Segment) (wait : BitVec 3) (ws : List Code) : Segment :=
  { g with count := BitVec.ofNat 12 (min 4095 (g.count.toNat + 1 + wait.toNat)), crc := crc16Words g.crc ws }

/-- Closing the segment finds its count or its signature wrong (R90). -/
def Segment.fails (g : Segment) : Bool :=
  g.isOpen && !g.unchk && (decide (g.count ≠ g.expCount) || decide (g.crc ≠ g.expSig))

/-- The address hash of Sampled mode (R89). -/
def sampledHash (a : VAddr) : Bool :=
  let n := a.toNat
  decide (Nat.xor (Nat.xor (bitsOf n 5 2) (bitsOf n 9 6)) (Nat.xor (bitsOf n 13 10) (bitsOf n 17 14)) = 0)

/-- The segment that an SCW opens (R32, R89). -/
def openSegment (m : MirrorMode) (a : VAddr) (w : Code) : Segment :=
  let n : BitVec 12 := w.extractLsb' 16 12
  { count := 0, crc := 0xFFFF, isOpen := true, unchk := decide (n = 0) || (decide (m = .sampled) && !sampledHash a),
    expCount := n, expSig := w.extractLsb' 0 16, scw := a }

/-- The MIRROR fault of the open segment (R90). -/
def State.mirrorExc (s : State) : Exc := wholeExc .mirror s.core.t.seg.scw

/-- An SCW at the program counter: it closes and checks the open segment, then opens its own; a mode write takes effect here (R33, R89, R90, R344). -/
def State.scw (s : State) (w : Code) : State :=
  let a := s.core.t.pc
  if s.core.t.seg.fails then s.takeException s.mirrorExc a
  else
    let m := s.power.modes.mirror
    let s1 := (s.modCore fun c => { c with mirror := m }).modT fun t => { t with seg := openSegment m a w, pc := a + 4 }
    if m = .strict ∧ w.extractLsb' 16 12 = 0#12 then s1.takeException s1.mirrorExc a else s1

/-! ### Loop ends and redirects (R82, R83) -/

/-- The stage predicates of the next kernel iteration (R82): p(8+s) := p(8+s-1), and p8 from the count. -/
def rotateStages (p : File 4 Pred) (more : Bool) : File 4 Pred :=
  Vector.ofFn fun i =>
    if i.val < 8 then p[i] else if i.val = 8 then (if more then BitVec.allOnes 256 else 0) else p[i.val - 1]'(by omega)

/-- The predicates as a loop end reads them: one whose last result has not landed gives a free value (R58) [log 8]. -/
def TaskState.stageVals (t : TaskState) (fresh : Nat) : File 4 Pred :=
  Vector.ofFn fun i => if 8 ≤ i.val ∧ t.sb.cyc + 1 < t.sb.landP[i] then Config.freePred fresh i.val else t.p[i]

/-- The stage predicates are visible from the next bundle on (R87). -/
def stagesLand (l : File 4 Nat) : File 4 Nat := Vector.ofFn fun i => if i.val < 8 then l[i] else 0

/-- The stage predicates at the start of a LOOPP with trips (R81). -/
def stagesAtStart (p : File 4 Pred) : File 4 Pred :=
  Vector.ofFn fun i => if i.val < 8 then p[i] else if i.val = 8 then BitVec.allOnes 256 else 0

/-- A far result on its way to a predicate goes to another one. -/
def FarOp.retarget (f : FarOp) (g : BitVec 4 → BitVec 4) : FarOp :=
  match f.val with
  | .pred d v m => { f with val := .pred (g d) v m }
  | .fget d v p ok => { f with val := .fget d v (g p) ok }
  | _ => f

/-- What is on its way to a stage predicate as a kernel turns is on its way to the next one, and out of p15 to none (R86). -/
def stageOn (d : BitVec 4) : BitVec 4 := if d.toNat < 8 then d else d + 1

/-- What is on its way to a stage predicate as a LOOPP writes them all comes to none. -/
def stageOff (d : BitVec 4) : BitVec 4 := if d.toNat < 8 then d else 0

/-- A level as a LOOPP level (R81). -/
def LoopRegs.isP (l : LoopRegs) (i : Fin 3) : Bool := l.lb[i].getLsbD 0

/-- The iterations that remain at a level (R81). -/
def LoopRegs.remaining (l : LoopRegs) (i : Fin 3) : Nat := if l.isP i then l.lc[i].toNat % 2 ^ 29 else l.lc[i].toNat

/-- Loop-end processing at a position (R82): where execution continues, with the loop registers and stage predicates updated. -/
def TaskState.loopEnd (t : TaskState) (fresh fuel : Nat) (pos : VAddr) : TaskState :=
  match fuel with
  | 0 => { t with pc := pos }
  | n + 1 =>
    match t.loop.innermost with
    | none => { t with pc := pos }
    | some i =>
      if t.loop.bodyEnd i ≠ pos then { t with pc := pos }
      else
        let l := t.loop
        let c := l.remaining i - 1
        let l1 := if l.isP i then { l with vrb := l.vrb + 1 } else l
        let turns := l.isP i && decide (c > 0)
        let p1 := if turns then rotateStages (t.stageVals fresh) (decide (c > l.lc[i].toNat / 2 ^ 29)) else t.p
        let sb1 := if turns then { t.sb with landP := stagesLand t.sb.landP, far := t.sb.far.map fun f => f.retarget stageOn } else t.sb
        if c > 0 then
          let v := if l.isP i then l.lc[i].toNat / 2 ^ 29 * 2 ^ 29 + c else c
          { t with loop := { l1 with lc := l1.lc.set i (BitVec.ofNat 32 v), valid := true }, p := p1, sb := sb1, pc := l.body i }
        else { t with loop := { l1 with lc := l1.lc.set i 0, valid := false }, p := p1, sb := sb1 }.loopEnd fresh n pos

/-- A taken branch ends every active level whose body does not contain the target (R83). -/
def LoopRegs.leave (l : LoopRegs) (a : VAddr) : LoopRegs :=
  { l with
    lc := Vector.ofFn fun i => if l.inside i a then l.lc[i] else 0,
    valid := match l.innermost with
      | none => l.valid
      | some i => l.valid && l.inside i a }

/-- A kernel starts with the stage predicates of R81, whatever else its LOOPP's bundle writes to them: R86 has them so in iteration 0. -/
def TaskState.stagesFirst (t : TaskState) : TaskState :=
  match t.loop.innermost with
  | none => t
  | some i =>
    if t.loop.isP i then
      { t with p := stagesAtStart t.p, sb := { t.sb with landP := stagesLand t.sb.landP, far := t.sb.far.map fun f => f.retarget stageOff } }
    else t

/-- Where the bundle's redirect leads (R77, R81 to R84). -/
def TaskState.redirect (t : TaskState) (fresh : Nat) (r : Redirect) (next : VAddr) : TaskState :=
  match r with
  | .none => t.loopEnd fresh 3 next
  | .enter a => { t.stagesFirst with pc := a }
  | .skip a => t.loopEnd fresh 3 a
  | .branch a => { t with loop := t.loop.leave a, pc := a }
  | .eret => { t with pc := next }

/-- The redirect costs one stall cycle (R77). -/
def Redirect.stalls (r : Redirect) : Bool :=
  match r with
  | .none => false
  | .enter _ => false
  | .skip _ => true
  | .branch _ => true
  | .eret => true

/-! ### Completing a bundle (R28, R31, R34, R77, R82, R102, R104, R105) -/

/-- The header's predicate logic (R28). -/
def plopValue (op : BitVec 3) (a b : Pred) : Pred :=
  match op.toNat with
  | 1 => a &&& b
  | 2 => a ||| b
  | 3 => a ^^^ b
  | 4 => a &&& ~~~b
  | 5 => a ||| ~~~b
  | 6 => ~~~(a &&& b)
  | _ => ~~~(a ^^^ b)

/-- The header's predicate write (R28, R87). -/
def State.headLogic (s : State) (h : Header) : State :=
  if h.plop = 0 then s else s.setP h.pd (plopValue h.plop (s.rdP h.pa) (s.rdP h.pb)) 1

/-- A bundle whose effects go beyond the registers: the far results before it can no longer be undone [log 31]. -/
def Scoreboard.harden (b : Scoreboard) (firm : Bool) : Scoreboard :=
  if firm then { b with far := b.far.map fun f => { f with firm := true } } else b

/-- The guard of a slot's word, by number. -/
def guardNo (i : Instr) : Nat := i.regs.ps.headD 0

/-- The byte lanes for which a slot's word acts: every one where lane 0 of its guard stands for all (R30). -/
def State.actsOn (s : State) (k : Nat) (i : Instr) : Pred :=
  let g := s.rdP (BitVec.ofNat 4 (guardNo i))
  if k = 1 ∨ k = 2 then g else predAll (g.getLsbD 0)

/-- The register-file words that a slot's word has replaced whole: its scalar destinations, and its predicates' words whose lanes all act. A result that may not come is left to its landing. -/
def State.replaces (s : State) (k : Nat) (i : Instr) : List Nat :=
  let g := s.actsOn k i
  let xs : List Nat := match i with
    | .fget .. => []
    | .mbrecv .. => []
    | _ => if g = 0 then [] else i.regs.xd.map (1024 + ·)
  xs ++ i.regs.pd.flatMap fun p => ((List.range 4).filter fun w => decide (g.extractLsb' (64 * w) 64 = BitVec.allOnes 64)).map fun w => 1088 + 4 * p + w

/-- What a slot's word leaves of the poison of the stream buffers: a flush empties its buffer (R140). -/
def State.flushes (s : State) (k : Nat) (i : Instr) : Option (BitVec 2) :=
  match i with
  | .vsflush _ _ _ n => if s.actsOn k i = 0 then none else some n
  | _ => none

/-- The poison of the words that a bundle has written goes (R307). -/
def State.renewed (s : State) (h : Header) : State :=
  if s.core.t.regPoison.isEmpty && s.core.t.streamPoison.all (·.isEmpty) then s
  else
    let is := ((slotsOf h.mask).zip s.core.bundle.words.tail).filterMap fun q => (decodeInSlot q.1 q.2).toOption.map fun i => (q.1, i)
    let gone := is.flatMap (fun q => s.replaces q.1 q.2) ++ (if h.plop = 0 then [] else (List.range 4).map fun w => 1088 + 4 * h.pd.toNat + w)
    s.modT fun t => { t with
      regPoison := t.regPoison.filter fun w => !gone.contains w
      streamPoison := (is.filterMap fun q => s.flushes q.1 q.2).foldl (fun f n => filePut f n []) t.streamPoison }

/-- What a bundle with this header does besides its slots: predicate logic, counts, srctr, the Mirror accounting, the issue cycles, the next position and the loop buffer (R28, R34, R77, R82, R85, R102). -/
def State.completeWith (s : State) (h : Header) : State :=
  let b := s.core.bundle
  let s1 := (s.headLogic h).modT fun t => { t with seg := t.seg.account h.wait b.words }
  let s2 := s1.modT fun t => (t.applyCounts b.sats b.census).redirect s.fresh b.redirect b.next
  let s3 := (s2.renewed h).modSb fun q => { q.harden b.firm with cyc := q.cyc + 1 + h.wait.toNat }
  s3.modCore fun c => { c with srctr := c.srctr + BitVec.ofNat 64 b.random,
                               stallc := if b.redirect.stalls then c.stallc + 1 else c.stallc,
                               buf := c.nextBuf s.core.t.loop b.redirect,
                               bundle := { c.bundle with complete := true } }.forgetAsks

/-- The header word of the bundle in issue (R27). -/
def Bundle.head (b : Bundle) : Header := headerFields (b.words.headD 0)

/-- The bundle in issue completes (R31). -/
def State.completeBundle (s : State) : State := s.completeWith s.core.bundle.head

/-- The SATURATION trap of some counting slots, if one meets the test (R105): the lowest scale slot, and the earliest slot that counted against it. -/
def satExc (ts : File 6 ScaleSlot) (q : List (BitVec 3 × BitVec 6)) : Option Exc :=
  match ((List.range 64).find? fun t => q.any fun e => decide (e.2.toNat = t) && (fileGet ts e.2).exceeds) with
  | none => none
  | some t =>
    match ((List.range 6).find? fun k => q.any fun e => decide (e.2.toNat = t) && decide (e.1.toNat = k)) with
    | none => none
    | some k => some { cause := .saturation, slot := BitVec.ofNat 3 k, opnd := 4, elem := BitVec.ofNat 16 t }

/-- A bundle whose slots have all executed: it completes, unless its last slot has done so, and SATURATION may follow; in a handler the test waits for the ERET (R31, R105, R106). -/
def State.endBundle (s : State) : State :=
  if s.core.bundle.complete then s
  else
    let s1 := s.completeBundle
    if s1.core.t.sys.th then s1.modT fun t => { t with satPend := t.satPend ++ s1.core.bundle.satSlots }
    else
      match satExc s1.core.t.ts s1.core.bundle.satSlots with
      | none => s1
      | some e => s1.trapOrWait e s1.core.t.pc

/-- A bundle whose last slot traps or leaves the core itself: its counts wait for the test of R106 (R105). -/
def State.completeUntested (s : State) : State :=
  s.completeBundle.modT fun t => { t with satPend := t.satPend ++ s.core.bundle.satSlots }

/-! ### Before a bundle issues -/

/-- A register's far result is pending (R59). -/
def Scoreboard.pendingX (b : Scoreboard) (r : Nat) : Bool :=
  decide (r ≠ 0) && (b.far.any fun f =>
    match f.val with
    | .x d _ => decide (d.toNat = r)
    | .pair d _ => decide (d.toNat = r) || decide (d.toNat + 1 = r)
    | .fget d _ _ _ => decide (d.toNat = r) || decide (d.toNat + 1 = r)
    | _ => false)

def Scoreboard.pendingV (b : Scoreboard) (vrb : BitVec 4) (r : Nat) : Bool :=
  b.far.any fun f =>
    match f.val with
    | .vec ph _ _ => decide (ph = physV vrb (BitVec.ofNat 5 r))
    | _ => false

def Scoreboard.pendingP (b : Scoreboard) (r : Nat) : Bool :=
  decide (r ≠ 0) && (b.far.any fun f =>
    match f.val with
    | .pred d _ _ => decide (d.toNat = r)
    | .fget _ _ p _ => decide (p.toNat = r)
    | _ => false)

/-- The interlocks of R59 and R93: a register of the bundle is pending, or a next-tile answer is late. -/
def Scoreboard.stalls (b : Scoreboard) (vrb : BitVec 4) (h : Header) (is : List (Nat × Instr)) : Bool :=
  (is.any fun q =>
    let r := q.2.regs
    (r.xd ++ r.xs).any b.pendingX || (r.vd ++ r.vs).any (b.pendingV vrb) || (r.pd ++ r.ps).any b.pendingP) ||
  [h.pd.toNat, h.pa.toNat, h.pb.toNat].any b.pendingP || b.nxt.any fun q => decide (q.due ≤ b.cyc)

/-- A LOOPP, or the end of a kernel's body with iterations to come, writes p8 to p15: a far result due in one of them is waited for (R59, R82, R86). -/
def TaskState.stagesLate (t : TaskState) (d : Decoded) : Bool :=
  let turns := match t.loop.innermost with
    | none => false
    | some i => t.loop.isP i && decide (t.loop.bodyEnd i = d.next) && decide (1 < t.loop.remaining i)
  (turns || d.slots.any fun q => q.2.startsStages) && [8, 9, 10, 11, 12, 13, 14, 15].any t.sb.pendingP

/-- What a bundle's words do goes beyond the registers [log 31]. -/
def Decoded.firm (d : Decoded) : Bool := d.words.any Code.firm

/-- A far result of another package may still nullify its bundle and what came after (R31, R74) [log 31]. -/
def Scoreboard.unsure (b : Scoreboard) : Bool := b.far.any fun f => !f.parts.isEmpty

/-- The bundle stalls: an interlock of R59 or R93, a stage predicate that is due, or effects that could not be undone. -/
def TaskState.mustStall (t : TaskState) (d : Decoded) : Bool :=
  t.sb.stalls t.loop.vrb d.head d.slots || t.stagesLate d || (d.firm && t.sb.unsure)

/-! ### Poisoned sources (R307, R345) [log 44] -/

/-- A word of a predicate is poisoned; p0 holds none. -/
def TaskState.badP (t : TaskState) (r : Nat) : Bool := decide (r ≠ 0) && (List.range 4).any fun k => t.regPoison.contains (1088 + 4 * r + k)

/-- A scalar register is poisoned; x0 is not. -/
def TaskState.badX (t : TaskState) (r : Nat) : Bool := decide (r ≠ 0) && t.regPoison.contains (1024 + r)

/-- Some words of a physical vector register, by number, are poisoned. -/
def TaskState.badV (t : TaskState) (ph : BitVec 5) (p : Nat → Bool) : Bool := (List.range 32).any fun k => p k && t.regPoison.contains (32 * ph.toNat + k)

/-- A slot or the header names a poisoned register, or would take a poisoned word from a stream buffer or the return queue. -/
def TaskState.nearPoison (t : TaskState) (d : Decoded) : Bool :=
  (!t.regPoison.isEmpty && ((d.slots.any fun q =>
      let r := q.2.regs
      r.xs.any t.badX || r.ps.any t.badP || r.vs.any fun n => t.badV (physV t.loop.vrb (BitVec.ofNat 5 n)) fun _ => true) ||
    (decide (d.head.plop ≠ 0) && [d.head.pa.toNat, d.head.pb.toNat].any t.badP))) ||
  d.slots.any fun q => match q.2 with
    | .vspop _ _ _ n _ _ => !(fileGet t.streamPoison n).isEmpty
    | .rqpop .. => (t.comp.rq.head?.map (·.bad)).getD false
    | _ => false

/-- The bundle does not simply issue: it stalls, or poison is near. -/
def TaskState.interlocked (t : TaskState) (d : Decoded) : Bool := t.mustStall d || t.nearPoison d

/-- The registers before a bundle, for a fault found when its far result comes back (R31). -/
def State.snapshot (s : State) : Undo :=
  let t := s.core.t
  { pc := t.pc, x := t.x, v := t.v, p := t.p, ts := t.ts, vflags := t.sys.vflags, loop := t.loop, seg := t.seg, landX := t.sb.landX,
    landV := t.sb.landV, landP := t.sb.landP, satPend := t.satPend, regPoison := t.regPoison, srctr := s.core.srctr }

/-- The bundle at the program counter begins: its operands are read (R58). -/
def State.beginBundle (s : State) (d : Decoded) : State :=
  let b := s.core.bundle
  { s with core := { s.core with
      old := s.operands
      undo := s.snapshot
      bundle := { Bundle.reset with header := s.core.t.pc, next := d.next, words := d.words, firm := d.firm,
                                    again := b.held && b.bounded && decide (b.header = s.core.t.pc) } } }

/-- A vector word that a slot's word uses. -/
def State.usesWord (s : State) (k : Nat) (i : Instr) (w : Nat) : Bool :=
  let g := s.actsOn k i
  if i.sameLanes then decide (g.extractLsb' (8 * w) 8 ≠ 0) else decide (g ≠ 0)

/-- A slot of the bundle in issue consumes a poisoned word: of its guard, of a source, of a stream buffer, of the return queue (R307). -/
def State.consumes (s : State) (k : Nat) (i : Instr) : Bool :=
  let t := s.core.t
  let r := i.regs
  t.badP (guardNo i) ||
  (decide (s.actsOn k i ≠ 0) &&
    (r.xs.any t.badX || r.ps.any t.badP ||
      (!i.isRoutine && r.vs.any fun n => t.badV (physV s.core.old.vrb (BitVec.ofNat 5 n)) (s.usesWord k i)) ||
      match i with
      | .vspop g w _ n _ _ =>
        let e := Width.bytes w
        let on := ((List.range (Width.lanes w)).filter (active w (s.rdP g))).length
        (fileGet t.streamPoison n).any fun p => decide (p < e * Nat.min on ((fileGet t.streams n).length / e))
      | .rqpop .. => (t.comp.rq.head?.map (·.bad)).getD false
      | _ => false))

/-- POISON of a consumed register word: the manual gives its operand, element and address for routine instructions only, so they are free values (R146, R307) [log 3, log 44]. -/
def State.consumeExc (s : State) (k : Nat) : Exc :=
  { cause := .poison, slot := BitVec.ofNat 3 k, opnd := BitVec.ofNat 3 (Config.freeWord s.fresh 0x500).toNat,
    elem := BitVec.ofNat 16 (Config.freeWord s.fresh 0x501).toNat, addr := BitVec.ofNat 55 (Config.freeWord s.fresh 0x502).toNat }

/-- The first slot that consumes a poisoned word, the header's predicate logic after them all as slot 7. -/
def State.firstPoison (s : State) (d : Decoded) : Option Nat :=
  match d.slots.find? fun q => s.consumes q.1 q.2 with
  | some q => some q.1
  | none => if d.head.plop ≠ 0 ∧ [d.head.pa.toNat, d.head.pb.toNat].any s.core.t.badP = true then some 7 else none

/-- The bundle is a reclamation point whatever its waits (R226). -/
def Decoded.reclaims (d : Decoded) : Bool := d.head.rp || d.words.any Code.isTaskClass

/-- The slots in the order they execute: S, V0, V1, M, C0, C1, but one that ends the running of its bundle comes last [log 18]. -/
def Decoded.order (d : Decoded) : List (Nat × Instr) :=
  d.slots.filter (fun q => !q.2.last) ++ d.slots.filter (fun q => q.2.last)

end Sys2Proof.Machine
end

