-- ==== Sys2Proof/Machine/Scalar.lean ====
section
/-! DEFINITION. Scalar ALU, immediates and the empty bundle: classes 0x0 and 0x1 (R27, R28, R61 to R70). -/

namespace Sys2Proof.Machine

/-- A scalar result under a guard (R30, R58, R61). -/
def State.putX (s : State) (g : BitVec 4) (d : BitVec 6) (v : Word) (n : Nat) : Out := s.when g fun s => s.setX d v n

/-- A predicate result under a guard (R30, R67). -/
def State.putP (s : State) (g : BitVec 4) (p : BitVec 4) (v : Pred) : Out := s.when g fun s => s.setP p v 1

/-- imm9 sign-extended (R69). -/
def imm9 (m : BitVec 9) : Word := m.signExtend 64

/-- sat_s(64, x) as a word (R62). -/
def satWord (x : Int) : Word := BitVec.ofInt 64 (satS 64 x)

/-- 1 or 0 (R62). -/
def boolWord (b : Bool) : Word := if b then 1 else 0

/-- Shifts of R63: by 64 or more they give 0, or the sign. -/
def shiftLeft (a k : Word) : Word := if k.toNat < 64 then a <<< k.toNat else 0
def shiftRight (a k : Word) : Word := if k.toNat < 64 then a >>> k.toNat else 0
def shiftArith (a k : Word) : Word := a.sshiftRight (Nat.min k.toNat 63)
/-- Rotates of R63. -/
def rotLeft (a k : Word) : Word := (a <<< (k.toNat % 64)) ||| (a >>> ((64 - k.toNat % 64) % 64))
def rotRight (a k : Word) : Word := (a >>> (k.toNat % 64)) ||| (a <<< ((64 - k.toNat % 64) % 64))
/-- Bits 127:64 of a 128-bit product (R64). -/
def mulHigh (x : Int) : Word := BitVec.ofInt 64 (asr x 64)
/-- DIV, DIVU, REM, REMU (R65). -/
def divS (a b : Word) : Word := if b = 0 then BitVec.allOnes 64 else BitVec.ofInt 64 (a.toInt.tdiv b.toInt)
def divU (a b : Word) : Word := if b = 0 then BitVec.allOnes 64 else BitVec.ofNat 64 (a.toNat / b.toNat)
def remS (a b : Word) : Word := if b = 0 then a else BitVec.ofInt 64 (a.toInt.tmod b.toInt)
def remU (a b : Word) : Word := if b = 0 then a else BitVec.ofNat 64 (a.toNat % b.toNat)
/-- Signed and unsigned order. -/
def minS (a b : Word) : Word := if a.slt b then a else b
def maxS (a b : Word) : Word := if a.slt b then b else a
def minU (a b : Word) : Word := if a.ult b then a else b
def maxU (a b : Word) : Word := if a.ult b then b else a

/-- Trailing zero bits of an n-bit value (R66). -/
def ctzNat (n v : Nat) : Nat :=
  match n with
  | 0 => 0
  | k + 1 => if v % 2 = 1 then 0 else 1 + ctzNat k (v / 2)

/-- The low n bits of a value in reverse order (R66). -/
def revNat (n v : Nat) : Nat :=
  match n with
  | 0 => 0
  | k + 1 => v % 2 * 2 ^ k + revNat k (v / 2)

/-- Byte j moved to byte 7 - j (R66). -/
def byteSwap (a : Word) : Word :=
  a.extractLsb' 0 8 ++ a.extractLsb' 8 8 ++ a.extractLsb' 16 8 ++ a.extractLsb' 24 8 ++ a.extractLsb' 32 8 ++
    a.extractLsb' 40 8 ++ a.extractLsb' 48 8 ++ a.extractLsb' 56 8

/-- Lanes 64k+63..64k replaced (R68). -/
def predPart (p : Pred) (k : Nat) (v : Word) : Pred :=
  (p &&& ~~~((BitVec.allOnes 64).zeroExtend 256 <<< (64 * k))) ||| (v.zeroExtend 256 <<< (64 * k))

/-- NOP: the empty bundle, one issue cycle plus W, with its predicate logic (R27, R28). -/
def execNop (plop : BitVec 3) (pd pa pb : BitVec 4) (wait : BitVec 3) (rp : Bool) (s : State) : Out :=
  .next (s.completeWith { mask := 0, plop, pd, pa, pb, wait, rp })

/-- ADD (R62, R58). -/
def execAdd (g : BitVec 4) (d a b : BitVec 6) (s : State) : Out :=
  s.putX g d ((s.rdX a) + (s.rdX b)) 1

/-- SUB (R62, R58). -/
def execSub (g : BitVec 4) (d a b : BitVec 6) (s : State) : Out :=
  s.putX g d ((s.rdX a) - (s.rdX b)) 1

/-- AND (R62, R58). -/
def execAnd (g : BitVec 4) (d a b : BitVec 6) (s : State) : Out :=
  s.putX g d ((s.rdX a) &&& (s.rdX b)) 1

/-- OR (R62, R58). -/
def execOr (g : BitVec 4) (d a b : BitVec 6) (s : State) : Out :=
  s.putX g d ((s.rdX a) ||| (s.rdX b)) 1

/-- XOR (R62, R58). -/
def execXor (g : BitVec 4) (d a b : BitVec 6) (s : State) : Out :=
  s.putX g d ((s.rdX a) ^^^ (s.rdX b)) 1

/-- ANDN (R62, R58). -/
def execAndn (g : BitVec 4) (d a b : BitVec 6) (s : State) : Out :=
  s.putX g d ((s.rdX a) &&& ~~~(s.rdX b)) 1

/-- ORN (R62, R58). -/
def execOrn (g : BitVec 4) (d a b : BitVec 6) (s : State) : Out :=
  s.putX g d ((s.rdX a) ||| ~~~(s.rdX b)) 1

/-- SLL (R63, R58). -/
def execSll (g : BitVec 4) (d a b : BitVec 6) (s : State) : Out :=
  s.putX g d (shiftLeft (s.rdX a) (s.rdX b)) 1

/-- SRL (R63, R58). -/
def execSrl (g : BitVec 4) (d a b : BitVec 6) (s : State) : Out :=
  s.putX g d (shiftRight (s.rdX a) (s.rdX b)) 1

/-- SRA (R63, R58). -/
def execSra (g : BitVec 4) (d a b : BitVec 6) (s : State) : Out :=
  s.putX g d (shiftArith (s.rdX a) (s.rdX b)) 1

/-- ROL (R63, R58). -/
def execRol (g : BitVec 4) (d a b : BitVec 6) (s : State) : Out :=
  s.putX g d (rotLeft (s.rdX a) (s.rdX b)) 1

/-- ROR (R63, R58). -/
def execRor (g : BitVec 4) (d a b : BitVec 6) (s : State) : Out :=
  s.putX g d (rotRight (s.rdX a) (s.rdX b)) 1

/-- MUL (R64, R58). -/
def execMul (g : BitVec 4) (d a b : BitVec 6) (s : State) : Out :=
  s.putX g d ((s.rdX a) * (s.rdX b)) 3

/-- MULH (R64, R58). -/
def execMulh (g : BitVec 4) (d a b : BitVec 6) (s : State) : Out :=
  s.putX g d (mulHigh ((s.rdX a).toInt * (s.rdX b).toInt)) 3

/-- MULHU (R64, R58). -/
def execMulhu (g : BitVec 4) (d a b : BitVec 6) (s : State) : Out :=
  s.putX g d (mulHigh ((s.rdX a).toNat * (s.rdX b).toNat : Nat)) 3

/-- DIV (R65, R58). -/
def execDiv (g : BitVec 4) (d a b : BitVec 6) (s : State) : Out :=
  s.putX g d (divS (s.rdX a) (s.rdX b)) 20

/-- DIVU (R65, R58). -/
def execDivu (g : BitVec 4) (d a b : BitVec 6) (s : State) : Out :=
  s.putX g d (divU (s.rdX a) (s.rdX b)) 20

/-- REM (R65, R58). -/
def execRem (g : BitVec 4) (d a b : BitVec 6) (s : State) : Out :=
  s.putX g d (remS (s.rdX a) (s.rdX b)) 20

/-- REMU (R65, R58). -/
def execRemu (g : BitVec 4) (d a b : BitVec 6) (s : State) : Out :=
  s.putX g d (remU (s.rdX a) (s.rdX b)) 20

/-- MIN (R62, R58). -/
def execMin (g : BitVec 4) (d a b : BitVec 6) (s : State) : Out :=
  s.putX g d (minS (s.rdX a) (s.rdX b)) 1

/-- MAX (R62, R58). -/
def execMax (g : BitVec 4) (d a b : BitVec 6) (s : State) : Out :=
  s.putX g d (maxS (s.rdX a) (s.rdX b)) 1

/-- MINU (R62, R58). -/
def execMinu (g : BitVec 4) (d a b : BitVec 6) (s : State) : Out :=
  s.putX g d (minU (s.rdX a) (s.rdX b)) 1

/-- MAXU (R62, R58). -/
def execMaxu (g : BitVec 4) (d a b : BitVec 6) (s : State) : Out :=
  s.putX g d (maxU (s.rdX a) (s.rdX b)) 1

/-- ADDS (R62, R58). -/
def execAdds (g : BitVec 4) (d a b : BitVec 6) (s : State) : Out :=
  s.putX g d (satWord ((s.rdX a).toInt + (s.rdX b).toInt)) 1

/-- SUBS (R62, R58). -/
def execSubs (g : BitVec 4) (d a b : BitVec 6) (s : State) : Out :=
  s.putX g d (satWord ((s.rdX a).toInt - (s.rdX b).toInt)) 1

/-- SLT (R62, R58). -/
def execSlt (g : BitVec 4) (d a b : BitVec 6) (s : State) : Out :=
  s.putX g d (boolWord ((s.rdX a).slt (s.rdX b))) 1

/-- SLTU (R62, R58). -/
def execSltu (g : BitVec 4) (d a b : BitVec 6) (s : State) : Out :=
  s.putX g d (boolWord ((s.rdX a).ult (s.rdX b))) 1

/-- SEQ (R62, R58). -/
def execSeq (g : BitVec 4) (d a b : BitVec 6) (s : State) : Out :=
  s.putX g d (boolWord (decide ((s.rdX a) = (s.rdX b)))) 1

/-- CLZ (R66). -/
def execClz (g : BitVec 4) (d a : BitVec 6) (s : State) : Out :=
  s.putX g d (BitVec.ofNat 64 (clzNat 64 (s.rdX a).toNat)) 1

/-- CTZ (R66). -/
def execCtz (g : BitVec 4) (d a : BitVec 6) (s : State) : Out :=
  s.putX g d (BitVec.ofNat 64 (ctzNat 64 (s.rdX a).toNat)) 1

/-- POPC (R66). -/
def execPopc (g : BitVec 4) (d a : BitVec 6) (s : State) : Out :=
  s.putX g d (BitVec.ofNat 64 (popNat 64 (s.rdX a).toNat)) 1

/-- BREV (R66). -/
def execBrev (g : BitVec 4) (d a : BitVec 6) (s : State) : Out :=
  s.putX g d (BitVec.ofNat 64 (revNat 64 (s.rdX a).toNat)) 1

/-- BSWAP (R66). -/
def execBswap (g : BitVec 4) (d a : BitVec 6) (s : State) : Out :=
  s.putX g d (byteSwap (s.rdX a)) 1

/-- SEXTB (R66). -/
def execSextb (g : BitVec 4) (d a : BitVec 6) (s : State) : Out :=
  s.putX g d (((s.rdX a).extractLsb' 0 8).signExtend 64) 1

/-- SEXTH (R66). -/
def execSexth (g : BitVec 4) (d a : BitVec 6) (s : State) : Out :=
  s.putX g d (((s.rdX a).extractLsb' 0 16).signExtend 64) 1

/-- SEXTW (R66). -/
def execSextw (g : BitVec 4) (d a : BitVec 6) (s : State) : Out :=
  s.putX g d (((s.rdX a).extractLsb' 0 32).signExtend 64) 1

/-- PEQ (R67, R87). -/
def execPeq (g p : BitVec 4) (a b : BitVec 6) (s : State) : Out :=
  s.putP g p (predAll (decide ((s.rdX a) = (s.rdX b))))

/-- PNE (R67, R87). -/
def execPne (g p : BitVec 4) (a b : BitVec 6) (s : State) : Out :=
  s.putP g p (predAll (decide ((s.rdX a) ≠ (s.rdX b))))

/-- PLT (R67, R87). -/
def execPlt (g p : BitVec 4) (a b : BitVec 6) (s : State) : Out :=
  s.putP g p (predAll ((s.rdX a).slt (s.rdX b)))

/-- PGE (R67, R87). -/
def execPge (g p : BitVec 4) (a b : BitVec 6) (s : State) : Out :=
  s.putP g p (predAll (!((s.rdX a).slt (s.rdX b))))

/-- PLTU (R67, R87). -/
def execPltu (g p : BitVec 4) (a b : BitVec 6) (s : State) : Out :=
  s.putP g p (predAll ((s.rdX a).ult (s.rdX b)))

/-- PGEU (R67, R87). -/
def execPgeu (g p : BitVec 4) (a b : BitVec 6) (s : State) : Out :=
  s.putP g p (predAll (!((s.rdX a).ult (s.rdX b))))

/-- PTOX (R68). -/
def execPtox (g : BitVec 4) (d : BitVec 6) (p : BitVec 4) (k : BitVec 6) (s : State) : Out :=
  s.putX g d ((s.rdP p).extractLsb' (64 * k.toNat) 64) 1

/-- XTOP (R68). -/
def execXtop (g p : BitVec 4) (a k : BitVec 6) (s : State) : Out := s.putP g p (predPart (s.rdP p) k.toNat (s.rdX a))

/-- PCNT (R68). -/
def execPcnt (g : BitVec 4) (d : BitVec 6) (p q : BitVec 4) (s : State) : Out :=
  s.putX g d (BitVec.ofNat 64 (popNat 256 (s.rdP p &&& s.rdP q).toNat)) 1

/-- ADDI (R69). -/
def execAddi (g : BitVec 4) (d a : BitVec 6) (m : BitVec 9) (s : State) : Out :=
  s.putX g d ((s.rdX a) + (imm9 m)) 1

/-- ANDI (R69). -/
def execAndi (g : BitVec 4) (d a : BitVec 6) (m : BitVec 9) (s : State) : Out :=
  s.putX g d ((s.rdX a) &&& (imm9 m)) 1

/-- ORI (R69). -/
def execOri (g : BitVec 4) (d a : BitVec 6) (m : BitVec 9) (s : State) : Out :=
  s.putX g d ((s.rdX a) ||| (imm9 m)) 1

/-- XORI (R69). -/
def execXori (g : BitVec 4) (d a : BitVec 6) (m : BitVec 9) (s : State) : Out :=
  s.putX g d ((s.rdX a) ^^^ (imm9 m)) 1

/-- SLLI (R69). -/
def execSlli (g : BitVec 4) (d a : BitVec 6) (m : BitVec 9) (s : State) : Out :=
  s.putX g d (shiftLeft (s.rdX a) (imm9 m)) 1

/-- SRLI (R69). -/
def execSrli (g : BitVec 4) (d a : BitVec 6) (m : BitVec 9) (s : State) : Out :=
  s.putX g d (shiftRight (s.rdX a) (imm9 m)) 1

/-- SRAI (R69). -/
def execSrai (g : BitVec 4) (d a : BitVec 6) (m : BitVec 9) (s : State) : Out :=
  s.putX g d (shiftArith (s.rdX a) (imm9 m)) 1

/-- LIH (R70). -/
def execLih (g : BitVec 4) (d : BitVec 6) (m : BitVec 15) (s : State) : Out :=
  s.putX g d ((s.rdX d <<< 15) ||| m.zeroExtend 64) 1

end Sys2Proof.Machine
end

