-- ==== Sys2Proof/Machine/ScalarMem.lean ====
section
/-! DEFINITION. Scalar loads, stores, prefetch and line zeroing: class 0x2 (R71 to R75). -/

namespace Sys2Proof.Machine

/-- base + off8 x scale, modulo 2^64 (R71). -/
def State.ea (s : State) (b : BitVec 6) (o : BitVec 8) (scale : Nat) : Word := s.rdX b + o.signExtend 64 * BitVec.ofNat 64 scale

/-- Bits 54:0 of an effective address name the byte (R71, R234). -/
def vaOf (w : Word) : VAddr := w.extractLsb' 0 55

/-- A scalar load of n bytes, sign-extended from `ext` bits if that is not 0 (R71, R74). -/
def State.scalarLoad (s : State) (g : BitVec 4) (t b : BitVec 6) (o : BitVec 8) (n ext : Nat) : Out :=
  s.when g fun s =>
    let ea := s.ea b o n
    if ea.toNat % n ≠ 0 then s.faultAt .misaligned 1 (vaOf ea)
    else
      match s.load (vaOf ea) n 1 0 0xFFFF with
      | .error e => s.accFail e
      | .ok l => l.state.deliverX t l (s.accExc .none 1 (vaOf ea) 0xFFFF false none) ext

/-- A scalar store of n bytes (R71, R74). -/
def State.scalarStore (s : State) (g : BitVec 4) (t b : BitVec 6) (o : BitVec 8) (n : Nat) : Out :=
  s.when g fun s =>
    let ea := s.ea b o n
    if ea.toNat % n ≠ 0 then s.faultAt .misaligned 1 (vaOf ea)
    else
      match s.store (vaOf ea) (leBytes n (s.rdX t).toNat) 1 0xFFFF with
      | .error e => s.accFail e
      | .ok s' => s'

/-- LDB (R71). -/
def execLdb (g : BitVec 4) (t b : BitVec 6) (o : BitVec 8) (s : State) : Out := s.scalarLoad g t b o 1 8
/-- LDBU (R71). -/
def execLdbu (g : BitVec 4) (t b : BitVec 6) (o : BitVec 8) (s : State) : Out := s.scalarLoad g t b o 1 0
/-- LDH (R71). -/
def execLdh (g : BitVec 4) (t b : BitVec 6) (o : BitVec 8) (s : State) : Out := s.scalarLoad g t b o 2 16
/-- LDHU (R71). -/
def execLdhu (g : BitVec 4) (t b : BitVec 6) (o : BitVec 8) (s : State) : Out := s.scalarLoad g t b o 2 0
/-- LDW (R71). -/
def execLdw (g : BitVec 4) (t b : BitVec 6) (o : BitVec 8) (s : State) : Out := s.scalarLoad g t b o 4 32
/-- LDWU (R71). -/
def execLdwu (g : BitVec 4) (t b : BitVec 6) (o : BitVec 8) (s : State) : Out := s.scalarLoad g t b o 4 0
/-- LDD (R71). -/
def execLdd (g : BitVec 4) (t b : BitVec 6) (o : BitVec 8) (s : State) : Out := s.scalarLoad g t b o 8 0

/-- LDQ (R72). -/
def execLdq (g : BitVec 4) (t b : BitVec 6) (o : BitVec 8) (s : State) : Out :=
  s.when g fun s =>
    let ea := s.ea b o 16
    if ea.toNat % 16 ≠ 0 then s.faultAt .misaligned 1 (vaOf ea)
    else
      match s.load (vaOf ea) 16 1 0 0xFFFF with
      | .error e => s.accFail e
      | .ok l => l.state.deliverPair t l (s.accExc .none 1 (vaOf ea) 0xFFFF false none)

/-- STB (R71). -/
def execStb (g : BitVec 4) (t b : BitVec 6) (o : BitVec 8) (s : State) : Out := s.scalarStore g t b o 1
/-- STH (R71). -/
def execSth (g : BitVec 4) (t b : BitVec 6) (o : BitVec 8) (s : State) : Out := s.scalarStore g t b o 2
/-- STW (R71). -/
def execStw (g : BitVec 4) (t b : BitVec 6) (o : BitVec 8) (s : State) : Out := s.scalarStore g t b o 4
/-- STD (R71). -/
def execStd (g : BitVec 4) (t b : BitVec 6) (o : BitVec 8) (s : State) : Out := s.scalarStore g t b o 8

/-- STQ (R72). -/
def execStq (g : BitVec 4) (t b : BitVec 6) (o : BitVec 8) (s : State) : Out :=
  s.when g fun s =>
    let ea := s.ea b o 16
    if ea.toNat % 16 ≠ 0 then s.faultAt .misaligned 1 (vaOf ea)
    else
      match s.store (vaOf ea) (leBytes 16 (s.rdPair t).toNat) 1 0xFFFF with
      | .error e => s.accFail e
      | .ok s' => s'

/-- PRF: a request for the line's translation, whose walk's end brings the line into the L1 (R73, R296); nothing in the own scratchpad. -/
def execPrf (g : BitVec 4) (b : BitVec 6) (o : BitVec 8) (s : State) : Out :=
  s.when g fun s =>
    let va := vaOf (s.ea b o 64)
    if s.ownWindow va then s
    else s.modXlat fun x => { x with walks := x.walks ++ [{ asid := s.core.t.id.asid, va, core := s.cur }] }

/-- ZLN: 64 zero bytes at an aligned line (R73, R74). To the own scratchpad its four parts, whose order the manual leaves open, are written in one step [log 60]. -/
def execZln (g : BitVec 4) (b : BitVec 6) (o : BitVec 8) (s : State) : Out :=
  s.when g fun s =>
    let ea := s.ea b o 64
    if ea.toNat % 64 ≠ 0 then s.faultAt .misaligned 1 (vaOf ea)
    else
      match s.store (vaOf ea) (List.replicate 64 0) 1 0xFFFF with
      | .error e => s.accFail e
      | .ok s' => s'

end Sys2Proof.Machine
end

