-- ==== Sys2Proof/Machine/Control.lean ====
section
/-! DEFINITION. Branches, jumps and hardware loops: class 0x3 (R76 to R84). -/

namespace Sys2Proof.Machine

/-- The bundle's branch is resolved: where it leads (R77). -/
def State.setRedirect (s : State) (r : Redirect) : State := s.modBundle fun b => { b with redirect := r }

/-- A taken branch to a target: it must be an SCW of the lit plane's code (R78, R364). -/
def State.branchTo (s : State) (a : VAddr) (opnd : BitVec 3) : State :=
  if s.core.isScw a then s.setRedirect (.branch a) else s.faultAt .badTarget opnd a

/-- Header address + 4 x off20 (R77). -/
def State.relTarget (s : State) (o : BitVec 20) : VAddr := s.core.bundle.header + (o.signExtend 55 <<< 2)

/-- The return address: the word after the bundle (R77). -/
def State.link (s : State) : Word := s.core.bundle.next.zeroExtend 64

/-- A jump through a register (R77, R78). -/
def State.jumpTo (s : State) (w : Word) : State :=
  if w.toNat % 4 ≠ 0 then s.faultAt .misaligned 1 (vaOf w) else s.branchTo (vaOf w) 1

/-- BR (R77). -/
def execBr (g : BitVec 4) (o : BitVec 20) (s : State) : Out := s.when g fun s => s.branchTo (s.relTarget o) 4

/-- A link is written only when the branch is taken without a fault. -/
def State.linked (s s' : State) (d : BitVec 6) : State := if s'.core.bundle.exc.isSome then s' else s'.setX d s.link 1

/-- CALL (R77). -/
def execCall (g : BitVec 4) (o : BitVec 20) (s : State) : Out := s.when g fun s => s.linked (s.branchTo (s.relTarget o) 4) 63

/-- JR (R77). -/
def execJr (g : BitVec 4) (a : BitVec 6) (s : State) : Out := s.when g fun s => s.jumpTo (s.rdX a)

/-- JALR (R77). -/
def execJalr (g : BitVec 4) (d a : BitVec 6) (s : State) : Out := s.when g fun s => s.linked (s.jumpTo (s.rdX a)) d

/-- The level's number. -/
def levelOf (k : BitVec 2) : Fin 3 := Fin.ofNat 3 k.toNat

/-- Level k or a deeper one is active, or some LOOPP level is (R81). -/
def LoopRegs.blocked (l : LoopRegs) (k : BitVec 2) : Bool :=
  [0, 1, 2].any fun (i : Fin 3) => decide (l.lc[i] ≠ 0) && (decide (k.toNat ≤ i.val) || l.isP i)

/-- The new body lies wholly inside the innermost active level's body (R81). -/
def LoopRegs.holds (l : LoopRegs) (lo : VAddr) (len : Nat) : Bool :=
  match l.innermost with
  | none => true
  | some i => decide (l.body i ≤ lo ∧ lo.toNat + 4 * len ≤ (l.bodyEnd i).toNat)

/-- A level starts: its body, length and count (R81). The loop-buffer valid bit is set here, as the buffer starts to fill: the manual does not say when [log 40]. -/
def LoopRegs.start (l : LoopRegs) (k : BitVec 2) (lb : VAddr) (len : BitVec 9) (lc : Nat) : LoopRegs :=
  { l with lc := l.lc.set (levelOf k) (BitVec.ofNat 32 lc), lb := l.lb.set (levelOf k) lb, ln := l.ln.set (levelOf k) len,
           valid := decide (lc ≠ 0) || l.valid }

/-- A loop instruction with its guard true (R81): `total` iterations, `stages` for LOOPP. Where several cases of R81's table apply, the manual does not order them; the model reports an active level first, then a body that is not inside, then the count, then a word that is no SCW [log 40]. -/
def State.startLoop (s : State) (k : BitVec 2) (len : BitVec 9) (total limit : Nat) (stages : Option (BitVec 3)) : State :=
  let n := s.core.bundle.next
  let l := s.core.t.loop
  let stop := n + BitVec.ofNat 55 (4 * len.toNat)
  if l.blocked k then s.fault .illegalOperand 0
  else if l.holds n len.toNat = false then s.fault .illegalOperand 2
  else if total > limit then s.fault .illegalOperand 0
  else if s.core.isScw n = false then s.faultAt .badTarget 4 n
  else if total = 0 then
    if s.core.isScw stop = false then s.faultAt .badTarget 4 stop
    else (s.modT fun t => { t with loop := l.start k (if stages.isSome then n ||| 1 else n) len 0 }).setRedirect (.skip stop)
  else
    match stages with
    | none => (s.modT fun t => { t with loop := l.start k n len total }).setRedirect (.enter n)
    | some st =>
      (s.modT fun t =>
        { t with loop := l.start k (n ||| 1) len (st.toNat * 2 ^ 29 + total), p := stagesAtStart t.p,
                 sb := { t.sb with landP := stagesLand t.sb.landP } }).setRedirect (.enter n)

/-- LOOP (R81). -/
def execLoop (g : BitVec 4) (k : BitVec 2) (c : BitVec 6) (l : BitVec 9) (s : State) : Out :=
  s.when g fun s => s.startLoop k l (s.rdX c).toNat 0xFFFFFFFF none

/-- LOOPI (R81). -/
def execLoopi (g : BitVec 4) (k : BitVec 2) (n l : BitVec 9) (s : State) : Out :=
  s.when g fun s => s.startLoop k l n.toNat 0xFFFFFFFF none

/-- trip + S - 1, or 0 (R81). -/
def looppTotal (trip : Nat) (n : BitVec 3) : Nat := if trip > 0 then trip + n.toNat else 0

/-- LOOPP (R81). -/
def execLoopp (g : BitVec 4) (k : BitVec 2) (c : BitVec 6) (n : BitVec 3) (l : BitVec 9) (s : State) : Out :=
  s.when g fun s => s.startLoop k l (looppTotal (s.rdX c).toNat n) 0x1FFFFFFF (some n)

/-- Levels k..2 end (R84). -/
def LoopRegs.endFrom (l : LoopRegs) (k : BitVec 2) : LoopRegs :=
  { l with lc := Vector.ofFn fun i => if i.val < k.toNat then l.lc[i] else 0, valid := false }

/-- LEXIT: an active level and every deeper one end, and execution continues after the body (R84). With its level inactive it changes nothing and costs no redirect stall: R84 takes precedence over R77's "guard true" [log 40]. -/
def execLexit (g : BitVec 4) (k : BitVec 2) (s : State) : Out :=
  s.when g fun s =>
    let l := s.core.t.loop
    if l.lc[levelOf k] = 0 then s
    else (s.modT fun t => { t with loop := l.endFrom k }).setRedirect (.skip (l.bodyEnd (levelOf k)))

end Sys2Proof.Machine
end

