-- ==== Sys2Proof/Machine/VecAlu.lean ====
section
/-! DEFINITION. Vector lane arithmetic and compares: class 0x4 and the compares of class 0x5 (R112 to R119). -/

namespace Sys2Proof.Machine

/-- Lane activity spread over each element's bytes (R12, R30). -/
def laneMask (w : Width) (g : Pred) : Pred := predOf (Width.bytes w) ((List.range (Width.lanes w)).map (active w g))

/-- The activity of the executing slot's lanes. -/
def State.lanesOn (s : State) (g : BitVec 4) (w : Width) : Pred := laneMask w (s.rdP g)

/-- Write a vector register's bytes under a mask; with no byte selected nothing changes (R30, R114, R115). -/
def State.putV (s : State) (m : Pred) (d : BitVec 5) (v : VecReg) (n : Nat) : State :=
  if m = 0 then s else (s.setV d (mergeV (s.curV d) v m) n).renewV d m

/-- Write the active lanes of a vector register from each lane's value (R30, R114). -/
def State.putLanes (s : State) (g : BitVec 4) (w : Width) (d : BitVec 5) (n : Nat) (f : Nat → Nat) : Out :=
  .next (s.putV (s.lanesOn g w) d (vecOf (Width.bits w) ((List.range (Width.lanes w)).map f)) n)

/-- A lane operation on va and vb (R113, R116): `f` gets the width and the two lanes. -/
def State.vbin (s : State) (g : BitVec 4) (w : Width) (d a : BitVec 5) (b : VOpnd) (n : Nat) (f : Nat → Nat → Nat → Nat) : Out :=
  let va := s.rdV a
  s.putLanes g w d n fun l => f (Width.bits w) (lane (Width.bits w) va l) (s.opLane (Width.bits w) b l)

/-- A lane operation on va (R116). -/
def State.vun (s : State) (g : BitVec 4) (w : Width) (d a : BitVec 5) (n : Nat) (f : Nat → Nat → Nat) : Out :=
  let va := s.rdV a
  s.putLanes g w d n fun l => f (Width.bits w) (lane (Width.bits w) va l)

/-- The old bits of a predicate that inactive lanes keep. -/
def State.curP (s : State) (p : BitVec 4) : Pred := fileGet s.core.t.p p

/-- A lane compare into a predicate (R119). -/
def State.vcmp (s : State) (g : BitVec 4) (w : Width) (p : BitVec 4) (a : BitVec 5) (b : VOpnd) (f : Nat → Nat → Nat → Bool) : Out :=
  let m := s.lanesOn g w
  let va := s.rdV a
  let r := predOf (Width.bytes w) ((List.range (Width.lanes w)).map fun l =>
    f (Width.bits w) (lane (Width.bits w) va l) (s.opLane (Width.bits w) b l))
  .next (if m = 0 then s else s.setP p ((r &&& m) ||| (s.curP p &&& ~~~m)) 1)

/-- The lane functions of R116 and R117 on width n. -/
def lanePat (n : Nat) (x : Int) : Nat := pat n x
def laneSatS (n : Nat) (x : Int) : Nat := pat n (satS n x)
def laneSatU (n : Nat) (x : Int) : Nat := pat n (satU n x)
def laneMulHigh (n : Nat) (x : Int) : Nat := pat n (asr x n)

/-- VADD (R116). -/
def execVadd (g : BitVec 4) (w : Width) (d a : BitVec 5) (b : VOpnd) (s : State) : Out :=
  s.vbin g w d a b 2 fun _ x y => x + y

/-- VSUB (R116). -/
def execVsub (g : BitVec 4) (w : Width) (d a : BitVec 5) (b : VOpnd) (s : State) : Out :=
  s.vbin g w d a b 2 fun n x y => lanePat n ((x : Int) - y)

/-- VADDS (R116). -/
def execVadds (g : BitVec 4) (w : Width) (d a : BitVec 5) (b : VOpnd) (s : State) : Out :=
  s.vbin g w d a b 2 fun n x y => laneSatS n (sgn n x + sgn n y)

/-- VSUBS (R116). -/
def execVsubs (g : BitVec 4) (w : Width) (d a : BitVec 5) (b : VOpnd) (s : State) : Out :=
  s.vbin g w d a b 2 fun n x y => laneSatS n (sgn n x - sgn n y)

/-- VADDSU (R116). -/
def execVaddsu (g : BitVec 4) (w : Width) (d a : BitVec 5) (b : VOpnd) (s : State) : Out :=
  s.vbin g w d a b 2 fun n x y => laneSatU n ((x : Int) + y)

/-- VSUBSU (R116). -/
def execVsubsu (g : BitVec 4) (w : Width) (d a : BitVec 5) (b : VOpnd) (s : State) : Out :=
  s.vbin g w d a b 2 fun n x y => laneSatU n ((x : Int) - y)

/-- VMUL (R116). -/
def execVmul (g : BitVec 4) (w : Width) (d a : BitVec 5) (b : VOpnd) (s : State) : Out :=
  s.vbin g w d a b 4 fun _ x y => x * y

/-- VMULH (R116). -/
def execVmulh (g : BitVec 4) (w : Width) (d a : BitVec 5) (b : VOpnd) (s : State) : Out :=
  s.vbin g w d a b 4 fun n x y => laneMulHigh n (sgn n x * sgn n y)

/-- VMULHU (R116). -/
def execVmulhu (g : BitVec 4) (w : Width) (d a : BitVec 5) (b : VOpnd) (s : State) : Out :=
  s.vbin g w d a b 4 fun n x y => x * y / 2 ^ n

/-- VMULQ (R116). -/
def execVmulq (g : BitVec 4) (w : Width) (d a : BitVec 5) (b : VOpnd) (m : Bool) (s : State) : Out :=
  s.vbin g w d a b 4 fun n x y => laneSatS n (sd (sgn n x * sgn n y) (n - 1) (if m then 2 else 1) 0)

/-- VMIN (R116). -/
def execVmin (g : BitVec 4) (w : Width) (d a : BitVec 5) (b : VOpnd) (s : State) : Out :=
  s.vbin g w d a b 2 fun n x y => if sgn n y < sgn n x then y else x

/-- VMAX (R116). -/
def execVmax (g : BitVec 4) (w : Width) (d a : BitVec 5) (b : VOpnd) (s : State) : Out :=
  s.vbin g w d a b 2 fun n x y => if sgn n x < sgn n y then y else x

/-- VMINU (R116). -/
def execVminu (g : BitVec 4) (w : Width) (d a : BitVec 5) (b : VOpnd) (s : State) : Out :=
  s.vbin g w d a b 2 fun _ x y => Nat.min x y

/-- VMAXU (R116). -/
def execVmaxu (g : BitVec 4) (w : Width) (d a : BitVec 5) (b : VOpnd) (s : State) : Out :=
  s.vbin g w d a b 2 fun _ x y => Nat.max x y

/-- VAND (R116). -/
def execVand (g : BitVec 4) (w : Width) (d a : BitVec 5) (b : VOpnd) (s : State) : Out :=
  s.vbin g w d a b 2 fun _ x y => Nat.land x y

/-- VOR (R116). -/
def execVor (g : BitVec 4) (w : Width) (d a : BitVec 5) (b : VOpnd) (s : State) : Out :=
  s.vbin g w d a b 2 fun _ x y => Nat.lor x y

/-- VXOR (R116). -/
def execVxor (g : BitVec 4) (w : Width) (d a : BitVec 5) (b : VOpnd) (s : State) : Out :=
  s.vbin g w d a b 2 fun _ x y => Nat.xor x y

/-- VANDN (R116). -/
def execVandn (g : BitVec 4) (w : Width) (d a : BitVec 5) (b : VOpnd) (s : State) : Out :=
  s.vbin g w d a b 2 fun n x y => Nat.land x (2 ^ n - 1 - y)

/-- VSLL (R117). -/
def execVsll (g : BitVec 4) (w : Width) (d a : BitVec 5) (b : VOpnd) (s : State) : Out :=
  s.vbin g w d a b 2 fun n x y => if y < n then x * 2 ^ y else 0

/-- VSRL (R117). -/
def execVsrl (g : BitVec 4) (w : Width) (d a : BitVec 5) (b : VOpnd) (s : State) : Out :=
  s.vbin g w d a b 2 fun n x y => if y < n then x / 2 ^ y else 0

/-- VSRA (R117). -/
def execVsra (g : BitVec 4) (w : Width) (d a : BitVec 5) (b : VOpnd) (s : State) : Out :=
  s.vbin g w d a b 2 fun n x y => lanePat n (asr (sgn n x) (Nat.min y (n - 1)))

/-- VABS (R116). -/
def execVabs (g : BitVec 4) (w : Width) (d a : BitVec 5) (s : State) : Out :=
  s.vun g w d a 2 fun n x => laneSatS n (sgn n x).natAbs

/-- VNEG (R116). -/
def execVneg (g : BitVec 4) (w : Width) (d a : BitVec 5) (s : State) : Out :=
  s.vun g w d a 2 fun n x => laneSatS n (-(sgn n x))

/-- VAVG (R116). -/
def execVavg (g : BitVec 4) (w : Width) (d a : BitVec 5) (b : VOpnd) (m : Bool) (s : State) : Out :=
  s.vbin g w d a b 2 fun n x y => if m then (x + y + 1) / 2 else lanePat n (asr (sgn n x + sgn n y + 1) 1)

/-- VMOV (R116). -/
def execVmov (g : BitVec 4) (w : Width) (d a : BitVec 5) (s : State) : Out := .next (s.putV (s.lanesOn g w) d (s.rdV a) 2)

/-- VSEL writes every element: va where the guard is active, vb elsewhere (R118). -/
def execVsel (g : BitVec 4) (w : Width) (d a : BitVec 5) (b : VOpnd) (s : State) : Out :=
  let other := vecOf (Width.bits w) ((List.range (Width.lanes w)).map (s.opLane (Width.bits w) b))
  .next ((s.setV d (mergeV other (s.rdV a) (s.lanesOn g w)) 2).renewV d (BitVec.allOnes 256))

/-- VCLS (R116). -/
def execVcls (g : BitVec 4) (w : Width) (d a : BitVec 5) (s : State) : Out :=
  s.vun g w d a 2 fun n x => clsInt n (sgn n x)

/-- VPOPC (R116). -/
def execVpopc (g : BitVec 4) (w : Width) (d a : BitVec 5) (s : State) : Out :=
  s.vun g w d a 2 fun n x => popNat n x

/-- VCMPEQ (R119). -/
def execVcmpeq (g : BitVec 4) (w : Width) (p : BitVec 4) (a : BitVec 5) (b : VOpnd) (s : State) : Out :=
  s.vcmp g w p a b fun _ x y => decide (x = y)

/-- VCMPNE (R119). -/
def execVcmpne (g : BitVec 4) (w : Width) (p : BitVec 4) (a : BitVec 5) (b : VOpnd) (s : State) : Out :=
  s.vcmp g w p a b fun _ x y => decide (x ≠ y)

/-- VCMPLT (R119). -/
def execVcmplt (g : BitVec 4) (w : Width) (p : BitVec 4) (a : BitVec 5) (b : VOpnd) (s : State) : Out :=
  s.vcmp g w p a b fun n x y => decide (sgn n x < sgn n y)

/-- VCMPLE (R119). -/
def execVcmple (g : BitVec 4) (w : Width) (p : BitVec 4) (a : BitVec 5) (b : VOpnd) (s : State) : Out :=
  s.vcmp g w p a b fun n x y => decide (sgn n x ≤ sgn n y)

/-- VCMPLTU (R119). -/
def execVcmpltu (g : BitVec 4) (w : Width) (p : BitVec 4) (a : BitVec 5) (b : VOpnd) (s : State) : Out :=
  s.vcmp g w p a b fun _ x y => decide (x < y)

/-- VCMPLEU (R119). -/
def execVcmpleu (g : BitVec 4) (w : Width) (p : BitVec 4) (a : BitVec 5) (b : VOpnd) (s : State) : Out :=
  s.vcmp g w p a b fun _ x y => decide (x ≤ y)

end Sys2Proof.Machine
end

