-- ==== Sys2Proof/Machine/VecConv.lean ====
section
/-! DEFINITION. Vector conversion, scaling, element moves, reductions, return-queue pushes and census: class 0x5 from opcode 0x06 (R120 to R127). -/

namespace Sys2Proof.Machine

/-- A parameter word's unused bits, from bit k up, are not zero (R113). -/
def paramBad (p : Word) (k : Nat) : Bool := decide (p.toNat / 2 ^ k ≠ 0)

/-- The width half as wide; byte stays byte. -/
def Width.narrower (w : Width) : Width :=
  match w with
  | .byte => .byte | .half => .byte | .word => .half | .dword => .word

/-- The width twice as wide; dword stays dword. -/
def Width.wider (w : Width) : Width :=
  match w with
  | .byte => .half | .half => .word | .word => .dword | .dword => .dword

/-- The lanes of a list that are active, with their numbers. -/
def activeOf {α : Type} (w : Width) (g : Pred) (ls : List α) : List α :=
  ((List.range ls.length).zip ls).filterMap fun q => if active w g q.1 then some q.2 else none

/-- The smallest of some headrooms (R107). -/
def minOf (hs : List Nat) : Nat := hs.foldl Nat.min 63

/-- The random word of lane l for the executing slot (R101, R102). -/
def State.rndLane (s : State) (l : Nat) : Nat := rnd s.core.old.sys.srseed s.rndCounter l

/-- The executing slot consumes random bits, in mode 3 and with an active lane (R102). -/
def State.useIf (s : State) (mode : Nat) (m : Pred) : State := if mode = 3 ∧ m ≠ 0 then s.useRandom else s

/-- A lane narrowed (R120): the rounded value and what is stored. -/
def narrowLane (n : Nat) (m : Bool) (y : Int) : Int := if m then satU 16 y else satS (n / 2) y

/-- VNARROW (R120). -/
def execVnarrow (g : BitVec 4) (w : Width) (d a b : BitVec 5) (m : Bool) (s : State) : Out :=
  let p := s.rdS b
  let n := Width.bits w
  let k := bitsOf p.toNat 5 0
  let mode := bitsOf p.toNat 7 6
  let t : BitVec 6 := p.extractLsb' 8 6
  let h := Width.narrower w
  let pair := s.rdV (a + 1) ++ s.rdV a
  let on := s.lanesOn g h
  let ys := (List.range (2 * Width.lanes w)).map fun l => sd ((pair.extractLsb' (n * l) n).toInt) k mode (s.rndLane l)
  let qs := ys.map fun y => (y, narrowLane n m y)
  let act := activeOf h (s.rdP g) qs
  if paramBad p 14 then .next (s.fault .illegalOperand 2)
  else if on = 0 then .next s
  else
    let s1 := s.putV on d (vecOf (n / 2) (qs.map fun q => pat (n / 2) q.2)) 2
    let s2 := s1.countSat t (act.filter fun q => q.1 ≠ q.2).length
    .next ((s2.census t (minOf (act.map fun q => headroom (n / 2) m q.2))).useIf mode on)

/-- VWIDEN (R121). -/
def execVwiden (g : BitVec 4) (w : Width) (d a b : BitVec 5) (m : Bool) (s : State) : Out :=
  let p := s.rdS b
  let n := Width.bits w
  let k := bitsOf p.toNat 5 0
  let u := p.getLsbD 6
  let half := Width.lanes w / 2
  if paramBad p 7 ∨ k > n then .next (s.fault .illegalOperand 2)
  else
    let va := s.rdV a
    s.putLanes g (Width.wider w) d 2 fun l =>
      let e := lane n va ((if m then half else 0) + l)
      (if u then e else pat (2 * n) (sgn n e)) * 2 ^ k

/-- VSHRR (R122). -/
def execVshrr (g : BitVec 4) (w : Width) (d a b : BitVec 5) (s : State) : Out :=
  let p := s.rdS b
  let n := Width.bits w
  let mode := bitsOf p.toNat 7 6
  let va := s.rdV a
  let on := s.lanesOn g w
  if paramBad p 8 then .next (s.fault .illegalOperand 2)
  else
    let v := vecOf n ((List.range (Width.lanes w)).map fun l => pat n (sd (laneS n va l) (bitsOf p.toNat 5 0) mode (s.rndLane l)))
    .next ((s.putV on d v 2).useIf mode on)

/-- The signed shift j of VSSHR's parameter word (R122). -/
def ssShift (p : Word) : Int := (p.extractLsb' 0 7).toInt

/-- VSSHR (R122). -/
def execVsshr (g : BitVec 4) (w : Width) (d a b : BitVec 5) (s : State) : Out :=
  let p := s.rdS b
  let n := Width.bits w
  let j := ssShift p
  let mode := bitsOf p.toNat 8 7
  let va := s.rdV a
  let on := s.lanesOn g w
  if paramBad p 9 ∨ j = -64 then .next (s.fault .illegalOperand 2)
  else
    let v := vecOf n ((List.range (Width.lanes w)).map fun l =>
      if 0 ≤ j then laneSatS n (laneS n va l * 2 ^ j.toNat) else pat n (sd (laneS n va l) (-j).toNat mode (s.rndLane l)))
    .next ((s.putV on d v 2).useIf mode on)

/-- VSPLAT (R124). -/
def execVsplat (g : BitVec 4) (w : Width) (d b : BitVec 5) (s : State) : Out :=
  let x := (s.rdS b).toNat
  s.putLanes g w d 2 fun _ => x

/-- An element extended to 64 bits (R124, R126). -/
def elemWord (w : Width) (v : VecReg) (zero : Bool) (i : Nat) : Word :=
  if zero then BitVec.ofNat 64 (lane (Width.bits w) v i) else BitVec.ofInt 64 (laneS (Width.bits w) v i)

/-- VEXTR, guarded by lane 0 (R124). -/
def execVextr (g : BitVec 4) (w : Width) (d a b : BitVec 5) (m : Bool) (s : State) : Out :=
  s.when g fun s =>
    let i := (s.rdS b).toNat
    if Width.lanes w ≤ i then s.fault .illegalOperand 2 else s.setS d (elemWord w (s.rdV a) m i) 2

/-- VINSR (R124). -/
def execVinsr (g : BitVec 4) (w : Width) (d a b : BitVec 5) (s : State) : Out :=
  let i := (s.rdS b).toNat
  if Width.lanes w ≤ i then .next (s.fault .illegalOperand 2)
  else
    let x := (s.rdS a).toNat
    let one := predOf (Width.bytes w) ((List.range (Width.lanes w)).map fun l => decide (l = i) && active w (s.rdP g) l)
    .next (s.putV one d (vecOf (Width.bits w) (List.replicate (Width.lanes w) x)) 2)

/-- The number of active elements below l (R124, R140). -/
def below (w : Width) (g : Pred) (l : Nat) : Nat := ((List.range l).filter (active w g)).length

/-- VIOTA (R124). -/
def execViota (g : BitVec 4) (w : Width) (d b : BitVec 5) (m : Bool) (s : State) : Out :=
  let x := (s.rdS b).toNat
  s.putLanes g w d 2 fun l => x + (if m then below w (s.rdP g) l else l)

/-- VCB4: codes through the codebook as it stood before the bundle (R96, R123). -/
def execVcb4 (g : BitVec 4) (d a b : BitVec 5) (m : Bool) (s : State) : Out :=
  let p := s.rdS b
  if paramBad p 6 then .next (s.fault .illegalOperand 2)
  else
    let cb := (fileGet s.core.old.ts (p.extractLsb' 0 6)).cb
    let va := s.rdV a
    s.putLanes g .byte d 2 fun l => (cb.extractLsb' (8 * lane 4 va ((if m then 256 else 0) + l)) 8).toNat

/-- VQ4P (R123). -/
def execVq4p (g : BitVec 4) (d a : BitVec 5) (s : State) : Out :=
  let pair := s.rdV (a + 1) ++ s.rdV a
  .next (s.putV (s.lanesOn g .byte) d
    (vecOf 4 ((List.range 512).map fun i => laneSatS 4 ((pair.extractLsb' (8 * i) 8).toInt))) 2)

/-- VQ4U (R123). -/
def execVq4u (g : BitVec 4) (d a : BitVec 5) (m : Bool) (s : State) : Out :=
  let va := s.rdV a
  s.putLanes g .byte d 2 fun l => pat 8 (sgn 4 (lane 4 va ((if m then 256 else 0) + l)))

/-- A reduction of the active elements into bits 63:0 of vd, the rest unchanged (R125): `ident` without xb. -/
def State.vred (s : State) (g : BitVec 4) (w : Width) (d a : BitVec 5) (b : Option (BitVec 5)) (m : Bool) (ident : Word)
    (op : Word → Word → Word) : Out :=
  let init := match b with
    | some x => s.rdS x
    | none => ident
  let va := s.rdV a
  let acc := (activeOf w (s.rdP g) ((List.range (Width.lanes w)).map (elemWord w va m))).foldl op init
  .next ((s.setV d (mergeV (s.curV d) (acc.zeroExtend 2048) 0xFF) 4).renewV d 0xFF)

/-- VREDADD (R125). -/
def execVredadd (g : BitVec 4) (w : Width) (d a : BitVec 5) (b : Option (BitVec 5)) (m : Bool) (s : State) : Out :=
  s.vred g w d a b m 0 fun x y => x + y
/-- VREDMAX (R125). -/
def execVredmax (g : BitVec 4) (w : Width) (d a : BitVec 5) (b : Option (BitVec 5)) (m : Bool) (s : State) : Out :=
  s.vred g w d a b m (if m then 0 else 0x8000_0000_0000_0000) fun x y => if m then maxU x y else maxS x y
/-- VREDMIN (R125). -/
def execVredmin (g : BitVec 4) (w : Width) (d a : BitVec 5) (b : Option (BitVec 5)) (m : Bool) (s : State) : Out :=
  s.vred g w d a b m (if m then BitVec.allOnes 64 else 0x7FFF_FFFF_FFFF_FFFF) fun x y => if m then minU x y else minS x y
/-- VREDOR (R125). -/
def execVredor (g : BitVec 4) (w : Width) (d a : BitVec 5) (b : Option (BitVec 5)) (s : State) : Out :=
  s.vred g w d a b false 0 fun x y => x ||| y

/-- A return-queue entry is reserved (R92). -/
def State.pushRq (s : State) (e : RqEntry) : State := s.modComp fun c => { c with rq := c.rq ++ [e] }

/-- VTORQ, guarded by lane 0 (R92, R126). -/
def execVtorq (g : BitVec 4) (w : Width) (a : BitVec 5) (b : Option (BitVec 5)) (m : Bool) (s : State) : Out :=
  s.when g fun s =>
    let i := match b with
      | some x => (s.rdS x).toNat
      | none => 0
    if Width.lanes w ≤ i then s.fault .illegalOperand 2
    else if 16 ≤ s.core.t.comp.rq.length then s.fault .illegalOperand 4
    else s.pushRq { value := some (elemWord w (s.rdV a) m i), due := s.core.clock + 2, tag := 0 }

/-- An element at an end of its range (R127). -/
def atEnd (n : Nat) (x : Int) : Bool := decide (x = -(2 ^ (n - 1) : Int)) || decide (x = 2 ^ (n - 1) - 1)

/-- VCENS (R107, R127). -/
def execVcens (g : BitVec 4) (w : Width) (a b : BitVec 5) (m : Bool) (s : State) : Out :=
  let p := s.rdS b
  let n := Width.bits w
  let t : BitVec 6 := p.extractLsb' 0 6
  let va := s.rdV a
  let act := activeOf w (s.rdP g) ((List.range (Width.lanes w)).map (laneS n va))
  if paramBad p 6 then .next (s.fault .illegalOperand 2)
  else if act.isEmpty then .next s
  else
    let s1 := s.census t (minOf (act.map (clsInt n)))
    .next (if m then s1.countSat t (act.filter (atEnd n)).length else s1)

end Sys2Proof.Machine
end

