-- ==== Sys2Proof/Machine/VecSpecial.lean ====
section
/-! DEFINITION. Bit matrices, permutations and conditional streams: class 0x6 from opcode 0x05 (R132 to R142). -/

namespace Sys2Proof.Machine

/-- One bit of an 8 by 8 product over GF(2), or of the OR-AND product (R133). -/
def bmmBit (or : Bool) (a b i j : Nat) : Bool :=
  (List.range 8).foldl (fun c k =>
    let t := Nat.testBit a (8 * i + k) && Nat.testBit b (8 * k + j)
    if or then c || t else xor c t) false

/-- A number from its bits, bit 0 first. -/
def natOfBits (bs : List Bool) : Nat :=
  match bs with
  | [] => 0
  | b :: r => (if b then 1 else 0) + 2 * natOfBits r

/-- The product of two 8 by 8 matrices (R133). -/
def bmm (or : Bool) (a b : Nat) : Nat := natOfBits ((List.range 64).map fun n => bmmBit or a b (n / 8) (n % 8))

/-- VBMM (R133). -/
def execVbmm (g : BitVec 4) (d a : BitVec 5) (b : VOpnd) (m : Bool) (s : State) : Out :=
  s.vbin g .dword d a b 3 fun _ x y => bmm m x y

/-- The bits of a that the mask selects, moved to the bottom (R134): n bits from the lowest. -/
def pext (n a m : Nat) : Nat :=
  match n with
  | 0 => 0
  | k + 1 => if m % 2 = 1 then a % 2 + 2 * pext k (a / 2) (m / 2) else pext k (a / 2) (m / 2)

/-- The low bits of a, spread to the places the mask selects (R134). -/
def pdep (n a m : Nat) : Nat :=
  match n with
  | 0 => 0
  | k + 1 => if m % 2 = 1 then a % 2 + 2 * pdep k (a / 2) (m / 2) else 2 * pdep k a (m / 2)

/-- VPDEP (R134). -/
def execVpdep (g : BitVec 4) (w : Width) (d a : BitVec 5) (b : VOpnd) (s : State) : Out := s.vbin g w d a b 3 fun n x y => pdep n x y

/-- VPEXT (R134). -/
def execVpext (g : BitVec 4) (w : Width) (d a : BitVec 5) (b : VOpnd) (s : State) : Out := s.vbin g w d a b 3 fun n x y => pext n x y

/-- Eight chosen bits (R135). -/
def bperm (a idx : Nat) : Nat := natOfBits ((List.range 8).map fun j => decide (idx / 256 ^ j % 256 < 64) && Nat.testBit a (idx / 256 ^ j % 256))

/-- VBPERM (R135). -/
def execVbperm (g : BitVec 4) (d a : BitVec 5) (b : VOpnd) (s : State) : Out := s.vbin g .dword d a b 3 fun _ x y => bperm x y

/-- Element x of va, of the pair with m, or 0 (R136, R137). -/
def State.tableElem (s : State) (w : Width) (a : BitVec 5) (m : Bool) (x : Int) : Nat :=
  let l : Int := Width.lanes w
  if x < 0 then 0
  else if x < l then lane (Width.bits w) (s.rdV a) x.toNat
  else if m ∧ x < 2 * l then lane (Width.bits w) (s.rdV (a + 1)) (x - l).toNat
  else 0

/-- VPERM (R136). -/
def execVperm (g : BitVec 4) (w : Width) (d a b : BitVec 5) (m : Bool) (s : State) : Out :=
  let vi := s.rdV b
  s.putLanes g w d 3 fun l => s.tableElem w a m (lane (Width.bits w) vi l)

/-- VSLIDE (R137). -/
def execVslide (g : BitVec 4) (w : Width) (d a b : BitVec 5) (m : Bool) (s : State) : Out :=
  let k := (s.rdS b).toInt
  s.putLanes g w d 2 fun l => s.tableElem w a m ((l : Int) + k)

/-- A stream buffer as it stands (R141). -/
def State.stream (s : State) (n : BitVec 2) : List Byte := fileGet s.core.t.streams n
def State.setStream (s : State) (n : BitVec 2) (bs : List Byte) : State :=
  s.modT fun t => { t with streams := filePut t.streams n bs }

/-- k bytes go from the front of a stream buffer, with the poison of the words that go with them (R140, R307). -/
def State.dropStream (s : State) (n : BitVec 2) (k : Nat) : State :=
  (s.setStream n ((s.stream n).drop k)).modT fun t =>
    { t with streamPoison := filePut t.streamPoison n (((fileGet t.streamPoison n).filter fun w => decide (k < w + 8)).map fun w => w - k) }

/-- The numbers of the active elements, ascending. -/
def activeLanes (w : Width) (g : Pred) : List Nat := (List.range (Width.lanes w)).filter (active w g)

/-- VSPUSH (R140). -/
def execVspush (g : BitVec 4) (w : Width) (n : BitVec 2) (a : BitVec 5) (s : State) : Out :=
  let e := Width.bytes w
  let on := activeLanes w (s.rdP g)
  let room := (4096 - (s.stream n).length) / e
  let va := s.rdV a
  match nth? on room with
  | some l =>
    .next (s.raise { cause := .illegalOperand, slot := BitVec.ofNat 3 s.core.bundle.slot, opnd := 4, elem := BitVec.ofNat 16 l })
  | none =>
    .next (if on.isEmpty then s
           else s.setStream n (s.stream n ++ (on.map fun l => leBytes e (lane (Width.bits w) va l)).flatten))

/-- VSPOP (R140). -/
def execVspop (g : BitVec 4) (w : Width) (d : BitVec 5) (n : BitVec 2) (p : BitVec 4) (m : Bool) (s : State) : Out :=
  let e := Width.bytes w
  let on := activeLanes w (s.rdP g)
  let st := s.stream n
  let k := Nat.min on.length (st.length / e)
  if on.isEmpty then .next s
  else
    let filled := (List.range (Width.lanes w)).map fun l => active w (s.rdP g) l && decide (below w (s.rdP g) l < k)
    let v := vecOf (Width.bits w) ((List.range (Width.lanes w)).map fun l =>
      if below w (s.rdP g) l < k then leNat ((st.drop (e * below w (s.rdP g) l)).take e) else 0)
    let mask := if m then s.lanesOn g w else predOf e filled
    let s1 := (s.putV mask d v 3).dropStream n (e * k)
    .next (s1.setP p (predOf e filled) 1)

/-- VSFLUSH, guarded by lane 0 (R140). -/
def execVsflush (g : BitVec 4) (w : Width) (d : BitVec 5) (n : BitVec 2) (s : State) : Out :=
  s.when g fun s => (s.setS d (BitVec.ofNat 64 ((s.stream n).length / Width.bytes w)) 2).setStream n []

/-- VSLEN, guarded by lane 0 (R140). -/
def execVslen (g : BitVec 4) (w : Width) (d : BitVec 5) (n : BitVec 2) (s : State) : Out :=
  s.when g fun s => s.setS d (BitVec.ofNat 64 ((s.stream n).length / Width.bytes w)) 2

end Sys2Proof.Machine
end

