-- ==== Sys2Proof/Machine/Routines.lean ====
section
/-! DEFINITION. Integer routines: exponential, reciprocal, square root, division, the optimiser step: class 0x6 opcodes 0x00 to 0x04 (R143 to R152). -/

namespace Sys2Proof.Machine

/-- The largest value of n bits for which a downward closed test holds, found bit by bit from the top. -/
def largest (n : Nat) (test : Nat → Bool) (acc : Nat) : Nat :=
  match n with
  | 0 => acc
  | k + 1 => largest k test (if test (acc + 2 ^ k) then acc + 2 ^ k else acc)

/-- T[i] := 32,768 x 2^(-i/256) rounded to nearest (R147): the largest y with (2y - 1)^256 x 2^i at most 2^(16 x 256). -/
def expTable (i : Nat) : Nat := largest 16 (fun y => decide ((2 * y - 1) ^ 256 * 2 ^ i ≤ 2 ^ 4096)) 0

/-- e^x in Q1.15 (R147). -/
def expLane (f : Nat) (x : Int) : Nat :=
  let t := (-(min x 0)).toNat * 23637
  let n := t / 2 ^ (f + 14)
  if n < 16 then expTable (t / 2 ^ (f + 6) % 256) / 2 ^ n else 0

/-- VRCP's value (R148). -/
def rcpLane (s d : Nat) : Nat := if d = 0 then 2 ^ 32 - 1 else Nat.min (2 ^ 32 - 1) (2 ^ s / d)

/-- VRSQ's value (R148). -/
def rsqLane (s x : Nat) : Nat := if x = 0 then 2 ^ 32 - 1 else largest 32 (fun y => decide (y * y * x ≤ 2 ^ s)) 0

/-- VDIV's value (R149). -/
def divLane (a b : Int) : Int :=
  if b = 0 then (if 0 ≤ a then 2 ^ 31 - 1 else -(2 ^ 31)) else if a = -(2 ^ 31) ∧ b = -1 then 2 ^ 31 - 1 else a.tdiv b

/-- A source operand of a routine instruction for R146: its operand number, its fopnd, its name. -/
structure RoutineSrc where
  opd : Nat
  fopnd : BitVec 3
  name : BitVec 5

/-- The register-file location of R146. -/
def regLocation (word preg opd : Nat) : VAddr := BitVec.ofNat 55 (word + 32 * preg + 1024 * opd + 2 ^ 54)

/-- POISON of a source word of an active lane: the lowest lane, then the first operand (R146). -/
def State.regFault (s : State) (w : Width) (on : List Nat) (srcs : List RoutineSrc) : Option Exc :=
  let bad (l : Nat) (o : RoutineSrc) : Bool :=
    s.core.undo.regPoison.contains (32 * (physV s.core.old.vrb o.name).toNat + Width.bytes w * l / 8)
  match on.find? fun l => srcs.any (bad l) with
  | none => none
  | some l =>
    match srcs.find? (bad l) with
    | none => none
    | some o => some { cause := .poison, slot := BitVec.ofNat 3 s.core.bundle.slot, opnd := o.fopnd, elem := BitVec.ofNat 16 l,
                       addr := regLocation (Width.bytes w * l / 8) (physV s.core.old.vrb o.name).toNat o.opd }

/-- A routine instruction's frame: reserved parameter bits, no active lane, poisoned sources, then its effect (R145, R146). Where a slot has both faults, the manual does not order them: the reserved bits come first [log 65]. -/
def State.routine (s : State) (g : BitVec 4) (w : Width) (bad : Bool) (srcs : List RoutineSrc) (f : State → State) : Out :=
  let on := activeLanes w (s.rdP g)
  .next (if bad then s.fault .illegalOperand 2
         else if on.isEmpty then s
         else
           match s.regFault w on srcs with
           | some e => s.raise e
           | none => f s)

def srcA (a : BitVec 5) : RoutineSrc := { opd := 3, fopnd := 1, name := a }

/-- VEXP (R147). -/
def execVexp (g : BitVec 4) (d a b : BitVec 5) (s : State) : Out :=
  let p := s.rdS b
  let va := s.rdV a
  s.routine g .half (paramBad p 4) [srcA a] fun s =>
    s.putV (s.lanesOn g .half) d (vecOf 16 ((List.range 128).map fun l => expLane (bitsOf p.toNat 3 0) (laneS 16 va l))) 8

/-- Some active lane satisfies a test. -/
def State.anyActive (s : State) (g : BitVec 4) (w : Width) (f : Nat → Bool) : Bool := (activeLanes w (s.rdP g)).any f

/-- VRCP (R144, R148). -/
def execVrcp (g : BitVec 4) (d a b : BitVec 5) (s : State) : Out :=
  let p := s.rdS b
  let va := s.rdV a
  s.routine g .word (paramBad p 6) [srcA a] fun s =>
    let s1 := s.putV (s.lanesOn g .word) d (vecOf 32 ((List.range 64).map fun l => rcpLane (bitsOf p.toNat 5 0) (lane 32 va l))) 10
    if s.anyActive g .word (fun l => decide (lane 32 va l = 0)) then s1.setVflags 1 else s1

/-- VRSQ (R144, R148). -/
def execVrsq (g : BitVec 4) (d a b : BitVec 5) (s : State) : Out :=
  let p := s.rdS b
  let va := s.rdV a
  s.routine g .word (paramBad p 6) [srcA a] fun s =>
    let s1 := s.putV (s.lanesOn g .word) d (vecOf 32 ((List.range 64).map fun l => rsqLane (bitsOf p.toNat 5 0) (lane 32 va l))) 12
    if s.anyActive g .word (fun l => decide (lane 32 va l = 0)) then s1.setVflags 2 else s1

/-- VDIV (R144, R149). -/
def execVdiv (g : BitVec 4) (d a : BitVec 5) (b : VOpnd) (s : State) : Out :=
  let va := s.rdV a
  let srcs := match b with
    | .v r => [srcA a, { opd := 4, fopnd := 2, name := r }]
    | .x _ => [srcA a]
  s.routine g .word false srcs fun s =>
    let s1 := s.putV (s.lanesOn g .word) d
      (vecOf 32 ((List.range 64).map fun l => pat 32 (divLane (laneS 32 va l) (sgn 32 (s.opLane 32 b l))))) 24
    if s.anyActive g .word (fun l => decide (s.opLane 32 b l = 0)) then s1.setVflags 1 else s1

/-- What VOPT computes in a lane (R150): each of w, m, v before and after its clamp, and whether the root's operand was 0. -/
structure OptLane where
  w : Int
  w' : Int
  m : Int
  m' : Int
  v : Int
  v' : Int
  zero : Bool

def optLane (p : Nat) (w m v g : Int) : OptLane :=
  let b1 := bitsOf p 3 0
  let b2 := bitsOf p 7 4
  let m1 := m - asr m b1 + asr g b1
  let m' := satS 16 m1
  let v1 := v - asr v b2 + asr (g * g) (b2 + bitsOf p 19 16)
  let v' := satU 16 v1
  let x := (v' + bitsOf p 31 25).toNat
  let u := asr ((bitsOf p 15 8 : Int) * m' * rsqLane 30 x) (bitsOf p 24 20)
  { w := w - u, w' := satS 16 (w - u), m := m1, m' := m', v := v1, v' := v', zero := decide (x = 0) }

/-- VOPT (R144, R150 to R152). -/
def execVopt (g : BitVec 4) (d a b : BitVec 5) (s : State) : Out :=
  let p := s.rdS b
  let vw := s.rdV d
  let vm := s.rdV (d + 1)
  let vv := s.rdV (d + 2)
  let vg := s.rdV a
  s.routine g .half (paramBad p 32)
    [{ opd := 0, fopnd := 0, name := d }, { opd := 1, fopnd := 4, name := d + 1 }, { opd := 2, fopnd := 4, name := d + 2 }, srcA a] fun s =>
    let ls := (List.range 128).map fun l => optLane p.toNat (laneS 16 vw l) (laneS 16 vm l) (lane 16 vv l) (laneS 16 vg l)
    let act := activeOf .half (s.rdP g) ls
    let on := s.lanesOn g .half
    let s1 := ((s.putV on d (vecOf 16 (ls.map fun o => pat 16 o.w')) 16).putV on (d + 1) (vecOf 16 (ls.map fun o => pat 16 o.m')) 16).putV
      on (d + 2) (vecOf 16 (ls.map fun o => pat 16 o.v')) 16
    let optp := s.core.old.sys.optp
    let s2 := ((s1.countSat (optp.extractLsb' 0 6) (act.filter fun o => o.w ≠ o.w').length).countSat (optp.extractLsb' 6 6)
      (act.filter fun o => o.m ≠ o.m').length).countSat (optp.extractLsb' 12 6) (act.filter fun o => o.v ≠ o.v').length
    if act.any (fun o => o.zero) then s2.setVflags 2 else s2

end Sys2Proof.Machine
end

