-- ==== Sys2Proof/Machine/VecMem.lean ====
section
/-! DEFINITION. Vector memory: class 0x7 (R128 to R131). -/

namespace Sys2Proof.Machine

/-- What the elements of a vector load have brought so far. -/
structure VLoaded where
  state : State
  /-- element numbers and their bytes -/
  elems : List (Nat × List Byte)
  far : Bool
  /-- what other packages have still to send -/
  parts : List FarPart

/-- One element of a vector access as the fault it may raise (R130). -/
def State.elemExc (s : State) (c : Cause) (i : Nat) (a : Word) (wr : Bool) : Exc :=
  s.accExc c 1 (vaOf a) (BitVec.ofNat 16 i) wr none

/-- Load the active elements in ascending order (R128, R130): `e` bytes each, of alignment `al`. An element that faults while bytes of a lower one are still on their way from another package waits for them, since that one may fault too [log 59]. The elements in the own scratchpad are read in one step: the manual gives their parts no order (R131) [log 60]. -/
def State.loadElems (s : State) (e al : Nat) (addr : Nat → Word) (on : List Nat) : Except AccErr VLoaded :=
  match on with
  | [] => .ok { state := s, elems := [], far := false, parts := [] }
  | i :: r =>
    if (addr i).toNat % al ≠ 0 then .error (.exc (s.elemExc .misaligned i (addr i) false))
    else
      match s.load (vaOf (addr i)) e 1 0 (BitVec.ofNat 16 i) with
      | .error x => .error x
      | .ok l =>
        match l.state.loadElems e al addr r with
        | .error (.exc x) => if l.parts = [] then .error (.exc x) else .error (.held l.state)
        | .error x => .error x
        | .ok q => .ok { state := q.state, elems := (i, l.bytes) :: q.elems, far := l.far || q.far,
                         parts := (l.parts.map fun f => { f with places := [e * i] }) ++ q.parts }

/-- The bytes of a line that some accesses name. -/
def L1Line.named (o : L1Line) (ls : List Loc) (n : Nat) : BitVec 64 :=
  ls.foldl (fun m l => if o.sameAs l then m ||| maskBits (l.pa % 64) n else m) 0

/-- A line that the L1 holds only in part, for accesses that name a byte it lacks: it keeps only what the core has stored, so that all the rest comes from one fetch (R240, R247). -/
def L1Line.forRead (o : L1Line) (ls : List Loc) (n : Nat) : L1Line :=
  if o.named ls n &&& ~~~o.present = 0 then o else { o with present := o.dirty }

/-- The same for the far elements of a vector load. -/
def State.partLines (s : State) (e : Nat) (addr : Nat → Word) (on : List Nat) : State :=
  match on.filterMap fun i => match s.xlate (some s.cur) s.core.t.id.asid (vaOf (addr i)) needR with
      | .ok l => if s.ownWindow (vaOf (addr i)) then none else some l
      | _ => none with
  | [] => s
  | ls => s.modCore fun c => { c with l1 := c.l1.map fun o => o.forRead ls e }

/-- The elements of a vector load, each line of which is read as one (R130, R247). -/
def State.loadVec (s : State) (e al : Nat) (addr : Nat → Word) (on : List Nat) : Except AccErr VLoaded := (s.partLines e addr on).loadElems e al addr on

/-- Store elements in ascending order; an error leaves nothing stored, and what goes to the own scratchpad is written together (R128, R130, R131). -/
def State.storeElems (s : State) (own : List OwnWrite) (al : Nat) (addr : Nat → Word) (val : Nat → List Byte) (on : List Nat) : Except AccErr State :=
  match on with
  | [] => .ok (s.storeOwn own)
  | i :: r =>
    if (addr i).toNat % al ≠ 0 then .error (.exc (s.elemExc .misaligned i (addr i) true))
    else
      match s.storeInto own (vaOf (addr i)) (val i) 1 (BitVec.ofNat 16 i) with
      | .error x => .error x
      | .ok (s', own') => s'.storeElems own' al addr val r

/-- The bytes of loaded elements in register order, element i at byte e x i. -/
def elemsNat (e : Nat) (es : List (Nat × List Byte)) : Nat := es.foldl (fun acc q => acc + leNat q.2 * 2 ^ (8 * e * q.1)) 0

/-- The byte lanes of some elements. -/
def elemsMask (w : Width) (on : List Nat) : Pred := predOf (Width.bytes w) ((List.range (Width.lanes w)).map on.contains)

/-- A vector load of the active elements (R114, R128): bound 6 from the own scratchpad, scoreboarded from anywhere else. -/
def State.vload (s : State) (g : BitVec 4) (w : Width) (d : BitVec 5) (addr : Nat → Word) : Out :=
  let e := Width.bytes w
  let on := activeLanes w (s.rdP g)
  if on.isEmpty then .next s
  else
    match s.loadVec e e addr on with
    | .error x => .next (s.accFail x)
    | .ok q =>
      let v := BitVec.ofNat 2048 (elemsNat e q.elems)
      let m := elemsMask w on
      .next (if q.far then q.state.addFarParts (.vec (physV s.core.old.vrb d) v m) (s.elemExc .none (on.headD 0) (addr (on.headD 0)) false) 0 q.parts
             else q.state.putV m d v 6)

/-- A vector store of the active elements (R128). -/
def State.vstore (s : State) (g : BitVec 4) (w : Width) (d : BitVec 5) (addr : Nat → Word) : Out :=
  let e := Width.bytes w
  let v := s.rdV d
  match s.storeElems [] e addr (fun i => leBytes e (lane (Width.bits w) v i)) (activeLanes w (s.rdP g)) with
  | .error x => .next (s.accFail x)
  | .ok s' => .next s'

/-- xa + xo, the offset 0 when absent (R128). -/
def State.baseOff (s : State) (a : BitVec 5) (b : Option (BitVec 5)) : Word :=
  match b with
  | some x => s.rdS a + s.rdS x
  | none => s.rdS a

/-- Element i of a contiguous access (R128). -/
def contiguous (base : Word) (e i : Nat) : Word := base + BitVec.ofNat 64 (i * e)

/-- VLD (R128). -/
def execVld (g : BitVec 4) (w : Width) (d a : BitVec 5) (b : Option (BitVec 5)) (s : State) : Out :=
  s.vload g w d (contiguous (s.baseOff a b) (Width.bytes w))
/-- VST (R128). -/
def execVst (g : BitVec 4) (w : Width) (d a : BitVec 5) (b : Option (BitVec 5)) (s : State) : Out :=
  s.vstore g w d (contiguous (s.baseOff a b) (Width.bytes w))

/-- Element i of a strided access (R128). -/
def strided (base st : Word) (i : Nat) : Word := base + BitVec.ofNat 64 i * st

/-- VLDS (R128). -/
def execVlds (g : BitVec 4) (w : Width) (d a b : BitVec 5) (s : State) : Out := s.vload g w d (strided (s.rdS a) (s.rdS b))
/-- VSTS (R128). -/
def execVsts (g : BitVec 4) (w : Width) (d a b : BitVec 5) (s : State) : Out := s.vstore g w d (strided (s.rdS a) (s.rdS b))

/-- Element i of an indexed access (R128). -/
def indexed (base : Word) (w : Width) (vi : VecReg) (m : Bool) (i : Nat) : Word :=
  base + BitVec.ofInt 64 (laneS (Width.bits w) vi i * (if m then Width.bytes w else 1))

/-- VLDX (R128). -/
def execVldx (g : BitVec 4) (w : Width) (d a b : BitVec 5) (m : Bool) (s : State) : Out :=
  s.vload g w d (indexed (s.rdS a) w (s.rdV b) m)
/-- VSTX (R128). -/
def execVstx (g : BitVec 4) (w : Width) (d a b : BitVec 5) (m : Bool) (s : State) : Out :=
  s.vstore g w d (indexed (s.rdS a) w (s.rdV b) m)

/-- sw(r, b) for a pitch of 64 x 2^lp (R129). -/
def swizzle (base : Word) (lp r b : Nat) : Word :=
  base + BitVec.ofNat 64 (r * 64 * 2 ^ lp + 64 * Nat.xor (b / 64) (r % 2 ^ lp) + b % 64)

/-- Element i of a tile access (R129). -/
def tileAddr (base p : Word) (e i : Nat) : Word :=
  let row := bitsOf p.toNat 15 0
  let col := bitsOf p.toNat 31 16
  let lp := bitsOf p.toNat 34 32
  if p.getLsbD 35 then swizzle base lp (row + i) (col * e) else swizzle base lp row ((col + i) * e)

/-- A parameter field of VLDT or VSTT is out of its range (R115, R129). -/
def tileParamBad (p : Word) : Bool :=
  paramBad p 42 || decide (5 < bitsOf p.toNat 34 32) || decide (bitsOf p.toNat 41 36 = 0) || decide (32 < bitsOf p.toNat 41 36)

/-- The shape checks of R129 fail. -/
def State.tileShapeBad (s : State) (base p : Word) (w : Width) : Bool :=
  let e := Width.bytes w
  let col := bitsOf p.toNat 31 16
  let lines := 2 ^ bitsOf p.toNat 34 32
  let rl := bitsOf p.toNat 41 36
  decide (rl > lines) ||
  (if p.getLsbD 35 then decide (rl ≠ lines) || decide (col * e ≥ 64 * rl) else decide ((col + Width.lanes w) * e > 64 * rl)) ||
  decide (base.toNat % 64 ≠ 0) ||
  (List.range (Width.lanes w)).any fun i => !(s.ownWindow (vaOf (tileAddr base p e i)))

/-- The checks of R129, then the access; they apply whatever the guard. -/
def State.tile (s : State) (w : Width) (base p : Word) (f : State → Out) : Out :=
  if tileParamBad p then .next (s.fault .illegalOperand 2)
  else if s.tileShapeBad base p w then .next (s.faultAt .operandFormat 1 (vaOf base))
  else f s

/-- VLDT (R129). -/
def execVldt (g : BitVec 4) (w : Width) (d a b : BitVec 5) (s : State) : Out :=
  s.tile w (s.rdS a) (s.rdS b) fun s => s.vload g w d (tileAddr (s.rdS a) (s.rdS b) (Width.bytes w))
/-- VSTT (R129). -/
def execVstt (g : BitVec 4) (w : Width) (d a b : BitVec 5) (s : State) : Out :=
  s.tile w (s.rdS a) (s.rdS b) fun s => s.vstore g w d (tileAddr (s.rdS a) (s.rdS b) (Width.bytes w))

/-- VLDB: one element, read once, into every active element (R128). -/
def execVldb (g : BitVec 4) (w : Width) (d a : BitVec 5) (b : Option (BitVec 5)) (s : State) : Out :=
  let e := Width.bytes w
  let base := s.baseOff a b
  match activeLanes w (s.rdP g) with
  | [] => .next s
  | i :: on =>
    match s.loadVec e e (fun _ => base) [i] with
    | .error x => .next (s.accFail x)
    | .ok q =>
      let x := leNat ((q.elems.map fun z => z.2).flatten)
      let m := elemsMask w (i :: on)
      let v := vecOf (Width.bits w) (List.replicate (Width.lanes w) x)
      .next (if q.far then q.state.addFarParts (.vec (physV s.core.old.vrb d) v m) (s.elemExc .none i base false) 0
               (q.parts.map fun f => { f with places := (List.range (Width.lanes w)).map (e * ·) })
             else q.state.putV m d v 6)

/-- VLDP, guarded by lane 0 (R128). -/
def execVldp (g p : BitVec 4) (a : BitVec 5) (b : Option (BitVec 5)) (s : State) : Out :=
  s.when g fun s =>
    let base := s.baseOff a b
    match s.loadVec 32 32 (fun _ => base) [0] with
    | .error x => s.accFail x
    | .ok q =>
      let v := BitVec.ofNat 256 (elemsNat 32 q.elems)
      if q.far then q.state.addFarParts (.pred p v (BitVec.allOnes 256)) (s.elemExc .none 0 base false) 0 q.parts
      else q.state.setP p v 6

/-- VSTP, guarded by lane 0 (R128). -/
def execVstp (g p : BitVec 4) (a : BitVec 5) (b : Option (BitVec 5)) (s : State) : Out :=
  s.when g fun s =>
    let base := s.baseOff a b
    match s.storeElems [] 32 (fun _ => base) (fun _ => leBytes 32 (s.rdP p).toNat) [0] with
    | .error x => s.accFail x
    | .ok s' => s'

end Sys2Proof.Machine
end

