-- ==== Sys2Proof/Machine/Engines.lean ====
section
/-! DEFINITION. What the matrix and copy engines share: memory access past the L1, misses, hazards, and the completion of a command (R168, R170, R172, R184, R185, R190, R193, R278, R299, R304). -/

namespace Sys2Proof.Machine

/-! ### Access -/

/-- Why an engine's access cannot be made now: a miss, a status the command ends with, a line of another package to ask for, or a wait. -/
inductive EngFail where
  | miss
  | ends (st : Status)
  | ask (pkg key pa : Nat)
  | wait
  deriving DecidableEq, Repr

def Xl.engFail (x : Xl) : EngFail :=
  match x with
  | .ok _ => .wait
  | .miss => .miss
  | .refused => .ends .protection
  | .forbidden => .ends .protection
  | .poisoned => .ends .poison

/-- Bytes at a place with the core's own stored bytes that are not yet written back laid over: a command sees the core's earlier stores across a FENCE of core scope, and may see them without one (R172, R192, R203) [log 24]. -/
def Core.overlay (c : Core) (l : Loc) (bs : List Byte) : List Byte :=
  match l1Find c.l1 l with
  | none => bs
  | some o => ((List.range bs.length).zip bs).map fun q =>
      if o.dirty.getLsbD (l.pa % 64 + q.1) then lineByte o.data (l.pa % 64 + q.1) else q.2

/-- Some of n bytes of a fetched line came poisoned (R307). -/
def Fetched.badIn (f : Fetched) (i n : Nat) : Bool := f.bad.any fun w => decide (8 * w < i + n) && decide (i < 8 * w + 8)

/-- Read bytes that lie in one 64-byte line, at their home (R240). -/
def State.engReadLine (s : State) (got : List Fetched) (asid : Nat) (va : VAddr) (n : Nat) : Except EngFail (List Byte) :=
  match s.xlate (some s.cur) asid va needR with
  | .ok l =>
    match l.pkg with
    | none => if s.mem.poisoned l.pa n then .error (.ends .poison) else .ok (s.core.overlay l (s.mem.bytes l.key l.pa n))
    | some p =>
      if s.fabric.lost.contains p then .error (.ends .peerLost)
      else
        match got.find? fun f => decide (f.pkg = p ∧ f.pa = l.pa / 64 * 64) with
        | some f =>
          match f.data with
          | some bs => if f.badIn (l.pa % 64) n then .error (.ends .poison) else .ok (s.core.overlay l ((bs.drop (l.pa % 64)).take n))
          | none => .error .wait
        | none => .error (.ask p l.key (l.pa / 64 * 64))
  | x => .error x.engFail

/-- Read at most 64 bytes, in one or two lines. -/
def State.engRead (s : State) (got : List Fetched) (asid : Nat) (va : VAddr) (n : Nat) : Except EngFail (List Byte) :=
  let k := 64 - va.toNat % 64
  if n ≤ k then s.engReadLine got asid va n
  else
    match s.engReadLine got asid va k with
    | .error e => .error e
    | .ok a =>
      match s.engReadLine got asid (va + BitVec.ofNat 55 k) (n - k) with
      | .error e => .error e
      | .ok b => .ok (a ++ b)

/-- The core's own L1 keeps no copy of bytes that one of its engines writes: its later loads see them, and no older store of its own is written back over them (R158, R192) [log 24]. -/
def Core.dropBytes (c : Core) (l : Loc) (n : Nat) : Core :=
  let m := ~~~(maskBits (l.pa % 64) n)
  { c with l1 := c.l1.map fun o => if o.sameAs l then { o with present := o.present &&& m, dirty := o.dirty &&& m } else o,
           fills := c.fills.map fun f => if some f.pkg = l.pkg ∧ f.line = l.pa / 64 then { f with keep := false } else f }

/-- Write bytes that lie in one 64-byte line, at their home; for another package a WRITE packet of flow engine `eng` (R240, R324), whose payload a copy reads again from the walk's place `from'` on (R327). -/
def State.engWriteLine (s : State) (eng : Nat) (owner : Option Waiter) (from' : Option (Nat × Nat)) (asid : Nat) (va : VAddr) (bs : List Byte) :
    Except EngFail State :=
  match s.xlate (some s.cur) asid va needW with
  | .ok l =>
    match l.pkg with
    | none => .ok (((s.noteTlb asid va).homeWrite l.key l.pa va bs).modCore fun c => c.dropBytes l bs.length)
    | some p =>
      if s.fabric.lost.contains p then .error (.ends .peerLost)
      else if s.flowFull eng p 0 then .error .wait
      else
        .ok (((s.noteTlb asid va).send { type := 0, tc := 0, eng, dst := p, asid, key := l.key, pa := l.pa, len := bs.length, payload := bs } owner
          (from'.map fun n => (n.1, n.2, va))).modCore fun c => c.dropBytes l bs.length)
  | x => .error x.engFail

/-- Write at most 64 bytes, in one or two lines. -/
def State.engWrite (s : State) (eng : Nat) (owner : Option Waiter) (asid : Nat) (va : VAddr) (bs : List Byte) : Except EngFail State :=
  let k := 64 - va.toNat % 64
  if bs.length ≤ k then s.engWriteLine eng owner none asid va bs
  else
    match s.engWriteLine eng owner none asid va (bs.take k) with
    | .error e => .error e
    | .ok s1 => s1.engWriteLine eng owner none asid (va + BitVec.ofNat 55 k) (bs.drop k)

/-- The traffic class of an engine's writes: collective for a collective engine, else copy (R289, R323). -/
def engClass (eng : Nat) : Nat := if 1728 ≤ eng ∧ eng < 1760 then 2 else 0

/-- A line that a READ of a traffic class sent now will bring. -/
def State.fetchOf (s : State) (eng tc pkg pa : Nat) : Fetched := { pkg, pa, seq := (s.srcFlow eng pkg tc).next, data := none, bad := [] }

/-- Ask another package for a line (R289, R324); the answer is an RDATA packet. -/
def State.askLine (s : State) (eng tc asid pkg key pa : Nat) : Option State :=
  if s.flowFull eng pkg tc then none
  else some (s.send { type := 1, tc, eng, dst := pkg, asid, key, pa, len := 64 } none none)

/-! ### Records and misses (R299, R303, R304) -/

/-- Where a command's access stands, for fault records (R303). -/
structure EngPlace where
  eng : Nat
  seq : Nat
  slot : Nat
  opnd : Nat
  elem : Nat
  wr : Bool
  bundle : VAddr
  image : BitVec 32
  va : VAddr

/-- The place as a paused command keeps it. -/
def EngPlace.missAt (p : EngPlace) (full : Bool) : MissAt := { va := p.va, slot := p.slot, opnd := p.opnd, elem := p.elem, wr := p.wr, full }

/-- The command waits for a verdict on its page. -/
def waitsVerdict (m : Option MissAt) : Bool := (m.map fun q => !q.full).getD false

/-- A record of a command of the task on the current core; a kind-4 record gives the physical address where there is one [log 57]. -/
def State.engRec (s : State) (p : EngPlace) (kind : Nat) (st : Status) : FaultRec :=
  { s.blankRec s.core.t.id.asid with
    cause := st.cause.code, kind, slot := p.slot, opnd := p.opnd, elem := p.elem, wr := p.wr, image := p.image,
    status := if kind = 1 then 0 else st.code, bundle := p.bundle, va := p.va,
    pa := if kind = 4 then s.knownPa s.core.t.id.asid st.cause p.va else none }

/-- The command's page has no valid translation: it pauses, and waits on the page's pending entry, or, while the table has no room for one, tries the access again (R170, R193, R299); none where it has paused so already. -/
def State.engMiss (s : State) (p : EngPlace) (before : Option MissAt) : Option (State × MissAt) :=
  let id := s.core.t.id
  if s.pendingFull id.asid p.va then (if before = some (p.missAt true) then none else some (s, p.missAt true))
  else some (s.missOn id.asid p.va (.engine id p.eng p.seq) (s.engRec p 1 .translation), p.missAt false)

/-- A command that ends TRANSLATION, PROTECTION or POISON leaves a kind-4 record (R304). -/
def State.engEndRec (s : State) (p : EngPlace) (st : Status) : State :=
  if st = .translation ∨ st = .protection ∨ st = .poison then s.addRec (s.engRec p 4 st) else s

/-! ### Hazards (R172, R189, R190, R278) -/

/-- The footprint of n bytes from an address; none for no bytes. -/
def foot (a : VAddr) (n : Int) : List Interval := if n ≤ 0 then [] else [{ lo := a.toNat, hi := a.toNat + n }]

/-- An interval with what lies in core n's own aperture slice rewritten to the local window (R278). -/
def Interval.flatOn (i : Interval) (n : Nat) : List Interval :=
  let b : Int := 0x40_0000_0000_0000 + n * 0x10_0000
  let e : Int := b + 0x10_0000
  [({ lo := i.lo, hi := min i.hi b } : Interval), { lo := max i.lo b - b, hi := min i.hi e - b }, { lo := max i.lo e, hi := i.hi }].filter
    fun q => decide (q.lo < q.hi)

/-- The footprint as core n's unit compares it. -/
def flatAll (n : Nat) (l : List Interval) : List Interval := l.flatMap (·.flatOn n)

/-- All of memory (R172). -/
def footAll : List Interval := [{ lo := -(2 ^ 60), hi := 2 ^ 60 }]

def Interval.meets (a b : Interval) : Bool := decide (a.lo < b.hi) && decide (b.lo < a.hi)

def meetAny (as bs : List Interval) : Bool := as.any fun a => bs.any a.meets

/-- The entry as core n's unit compares it (R278). -/
def Hazard.flatOn (h : Hazard) (n : Nat) : Hazard := { h with reads := flatAll n h.reads, writes := flatAll n h.writes }

/-- Y has an edge to X (R190). -/
def Hazard.edge (y x : Hazard) : Bool := meetAny x.writes y.reads || meetAny x.reads y.writes || meetAny x.writes y.writes

/-- On core n, some earlier command in flight has an edge to command seq (R279). -/
def TaskState.blocked (t : TaskState) (n seq : Nat) : Bool :=
  match t.haz.find? fun h => decide (h.seq = seq) with
  | none => false
  | some y => t.haz.any fun x => decide (x.seq < seq) && (y.flatOn n).edge (x.flatOn n)

/-- A command issues: its entry in the hazard unit, and the next issue order (R278). -/
def TaskState.issueHazard (t : TaskState) (eng : Nat) (reads writes : List Interval) : TaskState :=
  { t with haz := t.haz ++ [{ seq := t.nextSeq, eng, reads, writes, half := none }], nextSeq := t.nextSeq + 1 }

/-! ### Tasks by name -/

/-- Change the state of a task, wherever it is: on a core, or saved. -/
def State.modTask (s : State) (id : TaskId) (f : TaskState → TaskState) : State :=
  let on := s.liveCores.filter fun n => decide ((s.getCore n).mode ≠ .idle) && decide ((s.getCore n).t.id = id)
  let s1 := forEach on (fun n s => s.setCore n (let c := s.getCore n
                                                { c with t := f c.t })) s
  s1.modSched fun d => { d with saved := d.saved.map fun v => if v.task = id then { v with t := f v.t } else v }

/-! ### Stage barriers (R205, R206, R282) -/

/-- The fields of a stage barrier (R205). -/
structure StageBarrier where
  expb : Nat
  arrb : Nat
  phase : Nat
  expc : Nat
  donec : Nat
  error : Nat
  deriving DecidableEq, Repr

def barrierOf (bs : List Byte) : StageBarrier :=
  let n := leNat bs
  { expb := bitsOf n 31 0, arrb := bitsOf n 63 32, phase := bitsOf n 79 64, expc := bitsOf n 87 80, donec := bitsOf n 95 88,
    error := bitsOf n 103 96 }

def StageBarrier.pack (b : StageBarrier) : List Byte :=
  leBytes 16 (b.expb % 2 ^ 32 + b.arrb % 2 ^ 32 * 2 ^ 32 + b.phase % 2 ^ 16 * 2 ^ 64 + b.expc % 2 ^ 8 * 2 ^ 80 + b.donec % 2 ^ 8 * 2 ^ 88 +
    b.error % 2 ^ 8 * 2 ^ 96)

/-- A phase closes (R206). -/
def StageBarrier.close (b : StageBarrier) (e : Nat) : StageBarrier :=
  { expb := 0, arrb := 0, phase := (b.phase + 1) % 2 ^ 16, expc := 0, donec := 0, error := e }

/-- The completion test (R206). -/
def StageBarrier.test (b : StageBarrier) (cut : Bool) : StageBarrier :=
  if b.expb ≠ 0 ∧ b.expb ≤ b.arrb then b.close (if cut || decide (b.expb < b.arrb) then Status.overrun.code else 0)
  else if b.expc ≠ 0 ∧ b.expc ≤ b.donec ∧ b.arrb < b.expb then b.close Status.underrun.code
  else b

/-- The arrival of n bytes, and whether it was cut (R206). -/
def StageBarrier.arrive (b : StageBarrier) (n : Nat) : StageBarrier × Bool :=
  let cut := decide (b.expb ≠ 0 ∧ b.expb < b.arrb + n)
  let m := if cut then b.expb - b.arrb else n
  (({ b with arrb := b.arrb + m } : StageBarrier).test cut, cut)

/-- The completion of a bound command (R206). -/
def StageBarrier.complete (b : StageBarrier) : StageBarrier := ({ b with donec := min (b.donec + 1) 255 } : StageBarrier).test false

/-- The barrier at an offset of core n's scratchpad (R205). After a software store to a barrier in use, whose fields are then undefined, the model takes the stored bytes for its fields [log 67]. -/
def State.barrierAt (s : State) (n off : Nat) : StageBarrier := barrierOf (s.mem.bytes 0 (spAddr n off) 16)

def State.setBarrier (s : State) (n off : Nat) (b : StageBarrier) : State := { s with mem := s.mem.store 0 (spAddr n off) b.pack }

/-- The core and offset of a scratchpad address (R234). -/
def State.scratchAt (s : State) (a : VAddr) : Option (Nat × Nat) :=
  match placeOf a with
  | .window off => some (s.cur, off)
  | .aperture n off => some (n, off)
  | _ => none

/-- Each of a list of barriers counts one completed command (R206, R282). -/
def State.barsDone (s : State) (bs : List (Nat × Nat)) : State := forEach bs (fun b s => s.setBarrier b.1 b.2 (s.barrierAt b.1 b.2).complete) s

/-! ### Completion (R15, R106, R184, R185) -/

/-- The command leaves the hazard unit, and its tag completes (R184, R279). -/
def TaskState.closeCommand (t : TaskState) (seq : Nat) (tag : Option (BitVec 6)) (bad : Bool) : TaskState :=
  { t with haz := t.haz.filter fun h => !decide (h.seq = seq),
           comp := match tag with
             | none => t.comp
             | some k => t.comp.complete k bad }

/-- The completion word of R185. -/
def completionWord (st : Status) (op : BitVec 6) (seq : BitVec 32) : Word :=
  BitVec.ofNat 64 (st.code + op.toNat * 2 ^ 8 + 2 ^ 15 + seq.toNat * 2 ^ 32)

/-- The satc and census contributions of a command are applied; the trap test is due (R15, R106). -/
def TaskState.commandCounts (t : TaskState) (slot : Nat) (sats census : List (BitVec 6 × Nat)) : TaskState :=
  t.engineCounts sats census ((sats.filter fun q => q.2 ≠ 0).map fun q => (BitVec.ofNat 3 slot, q.1))

/-- A command completes: its counts, then its hazard entry and its tag (R15, R184, R279). -/
def TaskState.close (t : TaskState) (c : Closing) (bad : Bool) : TaskState := (t.commandCounts c.slot c.sats c.census).closeCommand c.seq c.tag bad

/-- The core's L1 keeps none of the bytes that a command of its task may have written, but for those it stored itself: once the command completes, its loads see them (R242, R243). -/
def Core.dropWritten (c : Core) (seq : Nat) : Core :=
  let ws := (c.t.haz.filter fun h => decide (h.seq = seq)).flatMap (·.writes)
  let hit (line : Nat) : Bool := ws.any fun i => decide (i.lo < 64 * (line : Int) + 64 ∧ 64 * (line : Int) < i.hi)
  { c with l1 := c.l1.map fun o => if hit o.va then { o with present := o.present &&& o.dirty } else o,
           fills := c.fills.map fun f => if hit f.va then { f with keep := false } else f }

/-- The same with its stage barriers, for a command of the task on the current core. -/
def State.closeHere (s : State) (c : Closing) (bad : Bool) : State :=
  ((s.barsDone c.bars).modCore fun k => k.dropWritten c.seq).modT fun t => t.close c bad

/-- A command of a task that runs on some core completes: what that core's L1 drops. -/
def State.dropWrittenOf (s : State) (id : TaskId) (seq : Nat) : State :=
  forEach (s.liveCores.filter fun n => decide ((s.getCore n).mode ≠ .idle) && decide ((s.getCore n).t.id = id))
    (fun n s => s.setCore n ((s.getCore n).dropWritten seq)) s

/-! ### Commands that complete after their task's save (R311, R313) -/

/-- The satc and census of a scale slot in a task's save area take up what a command adds (R15, R311); none where the area cannot be read and written. -/
def State.pokeSlot (s : State) (v : Saved) (c : Closing) (i : BitVec 6) : Option State :=
  let a := s.saveAt v.task + BitVec.ofNat 55 (0x3008 + 64 * i.toNat)
  match s.agentRead none v.task.asid a 16 with
  | .error _ => none
  | .ok bs =>
    let old : ScaleSlot := { ScaleSlot.reset with census := BitVec.ofNat 6 (leNat (bs.take 8)), satc := BitVec.ofNat 32 (leNat (bs.drop 8)) }
    let t := (c.census.filter fun q => q.1 = i).foldl (fun t q => t.record q.2) ((c.sats.filter fun q => q.1 = i).foldl (fun t q => t.count q.2) old)
    match s.agentWrite none v.task.asid a (leBytes 8 t.census.toNat ++ leBytes 8 t.satc.toNat) needW with
    | .error _ => none
    | .ok s1 => some s1

/-- A stage barrier of the declared extent counts a completed command in the save area (R206, R282, R310, R311); none where that cannot be read and written. -/
def State.pokeBar (s : State) (v : Saved) (off : Nat) : Option State :=
  let a := s.saveAt v.task + BitVec.ofNat 55 (0xB0000 + off - v.t.spbase.toNat)
  match s.agentRead none v.task.asid a 16 with
  | .error _ => none
  | .ok bs =>
    match s.agentWrite none v.task.asid a (barrierOf bs).complete.pack needW with
    | .error _ => none
    | .ok s1 => some s1

/-- What the kept state of a saved task owes its restore. -/
def State.owe (s : State) (v : Saved) (f : Saved → Saved) : State :=
  s.modSched fun d => { d with saved := d.saved.map fun w => if w.task = v.task then f w else w }

/-- The counts of a command that completes after its task's save go into the save area, or are owed to the restore (R311, R313). -/
def State.lateSlots (s : State) (v : Saved) (c : Closing) : State :=
  forEach ((c.sats ++ c.census).foldl (fun (l : List (BitVec 6)) q => if l.contains q.1 then l else l ++ [q.1]) []) (fun i s =>
    match if s.areaOf v then s.pokeSlot v c i else none with
    | some s1 => s1
    | none => if s.areaOf v then s.owe v fun w => { w with owedSats := w.owedSats ++ c.sats.filter fun q => q.1 = i,
                                                           owedCensus := w.owedCensus ++ c.census.filter fun q => q.1 = i }
              else s) s

/-- A stage barrier counts a command that completes after its task's save: one of the task's own scratchpad in the saved extent, and not at all outside it, whose bytes a resume leaves undefined (R310, R311) [log 16]. -/
def State.lateBar (s : State) (v : Saved) (b : Nat × Nat) : State :=
  if v.ended || decide (b.1 ≠ v.core) then s.setBarrier b.1 b.2 (s.barrierAt b.1 b.2).complete
  else if b.2 < v.t.spbase.toNat ∨ v.t.spbase.toNat + v.t.splen.toNat < b.2 + 16 then s
  else
    match if s.areaOf v then s.pokeBar v b.2 else none with
    | some s1 => s1
    | none => s.owe v fun w => { w with owedBars := w.owedBars ++ [b.2] }

/-- What a command leaves in the save area of its task, which is saved: counts, barriers, and the small registers as the kept state has them (R311, R313). -/
def State.lateEffects (s : State) (v : Saved) (c : Closing) : State := (forEach c.bars (fun b s => s.lateBar v b) (s.lateSlots v c)).pokeTask v.task

/-- A command of a task completes, wherever the task is: on a core, or saved (R15, R184, R279, R311). -/
def State.closeFor (s : State) (id : TaskId) (c : Closing) (bad : Bool) : State :=
  match s.sched.saved.find? fun v => decide (v.task = id) with
  | some v => (s.modTask id fun t => t.close c bad).lateEffects v c
  | none => ((s.barsDone c.bars).dropWrittenOf id c.seq).modTask id fun t => t.close c bad

/-- The command of the task on the current core, or of the saved task for which the core acts, completes. -/
def State.closeCommand (s : State) (late : Option Saved) (c : Closing) (bad : Bool) : State :=
  match late with
  | none => s.closeHere c bad
  | some v => (s.modT fun t => t.close c bad).lateEffects { v with t := s.core.t.close c bad } c

/-- What writing a completion word comes to (R185). -/
inductive WordOut where
  | written (s : State)
  /-- on its way to another package: the command completes with its acknowledgement -/
  | sent (s : State)
  /-- no room in its flow -/
  | full
  | miss
  | fails (st : Status)

/-- Write a completion word as the current core, at its home: 8 bytes, for which poison that they do not replace whole is a failure (R185, R307). -/
def State.putWord (s : State) (asid : Nat) (a : VAddr) (v : Word) (w : Waiter) : WordOut :=
  match s.xlate (some s.cur) asid a needW with
  | .ok l =>
    match l.pkg with
    | none =>
      if s.mem.storeDiscards l.pa 8 then .fails .poison
      else .written (((s.noteTlb asid a).homeWrite l.key l.pa a (leBytes 8 v.toNat)).modCore fun c => c.dropBytes l 8)
    | some p =>
      if s.fabric.lost.contains p then .fails .peerLost
      else if s.flowFull s.netEng p 0 then .full
      else
        .sent (((s.noteTlb asid a).send
          { type := 0, tc := 0, eng := s.netEng, dst := p, asid, key := l.key, pa := l.pa, len := 8, payload := leBytes 8 v.toNat }
          (some w) none).modCore fun c => c.dropBytes l 8)
  | x =>
    match x.engFail with
    | .miss => .miss
    | .ends st => .fails st
    | _ => .full

/-- What completes with a command: its status, the word it writes, and what closes. -/
structure Done where
  place : EngPlace
  status : Status
  word : Option (VAddr × Word)
  closing : Closing

/-- A completion word waits for room in its flow (R185, R324). -/
def State.parkWord (s : State) (w : Waiter) : State := s.modXlat fun x => { x with words := x.words ++ [w] }

/-- A command of the task on the current core, or of the saved task for which it acts, completes: its completion word, then its counts, tag and hazard entry (R15, R185, R311); none where it must wait. -/
def State.endCommand (s : State) (d : Done) (late : Option Saved := none) : Option State :=
  let id := s.core.t.id
  match d.word with
  | none => some (s.closeCommand late d.closing (!d.closing.ok))
  | some (a, v) =>
    let p := { d.place with va := a, wr := true, opnd := 4, elem := 0xFFFF }
    let w : Waiter := .word id a v d.closing d.place.bundle d.place.image
    match s.putWord id.asid a v w with
    | .written s1 => some (s1.closeCommand late d.closing (!d.closing.ok))
    | .sent s1 => some s1
    | .full => some (s.parkWord w)
    | .miss => if s.pendingFull id.asid a then none else some (s.missOn id.asid a w (s.engRec p 1 .translation))
    | .fails st => some ((s.addRec (s.engRec p 4 st)).closeCommand late d.closing true)

/-- Retry descriptors that a command's packets have left (R325, R327). -/
def State.owns (s : State) (w : Waiter) : Bool := s.fabric.sources.any fun f => f.descs.any fun d => decide (d.owner = some w)

/-- An eclipse has taken the task: from then on its commands end ECLIPSED, and none starts (R195, R225, R226, R277). -/
def Core.eclipsing (c : Core) : Bool := decide (c.mode ≠ .idle) && c.t.sys.ecl

/-- A save is under way: engines pause (R171, R285). -/
def Core.saving (c : Core) : Bool :=
  match c.mode with
  | .saving _ _ _ => true
  | _ => false

/-- An event that cannot occur now [log 19]. -/
def notEnabled (name : String) : Out := .refused (.eventNotEnabled name)

/-- An event's effect, or that it cannot occur now. -/
def enabledOr (name : String) (o : Option State) : Out :=
  match o with
  | some s => .next s
  | none => .refused (.eventNotEnabled name)

/-- Do something for a task that has left the core whose turn it is, as that core: the L1, the requests and the mode of the core's next task are not its own (R231, R311). -/
def State.asSaved (s : State) (v : Saved) (f : State → Option State) : Option State :=
  (f { s with core := { s.core with t := v.t, mode := .running, l1 := [], fills := [], asks := [] } }).map fun s1 =>
    (({ s1 with core := { s1.core with t := s.core.t, mode := s.core.mode, l1 := s.core.l1, fills := s.core.fills, asks := s.core.asks } } : State).modSched
      fun d => { d with saved := d.saved.map fun w => if w.task = v.task then { w with t := s1.core.t } else w }).pokeTask v.task

/-- The same for the first of the tasks that have left the current core for which it can be done (R231, R311). -/
def State.orSaved (s : State) (p : Saved → Bool) (f : Saved → State → Option State) : Option State :=
  (s.sched.saved.filter fun v => decide (v.core = s.cur) && p v).findSome? fun v => s.asSaved v (f v)

/-- Do something as a task, on its core or for its saved state; for a task that is gone, as its last core (R225, R311). -/
def State.asTask (s : State) (id : TaskId) (core : Nat) (f : State → Option State) : Option State :=
  match s.liveCores.find? fun n => decide ((s.getCore n).mode ≠ .idle) && decide ((s.getCore n).t.id = id) with
  | some n => (f (s.switchTo n)).map fun t => t.switchTo s.cur
  | none =>
    let v := (s.sched.saved.find? fun v => decide (v.task = id)).getD
      { task := id, t := { TaskState.reset with id }, mail := [], reason := .none, fault := none, deliver := none, waits := none, pad := [], core, time := 0 }
    ((s.switchTo v.core).asSaved v f).map fun t => t.switchTo s.cur

/-- An event at core n: the effect as that core. -/
def State.atCore (s : State) (n : Nat) (name : String) (f : State → Option State) : Out :=
  if 576 ≤ n then notEnabled name else enabledOr name ((f (s.switchTo n)).map fun t => t.switchTo s.cur)

/-- An event of core n's engines: of the task on the core, or of one that has left it and whose commands still run (R231). -/
def State.atEngine (s : State) (n : Nat) (name : String) (f : State → Option State) : Out :=
  s.atCore n name fun s =>
    match f s with
    | some s1 => some s1
    | none => s.orSaved (fun v => v.ended) fun _ => f

end Sys2Proof.Machine
end

