-- ==== Sys2Proof/Machine/Collect.lean ====
section
/-! DEFINITION. The collective engines at work: members, chunks, the ring and the torus, and what moves a running collective on (R196, R197, R288, R331 to R334, R338, R339). -/

namespace Sys2Proof.Machine

def State.collOf (s : State) (n : Nat) : CollEngine := s.colls.toList[n]?.getD { run := none, queue := [], ordinal := 0, early := [], signals := [] }
def State.setColl (s : State) (n : Nat) (c : CollEngine) : State := { s with colls := s.colls.setIfInBounds n c }

/-- Change the collective that an engine runs. -/
def State.setCollRun (s : State) (n : Nat) (r : CollRun) : State := s.setColl n { s.collOf n with run := some r }

/-! ### Access, under the issuing context's translation, with no local window (R197, R234) -/

/-- Read bytes of one 64-byte line at their home. -/
def State.netReadLine (s : State) (got : List Fetched) (asid : Nat) (va : VAddr) (n : Nat) : Except EngFail (List Byte) :=
  match s.xlate none asid va needR with
  | .ok l =>
    match l.pkg with
    | none => if s.mem.poisoned l.pa n then .error (.ends .poison) else .ok (s.mem.bytes l.key l.pa n)
    | some p =>
      if s.fabric.lost.contains p then .error (.ends .peerLost)
      else
        match got.find? fun f => decide (f.pkg = p ∧ f.pa = l.pa / 64 * 64) with
        | some f =>
          match f.data with
          | some bs => if f.badIn (l.pa % 64) n then .error (.ends .poison) else .ok ((bs.drop (l.pa % 64)).take n)
          | none => .error .wait
        | none => .error (.ask p l.key (l.pa / 64 * 64))
  | x => .error x.engFail

/-- Read n bytes line by line. -/
def State.netRead (fuel : Nat) (s : State) (got : List Fetched) (asid : Nat) (va : VAddr) (n : Nat) : Except (EngFail × VAddr) (List Byte) :=
  match fuel with
  | 0 => .ok []
  | f + 1 =>
    if n = 0 then .ok []
    else
      let k := min n (64 - va.toNat % 64)
      match s.netReadLine got asid va k with
      | .error x => .error (x, va)
      | .ok a =>
        match s.netRead f got asid (va + BitVec.ofNat 55 k) (n - k) with
        | .error x => .error x
        | .ok b => .ok (a ++ b)

/-- Write bytes of one 64-byte line at their home. -/
def State.netWriteLine (s : State) (eng : Nat) (owner : Option Waiter) (asid : Nat) (va : VAddr) (bs : List Byte) : Except EngFail State :=
  match s.xlate none asid va needW with
  | .ok l =>
    match l.pkg with
    | none => .ok ((s.noteTlb asid va).homeWrite l.key l.pa va bs)
    | some p =>
      if s.fabric.lost.contains p then .error (.ends .peerLost)
      else if s.flowFull eng p (engClass eng) then .error .wait
      else .ok (s.send { type := 0, tc := engClass eng, eng, dst := p, asid, key := l.key, pa := l.pa, len := bs.length, payload := bs } owner none)
  | x => .error x.engFail

/-- Write bytes line by line. -/
def State.netWrite (fuel : Nat) (s : State) (eng : Nat) (owner : Option Waiter) (asid : Nat) (va : VAddr) (bs : List Byte) :
    Except (EngFail × VAddr) State :=
  match fuel with
  | 0 => .ok s
  | f + 1 =>
    if bs = [] then .ok s
    else
      let k := min bs.length (64 - va.toNat % 64)
      match s.netWriteLine eng owner asid va (bs.take k) with
      | .error x => .error (x, va)
      | .ok s1 => s1.netWrite f eng owner asid (va + BitVec.ofNat 55 k) (bs.drop k)

/-- The source engine number of collective engine n (R324). -/
def collFlow (n : Nat) : Nat := 1728 + n

/-- A record of a collective. -/
def State.collRec (s : State) (r : CollRun) (m : MissAt) (kind : Nat) (st : Status) : State :=
  s.addRec { s.blankRec r.cmd.task.asid with
    cause := st.cause.code, kind, slot := m.slot, opnd := m.opnd, elem := m.elem, core := r.cmd.core, wr := m.wr, image := r.cmd.cmd.image,
    status := if kind = 1 then 0 else st.code, bundle := r.cmd.cmd.bundle, va := m.va, task := r.cmd.task.record,
    pa := if kind = 4 then s.knownPa r.cmd.task.asid st.cause m.va else none }

/-- A failed access of a collective: a miss pauses it, on its page's pending entry or, while the table has no room, trying again; a refusal ends it with its kind-4 record, a line of another package is asked for (R197, R299). -/
def State.collFailed (s : State) (n : Nat) (r : CollRun) (f : EngFail) (va : VAddr) (opnd : Nat) (wr : Bool) : Option State :=
  let m : MissAt := { va, slot := r.cmd.cmd.slot, opnd, elem := 0xFFFF, wr, full := false }
  let asid := r.cmd.task.asid
  match f with
  | .miss =>
    if s.pendingFull asid va then some (s.setCollRun n { r with missing := some { m with full := true } })
    else
      some ((s.missOn asid va (.collective n) { s.blankRec asid with
        cause := Cause.translation.code, kind := 1, slot := m.slot, opnd, core := r.cmd.core, wr, image := r.cmd.cmd.image,
        bundle := r.cmd.cmd.bundle, va, task := r.cmd.task.record }).setCollRun n { r with missing := some m })
  | .ends st =>
    let s1 := if st = .translation ∨ st = .protection ∨ st = .poison then s.collRec r m 4 st else s
    some (s1.setCollRun n { r with ended := some st, missing := none })
  | .ask pkg key pa =>
    (s.askLine (collFlow n) 2 asid pkg key pa).map fun s1 => s1.setCollRun n { r with fetched := r.fetched ++ [s.fetchOf (collFlow n) 2 pkg pa] }
  | .wait => none

/-- A step of a collective that changed it: an access tried again in vain is none (R299). -/
def State.collMoved (s : State) (n : Nat) (x : Option State) : Option State := x.filter fun s1 => !decide (s1.collOf n = s.collOf n)

/-! ### Members (R196, R333, R334) [log 33] -/

def CollRun.nm (r : CollRun) : Nat := r.group.length

/-- The member is this package, or has not been declared lost. -/
def CollRun.alive (r : CollRun) (lost : List Nat) (m : Nat) : Bool := decide (m = r.self) || !(lost.contains (r.group.getD m 0))

/-- The live members as record bits. -/
def CollRun.liveMask (r : CollRun) (lost : List Nat) : Nat := ((List.range r.nm).map fun m => if r.alive lost m then 2 ^ m else 0).sum

/-- Every bit of one record is set in another. -/
def maskWithin (a b : Nat) : Bool := decide (Nat.land a b = a)

/-- The next live member of the ring after m (R334). -/
def CollRun.nextLive (r : CollRun) (lost : List Nat) (m : Nat) : Nat :=
  (((List.range r.nm).map fun i => (m + 1 + i) % r.nm).find? (r.alive lost)).getD m

/-- The live member at which chunk c ends reduced: c mod nm, or the live one before it on the ring (R333, R334). -/
def CollRun.ringEnd (r : CollRun) (lost : List Nat) (c : Nat) : Nat :=
  (((List.range r.nm).map fun i => (c % r.nm + r.nm - i) % r.nm).find? (r.alive lost)).getD r.self

/-- The sides of the box that a group lists, x fastest (R333). -/
def boxSides (g : List Nat) : Nat × Nat × Nat :=
  let g0 := g.headD 0
  let run (stride step : Nat) : Nat :=
    (((List.range 16).map fun i => decide (g[i * stride]? = some (g0 + i * step))).takeWhile id).length
  let a := run 1 1
  let b := run a 16
  (a, b, g.length / (a * b))

/-- The group is a complete box of this package's pod (R322, R333). -/
def State.completeBox (s : State) (g : List Nat) : Bool :=
  let d := boxSides g
  let g0 := g.headD 0
  decide (g0 / 4096 = s.pkgId / 4096) && decide (d.1 * d.2.1 * d.2.2 = g.length) &&
  decide (coordOf g0 0 + d.1 ≤ s.extent 0 ∧ coordOf g0 1 + d.2.1 ≤ s.extent 1 ∧ coordOf g0 2 + d.2.2 ≤ s.extent 2) &&
  ((List.range g.length).all fun m => decide (g[m]? = some (g0 + m % d.1 + 16 * (m / d.1 % d.2.1) + 256 * (m / (d.1 * d.2.1)))))

/-- One step along a ring of n coordinates toward o, the shorter way, plus on a tie. -/
def stepTo (n i o : Nat) : Nat := if (o + n - i) % n ≤ (i + n - o) % n then (i + 1) % n else (i + n - 1) % n

/-- The neighbour to which member m passes a partial sum of a chunk that ends at member o: along x, then y, then z (R333). -/
def torusUp (d : Nat × Nat × Nat) (o m : Nat) : Option Nat :=
  let a := d.1
  let b := d.2.1
  let x := m % a
  let y := m / a % b
  let z := m / (a * b)
  if x ≠ o % a then some (stepTo a x (o % a) + a * (y + b * z))
  else if y ≠ o / a % b then some (x + a * (stepTo b y (o / a % b) + b * z))
  else if z ≠ o / (a * b) then some (x + a * (y + b * stepTo d.2.2 z (o / (a * b))))
  else none

/-- The live member that stands in for the end of chunk c: the first live one from member c mod nm on (R334). -/
def CollRun.torusEnd (r : CollRun) (lost : List Nat) (c : Nat) : Nat :=
  (((List.range r.nm).map fun i => (c % r.nm + i) % r.nm).find? (r.alive lost)).getD r.self

/-- The nearest live member above m on the way to the chunk's end (R334). -/
def CollRun.upFrom (r : CollRun) (lost : List Nat) (c : Nat) (fuel : Nat) (m : Nat) : Option Nat :=
  match fuel with
  | 0 => none
  | k + 1 =>
    match torusUp (boxSides r.group) (c % r.nm) m with
    | none => none
    | some u => if r.alive lost u then some u else r.upFrom lost c k u

def CollRun.up (r : CollRun) (lost : List Nat) (c m : Nat) : Option Nat :=
  match r.upFrom lost c r.nm m with
  | some u => some u
  | none => if m = r.torusEnd lost c then none else some (r.torusEnd lost c)

/-- Member x passes its sum by way of member m. -/
def CollRun.under (r : CollRun) (lost : List Nat) (c m : Nat) (fuel : Nat) (x : Nat) : Bool :=
  match fuel with
  | 0 => false
  | k + 1 =>
    decide (x = m) ||
    match r.up lost c x with
    | none => false
    | some u => r.under lost c m k u

/-- The members whose contributions pass through this one, as record bits. -/
def CollRun.subtree (r : CollRun) (lost : List Nat) (c : Nat) : Nat :=
  ((List.range r.nm).map fun x => if r.alive lost x && r.under lost c r.self (r.nm + 1) x then 2 ^ x else 0).sum

/-- The members to which this one passes a reduced chunk of the torus: the reverse way (R333). -/
def CollRun.children (r : CollRun) (lost : List Nat) (c : Nat) : List Nat :=
  (List.range r.nm).filter fun x => r.alive lost x && decide (r.up lost c x = some r.self)

/-- The member on whose bytes a chunk starts: all-gather at its owner, a ring after it; every member of a torus reduction starts with its own. -/
def CollRun.starts (r : CollRun) (lost : List Nat) (c : Nat) : Bool :=
  if r.op = 1 then decide (c % r.nm = r.self)
  else if r.torus then true
  else decide (r.nextLive lost (c % r.nm) = r.self)

/-- The chunk's owner is lost, and this record has its bit: the survivors that hold such a copy forward it to all others (R334). -/
def CollRun.orphan (r : CollRun) (lost : List Nat) (c members : Nat) : Bool :=
  !(r.alive lost (c % r.nm)) && maskWithin (2 ^ (c % r.nm)) members

/-- The member at which a reduced chunk of the ring has gone round (R333, R334). -/
def CollRun.ringStop (r : CollRun) (lost : List Nat) (c members : Nat) : Nat :=
  if r.orphan lost c members then r.nextLive lost (c % r.nm) else r.ringEnd lost c

/-- Where a chunk with this record goes from here: whether it is final, and to which members it is sent (R333, R334). -/
def CollRun.onward (r : CollRun) (lost : List Nat) (c members : Nat) : Bool × List Nat :=
  let around : List Nat := if r.nextLive lost r.self = r.ringStop lost c members then [] else [r.nextLive lost r.self]
  let gather : List Nat := if r.torus then r.children lost c ++ (if r.orphan lost c members then (r.up lost c r.self).toList else []) else around
  if r.op = 1 then (true, gather)
  else if maskWithin (r.liveMask lost) members then (true, if r.op = 0 then [] else gather)
  else if !r.torus then (false, [r.nextLive lost r.self])
  else if maskWithin (r.subtree lost c) members then (false, (r.up lost c r.self).toList)
  else (false, [])

/-! ### Chunks (R331, R332) -/

/-- The record's flits, the data bytes of a chunk, and the chunks of a bucket (R331). -/
def CollRun.recFlits (r : CollRun) : Nat := (r.nm + 511) / 512
def CollRun.cut (r : CollRun) : Nat := 2048 - 64 * r.recFlits
def CollRun.perBucket (r : CollRun) : Nat := (r.bbytes + r.cut - 1) / r.cut
def CollRun.chunkLen (r : CollRun) (c : Nat) : Nat := min r.cut (r.bbytes - c * r.cut)
def CollRun.chunkVa (r : CollRun) (b c : Nat) : VAddr := r.buf + BitVec.ofNat 55 (b * r.bbytes + c * r.cut)

/-- One element of a reduction of w bytes: the result, and whether a sum was clamped (R196, R332). -/
def redElem (red w : Nat) (a b : List Byte) : List Byte × Nat :=
  let x := sgn (8 * w) (leNat a)
  let y := sgn (8 * w) (leNat b)
  match red with
  | 0 => let q := satS (8 * w) (x + y)
         (leBytes w (pat (8 * w) q), if q ≠ x + y then 1 else 0)
  | 1 => (leBytes w (pat (8 * w) (min x y)), 0)
  | 2 => (leBytes w (pat (8 * w) (max x y)), 0)
  | _ => (leBytes w (Nat.lor (leNat a) (leNat b)), 0)

/-- red(received, own) over n elements, with the sums clamped (R332). -/
def redChunk (red w : Nat) (n : Nat) (a b : List Byte) : List Byte × Nat :=
  match n with
  | 0 => ([], 0)
  | k + 1 =>
    let q := redElem red w (a.take w) (b.take w)
    let t := redChunk red w k (a.drop w) (b.drop w)
    (q.1 ++ t.1, q.2 + t.2)

def CollChunk.is (k : CollChunk) (b c : Nat) : Bool := decide (k.bucket = b ∧ k.index = c)

def CollRun.chunk (r : CollRun) (b c : Nat) : Option CollChunk := r.chunks.find? fun k => k.is b c

def CollRun.putChunk (r : CollRun) (k : CollChunk) : CollRun :=
  { r with chunks := r.chunks.filter (fun q => !(q.is k.bucket k.index)) ++ [k] }

/-- Own bytes of a chunk. -/
def State.ownChunk (s : State) (r : CollRun) (b c : Nat) : Except (EngFail × VAddr) (List Byte) :=
  s.netRead (r.chunkLen c / 64 + 2) r.fetched r.cmd.task.asid (r.chunkVa b c) (r.chunkLen c)

def State.touchChunk (s : State) (r : CollRun) (b c : Nat) : State :=
  s.touch (r.chunkLen c / 64 + 2) none r.cmd.task.asid (r.chunkVa b c) (r.chunkLen c)

/-- Why a chunk cannot be taken now: the failed access, its operand in a record, and its kind. -/
structure CollFail where
  fail : EngFail
  va : VAddr
  opnd : Nat
  wr : Bool

/-- A chunk stands at this member with these bytes and record: written if final, and due to be sent on (R333). The bytes are free values where the members' handles differ (R331, R340) [log 33]. -/
def State.settleChunk (s : State) (n : Nat) (r : CollRun) (b c : Nat) (sum : List Byte) (members sats : Nat) : Except CollFail State :=
  let q := r.onward s.fabric.lost c members
  let acc := if r.differs then (List.range sum.length).map fun i => Config.freeByte s.fresh (0x4000 * b + 2048 * c + i) else sum
  let r1 := { (r.putChunk { bucket := b, index := c, acc, members, final := q.1, out := q.2, last := none }) with
    sats := r.sats + sats, fetched := r.fetched.filter fun f => f.data.isNone }
  if q.1 then
    match s.netWrite (acc.length / 64 + 2) (collFlow n) (some (.collective n)) r.cmd.task.asid (r.chunkVa b c) acc with
    | .error (f, va) => .error { fail := f, va, opnd := 1, wr := true }
    | .ok s1 => .ok (s1.setCollRun n r1)
  else .ok (s.setCollRun n r1)

/-- A member's own contribution joins what arrived, at most once (R332); sums that overlap what it holds are copies, and a copy that counts a lost member replaces one that does not (R334). -/
def State.takeChunk (s : State) (n : Nat) (r : CollRun) (b c : Nat) (data : List Byte) (members : Nat) : Except CollFail State :=
  let me := 2 ^ r.self
  let count := r.chunkLen c / r.ew
  match r.chunk b c with
  | some k =>
    if k.final then
      if maskWithin members k.members || !(maskWithin (r.liveMask s.fabric.lost) members) then .ok s
      else s.settleChunk n r b c data members 0
    else if r.op = 1 ∨ maskWithin (r.liveMask s.fabric.lost) members = true then s.settleChunk n r b c data members 0
    else if r.torus && decide (Nat.land k.members members = 0) then
      let q := redChunk r.red r.ew count data k.acc
      s.settleChunk n r b c q.1 (Nat.lor k.members members) q.2
    else if !r.torus && !(maskWithin members k.members) && maskWithin me members then s.settleChunk n r b c data members 0
    else .ok s
  | none =>
    if r.op = 1 ∨ maskWithin me members = true then s.settleChunk n r b c data members 0
    else
      match s.ownChunk r b c with
      | .error (f, va) => .error { fail := f, va, opnd := 0, wr := false }
      | .ok own =>
        let q := redChunk r.red r.ew count data own
        (s.touchChunk r b c).settleChunk n r b c q.1 (Nat.lor members me) q.2

/-- A chunk whose first bytes are this member's own (R333): an all-gather alone carries every bit of its record [log 33]. -/
def State.beginChunk (s : State) (n : Nat) (r : CollRun) (b c : Nat) : Except CollFail State :=
  match s.ownChunk r b c with
  | .error (f, va) => .error { fail := f, va, opnd := 0, wr := false }
  | .ok own => (s.touchChunk r b c).settleChunk n r b c own (if r.op = 1 then 2 ^ r.nm - 1 else 2 ^ r.self) 0

/-- The collective goes on, or pauses or ends at a failed access. -/
def State.collTried (s : State) (n : Nat) (r : CollRun) (x : Except CollFail State) : Option State :=
  match x with
  | .ok s1 => some s1
  | .error e => s.collFailed n r e.fail e.va e.opnd e.wr

/-- The CHUNK packet of a chunk (R323, R331). -/
def CollRun.packet (r : CollRun) (n : Nat) (k : CollChunk) (m : Nat) : PacketSpec :=
  { type := 6, tc := 2, eng := collFlow n, dst := r.group.getD m 0, len := 64 * r.recFlits + k.acc.length,
    op := n + r.ordinal * 2 ^ 5 + k.bucket * 2 ^ 37 + k.index * 2 ^ 43, payload := leBytes (64 * r.recFlits) k.members ++ k.acc }

/-- Send a chunk that is due to be sent. -/
def State.sendChunk (s : State) (n : Nat) (r : CollRun) : Option State :=
  match r.chunks.find? fun k => (k.out.head?.map fun m => !(s.flowFull (collFlow n) (r.group.getD m 0) 2)).getD false with
  | none => none
  | some k =>
    match k.out with
    | [] => none
    | m :: rest => some ((s.send (r.packet n k m) (some (.collective n)) none).setCollRun n (r.putChunk { k with out := rest, last := some m }))

/-! ### What moves a collective on (R288, R331, R338) -/

/-- Engine, ordinal, bucket and chunk of a CHUNK packet (R323). -/
def Packet.collEngine (p : Packet) : Nat := bitsOf p.op 4 0
def Packet.ordinal (p : Packet) : Nat := bitsOf p.op 36 5
def Packet.bucket (p : Packet) : Nat := bitsOf p.op 42 37
def Packet.chunkNo (p : Packet) : Nat := bitsOf p.op 54 43

/-- A chunk that no chunk of this handle is the like of: the sender's handle is another (R331, R340). -/
def CollRun.misfit (r : CollRun) (p : Packet) : Bool :=
  decide (r.nb ≤ Packet.bucket p ∨ r.perBucket ≤ Packet.chunkNo p ∨ p.len ≠ 64 * r.recFlits + r.chunkLen (Packet.chunkNo p))

/-- Take a held chunk of a bucket that is ready (R331, R338). A poisoned one ends the collective POISON (R307); one that fits no chunk of the handle leaves every bucket undefined (R331, R340). -/
def State.takeEarly (s : State) (n : Nat) (r : CollRun) (ready : Nat) : Option State :=
  let ok (p : Packet) : Bool := decide (Packet.ordinal p = r.ordinal) && decide (ready / 2 ^ Packet.bucket p % 2 = 1)
  match (s.collOf n).early.find? ok with
  | none => none
  | some p =>
    let b := Packet.bucket p
    let c := Packet.chunkNo p
    let got (s : State) : State := s.setColl n { s.collOf n with early := dropFirst ok (s.collOf n).early }
    let r := { r with differs := r.differs || r.misfit p }
    if r.nb ≤ b ∨ r.perBucket ≤ c then some (got (s.setCollRun n r))
    else if p.bad.isEmpty = false then (s.collFailed n r (.ends .poison) (r.chunkVa b c) 0 false).map got
    else
      let k := 64 * r.recFlits
      let data := ((p.payload.drop k).take (p.len - k) ++ List.replicate (r.chunkLen c) 0).take (r.chunkLen c)
      s.collTried n r ((s.tick.takeChunk n r b c data (leNat (p.payload.take k) % 2 ^ r.nm)).map got)

/-- Start a chunk of a ready bucket, in ascending order (R288). -/
def State.startOwn (s : State) (n : Nat) (r : CollRun) (ready : Nat) : Option State :=
  let all := ((List.range r.nb).filter fun b => decide (ready / 2 ^ b % 2 = 1)).flatMap fun b => (List.range r.perBucket).map fun c => (b, c)
  match all.find? fun q => r.starts s.fabric.lost q.2 && (r.chunk q.1 q.2).isNone with
  | none => none
  | some (b, c) => s.collTried n r (s.beginChunk n r b c)

/-- The ready bits: read at their home each time, or, from another package, as the last answer gave them, with another READ sent while some bucket is not ready (R196, R288) [log 33]. -/
def State.readyBits (s : State) (n : Nat) (r : CollRun) : Except (Option State) (State × CollRun × Nat) :=
  let asid := r.cmd.task.asid
  let a := vaOf r.cmd.cmd.opr + 40
  match s.netRead 2 r.fetched asid a 8 with
  | .ok bs =>
    let r1 := { r with ready := leNat bs, fetched := match s.xlate none asid a needR with
      | .ok l => r.fetched.filter fun f => !(decide (some f.pkg = l.pkg ∧ f.pa = l.pa / 64 * 64))
      | _ => r.fetched }
    .ok ((s.touch 2 none asid a 8).setCollRun n r1, r1, leNat bs)
  | .error (.wait, _) => .ok (s, r, r.ready)
  | .error (.ask pkg key pa, va) =>
    let asked := if Nat.land r.ready (2 ^ r.nb - 1) = 2 ^ r.nb - 1 then none else s.collFailed n r (.ask pkg key pa) va 4 false
    if asked.isSome then .error asked else .ok (s, r, r.ready)
  | .error (f, va) => .error (s.collFailed n r f va 4 false)

/-- One step of a running collective; an access that found no room for its miss is tried again (R299). -/
def State.collOnce (s : State) (n : Nat) : Option State :=
  s.collMoved n <| match (s.collOf n).run with
  | none => none
  | some r0 =>
    let r := { r0 with missing := none }
    if !r.begun || waitsVerdict r0.missing || r.ended.isSome then none
    else
      match s.sendChunk n r with
      | some s1 => some s1
      | none =>
        match s.readyBits n r with
        | .error x => x
        | .ok (s1, r1, ready) =>
          match s1.takeEarly n r1 ready with
          | some s2 => some s2
          | none =>
            match s1.startOwn n r1 ready with
            | some s2 => some s2
            | none => if r1.fetched = r.fetched then none else some s1

/-- A collective goes as far as it can. -/
def State.collGo (s : State) (n fuel : Nat) : State :=
  match fuel with
  | 0 => s
  | k + 1 =>
    match s.collOnce n with
    | none => s
    | some s1 => s1.collGo n k

/-- More than the steps that a collective can take at once. -/
def CollEngine.fuel (c : CollEngine) : Nat :=
  match c.run with
  | none => 0
  | some r => (r.nb * r.perBucket + 1) * (r.nm + 40) + 2 * c.early.length

def State.collTick (s : State) (n : Nat) : State := s.collGo n (s.collOf n).fuel

/-- The engine that runs the handle whose offset 40 lies at a physical address here is told of a ready bit, whatever names the handle has (R288). -/
def State.tickHandle (s : State) (pa : Nat) : State :=
  let runs (n : Nat) : Bool := match (s.collOf n).run with
    | none => false
    | some r => match s.xlate none r.cmd.task.asid (vaOf r.cmd.cmd.opr + 40) needR with
      | .ok l => decide (l.pkg = none ∧ l.pa = pa)
      | _ => false
  forEach ((List.range 32).filter runs) (fun n s => s.collTick n) s

end Sys2Proof.Machine
end

