-- ==== Sys2Proof/Machine/Matrix.lean ====
section
/-! DEFINITION. Matrix instructions as they issue: class 0x8 (R153 to R167, R170, R172). -/

namespace Sys2Proof.Machine

/-! ### Formats and shapes (R16, R94, R157, R160) -/

/-- Operand formats (R16). -/
inductive Fmt where
  | int4 | int8 | int16 | cb4 | bsi8
  deriving DecidableEq, Repr

def fmtOf (c : BitVec 4) : Option Fmt :=
  match c.toNat with
  | 0 => some .int4 | 1 => some .int8 | 2 => some .int16 | 3 => some .cb4 | 4 => some .bsi8 | _ => none

/-- Bits of an element (R94). -/
def Fmt.bits (f : Fmt) : Nat :=
  match f with
  | .int4 => 4 | .int8 => 8 | .int16 => 16 | .cb4 => 4 | .bsi8 => 8

/-- The formats of A and B in mfmt; a reserved code counts as INT8, and MCFG lets none in. -/
def fmtA (m : BitVec 8) : Fmt := (fmtOf (m.extractLsb' 0 4)).getD .int8
def fmtB (m : BitVec 8) : Fmt := (fmtOf (m.extractLsb' 4 4)).getD .int8

/-- Bytes of n elements, rounded up (R161). -/
def rowBytes (n : Nat) (f : Fmt) : Nat := (n * f.bits + 7) / 8

/-- A shape word of mp1 or mp3 (R160). -/
structure Shape where
  lp : Nat
  rl : Nat
  bax : Bool
  pitch : Nat
  ts : BitVec 6
  reserved : Bool

def shapeOf (w : Word) : Shape :=
  let n := w.toNat
  { lp := bitsOf n 2 0, rl := bitsOf n 8 3, bax := w.getLsbD 9, pitch := bitsOf n 31 16, ts := w.extractLsb' 32 6,
    reserved := decide (bitsOf n 15 10 ≠ 0) || decide (n / 2 ^ 38 ≠ 0) || (decide (bitsOf n 2 0 < 6) && decide (bitsOf n 31 16 ≠ 0)) }

/-- The row pitch in bytes: P, or the linear pitch (R160). -/
def Shape.step (h : Shape) : Nat := if h.lp = 7 then h.pitch else 64 * 2 ^ h.lp

/-- The dimensions word of mp4 (R160). -/
structure Dims where
  m : Nat
  n : Nat
  k : Nat
  crow : Nat
  ccol : Nat
  zf : Bool
  reserved : Bool

def dimsOf (w : Word) : Dims :=
  let x := w.toNat
  { m := bitsOf x 7 0, n := bitsOf x 25 17, k := bitsOf x 41 26, crow := bitsOf x 48 42, ccol := bitsOf x 57 49,
    zf := w.getLsbD 58, reserved := decide (bitsOf x 16 8 ≠ 0) || decide (x / 2 ^ 59 ≠ 0) }

/-- The items of mp4 that R161 checks. -/
def Dims.badM (d : Dims) : Bool := decide (d.m = 0 ∨ 128 < d.m)
def Dims.badN (d : Dims) : Bool := decide (d.n = 0 ∨ 320 < d.n)
def Dims.badK (d : Dims) : Bool := decide (d.k = 0)
def Dims.badC (d : Dims) : Bool := decide (128 < d.crow + d.m) || decide (320 < d.ccol + d.n)

/-- The C word's pitch and reserved bits (R160). -/
def cPitch (w : Word) : Nat := bitsOf w.toNat 31 8
def badC5 (w : Word) : Bool := decide (cPitch w % 64 ≠ 0) || decide (bitsOf w.toNat 7 6 ≠ 0) || decide (w.toNat / 2 ^ 32 ≠ 0)

/-- The form-independent checks of a shape word (R161). -/
def Shape.bad (h : Shape) : Bool :=
  h.reserved || decide (h.lp = 6) || decide (h.rl = 0 ∨ 32 < h.rl) ||
  (if h.lp = 7 then decide (h.pitch = 0) || decide (h.pitch % 64 ≠ 0) || decide (64 * h.rl > h.pitch) else decide (h.rl > 2 ^ h.lp))

/-- The row checks of a form (R161): `elems` elements in a stored row. -/
def Shape.badForm (h : Shape) (colFetch : Bool) (elems : Nat) (f : Fmt) : Bool :=
  if colFetch then decide (64 * h.rl ≠ h.step) else decide (rowBytes elems f > 64 * h.rl)

/-! ### What a routine's words use (R161, R162, R172) -/

/-- Fields of a micro-word (R162). -/
def mwOp (w : BitVec 64) : Nat := (w.extractLsb' 58 4).toNat
def mwI (w : BitVec 64) : Bool := w.getLsbD 63
def mwE (w : BitVec 64) : Bool := w.getLsbD 62
def mwD (w : BitVec 64) : Fin 4 := Fin.ofNat 4 (w.extractLsb' 56 2).toNat
def mwA (w : BitVec 64) : Fin 4 := Fin.ofNat 4 (w.extractLsb' 54 2).toNat
def mwImm (w : BitVec 64) : BitVec 32 := w.extractLsb' 10 32
def mwT (w : BitVec 64) : Bool := w.getLsbD 10
def mwG (w : BitVec 64) : Bool := w.getLsbD 11
def mwY (w : BitVec 64) : Bool := w.getLsbD 12
def mwZ (w : BitVec 64) : Bool := w.getLsbD 13
def mwTgt (w : BitVec 64) : Nat := (w.extractLsb' 0 10).toNat

/-- The micro-word at an index of a plane's store. -/
def Plane.microAt (p : Plane) (n : Nat) : BitVec 64 := mapGet 0 p.micro n

/-- The words at which a routine's sequencer can arrive: the next word, or the target of a JMP or BNZ, until END (R162). -/
def Plane.reach (p : Plane) (fuel : Nat) (todo seen : List Nat) : List Nat :=
  match fuel with
  | 0 => seen
  | k + 1 =>
    match todo with
    | [] => seen
    | n :: r =>
      if 1024 ≤ n ∨ seen.contains n = true then p.reach k r seen
      else
        let w := p.microAt n
        p.reach k ((match mwOp w with
          | 1 => []
          | 6 => [n + 1, mwTgt w]
          | 7 => [mwTgt w]
          | _ => [n + 1]) ++ r) (n :: seen)

/-- The words of the routine that starts at a word. -/
def Plane.routineWords (p : Plane) (pos : Nat) : List (BitVec 64) := (p.reach 3072 [pos] []).map p.microAt

/-- What the check at issue asks about a routine: the forms of its entry word (R162), and whether its LDA words carry Y (R160). -/
structure Uses where
  aT : Bool
  bT : Bool
  aG : Bool
  aY : Bool

def usesOf (entry : BitVec 64) (ws : List (BitVec 64)) : Uses :=
  { aT := entry.getLsbD 10, bT := entry.getLsbD 11, aG := entry.getLsbD 12, aY := ws.any fun w => decide (mwOp w = 8) && mwY w }

/-- M' and N' of R160. -/
def wholeM (d : Dims) (gang y : Bool) (gsize : Nat) : Nat := if gang && y then 128 * (gsize - 1) + d.m else d.m
def wholeN (d : Dims) (pair : Bool) : Nat := if pair then 2 * d.n else d.n

/-- The first check of R161 that fails: the mp register and the address. -/
def callFault (mp : File 3 Word) (mfmt : BitVec 8) (u : Uses) (m' n' : Nat) : Option (Nat × VAddr) :=
  let d := dimsOf mp[4]
  let a := shapeOf mp[1]
  let b := shapeOf mp[3]
  let ba := mp[0].extractLsb' 0 55
  let bb := mp[2].extractLsb' 0 55
  if mp[0].toNat % 64 ≠ 0 then some (0, ba)
  else if a.bad || a.badForm u.aT (if u.aT then m' else d.k) (fmtA mfmt) || (u.aG && u.aT) then some (1, ba)
  else if mp[2].toNat % 64 ≠ 0 then some (2, bb)
  else if b.bad || b.badForm u.bT (if u.bT then d.k else n') (fmtB mfmt) then some (3, bb)
  else if d.reserved || d.badM || d.badN || d.badK || d.badC then some (4, 0)
  else if badC5 mp[5] then some (5, 0)
  else none

/-! ### Footprints (R160, R172) -/

/-- The bytes of the block-scale array (R97). -/
def scaleBytes (r c : Nat) (col : Bool) : Nat := ((if col then c * ((r + 31) / 32) else r * ((c + 31) / 32)) + 1) / 2

/-- The footprint of stored rows lo..hi-1 (R172). -/
def rowsFoot (base : Word) (h : Shape) (lo hi bytes : Nat) : List Interval :=
  if hi ≤ lo then []
  else foot ((base + BitVec.ofNat 64 (lo * h.step)).extractLsb' 0 55) (if h.lp = 7 then (hi - lo - 1) * h.step + bytes else (hi - lo) * h.step)

/-- The footprint of an operand: its stored rows, and its block-scale array for BSI8 (R172). -/
def State.operandFoot (s : State) (base : Word) (h : Shape) (f : Fmt) (lo hi rows cols : Nat) : List Interval :=
  rowsFoot base h lo hi (rowBytes cols f) ++
  if f = .bsi8 then foot (fileGet s.core.t.ts h.ts).bsa (scaleBytes rows cols h.bax) else []

/-- The index-table entries of the result rows from row i on (R160, R172). -/
def tableFoot (mp : File 3 Word) (i : Nat) : List Interval := foot ((mp[6] + BitVec.ofNat 64 (4 * i)).extractLsb' 0 55) (4 * (dimsOf mp[4]).m)

/-- The rows that a SCAT adds to: its result rows, or every row that a table field can name (R172). -/
def scatFoot (mp : File 3 Word) (g : Bool) (i n' : Nat) : List Interval :=
  let sp := cPitch mp[5]
  let lo := if g then 0 else i
  let hi := if g then 65535 else i + (dimsOf mp[4]).m
  foot ((mp[7] + BitVec.ofNat 64 (lo * sp)).extractLsb' 0 55) ((hi - lo - 1) * sp + 4 * n')

/-- What one word of a call reads and writes (R162, R172). -/
def State.wordFoot (s : State) (mp : File 3 Word) (mfmt : BitVec 8) (member gsize : Nat) (gang pair : Bool) (w : BitVec 64) :
    List Interval × List Interval :=
  let d := dimsOf mp[4]
  let m' := wholeM d gang (mwY w) gsize
  let n' := wholeN d pair
  let i := if gang && mwY w then 128 * member else 0
  let a := shapeOf mp[1]
  let b := shapeOf mp[3]
  match mwOp w with
  | 8 =>
    (if mwT w then s.operandFoot mp[0] a (fmtA mfmt) 0 d.k d.k m'
      else if mwG w then s.operandFoot mp[0] a (fmtA mfmt) 0 65535 65535 d.k ++ tableFoot mp i
      else s.operandFoot mp[0] a (fmtA mfmt) i (i + d.m) m' d.k, [])
  | 9 => (if mwT w then s.operandFoot mp[2] b (fmtB mfmt) 0 n' n' d.k else s.operandFoot mp[2] b (fmtB mfmt) 0 d.k d.k n', [])
  | 0xC => (scatFoot mp (mwG w) i n' ++ (if mwG w then tableFoot mp i else []), scatFoot mp (mwG w) i n')
  | 0xD => (foot (mp[2].extractLsb' 0 55) (4 * n'), [])
  | _ => ([], [])

/-- The read and write footprints of a call: those of its words, each kind once (R160, R172). -/
def State.callFoot (s : State) (mp : File 3 Word) (mfmt : BitVec 8) (ws : List (BitVec 64)) (member gsize : Nat) (gang pair : Bool) :
    List Interval × List Interval :=
  let kinds := (ws.filter fun w => decide (mwOp w = 8 ∨ mwOp w = 9 ∨ mwOp w = 0xC ∨ mwOp w = 0xD)).map fun w => w.ushiftRight 10 &&& (0x000F_0000_0000_0007#64 : BitVec 64)
  let fs := (kinds.foldr (fun k l => if l.contains k then l else k :: l) []).map fun k => s.wordFoot mp mfmt member gsize gang pair (k.shiftLeft 10)
  ((fs.map (·.1)).flatten, (fs.map (·.2)).flatten)

/-! ### Queueing (R154) -/

/-- The engine can take another command: 8 entries, the running command among them (R154, R310). -/
def MatEngine.room (m : MatEngine) : Bool := decide (m.queue.length + (if m.run.isSome then 1 else 0) < 8)

/-- The command with its snapshot (R154). -/
def State.matCmd (s : State) (e : Bool) (kind : MatKind) (a b : Word) : MatCmd :=
  let m := s.core.t.me e
  let dom := s.core.t.sys.dom[0]
  { seq := s.core.t.nextSeq, kind, a, b, mp := m.mp, mfmt := m.mfmt, srctr := s.rndCounter, member := (dom.extractLsb' 16 16).toNat,
    gsize := (dom.extractLsb' 32 16).toNat, pair := false, bundle := s.core.bundle.header, image := s.core.lit.image }

/-- A command joins its engine's queue (R154, R156). -/
def MatEngine.push (m : MatEngine) (c : MatCmd) : MatEngine := { m with queue := m.queue ++ [c], drained := false, mdrained := false }

/-- A full queue holds the bundle before it issues, and before anything is checked (R88, R154). -/
def State.whenRoom (s : State) (e : Bool) (f : State → State) : State := if (s.core.t.me e).room then f s else s.hold

/-- Queue a command on one engine, with its footprints (R154, R278). -/
def State.queueMat (s : State) (e : Bool) (c : MatCmd) (reads writes : List Interval) : State :=
  s.modT fun t => (t.setMe e ((t.me e).push c)).issueHazard (if e then 1 else 0) reads writes

/-- MPW (R156). -/
def execMpw (g : BitVec 4) (a : BitVec 6) (k : BitVec 3) (e : Bool) (s : State) : Out :=
  s.when g fun s => s.modT fun t => t.setMe e { t.me e with mp := filePut (t.me e).mp k (s.rdX a) }

/-- MPR (R156). -/
def execMpr (g : BitVec 4) (d : BitVec 6) (k : BitVec 3) (e : Bool) (s : State) : Out :=
  s.putX g d (fileGet (s.core.t.me e).mp k) 1

/-- MCFG (R16, R156). -/
def execMcfg (g : BitVec 4) (a : BitVec 6) (e : Bool) (s : State) : Out :=
  s.when g fun s =>
    let x := s.rdX a
    if x.toNat / 2 ^ 8 ≠ 0 ∨ fmtOf (x.extractLsb' 0 4) = none ∨ fmtOf (x.extractLsb' 4 4) = none then s.fault .illegalOperand 1
    else if (s.core.t.me e).drained = false then s.fault .illegalOperand 4
    else s.modT fun t => t.setMe e { t.me e with mfmt := x.extractLsb' 0 8 }

/-- Every command queued to the engine has completed (R158); of a pair call whose one half has ended, its own half: that one, or else the call itself (R166) [log 45]. -/
def TaskState.matIdle (t : TaskState) (e : Bool) : Bool :=
  decide ((t.me e).queue = []) && decide ((t.me e).run = none) &&
  !(t.haz.any fun h => match h.half with
    | some (first, _) => first != e
    | none => decide (h.eng = if e then 1 else 0))

/-- The summary that MDRAIN reads (R158). -/
def MatEngine.summary (m : MatEngine) : Word := BitVec.ofNat 64 (m.firstBad.toNat + m.firstOp.toNat * 2 ^ 8 + m.bad.toNat * 2 ^ 16)

/-- MDRAIN: a bounded wait, then the summary, which clears (R158). -/
def execMdrain (g : BitVec 4) (d : BitVec 6) (e : Bool) (s : State) : Out :=
  s.when g fun s =>
    if s.core.t.matIdle e then
      (s.setX d (s.core.t.me e).summary 1).modT fun t => t.setMe e { t.me e with firstBad := 0, firstOp := 0, bad := 0, drained := true, mdrained := true }
    else s.waitHere

/-- The uses of the routine that a call names, in the lit store. -/
def State.callUses (s : State) (r : Nat) : Uses := usesOf (s.core.lit.microAt (16 * r)) (s.core.lit.routineWords (16 * r))

/-- MCALL and MCALLG at issue (R154, R159, R161, R166, R184). -/
def State.issueCall (s : State) (gang : Bool) (r c : BitVec 6) (p e : Bool) : State :=
  let xr := s.rdX r
  let xc := s.rdX c
  let routine := bitsOf xr.toNat 5 0
  let tag : BitVec 6 := xr.extractLsb' 6 6
  let te := xr.getLsbD 12
  let cmd := { s.matCmd e (if gang then .mcallg else .mcall) xr xc with pair := p }
  let u := s.callUses routine
  let d := dimsOf cmd.mp[4]
  let entry := mwE (s.core.lit.microAt (16 * routine))
  if (p && !((s.core.t.me (!e)).room)) || !((s.core.t.me e).room) then s.hold
  else if xr.toNat / 2 ^ 13 ≠ 0 then s.fault .illegalOperand 0
  else if xc.toNat % 8 ≠ 0 then s.fault .illegalOperand 1
  else if p ∧ s.core.t.me0.mfmt ≠ s.core.t.me1.mfmt then s.fault .illegalOperand 4
  else if te ∧ s.tagHeld tag = true then s.fault .illegalOperand 0
  else
    match (if entry then callFault cmd.mp cmd.mfmt u (wholeM d gang u.aY cmd.gsize) (wholeN d p) else none) with
    | some (n, a) =>
      s.raise { cause := .operandFormat, slot := BitVec.ofNat 3 s.core.bundle.slot, opnd := 4, elem := BitVec.ofNat 16 n, addr := a }
    | none =>
      let f := if entry then s.callFoot cmd.mp cmd.mfmt (s.core.lit.routineWords (16 * routine)) cmd.member cmd.gsize gang p else (footAll, footAll)
      let s1 := s.queueMat e cmd f.1 f.2
      let s2 := if p then s1.modT fun t => t.setMe (!e) ((t.me (!e)).push cmd) else s1
      if te then s2.modComp fun q => q.take tag else s2

/-- MCALL (R159, R161, R166). -/
def execMcall (g : BitVec 4) (r c : BitVec 6) (p e : Bool) (s : State) : Out := s.when g fun s => s.issueCall false r c p e
/-- MCALLG (R166). -/
def execMcallg (g : BitVec 4) (r c : BitVec 6) (p e : Bool) (s : State) : Out := s.when g fun s => s.issueCall true r c p e

/-- A command that opens or closes a speculation, which the core tracks at issue (R155, R165). -/
def State.specCmd (s : State) (e : Bool) (k : MatKind) (v : Bool) : State :=
  (s.queueMat e (s.matCmd e k 0 0) [] []).modT fun t => t.setMe e { t.me e with specIssue := v }

/-- MSPEC (R155, R165). -/
def execMspec (g : BitVec 4) (z e : Bool) (s : State) : Out :=
  s.when g fun s => s.whenRoom e fun s => if (s.core.t.me e).specIssue then s.fault .illegalOperand 4 else s.specCmd e (.mspec z) true

/-- MCOMMIT (R155, R165). -/
def execMcommit (g : BitVec 4) (e : Bool) (s : State) : Out :=
  s.when g fun s => s.whenRoom e fun s => if (s.core.t.me e).specIssue then s.specCmd e .mcommit false else s.fault .illegalOperand 4

/-- MDISCARD (R155, R165). -/
def execMdiscard (g : BitVec 4) (e : Bool) (s : State) : Out :=
  s.when g fun s => s.whenRoom e fun s => if (s.core.t.me e).specIssue then s.specCmd e .mdiscard false else s.fault .illegalOperand 4

/-- A transfer word (R167). -/
structure Xfer where
  row0 : Nat
  rows : Nat
  col0 : Nat
  cols : Nat
  k : Nat
  mode : Nat
  ofmt : Nat
  t : BitVec 6
  other : Bool
  pitch : Nat

def xferOf (w : Word) : Xfer :=
  let n := w.toNat
  { row0 := bitsOf n 6 0, rows := bitsOf n 14 7, col0 := bitsOf n 23 15, cols := bitsOf n 32 24, k := bitsOf n 38 33,
    mode := bitsOf n 40 39, ofmt := bitsOf n 42 41, t := w.extractLsb' 43 6, other := w.getLsbD 49, pitch := bitsOf n 63 50 }

/-- Bytes of an element in memory (R167). -/
def Xfer.esize (x : Xfer) : Nat := 2 ^ x.ofmt

/-- The rectangle lies in the array (R167). -/
def Xfer.badRect (x : Xfer) : Bool :=
  decide (x.rows = 0 ∨ 128 < x.rows) || decide (x.cols = 0 ∨ 320 < x.cols) || decide (128 < x.row0 + x.rows) || decide (320 < x.col0 + x.cols)

/-- The checks of MACCLD and MACCST on the transfer word (R167). -/
def Xfer.badMove (x : Xfer) (load : Bool) : Bool :=
  x.badRect || decide (x.ofmt = 3) || decide (x.pitch = 0) || decide (16 * x.pitch < x.cols * x.esize) ||
  (load && (decide (x.ofmt ≠ 2) || decide (x.k ≠ 0) || decide (x.mode ≠ 0) || decide (x.t ≠ 0)))

/-- The bytes that a transfer's rows span (R278). -/
def Xfer.span (x : Xfer) : Int := (x.rows - 1) * 16 * x.pitch + x.esize * x.cols

/-- MZERO (R165, R167). -/
def execMzero (g : BitVec 4) (a : BitVec 6) (z e : Bool) (s : State) : Out :=
  s.when g fun s => s.whenRoom e fun s =>
    let w := s.rdX a
    if !z && ((xferOf w).badRect || decide (w.toNat / 2 ^ 33 ≠ 0)) then s.fault .illegalOperand 1
    else s.queueMat e (s.matCmd e (.mzero z) w 0) [] []

/-- MACCLD (R167). -/
def execMaccld (g : BitVec 4) (x a : BitVec 6) (e : Bool) (s : State) : Out :=
  s.when g fun s => s.whenRoom e fun s =>
    let w := xferOf (s.rdX a)
    let xm := s.rdX x
    if w.badMove true then s.fault .illegalOperand 1
    else if xm.toNat % w.esize ≠ 0 then s.fault .illegalOperand 0
    else s.queueMat e (s.matCmd e .maccld xm (s.rdX a)) (foot (vaOf xm) w.span) []

/-- MACCST; mode 3 consumes random bits once the command is accepted (R102, R167). -/
def execMaccst (g : BitVec 4) (x a : BitVec 6) (e : Bool) (s : State) : Out :=
  s.when g fun s => s.whenRoom e fun s =>
    let w := xferOf (s.rdX a)
    let xm := s.rdX x
    if w.badMove false then s.fault .illegalOperand 1
    else if xm.toNat % w.esize ≠ 0 then s.fault .illegalOperand 0
    else
      let s1 := s.queueMat e (s.matCmd e .maccst xm (s.rdX a)) [] (foot (vaOf xm) w.span)
      if w.mode = 3 then s1.useRandom else s1

/-- The place of a micro-word among a plane's poisoned words, after its code words. -/
def microEcc (n : Nat) : Nat := 0x10_0000 + n

/-- A word of a plane's microprogram store is written (R163). -/
def Plane.putMicro (p : Plane) (n : Nat) (w : BitVec 64) : Plane :=
  { p with micro := mapSet 0 p.micro n w, poison := p.poison.filter (· ≠ microEcc n) }

/-- An MDRAIN has drained each of the engines present, with nothing queued to it since (R163). -/
def Core.enginesDrained (c : Core) : Bool :=
  (!(c.feat.getLsbD 0) || c.t.me0.mdrained) && (!(c.feat.getLsbD 1) || c.t.me1.mdrained)

/-- MUCW (R163). -/
def execMucw (g : BitVec 4) (x a : BitVec 6) (h _e : Bool) (s : State) : Out :=
  s.when g fun s =>
    let i := s.rdX x
    let n := bitsOf i.toNat 9 0
    if i.toNat / 2 ^ 10 ≠ 0 then s.fault .illegalOperand 0
    else if h then
      if s.core.loading.isSome then s.fault .illegalOperand 4
      else s.modCore fun c => { c with shadow := c.shadow.putMicro n (s.rdX a) }
    else if s.core.enginesDrained = false then s.fault .illegalOperand 4
    else s.modCore fun c => { c with lit := c.lit.putMicro n (s.rdX a) }

/-- MUCR (R163). -/
def execMucr (g : BitVec 4) (d x : BitVec 6) (h _e : Bool) (s : State) : Out :=
  s.when g fun s =>
    let i := s.rdX x
    if i.toNat / 2 ^ 10 ≠ 0 then s.fault .illegalOperand 1
    else s.setX d ((if h then s.core.shadow else s.core.lit).microAt (bitsOf i.toNat 9 0)) 2

/-- MSTAT: a queued command with a return-queue reservation (R92, R170). -/
def execMstat (g : BitVec 4) (k : BitVec 2) (e : Bool) (s : State) : Out :=
  s.when g fun s => s.whenRoom e fun s =>
    if 16 ≤ s.core.t.comp.rq.length then s.fault .illegalOperand 4
    else
      let c := s.matCmd e (.mstat k) 0 0
      (s.queueMat e c [] []).pushRq { value := none, due := 0, tag := c.seq }

/-- MRPG (R24, R170). -/
def execMrpg (g : BitVec 4) (d : BitVec 6) (e : Bool) (s : State) : Out := s.putX g d (s.core.t.me e).mrp 1

end Sys2Proof.Machine
end

