-- ==== Sys2Proof/Machine/MatrixEngine.lean ====
section
/-! DEFINITION. The matrix engines at work: commands taken, micro-words, staging loads, MAC steps, transfers, pauses and completion (R96, R97, R109, R157 to R171, R283 to R285). -/

namespace Sys2Proof.Machine

/-! ### Memory spans -/

/-- Read n bytes line by line; a failure names the address of its line (R170). -/
def State.rdSpan (fuel : Nat) (s : State) (got : List Fetched) (va : VAddr) (n : Nat) : Except (EngFail × VAddr) (List Byte) :=
  match fuel with
  | 0 => .ok []
  | f + 1 =>
    if n = 0 then .ok []
    else
      let k := min n (64 - va.toNat % 64)
      match s.engReadLine got s.core.t.id.asid va k with
      | .error x => .error (x, va)
      | .ok a =>
        match s.rdSpan f got (va + BitVec.ofNat 55 k) (n - k) with
        | .error x => .error x
        | .ok b => .ok (a ++ b)

/-- The lines that n bytes can touch. -/
def spanFuel (n : Nat) : Nat := n / 64 + 2

/-- Write bytes line by line. -/
def State.wrSpan (fuel : Nat) (s : State) (eng : Nat) (owner : Option Waiter) (from' : Option (Nat × Nat)) (va : VAddr) (bs : List Byte) :
    Except (EngFail × VAddr) State :=
  match fuel with
  | 0 => .ok s
  | f + 1 =>
    if bs = [] then .ok s
    else
      let k := min bs.length (64 - va.toNat % 64)
      match s.engWriteLine eng owner from' s.core.t.id.asid va (bs.take k) with
      | .error x => .error (x, va)
      | .ok s1 => s1.wrSpan f eng owner from' (va + BitVec.ofNat 55 k) (bs.drop k)

/-! ### Accumulators (R16, R165, R307) -/

/-- An element of a bank. -/
def AccBank.get (b : AccBank) (row col : Nat) : Int := (mapGet 0 b.cells (row * 320 + col)).toInt

/-- Write part of a row of a bank: it is dirty, and ECC words written whole lose their poison (R16, R307). -/
def AccBank.putRow (b : AccBank) (row col : Nat) (vs : List Int) : AccBank :=
  let a := row * 320 + col
  { cells := ((List.range vs.length).zip vs).foldl (fun m q => mapSet 0 m (a + q.1) (BitVec.ofInt 32 q.2)) b.cells, dirty := true,
    poison := b.poison.filter fun w => !(decide (a ≤ 2 * w) && decide (2 * w + 2 ≤ a + vs.length)) }

/-- A poisoned element lies in a rectangle (R307). -/
def AccBank.poisonIn (b : AccBank) (row rows col cols : Nat) : Bool :=
  b.poison.any fun w => decide (row ≤ w / 160 ∧ w / 160 < row + rows) && decide (col < 2 * (w % 160) + 2) && decide (2 * (w % 160) < col + cols)

/-- A bank of an engine: the working one, or the other (R165). -/
def MatEngine.bank (m : MatEngine) (other : Bool) : AccBank := if m.spec != other then m.shadow else m.lit
def MatEngine.setBank (m : MatEngine) (other : Bool) (b : AccBank) : MatEngine :=
  if m.spec != other then { m with shadow := b } else { m with lit := b }

/-- Change an engine. -/
def State.modMe (s : State) (e : Bool) (f : MatEngine → MatEngine) : State := s.modT fun t => t.setMe e (f (t.me e))

/-- The running command as it now stands. -/
def State.setRun (s : State) (e : Bool) (r : MatRun) : State := s.modMe e fun m => { m with run := some r }

/-! ### The running command -/

def MatKind.isCall (k : MatKind) : Bool :=
  match k with
  | .mcall => true
  | .mcallg => true
  | _ => false

/-- The opcode of a command within class 0x8 (R153, R158). -/
def MatKind.op (k : MatKind) : BitVec 6 :=
  match k with
  | .mcall => 4 | .mcallg => 5 | .mspec _ => 6 | .mcommit => 7 | .mdiscard => 8 | .mzero _ => 9 | .maccld => 10 | .maccst => 11 | .mstat _ => 14

/-- The gang index that Y words apply (R162, R166). -/
def MatCmd.gang (c : MatCmd) : Bool := decide (c.kind = .mcallg)
def MatCmd.dims (c : MatCmd) : Dims := dimsOf c.mp[4]
/-- The C region of a call, as a rectangle. -/
def MatCmd.cRegion (c : MatCmd) : Xfer :=
  let d := c.dims
  { row0 := d.crow, rows := d.m, col0 := d.ccol, cols := d.n, k := 0, mode := 0, ofmt := 2, t := 0, other := false, pitch := 0 }

/-- The columns that this half of a call adds to its B, SCAT and ADDV columns (R166). -/
def MatCmd.colBase (c : MatCmd) (e : Bool) : Nat := if c.pair && e then c.dims.n else 0
def MatCmd.rowBase (c : MatCmd) (y : Bool) : Nat := if c.gang && y then 128 * c.member else 0
/-- The slot that chunk adds, SCAT and ADDV count against (R160). -/
def MatCmd.cSlot (c : MatCmd) : BitVec 6 := c.mp[5].extractLsb' 0 6

/-- mrp with no load outstanding (R16, R170). -/
def MatEngine.noLoad (m : MatEngine) : MatEngine := { m with mrp := m.mrp &&& ~~~(BitVec.ofNat 64 (2 ^ 20)) }

/-- The load that waited goes on, or its command has ended: mrp.valid clears (R170). -/
def State.mrpClear (s : State) (e : Bool) : State := s.modMe e MatEngine.noLoad

/-- The command ends with a status; what remains is its completion. -/
def State.endMat (s : State) (e : Bool) (r : MatRun) (st : Status) : State := (s.mrpClear e).setRun e { r with ended := some st, step := none }

/-- Where an access of the command stands (R303). -/
def MatRun.place (r : MatRun) (e : Bool) (opnd row : Nat) (wr : Bool) (va : VAddr) : EngPlace :=
  { eng := if e then 1 else 0, seq := r.cmd.seq, slot := 3, opnd, elem := row, wr, bundle := r.cmd.bundle, image := r.cmd.image, va }

/-- mrp while a load waits (R16, R170). -/
def mrpAt (row pipe : Nat) : BitVec 64 := BitVec.ofNat 64 (row % 65536 + pipe % 16 * 2 ^ 16 + 2 ^ 20)

/-- A failed access of the running command: a miss pauses it and, for a load, writes mrp; a refusal ends it; a line of another package is asked for (R169, R170). -/
def State.matFailed (s : State) (e : Bool) (r : MatRun) (f : EngFail) (p : EngPlace) (pipe : Option Nat) (moved : Bool) : Option State :=
  match f with
  | .miss =>
    (s.engMiss p ((s.core.t.me e).run.bind (·.missing))).map fun z =>
      let s2 := z.1.setRun e { r with missing := some z.2 }
      match pipe with
      | none => s2
      | some k => s2.modMe e fun m => { m with mrp := mrpAt p.elem k }
  | .ends st => some ((s.engEndRec p st).endMat e r st)
  | .ask pkg key pa =>
    (s.askLine s.netEng 0 s.core.t.id.asid pkg key pa).map fun s1 =>
      s1.setRun e { r with missing := none, fetched := r.fetched ++ [s.fetchOf s.netEng 0 pkg pa] }
  | .wait => if moved then some (s.setRun e r) else none

/-- Rows that have been read need their lines no more, and no miss holds the command up. -/
def MatRun.rowDone (r : MatRun) : MatRun := { r with missing := none, fetched := r.fetched.filter fun f => f.data.isNone }

/-! ### Operand rows (R95 to R97, R129, R160) -/

/-- The address of byte b of stored row r (R160). -/
def Shape.addr (h : Shape) (base : Word) (r b : Nat) : VAddr :=
  if h.lp = 7 then vaOf (base + BitVec.ofNat 64 (r * h.pitch + b)) else vaOf (swizzle base h.lp r b)

/-- Bytes b0 to b1 - 1 of a row, cut at 64-byte lines. -/
def linePieces (b0 b1 : Nat) : List (Nat × Nat) :=
  (List.range ((b1 + 63) / 64 - b0 / 64)).map fun i =>
    let st := max b0 (64 * (b0 / 64 + i))
    (st, min b1 (64 * (b0 / 64 + i) + 64) - st)

/-- Read pieces in order. -/
def State.rdPieces (s : State) (got : List Fetched) (addr : Nat → VAddr) (ps : List (Nat × Nat)) : Except (EngFail × VAddr) (List Byte) :=
  match ps with
  | [] => .ok []
  | (b, n) :: r =>
    match s.rdSpan (spanFuel n) got (addr b) n with
    | .error x => .error x
    | .ok a =>
      match s.rdPieces got addr r with
      | .error x => .error x
      | .ok z => .ok (a ++ z)

/-- The stored integer of an element, for CB4 its codebook entry (R94, R96). -/
def Fmt.value (f : Fmt) (cb : BitVec 128) (q : Nat) : Int :=
  match f with
  | .cb4 => (cb.extractLsb' (8 * (q % 16)) 8).toInt
  | _ => sgn f.bits q

/-- The block of element (i, j) of an R x C tensor (R97). -/
def blockOf (bax : Bool) (rows cols i j : Nat) : Nat := if bax then j * ((rows + 31) / 32) + i / 32 else i * ((cols + 31) / 32) + j / 32

/-- Read the block exponents of some elements of a stored row (R97). -/
def State.rdExps (s : State) (got : List Fetched) (bs : VAddr) (blocks : List Nat) : Except (EngFail × VAddr) (List Nat) :=
  match blocks with
  | [] => .ok []
  | b :: r =>
    match s.rdSpan 1 got (bs + BitVec.ofNat 55 (b / 2)) 1 with
    | .error x => .error x
    | .ok a =>
      match s.rdExps got bs r with
      | .error x => .error x
      | .ok z => .ok (leNat a / 2 ^ (4 * (b % 2)) % 16 :: z)

/-- An operand of a call: where it is and how it is stored. -/
structure MatOperand where
  base : Word
  shape : Shape
  fmt : Fmt
  cb : BitVec 128
  bs : VAddr
  /-- stored rows and elements of a stored row, over the whole call (R160) -/
  rows : Nat
  cols : Nat

/-- Elements lo to lo + n - 1 of a stored row, with their block exponents. -/
def State.operandRow (s : State) (got : List Fetched) (o : MatOperand) (row lo n : Nat) : Except (EngFail × VAddr) (List Int × List Nat) :=
  let b := o.fmt.bits
  let b0 := lo * b / 8
  match s.rdPieces got (fun x => o.shape.addr o.base row x) (linePieces b0 ((lo + n) * b / 8 + if (lo + n) * b % 8 = 0 then 0 else 1)) with
  | .error x => .error x
  | .ok bs =>
    let v := leNat bs
    let es := (List.range n).map fun j => o.fmt.value o.cb (v / 2 ^ (b * (lo + j) - 8 * b0))
    if o.fmt = .bsi8 then
      match s.rdExps got o.bs ((List.range n).map fun j => blockOf o.shape.bax o.rows o.cols row (lo + j)) with
      | .error x => .error x
      | .ok xs => .ok (es, xs)
    else .ok (es, List.replicate n 0)

/-- The bytes read for elements lo to lo + n - 1 of a stored row: address and length. -/
def MatOperand.reads (o : MatOperand) (row lo n : Nat) : List (VAddr × Nat) :=
  let b := o.fmt.bits
  ((linePieces (lo * b / 8) ((lo + n) * b / 8 + if (lo + n) * b % 8 = 0 then 0 else 1)).map fun q => (o.shape.addr o.base row q.1, q.2)) ++
  if o.fmt = .bsi8 then [(o.bs + BitVec.ofNat 55 (blockOf o.shape.bax o.rows o.cols row lo / 2), 1)] else []

/-- The A operand as a load's word takes it (R160, R162). -/
def MatRun.opA (r : MatRun) (w : BitVec 64) : MatOperand :=
  let d := r.cmd.dims
  let m' := wholeM d r.cmd.gang (mwY w) r.cmd.gsize
  { base := r.cmd.mp[0], shape := shapeOf r.cmd.mp[1], fmt := fmtA r.cmd.mfmt, cb := r.cbA, bs := r.bsA,
    rows := if mwT w then d.k else if mwG w then 65535 else m', cols := if mwT w then m' else d.k }

/-- The B operand. -/
def MatRun.opB (r : MatRun) (w : BitVec 64) : MatOperand :=
  let d := r.cmd.dims
  let n' := wholeN d r.cmd.pair
  { base := r.cmd.mp[2], shape := shapeOf r.cmd.mp[3], fmt := fmtB r.cmd.mfmt, cb := r.cbB, bs := r.bsB,
    rows := if mwT w then n' else d.k, cols := if mwT w then d.k else n' }

/-- The number of K positions in chunk c (R109). -/
def Dims.chunk (d : Dims) (c : Nat) : Nat := min 64 (d.k - 64 * c)

/-- The rows of a load: stored rows over K under T, result rows of A or columns of B otherwise (R162). -/
def MatRun.loadCount (r : MatRun) (isB : Bool) (w : BitVec 64) (c : Nat) : Nat :=
  if isB then if mwT w then r.cmd.dims.n else r.cmd.dims.chunk c
  else if mwT w then r.cmd.dims.chunk c else r.cmd.dims.m

/-- An index-table entry (R160). -/
def State.tableEntry (s : State) (r : MatRun) (i : Nat) : Except (EngFail × VAddr) Nat :=
  match s.rdSpan 2 r.fetched (vaOf (r.cmd.mp[6] + BitVec.ofNat 64 (4 * i))) 4 with
  | .error x => .error x
  | .ok bs => .ok (leNat bs)

/-- Elements of a stored row, and the pipe that fetches them (R162, R170). -/
structure RowAt where
  op : MatOperand
  row : Nat
  lo : Nat
  n : Nat
  pipe : Nat

/-- What row `row` of a load fetches; none for a gathered row of none, which reads as zero; a failed index-table access names pipe 2 (R160, R162, R170). -/
def State.rowAt (s : State) (e : Bool) (r : MatRun) (isB : Bool) (w : BitVec 64) (c row : Nat) : Except ((EngFail × VAddr) × Nat) (Option RowAt) :=
  let d := r.cmd.dims
  let k := d.chunk c
  let i := r.cmd.rowBase (mwY w)
  let j := r.cmd.colBase e
  if isB then
    .ok (some (if mwT w then { op := r.opB w, row := j + row, lo := 64 * c, n := k, pipe := 1 }
      else { op := r.opB w, row := 64 * c + row, lo := j, n := d.n, pipe := 1 }))
  else if mwT w then .ok (some { op := r.opA w, row := 64 * c + row, lo := i, n := d.m, pipe := 0 })
  else if mwG w then
    match s.tableEntry r (i + row) with
    | .error x => .error (x, 2)
    | .ok t => .ok (if t % 65536 = 0xFFFF then none else some { op := r.opA w, row := t % 65536, lo := 64 * c, n := k, pipe := 0 })
  else .ok (some { op := r.opA w, row := i + row, lo := 64 * c, n := k, pipe := 0 })

/-- One row of a load; a failure names the pipe: 0 A, 1 B, 2 index table (R162, R170). -/
def State.loadRow (s : State) (e : Bool) (r : MatRun) (isB : Bool) (w : BitVec 64) (c row : Nat) :
    Except ((EngFail × VAddr) × Nat) (List Int × List Nat) :=
  match s.rowAt e r isB w c row with
  | .error x => .error x
  | .ok none => .ok (List.replicate (r.cmd.dims.chunk c) 0, List.replicate (r.cmd.dims.chunk c) 0)
  | .ok (some q) => (s.operandRow r.fetched q.op q.row q.lo q.n).mapError fun x => (x, q.pipe)

/-- The reads of n rows of a load, from row `row` on. -/
def State.loadReads (s : State) (e : Bool) (r : MatRun) (isB : Bool) (w : BitVec 64) (c row n : Nat) : List (VAddr × Nat) :=
  ((List.range n).map fun k =>
    (if !isB && mwG w && !mwT w then [(vaOf (r.cmd.mp[6] + BitVec.ofNat 64 (4 * (r.cmd.rowBase (mwY w) + row + k))), 4)] else []) ++
    match s.rowAt e r isB w c (row + k) with
    | .ok (some q) => q.op.reads q.row q.lo q.n
    | _ => []).flatten

/-- Load rows from where the load stands, until all are there or one fails. -/
def State.loadRows (n : Nat) (s : State) (e : Bool) (r : MatRun) (isB : Bool) (w : BitVec 64) (c : Nat) (got : Chunk) :
    Chunk × Option ((EngFail × VAddr) × Nat) :=
  match n with
  | 0 => (got, none)
  | k + 1 =>
    match s.loadRow e r isB w c got.elems.length with
    | .error x => (got, some x)
    | .ok q => s.loadRows k e r isB w c { elems := got.elems ++ [q.1], exps := got.exps ++ [q.2] }

/-! ### Staging -/

/-- The staging half of a pipe. -/
def SeqPoint.half (p : SeqPoint) (isB h : Bool) : Staging := if isB then (if h then p.b1 else p.b0) else (if h then p.a1 else p.a0)
def SeqPoint.setHalf (p : SeqPoint) (isB h : Bool) (x : Staging) : SeqPoint :=
  if isB then (if h then { p with b1 := x } else { p with b0 := x }) else (if h then { p with a1 := x } else { p with a0 := x })

def Staging.isLoading (x : Staging) : Bool :=
  match x with
  | .loading _ _ _ _ => true
  | _ => false

/-- The chunks a half has received since the last MAC that read it (R162). -/
def Staging.received (x : Staging) : List (BitVec 32) :=
  match x with
  | .empty => []
  | .loading c _ _ b => c :: b
  | .landed c _ _ b => c :: b

/-- The half that a pipe loads now: its chunk, its word, the rows already there, and the chunks it had before. -/
def SeqPoint.loading (p : SeqPoint) (isB : Bool) : Option (Bool × BitVec 32 × BitVec 64 × Chunk × List (BitVec 32)) :=
  match p.half isB false, p.half isB true with
  | .loading c w q b, _ => some (false, c, w, q, b)
  | _, .loading c w q b => some (true, c, w, q, b)
  | _, _ => none

/-- Nothing holds the running command up, but for a pending-page table without room, which it tries again (R299). -/
def MatRun.going (r : MatRun) : Bool := r.ended.isNone && !r.paused && !waitsVerdict r.missing

/-- STAGING_LOAD_COMPLETE: the load of a pipe goes on until its chunk has landed, or a miss pauses it at a row (R162, R170, R284). -/
def State.stagingLoad (s : State) (e isB : Bool) : Option State :=
  match (s.core.t.me e).run with
  | none => none
  | some r =>
    match r.pt.loading isB with
    | none => none
    | some (h, c, w, q, b) =>
      if r.going = false ∨ (r.step.map (·.half)) = some h then none
      else
        let z := s.loadRows (r.loadCount isB w c.toNat - q.elems.length) e r isB w c.toNat q
        let s1 := (s.mrpClear e).touchAll (s.loadReads e r isB w c.toNat q.elems.length (z.1.elems.length - q.elems.length))
        match z.2 with
        | none => some (s1.setRun e ({ r with pt := r.pt.setHalf isB h (.landed c w z.1 b) }).rowDone)
        | some ((f, va), pipe) =>
          let r1 := { r with pt := r.pt.setHalf isB h (.loading c w z.1 b) }
          let moved := decide (q.elems.length < z.1.elems.length)
          s1.matFailed e (if moved then r1.rowDone else r1) f
            (r.place e (if pipe = 2 then 2 else if isB then 1 else 0) z.1.elems.length false va) (some pipe) moved

/-- STAGING_LOAD_COMPLETE (R284). -/
def execStagingLoadComplete (c : Nat) (e p : Bool) (s : State) : Out := s.atEngine c "STAGING_LOAD_COMPLETE" fun s => s.stagingLoad e p

/-! ### Taking a command (R154, R165, R279, R283) -/

/-- Copy the lit bank into the shadow bank, or clear it, which writes the shadow bank; the speculation is open (R16, R165). -/
def MatEngine.speculate (m : MatEngine) (zero : Bool) : MatEngine :=
  { m with shadow := { (if zero then AccBank.reset else m.lit) with dirty := true }, spec := true }
/-- The banks exchange roles (R165). -/
def MatEngine.commit (m : MatEngine) : MatEngine := { m with lit := m.shadow, shadow := m.lit, spec := false }

/-- A rectangle of a bank becomes zero (R165). -/
def AccBank.zeroRect (b : AccBank) (x : Xfer) : AccBank :=
  (List.range x.rows).foldl (fun b r => b.putRow (x.row0 + r) x.col0 (List.replicate x.cols 0)) b

/-- What MSTAT enters in the return queue (R170). The manual gives the count of completed commands no width: the model's has 32 bits and wraps [log 45]. -/
def MatEngine.stat (m : MatEngine) (sel : BitVec 2) : Word :=
  match sel.toNat with
  | 0 => m.completed.zeroExtend 64
  | 1 => m.mrp
  | _ => BitVec.ofNat 64 (m.lastStatus.toNat + m.lastOp.toNat * 2 ^ 8)

/-- The reservation of an MSTAT is filled (R92, R170). -/
def TaskState.fillStat (t : TaskState) (seq : Nat) (v : Word) : TaskState :=
  { t with comp := { t.comp with rq := t.comp.rq.map fun q =>
      if q.value = none ∧ q.tag = seq then { q with value := some v, due := 0 } else q } }

/-- A command as it starts: counters and staging empty, the codebooks and block-scale addresses of its slots read (R96, R162); the manual gives that time for the codebooks, and none for the addresses [log 45]. -/
def State.startRun (s : State) (c : MatCmd) : MatRun :=
  let a := fileGet s.core.t.ts (shapeOf c.mp[1]).ts
  let b := fileGet s.core.t.ts (shapeOf c.mp[3]).ts
  let pt : SeqPoint := { pos := 16 * bitsOf c.a.toNat 5 0, mq := .replicate 4 0, a0 := .empty, a1 := .empty, b0 := .empty, b1 := .empty }
  { cmd := c, pt, row := 0, step := none, check := none, cbA := a.cb, cbB := b.cb, bsA := a.bsa, bsB := b.bsa, fetched := [], ended := none,
    sats := [], census := [], missing := none, paused := false }

/-! ### Transfers (R167) -/

/-- The address of a row of a transfer. -/
def MatCmd.xferAddr (c : MatCmd) (x : Xfer) (row : Nat) : VAddr := vaOf (c.a + BitVec.ofNat 64 (row * 16 * x.pitch))

/-- One row of MACCLD. -/
def State.accldRow (s : State) (e : Bool) (r : MatRun) : Except (EngFail × VAddr) (State × MatRun) :=
  let x := xferOf r.cmd.b
  match s.rdSpan (spanFuel (4 * x.cols)) r.fetched (r.cmd.xferAddr x r.row) (4 * x.cols) with
  | .error y => .error y
  | .ok bs =>
    let vs := (List.range x.cols).map fun c => sgn 32 (leNat bs / 2 ^ (32 * c))
    .ok ((s.touchAll [(r.cmd.xferAddr x r.row, 4 * x.cols)]).modMe e fun m => m.setBank x.other ((m.bank x.other).putRow (x.row0 + r.row) x.col0 vs), { r.rowDone with row := r.row + 1 })

/-- An element of MACCST: rounded, and as stored (R167). -/
def State.accstElem (s : State) (r : MatRun) (x : Xfer) (a : Int) (row col : Nat) : Int × Int :=
  let y := sd a x.k x.mode (rnd s.core.t.sys.srseed r.cmd.srctr ((row * 320 + col) % 65536))
  (y, satS (8 * x.esize) y)

/-- One row of MACCST, with its counts and census (R104, R107, R167). -/
def State.accstRow (s : State) (e : Bool) (r : MatRun) : Except (EngFail × VAddr) (State × MatRun) :=
  let x := xferOf r.cmd.b
  let b := (s.core.t.me e).bank x.other
  let row := x.row0 + r.row
  let qs := (List.range x.cols).map fun c => s.accstElem r x (b.get row (x.col0 + c)) row (x.col0 + c)
  let va := r.cmd.xferAddr x r.row
  let bytes := (qs.map fun q => leBytes x.esize (pat (8 * x.esize) q.2)).flatten
  if b.poisonIn row 1 x.col0 x.cols then .error (.ends .poison, va)
  else
    match s.wrSpan (spanFuel bytes.length) s.netEng (some (.engine s.core.t.id (if e then 1 else 0) r.cmd.seq)) none va bytes with
    | .error y => .error y
    | .ok s1 =>
      .ok (s1, { r.rowDone with row := r.row + 1,
                                sats := r.sats ++ [(x.t, (qs.filter fun q => q.1 ≠ q.2).length)],
                                census := r.census ++ [(x.t, minOf (qs.map fun q => headroom (8 * x.esize) false q.2))] })

/-- Rows in ascending order, until all are done or one fails (R167). -/
def State.xferRows (n : Nat) (s : State) (e : Bool) (r : MatRun) : (State × MatRun) × Option (EngFail × VAddr) :=
  match n with
  | 0 => ((s, { r with ended := some .ok }), none)
  | k + 1 =>
    match (if r.cmd.kind = .maccst then s.accstRow e r else s.accldRow e r) with
    | .error x => ((s, r), some x)
    | .ok q => q.1.xferRows k e q.2

/-- A transfer goes on from the row it has reached. -/
def State.xferGo (s : State) (e : Bool) (r : MatRun) : Option State :=
  let z := s.xferRows ((xferOf r.cmd.b).rows - r.row) e r
  match z.2 with
  | none => some (z.1.1.setRun e z.1.2)
  | some (f, va) =>
    let st := decide (r.cmd.kind = .maccst)
    z.1.1.matFailed e z.1.2 f (z.1.2.place e (if st then 1 else 0) z.1.2.row st va) none (decide (r.row < z.1.2.row))

/-- The head of the queue starts: a call at its entry word, a transfer with its rows, every other command at once (R154, R165, R167, R170). -/
def State.acceptMat (s : State) (e : Bool) : Option State :=
  let m := s.core.t.me e
  match m.run, m.queue with
  | none, c :: q =>
    if s.core.saving ∨ (s.core.eclipsing = false ∧ s.core.t.blocked s.cur c.seq = true) then none
    else
      let r := s.startRun c
      let done (f : MatEngine → MatEngine) := some ((s.modMe e fun m => f { m with queue := q }).setRun e { r with ended := some .ok })
      let s1 := (s.modMe e fun m => { m with queue := q }).setRun e r
      if s.core.eclipsing then some (s1.endMat e r .eclipsed)
      else
        match c.kind with
        | .mcall => some s1
        | .mcallg => some s1
        | .mspec z => done (·.speculate z)
        | .mcommit => done (·.commit)
        | .mdiscard => done fun m => { m with spec := false }
        | .mzero all =>
          done fun m => m.setBank false (if all then AccBank.reset else (m.bank false).zeroRect (xferOf c.a))
        | .maccld => match s1.xferGo e r with
          | some s2 => some s2
          | none => some s1
        | .maccst => match s1.xferGo e r with
          | some s2 => some s2
          | none => some s1
        | .mstat sel => (done fun m => m).map fun s2 => s2.modT fun t => t.fillStat c.seq (m.stat sel)
  | _, _ => none

/-- MATRIX_COMMAND_ACCEPT (R154, R279, R283). -/
def execMatrixCommandAccept (c : Nat) (e : Bool) (s : State) : Out := s.atEngine c "MATRIX_COMMAND_ACCEPT" fun s => s.acceptMat e

/-! ### Micro-words (R161, R162) -/

/-- The own checks of a word of a routine without E fail (R161). -/
def MatRun.badFields (r : MatRun) (w : BitVec 64) : Bool :=
  let mp := r.cmd.mp
  let d := r.cmd.dims
  let a := shapeOf mp[1]
  let b := shapeOf mp[3]
  let region := d.badM || d.badN || d.badC || badC5 mp[5]
  match mwOp w with
  | 8 => decide (mp[0].toNat % 64 ≠ 0) || a.bad || a.badForm (mwT w) (r.opA w).cols (fmtA r.cmd.mfmt) || (mwG w && mwT w) || d.badM || d.badK
  | 9 => decide (mp[2].toNat % 64 ≠ 0) || b.bad || b.badForm (mwT w) (r.opB w).cols (fmtB r.cmd.mfmt) || d.badN || d.badK
  | 0xA => region
  | 0xB => region
  | 0xC => region
  | 0xD => region
  | 0xE => d.badK
  | _ => false

/-- SETM's lo and w (R162). -/
def setmLo (w : BitVec 64) : Nat := ((mwImm w).extractLsb' 3 6).toNat
def setmWidth (w : BitVec 64) : Nat := ((mwImm w).extractLsb' 9 6).toNat

/-- The word ends its call FORMAT (R162). -/
def MatRun.badWord (r : MatRun) (p : Plane) (w : BitVec 64) : Bool :=
  let op := mwOp w
  decide (w.extractLsb' 42 12 ≠ 0) || (mwE w && decide (op ≠ 2)) || (decide (op = 3) && decide (setmWidth w = 0 ∨ 64 < setmLo w + setmWidth w)) ||
  ((decide (op = 8) || decide (op = 0xC)) && mwY w && r.cmd.gang && decide (3 < r.cmd.gsize)) ||
  (!(mwE (p.microAt (16 * bitsOf r.cmd.a.toNat 5 0))) && r.badFields w)

/-- After a word: an interruptible word leaves its checkpoint, and a pause due is taken once no step runs (R285). -/
def State.microDone (s : State) (e : Bool) (r : MatRun) (w : BitVec 64) : State :=
  if mwI w then
    let r1 := { r with check := some r.pt, step := r.step.map fun x => { x with pausable := true } }
    if r1.step.isNone && s.core.eclipsing then s.endMat e r1 .eclipsed
    else s.setRun e { r1 with paused := r1.step.isNone && s.core.saving }
  else s.setRun e r

/-- The sequencer's next word, if it has this operation: its effect, or the failure that a poisoned or malformed word is, which lets a running step end first (R162, R169, R285, R307). -/
def State.micro (s : State) (e : Bool) (op : Nat) (f : State → MatRun → BitVec 64 → Option State) : Option State :=
  match (s.core.t.me e).run with
  | none => none
  | some r =>
    let w := s.core.lit.microAt r.pt.pos
    if r.cmd.kind.isCall = false ∨ r.going = false ∨ 1024 ≤ r.pt.pos ∨ mwOp w ≠ op then none
    else if (s.core.lit.poison.contains (microEcc r.pt.pos) || r.badWord s.core.lit w) && r.step.isSome then none
    else if s.core.lit.poison.contains (microEcc r.pt.pos) then some ((s.engEndRec (r.place e 4 0xFFFF false 0) .poison).endMat e r .poison)
    else if r.badWord s.core.lit w then some (s.endMat e r .format)
    else f s r w

/-- A word that only changes the sequencer's place and counters. -/
def State.microSeq (s : State) (e : Bool) (op : Nat) (f : MatRun → BitVec 64 → SeqPoint) : Option State :=
  s.micro e op fun s r w => some (s.microDone e { r with pt := f r w } w)

/-- The next word. -/
def SeqPoint.next (p : SeqPoint) : SeqPoint := { p with pos := p.pos + 1 }

/-- The next word, with a counter changed. -/
def SeqPoint.count (p : SeqPoint) (d : Fin 4) (v : BitVec 32) : SeqPoint := { p with pos := p.pos + 1, mq := p.mq.set d v }

/-- MICRO_END: the call is done once no step runs (R162, R283). -/
def execMicroEnd (c : Nat) (e : Bool) (s : State) : Out :=
  s.atEngine c "MICRO_END" fun s => s.micro e 1 fun s r _ => if r.step.isSome then none else some (s.endMat e r .ok)

/-- MICRO_NOP (R162). -/
def execMicroNop (c : Nat) (e : Bool) (s : State) : Out := s.atEngine c "MICRO_NOP" fun s => s.microSeq e 2 fun r _ => r.pt.next

/-- MICRO_SETM: a bit field of an mp register (R162). -/
def execMicroSetm (c : Nat) (e : Bool) (s : State) : Out :=
  s.atEngine c "MICRO_SETM" fun s => s.microSeq e 3 fun r w =>
    r.pt.count (mwD w) (BitVec.ofNat 32 ((fileGet r.cmd.mp ((mwImm w).extractLsb' 0 3)).toNat / 2 ^ setmLo w % 2 ^ setmWidth w))

/-- MICRO_SETI (R162). -/
def execMicroSeti (c : Nat) (e : Bool) (s : State) : Out := s.atEngine c "MICRO_SETI" fun s => s.microSeq e 4 fun r w => r.pt.count (mwD w) (mwImm w)

/-- MICRO_ADDI (R162). -/
def execMicroAddi (c : Nat) (e : Bool) (s : State) : Out :=
  s.atEngine c "MICRO_ADDI" fun s => s.microSeq e 5 fun r w => r.pt.count (mwD w) (r.pt.mq[mwD w] + mwImm w)

/-- MICRO_BNZ: decrement, and branch while not zero (R162). -/
def execMicroBnz (c : Nat) (e : Bool) (s : State) : Out :=
  s.atEngine c "MICRO_BNZ" fun s => s.microSeq e 6 fun r w =>
    let v := r.pt.mq[mwD w] - 1
    { r.pt with pos := if v = 0 then r.pt.pos + 1 else mwTgt w, mq := r.pt.mq.set (mwD w) v }

/-- MICRO_JMP (R162). -/
def execMicroJmp (c : Nat) (e : Bool) (s : State) : Out := s.atEngine c "MICRO_JMP" fun s => s.microSeq e 7 fun r w => { r.pt with pos := mwTgt w }

/-- A load starts in its pipe, into the half that bit 0 of the chunk number names; the pipe takes one load at a time (R162, R284). -/
def State.microLoad (s : State) (e isB : Bool) : Option State :=
  s.micro e (if isB then 9 else 8) fun s r w =>
    if (r.pt.loading isB).isSome then none
    else
      let c := r.pt.mq[mwA w]
      some (s.microDone e { r with pt := (r.pt.setHalf isB (c.getLsbD 0) (.loading c w { elems := [], exps := [] } (r.pt.half isB (c.getLsbD 0)).received)).next } w)

/-- MICRO_LDA (R162). -/
def execMicroLda (c : Nat) (e : Bool) (s : State) : Out := s.atEngine c "MICRO_LDA" fun s => s.microLoad e false
/-- MICRO_LDB (R162). -/
def execMicroLdb (c : Nat) (e : Bool) (s : State) : Out := s.atEngine c "MICRO_LDB" fun s => s.microLoad e true

/-- A staging half as a MAC of a chunk finds it: there, on its way, replaced by a later load, or not received since the last MAC that read the half (R162). -/
inductive HalfState where
  | ready (word : BitVec 64) (rows : Chunk)
  | replaced (word : BitVec 64) (rows : Chunk)
  | coming
  | missing

def Staging.forMac (x : Staging) (c : BitVec 32) : HalfState :=
  match x with
  | .empty => .missing
  | .loading d _ _ b => if d = c ∨ b.contains c = true then .coming else .missing
  | .landed d w q b => if d = c then .ready w q else if b.contains c then .replaced w q else .missing

/-- The chunk that a MAC reads from a half, and whether the half no longer holds the chunk it asks for. -/
def HalfState.rows (h : HalfState) : Option (BitVec 64 × Chunk × Bool) :=
  match h with
  | .ready w q => some (w, q, false)
  | .replaced w q => some (w, q, true)
  | _ => none

/-- Rows and columns exchanged, for n columns. -/
def swapRows {α : Type} (z : α) (n : Nat) (rows : List (List α)) : List (List α) := (List.range n).map fun i => rows.map fun r => r.getD i z

/-- A chunk by result row and K position, or by K position and result column (R109, R162). -/
def Chunk.turn (q : Chunk) (t : Bool) (n : Nat) : Chunk := if t then { elems := swapRows 0 n q.elems, exps := swapRows 0 n q.exps } else q

/-- MICRO_MAC: once both loads of the chunk are there and no step runs, the chunk step starts, and its halves are free (R109, R162, R283). -/
def execMicroMac (c : Nat) (e : Bool) (s : State) : Out :=
  s.atEngine c "MICRO_MAC" fun s => s.micro e 0xA fun s r w =>
    if r.step.isSome then none
    else
      let k := r.pt.mq[mwA w]
      let h := k.getLsbD 0
      let a := (r.pt.half false h).forMac k
      let b := (r.pt.half true h).forMac k
      match a, b with
      | .missing, _ => some (s.endMat e r .format)
      | _, .missing => some (s.endMat e r .format)
      | _, _ =>
        match a.rows, b.rows with
        | some (wa, qa, xa), some (wb, qb, xb) =>
          let pt := ((r.pt.setHalf false h .empty).setHalf true h .empty).next
          let step : MacStep := { half := h, pausable := mwI w, a := qa.turn (mwT wa) r.cmd.dims.m, b := qb.turn (mwT wb) (r.cmd.dims.chunk k.toNat),
                                  replaced := xa || xb }
          some (s.setRun e { r with pt, step := some step, check := if mwI w then some pt else r.check })
        | _, _ => none

/-- MICRO_ZERO: the C region becomes zero, under Z only with mp4.zf (R162). -/
def execMicroZero (c : Nat) (e : Bool) (s : State) : Out :=
  s.atEngine c "MICRO_ZERO" fun s => s.micro e 0xB fun s r w =>
    if r.step.isSome then none
    else
      let s1 := if mwZ w && !r.cmd.dims.zf then s else s.modMe e fun m => m.setBank false ((m.bank false).zeroRect r.cmd.cRegion)
      some (s1.microDone e { r with pt := r.pt.next } w)

/-- A row of sums clamped to 32 bits, with the number clamped (R104). -/
def clampRow (vs : List Int) : List Int × Nat := (vs.map (satS 32), (vs.filter fun v => satS 32 v ≠ v).length)

/-- One row of SCAT: added to its destination row in memory (R162). -/
def State.scatRow (s : State) (e : Bool) (r : MatRun) (w : BitVec 64) : Except ((EngFail × VAddr) × Nat) (State × MatRun) :=
  let d := r.cmd.dims
  let i := r.cmd.rowBase (mwY w) + r.row
  let b := (s.core.t.me e).bank false
  let dest := if mwG w then (s.tableEntry r i).map fun t => t / 65536 else .ok i
  match dest with
  | .error x => .error (x, 2)
  | .ok t =>
    if mwG w ∧ t = 0xFFFF then .ok (s, { r.rowDone with row := r.row + 1 })
    else if b.poisonIn (d.crow + r.row) 1 d.ccol d.n then .error ((.ends .poison, 0), 1)
    else
      let va := vaOf (r.cmd.mp[7] + BitVec.ofNat 64 (t * cPitch r.cmd.mp[5] + 4 * r.cmd.colBase e))
      match s.rdSpan (spanFuel (4 * d.n)) r.fetched va (4 * d.n) with
      | .error x => .error (x, 1)
      | .ok bs =>
        let q := clampRow ((List.range d.n).map fun c => sgn 32 (leNat bs / 2 ^ (32 * c)) + b.get (d.crow + r.row) (d.ccol + c))
        let out := (q.1.map fun v => leBytes 4 (pat 32 v)).flatten
        match s.wrSpan (spanFuel (4 * d.n)) s.netEng (some (.engine s.core.t.id (if e then 1 else 0) r.cmd.seq)) none va out with
        | .error x => .error (x, 1)
        | .ok s1 => .ok (s1.touchAll ((va, 4 * d.n) :: if mwG w then [(vaOf (r.cmd.mp[6] + BitVec.ofNat 64 (4 * i)), 4)] else []), { r.rowDone with row := r.row + 1, sats := r.sats ++ [(r.cmd.cSlot, q.2)] })

/-- One row of ADDV: the vector added to a row of the C region (R162). -/
def State.addvRow (s : State) (e : Bool) (r : MatRun) : Except ((EngFail × VAddr) × Nat) (State × MatRun) :=
  let d := r.cmd.dims
  let b := (s.core.t.me e).bank false
  match s.rdSpan (spanFuel (4 * d.n)) r.fetched (vaOf (r.cmd.mp[2] + BitVec.ofNat 64 (4 * r.cmd.colBase e))) (4 * d.n) with
  | .error x => .error (x, 1)
  | .ok bs =>
    if b.poisonIn (d.crow + r.row) 1 d.ccol d.n then .error ((.ends .poison, 0), 4)
    else
      let q := clampRow ((List.range d.n).map fun c => b.get (d.crow + r.row) (d.ccol + c) + sgn 32 (leNat bs / 2 ^ (32 * c)))
      .ok ((s.touchAll [(vaOf (r.cmd.mp[2] + BitVec.ofNat 64 (4 * r.cmd.colBase e)), 4 * d.n)]).modMe e fun m => m.setBank false (b.putRow (d.crow + r.row) d.ccol q.1),
           { r.rowDone with row := r.row + 1, sats := r.sats ++ [(r.cmd.cSlot, q.2)] })

/-- The rows of SCAT or ADDV, until all are done or one fails. -/
def State.regionRows (n : Nat) (s : State) (e : Bool) (r : MatRun) (w : BitVec 64) : (State × MatRun) × Option ((EngFail × VAddr) × Nat) :=
  match n with
  | 0 => ((s, r), none)
  | k + 1 =>
    match (if mwOp w = 0xC then s.scatRow e r w else s.addvRow e r) with
    | .error x => ((s, r), some x)
    | .ok q => q.1.regionRows k e q.2 w

/-- SCAT or ADDV goes on from the row it has reached, waiting for the running step (R162, R170, R283). R170 gives pipe 2 to the index table and 3 to SCAT; a miss of SCAT on the index table has pipe 3 here [log 45]. -/
def State.microRegion (s : State) (e : Bool) (op : Nat) : Option State :=
  s.micro e op fun s r w =>
    if r.step.isSome then none
    else
      let z := (s.mrpClear e).regionRows (r.cmd.dims.m - r.row) e r w
      match z.2 with
      | none => some (z.1.1.microDone e { z.1.2 with row := 0, pt := r.pt.next } w)
      | some ((f, va), opnd) =>
        z.1.1.matFailed e z.1.2 f (z.1.2.place e opnd z.1.2.row (decide (op = 0xC ∧ opnd = 1)) va) (some 3) (decide (r.row < z.1.2.row))

/-- MICRO_SCAT (R162). -/
def execMicroScat (c : Nat) (e : Bool) (s : State) : Out := s.atEngine c "MICRO_SCAT" fun s => s.microRegion e 0xC
/-- MICRO_ADDV (R162). -/
def execMicroAddv (c : Nat) (e : Bool) (s : State) : Out := s.atEngine c "MICRO_ADDV" fun s => s.microRegion e 0xD

/-- MICRO_CHK: the number of chunks (R162). -/
def execMicroChk (c : Nat) (e : Bool) (s : State) : Out :=
  s.atEngine c "MICRO_CHK" fun s => s.microSeq e 0xE fun r w => r.pt.count (mwD w) (BitVec.ofNat 32 ((r.cmd.dims.k + 63) / 64))

/-- MICRO_RESERVED: a reserved operation, or a step past word 1,023, ends the call FORMAT (R162). -/
def execMicroReserved (c : Nat) (e : Bool) (s : State) : Out :=
  s.atEngine c "MICRO_RESERVED" fun s =>
    match (s.core.t.me e).run with
    | none => none
    | some r =>
      let op := mwOp (s.core.lit.microAt r.pt.pos)
      if r.cmd.kind.isCall = false ∨ r.going = false ∨ r.step.isSome = true then none
      else if 1024 ≤ r.pt.pos ∨ op = 0 ∨ op = 0xF then some (s.endMat e r .format)
      else none

/-! ### MAC steps (R109, R285) -/

/-- The aligned product of one K position (R109). -/
def macTerm (a b : List Int) (ea eb : List Nat) (k : Nat) : Int := a.getD k 0 * b.getD k 0 * 2 ^ (ea.getD k 0 + eb.getD k 0)

/-- The exact chunk sum of element (i, j) (R109). -/
def MacStep.sum (m : MacStep) (i j : Nat) : Int :=
  let a := m.a.elems.getD i []
  let ea := m.a.exps.getD i []
  let b := m.b.elems.map fun r => r.getD j 0
  let eb := m.b.exps.map fun r => r.getD j 0
  (List.range m.b.elems.length).foldl (fun acc k => acc + macTerm a b ea eb k) 0

/-- One row of the chunk add. -/
def MacStep.row (m : MacStep) (b : AccBank) (d : Dims) (i : Nat) : List Int × Nat :=
  clampRow ((List.range d.n).map fun j => b.get (d.crow + i) (d.ccol + j) + m.sum i j)

/-- The chunk step over the C region: the bank after it, and the elements that clamped (R104, R109). -/
def MacStep.apply (m : MacStep) (b : AccBank) (d : Dims) : AccBank × Nat :=
  (List.range d.m).foldl (fun z i => let q := m.row b d i
                                     (z.1.putRow (d.crow + i) d.ccol q.1, z.2 + q.2)) (b, 0)

/-- The elements of a rectangle that exist hold free values (R169) [log 3]. -/
def AccBank.scramble (b : AccBank) (x : Xfer) (seed : Nat) : AccBank :=
  let cols := min x.cols (320 - x.col0)
  (List.range (min x.rows (128 - x.row0))).foldl (fun b r =>
    b.putRow (x.row0 + r) x.col0 ((List.range cols).map fun c => sgn 32 (Config.freeWord seed ((x.row0 + r) * 320 + x.col0 + c)).toNat)) b

/-- What a step does to a bank: the chunk add; after a half was loaded again in between, free values and a free count [log 3]. -/
def MacStep.effect (m : MacStep) (b : AccBank) (c : MatCmd) (seed : Nat) : AccBank × Nat :=
  if m.replaced then (b.scramble c.cRegion seed, (Config.freeWord seed 0x300).toNat % (c.dims.m * c.dims.n + 1)) else m.apply b c.dims

/-- MAC_STEP_COMPLETE: the chunk add; after an interruptible MAC a pause due is taken at its checkpoint, and an eclipse ends the call (R109, R171, R285). -/
def execMacStepComplete (c : Nat) (e : Bool) (s : State) : Out :=
  s.atEngine c "MAC_STEP_COMPLETE" fun s =>
    match (s.core.t.me e).run with
    | none => none
    | some r =>
      match r.step with
      | none => none
      | some m =>
        let d := r.cmd.dims
        let b := (s.core.t.me e).bank false
        if b.poisonIn d.crow d.m d.ccol d.n then some ((s.engEndRec (r.place e 4 0xFFFF false 0) .poison).endMat e r .poison)
        else
          let q := m.effect b r.cmd s.fresh
          let s1 := s.modMe e fun g => g.setBank false q.1
          let r1 := { r with step := none, sats := r.sats ++ [(r.cmd.cSlot, q.2)] }
          if m.pausable && s.core.eclipsing then some (s1.endMat e r1 .eclipsed)
          else if m.pausable && s.core.saving then some (s1.setRun e { r1 with pt := r.check.getD r.pt, paused := true })
          else some (s1.setRun e r1)

/-! ### Completion (R158, R159, R166, R168, R169) -/

/-- The rectangle whose contents a failed command leaves undefined (R169). -/
def MatCmd.region (c : MatCmd) : Option Xfer :=
  match c.kind with
  | .mcall => some c.cRegion
  | .mcallg => some c.cRegion
  | .mzero all => if all then none else some (xferOf c.a)
  | .maccld => some (xferOf c.b)
  | .maccst => some (xferOf c.b)
  | _ => none

/-- The engine's records of a command that has ended (R158, R170). -/
def MatEngine.noteEnd (m : MatEngine) (st : Status) (op : BitVec 6) : MatEngine :=
  let bad := decide (st ≠ .ok)
  { m.noLoad with
    run := none, completed := m.completed + 1, lastStatus := BitVec.ofNat 8 st.code, lastOp := op,
    firstBad := if bad && decide (m.bad = 0) then BitVec.ofNat 8 st.code else m.firstBad,
    firstOp := if bad && decide (m.bad = 0) then op else m.firstOp,
    bad := if bad && decide (m.bad ≠ 0xFFFF) then m.bad + 1 else m.bad }

/-- The tag that a call completes (R159). -/
def MatCmd.tag (c : MatCmd) : Option (BitVec 6) := if c.kind.isCall && c.a.getLsbD 12 then some (c.a.extractLsb' 6 6) else none

/-- The completion word of a call: its address and value (R159, R185). -/
def MatCmd.word (c : MatCmd) (st : Status) (count : BitVec 32) : Option (VAddr × Word) :=
  if c.kind.isCall && decide (c.b ≠ 0) then some (vaOf c.b, completionWord st c.kind.op count) else none

/-- The status of a pair call's half that has ended (R166). -/
def TaskState.halfOf (t : TaskState) (seq : Nat) : Option Status := ((t.haz.find? fun h => decide (h.seq = seq)).bind (·.half)).map (·.2)

/-- A command that has ended completes: undefined elements, the engine's records; then its completion word, its counts and its tag. The half of a pair that ends first is counted as it ends, for its own MDRAIN, and only the failing half's C region becomes undefined; the call completes with the other half (R15, R158, R159, R166, R169) [log 45]. -/
def State.completeMat (s : State) (e : Bool) (r : MatRun) (st : Status) (late : Option Saved) : Option State :=
  let c := r.cmd
  if s.owns (.engine s.core.t.id (if e then 1 else 0) c.seq) then none
  else
    let s1 := match c.region, decide (st = .ok) with
      | some x, false => s.modMe e fun m => m.setBank x.other ((m.bank x.other).scramble x s.fresh)
      | _, _ => s
    let s2 := s1.modMe e fun m => m.noteEnd st c.kind.op
    match c.pair, s2.core.t.halfOf c.seq with
    | true, none => some (s2.modT fun t => { t.commandCounts 3 r.sats r.census with
        haz := modFirst (fun h => decide (h.seq = c.seq)) (fun h => { h with half := some (e, st) }) t.haz })
    | _, half =>
      let all := match half with
        | some h => if h = .ok then st else h
        | none => st
      s2.endCommand
        { place := r.place e 4 0xFFFF true 0, status := all, word := c.word all (s2.core.t.me (e && !c.pair)).completed,
          closing := { seq := c.seq, slot := 3, tag := c.tag, ok := decide (all = .ok), sats := r.sats, census := r.census, bars := [] } } late

/-- A command that has ended completes; a transfer that a miss or another package held up goes on; an eclipse ends a command paused on a miss (R159, R167, R285). -/
def State.matDone (s : State) (e : Bool) (late : Option Saved := none) : Option State :=
  match (s.core.t.me e).run with
  | none => none
  | some r =>
    match r.ended with
    | some st => s.completeMat e r st late
    | none =>
      if s.core.eclipsing && (r.missing.isSome || r.paused) then s.completeMat e r .eclipsed late
      else if r.cmd.kind.isCall || !r.going then none
      else
        match s.xferGo e r with
        | none => none
        | some s1 =>
          match (s1.core.t.me e).run with
          | some r1 => match r1.ended with
            | some st => s1.completeMat e r1 st late
            | none => some s1
          | none => some s1

/-- The engine's command has ended: what remains is its completion. -/
def MatEngine.atEnd (m : MatEngine) : Bool := (m.run.map fun r => r.ended.isSome).getD false

/-- MATRIX_COMMAND_COMPLETE: of the task on core c, or of a task that has left it (R159, R167, R231, R285, R311). -/
def execMatrixCommandComplete (c : Nat) (e : Bool) (s : State) : Out :=
  s.atCore c "MATRIX_COMMAND_COMPLETE" fun s =>
    match s.matDone e with
    | some s1 => some s1
    | none => s.orSaved (fun v => v.ended || (v.t.me e).atEnd) fun v s => s.matDone e (some v)

end Sys2Proof.Machine
end

