-- ==== Sys2Proof/Machine/Objects.lean ====
section
/-! DEFINITION. Queues, stage barriers and permits as the hardware objects that instructions and copy engines share (R187, R205, R206, R209, R210, R281, R282). -/

namespace Sys2Proof.Machine

/-! ### Queues (R209, R210) -/

/-- A queue handle without its cursor bits (R200). -/
def queueBlock (xh : Word) : VAddr := vaOf (xh &&& ~~~(63 : Word))

/-- A domain register's identifier, index and size (R23). -/
def domId (v : BitVec 48) : Nat := (v.extractLsb' 0 16).toNat
def domIndex (v : BitVec 48) : Nat := (v.extractLsb' 16 16).toNat
def domSize (v : BitVec 48) : Nat := (v.extractLsb' 32 16).toNat

/-- The domain register of a level. -/
def TaskState.domOf (t : TaskState) (k : Nat) : BitVec 48 := t.sys.dom[k % 4]'(Nat.mod_lt k (by decide))

/-- The running task is one of the queue's agents (R209). -/
def State.serves (s : State) (q : Queue) : Bool :=
  if q.scope = 0 then decide (q.core = s.cur) else decide (domId (s.core.t.domOf q.scope) = q.domain)

/-- Bytes of a slot. -/
def Queue.slotBytes (q : Queue) : Nat := 16 * q.slot

/-- The ring slot of a sequence number is free (R210). -/
def Queue.ringFree (q : Queue) (seq : Nat) : Bool :=
  !(q.entries.any fun e => decide (e.page = none) && decide (e.seq % 2 ^ q.lgent = seq % 2 ^ q.lgent))

/-- The spill page being filled for a queue, with room for another slot (R210). -/
def State.openSpill (s : State) (q : Queue) : Option SpillPage :=
  s.sched.spill.find? fun p => q.is p.asid p.queue && decide (p.used < 0x1_0000 / q.slotBytes)

/-- The lowest free page of the context's spill region within the quota; none where there is none (R210, R257). -/
def State.freeSpill (s : State) (asid : Nat) : Option Nat :=
  if s.desc asid 96 7 = 0 then none
  else (List.range (s.sched.spill.length + 1)).find? fun n =>
    decide (n < s.desc asid 24 4) && !(s.sched.spill.any fun p => decide (p.asid = asid ∧ p.page = n))

/-- The virtual address of a slot of a spill page. -/
def State.spillAddr (s : State) (q : Queue) (page k : Nat) : VAddr :=
  BitVec.ofNat 55 (s.desc q.asid 96 7 + page * 0x1_0000 + k * q.slotBytes)

/-- Take the next sequence number and its slot: the ring's if free, else the spill ring's; none when the quota is spent (R187, R210). -/
def State.reserve (s : State) (q : Queue) : Option (State × QEntry) :=
  let seq := q.next
  let enter (s : State) (e : QEntry) : State := s.modQueue q.asid q.block fun q => { q with next := q.next + 1, entries := q.entries ++ [e] }
  if q.ringFree seq then
    let e : QEntry := { seq, slot := BitVec.ofNat 55 (q.base + seq % 2 ^ q.lgent * q.slotBytes) |>.toNat, page := none, pushed := false, returned := [] }
    some (enter s e, e)
  else
    match s.openSpill q with
    | some p =>
      let e : QEntry := { seq, slot := (s.spillAddr q p.page p.used).toNat, page := some p.page, pushed := false, returned := [] }
      let s1 := s.modSched fun d => { d with spill := d.spill.map fun x => if x.asid = p.asid ∧ x.page = p.page then { x with used := x.used + 1 } else x }
      some (enter s1 e, e)
    | none =>
      match s.freeSpill q.asid with
      | none => none
      | some n =>
        let e : QEntry := { seq, slot := (s.spillAddr q n 0).toNat, page := some n, pushed := false, returned := [] }
        some (enter (s.modSched fun d => { d with spill := d.spill ++ [{ asid := q.asid, page := n, queue := q.block, used := 1 }] }) e, e)

/-- The push of an entry is performed: it can be popped (R187, R210). -/
def State.perform (s : State) (q : Queue) (seq : Nat) : State :=
  s.modQueue q.asid q.block fun q => { q with entries := q.entries.map fun e => if e.seq = seq then { e with pushed := true } else e }

/-- The 8-byte header of a slot (R209). -/
def slotHeader (seq len : Nat) : List Byte := leBytes 4 (seq % 2 ^ 32) ++ leBytes 2 len ++ [0, 0]

/-! ### Atomic operations (R212) -/

/-- The new m of an operation on n bits (R212): m and v unsigned, c the comparand of ACAS. -/
def amoResult (op n m v c : Nat) : Nat :=
  match op with
  | 0 => (m + v) % 2 ^ n
  | 1 => if sgn n v < sgn n m then v else m
  | 2 => if sgn n m < sgn n v then v else m
  | 3 => min m v
  | 4 => max m v
  | 5 => Nat.land m v
  | 6 => Nat.lor m v
  | 7 => Nat.xor m v
  | 8 => v
  | 9 => if m = c then v else m
  | 10 => pat n (satS n (sgn n m + sgn n v))
  | 11 => (m + v) % 2 ^ n
  | 12 => if sgn n v < sgn n m then v else m
  | 13 => if sgn n m < sgn n v then v else m
  | 14 => pat n (satS n (sgn n m + sgn n v))
  | _ => Nat.lor m v

/-- Perform an operation of `bytes` bytes at its home here: the state after it, and old m (R212, R213). -/
def State.amoHome (s : State) (key pa op bytes v c : Nat) : State × Nat :=
  let m := leNat (s.mem.bytes key pa bytes)
  (({ s with mem := s.mem.store key pa (leBytes bytes (amoResult op (8 * bytes) m (v % 2 ^ (8 * bytes)) (c % 2 ^ (8 * bytes)))) } : State).activate pa, m)

/-! ### Permits (R187, R281) -/

/-- The address of a permit counter or queue in a perm register (R179). -/
def permAddr (p : Word) : VAddr := BitVec.ofNat 55 (bitsOf p.toNat 60 10 * 16)

/-- Change the count of a permit counter at its home (R281). -/
def State.permit (s : State) (asid : Nat) (a : VAddr) (f : Nat → Option Nat) : Except AccFail (Option State) :=
  match s.agentRead (some s.cur) asid a 4 with
  | .error x => .error x
  | .ok bs =>
    match f (leNat bs) with
    | none => .ok none
    | some v =>
      match s.agentWrite (some s.cur) asid a (leBytes 4 v) needRW with
      | .error x => .error x
      | .ok s1 => .ok (some s1)

end Sys2Proof.Machine
end

