-- ==== Sys2Proof/Machine/Copy.lean ====
section
/-! DEFINITION. Copy and collective instructions as they issue: class 0x9, with the geometry, its checks and footprints (R173 to R191, R194, R196, R278). -/

namespace Sys2Proof.Machine

/-! ### Geometry (R175 to R182) -/

/-- What the geometry registers of a command describe (R176, R177, R181). -/
structure Tile where
  xf : Nat
  /-- element bytes of the source and of the destination -/
  z : Nat
  zd : Nat
  k : Nat
  mode : Nat
  t : BitVec 6
  e0 : Nat
  e1 : Nat
  e2 : Nat
  e3 : Nat
  ss : Vector Int 4
  ds : Vector Int 4
  sb : VAddr
  db : VAddr

/-- The slot, and so the engine, of a command. -/
def CopyCmd.ce (c : CopyCmd) : Bool := decide (c.slot = 5)

/-- The permit source of CPYW (R179). -/
def CopyCmd.src (c : CopyCmd) : Nat := bitsOf c.geo[15].toNat 1 0
def CopyCmd.ringSlots (c : CopyCmd) : Nat := bitsOf c.geo[15].toNat 9 2

/-- A CPYW in queue mode (R187). -/
def CopyCmd.queued (c : CopyCmd) : Bool := decide (c.kind = .cpyw) && decide (c.src = 2)
/-- A CPYW in counter mode. -/
def CopyCmd.counted (c : CopyCmd) : Bool := decide (c.kind = .cpyw) && decide (c.src = 1)

/-- The tile of a command's snapshot; xo is added where mod asks for it, but not to the offset of queue mode (R181, R187). -/
def CopyCmd.tile (c : CopyCmd) : Tile :=
  let x := c.geo[11].toNat
  let z := 2 ^ min 4 (bitsOf x 2 0)
  let xf := bitsOf x 5 3
  let e := c.geo[2].toNat
  { xf, z, zd := if xf = 3 then 2 ^ bitsOf x 21 20 else z, k := bitsOf x 11 6, mode := bitsOf x 13 12, t := BitVec.ofNat 6 (bitsOf x 19 14),
    e0 := bitsOf e 15 0, e1 := bitsOf e 31 16, e2 := bitsOf e 47 32, e3 := bitsOf e 63 48,
    ss := #v[c.geo[3].toInt, c.geo[4].toInt, c.geo[5].toInt, c.geo[6].toInt],
    ds := #v[c.geo[7].toInt, c.geo[8].toInt, c.geo[9].toInt, c.geo[10].toInt],
    sb := vaOf (if c.addS then c.geo[0] + c.opr else c.geo[0]),
    db := vaOf (if c.addD && !c.queued then c.geo[1] + c.opr else c.geo[1]) }

/-- Expand and unpack work by rows (R182). -/
def Tile.rowwise (x : Tile) : Bool := decide (x.xf = 1 ∨ x.xf = 2)

/-- The bytes that one unit of the walk reads and writes: an element, or a row (R182, R189). -/
def Tile.readLen (x : Tile) : Nat :=
  match x.xf with
  | 1 => x.e0 / 2 * x.z + x.e0 / 8
  | 2 => x.e0 / 2
  | _ => x.z
def Tile.writeLen (x : Tile) : Nat :=
  match x.xf with
  | 1 => x.e0 * x.z
  | 2 => x.e0
  | _ => x.zd

/-- Some extent is 0 (R176). -/
def Tile.empty (x : Tile) : Bool := decide (x.e0 = 0 ∨ x.e1 = 0 ∨ x.e2 = 0 ∨ x.e3 = 0)

/-- The steps of the walk that one tile of dimensions 0 to 2 takes: elements, or destination bytes of its rows. -/
def Tile.perTile (x : Tile) : Nat := if x.rowwise then x.writeLen * x.e1 * x.e2 else x.e0 * x.e1 * x.e2

/-- The steps of the whole walk. -/
def Tile.total (x : Tile) : Nat := x.perTile * x.e3

/-- The xfm register is reserved or outside the limits of R177. -/
def badXfm (w : Word) : Bool :=
  let x := w.toNat
  let esz := bitsOf x 2 0
  let xf := bitsOf x 5 3
  let dw := bitsOf x 21 20
  decide (4 < esz) || decide (3 < xf) || decide (dw = 3) || decide (x / 2 ^ 22 ≠ 0) ||
  (decide (xf = 0) && decide (x / 2 ^ 6 ≠ 0)) || (decide (xf = 1) && decide (1 < esz)) || (decide (xf = 2) && decide (esz ≠ 0)) ||
  (decide (xf = 3) && (decide (esz = 0) || decide (3 < esz) || decide (esz ≤ dw)))

/-- A stride of a dimension that is walked is not a multiple of the element size (R188). -/
def badStride (e : Nat) (st : Int) (z : Nat) : Bool := decide (1 < e) && decide (st % z ≠ 0)

/-- The geometry cases of R188, and the permit source of R187. -/
def CopyCmd.badGeo (c : CopyCmd) : Bool :=
  let x := c.tile
  badXfm c.geo[11] ||
  (decide (c.kind = .cpym) && decide (c.geo[12].toNat / 2 ^ 24 ≠ 0)) ||
  (decide (c.kind = .cpyw) && (decide (c.geo[15].toNat / 2 ^ 61 ≠ 0) || decide (c.src = 0 ∨ c.src = 3))) ||
  decide (x.sb.toNat % x.z ≠ 0) || decide (x.db.toNat % x.zd ≠ 0) ||
  (!x.rowwise && (badStride x.e0 x.ss[0] x.z || badStride x.e0 x.ds[0] x.zd)) ||
  badStride x.e1 x.ss[1] x.z || badStride x.e2 x.ss[2] x.z || badStride x.e3 x.ss[3] x.z ||
  badStride x.e1 x.ds[1] x.zd || badStride x.e2 x.ds[2] x.zd || (!c.queued && badStride x.e3 x.ds[3] x.zd) ||
  (decide (x.xf = 2) && decide (x.e0 % 2 ≠ 0)) || (decide (x.xf = 1) && decide (x.e0 % 8 ≠ 0))

/-! ### Footprints (R189, R278) -/

/-- How far the walk of one side reaches below and above its base (R189). -/
def Tile.reach (x : Tile) (st : Vector Int 4) (e3 : Nat) (len : Nat) (dims : Nat) : Int × Int :=
  let d (e : Nat) (s : Int) : Int := ((e : Int) - 1) * s
  let all := (if x.rowwise then [] else [d x.e0 st[0]]) ++ [d x.e1 st[1], d x.e2 st[2]] ++ (if dims = 4 then [d e3 st[3]] else [])
  ((all.map fun v => min 0 v).sum, (all.map fun v => max 0 v).sum + len)

/-- An interval around a base address (R189). -/
def reachFrom (a : VAddr) (r : Int × Int) : Interval := { lo := a.toNat + r.1, hi := a.toNat + r.2 }

/-- The cores that mcast names on the issuing die, in ascending order (R178). -/
def targetsOf (m : Word) (die : Nat) : List Nat :=
  ((List.range 144).filter fun i => m.getLsbD (i / 12) && m.getLsbD (12 + i % 12)).map fun i => 144 * die + i

/-- The aperture address of an offset of core n's scratchpad (R234). -/
def apertureAddr (n off : Nat) : VAddr := BitVec.ofNat 55 (0x40_0000_0000_0000 + n * 0x10_0000 + off)

/-- The read and write footprints of a copy command (R189). -/
def State.copyFoot (s : State) (c : CopyCmd) : List Interval × List Interval :=
  let x := c.tile
  let src := reachFrom x.sb (x.reach x.ss x.e3 x.readLen 4)
  let wr := x.reach x.ds (if c.counted && decide (c.ringSlots ≠ 0) then min x.e3 c.ringSlots else x.e3) x.writeLen 4
  let dst := reachFrom x.db wr
  if x.empty then ([], [])
  else
    match c.kind with
    | .cpym =>
      ([src], match s.ownOffset x.db with
        | some off => (targetsOf c.geo[12] (coreDie s.cur)).map fun n => reachFrom (apertureAddr n off) wr
        | none => [dst])
    | .cpyx sc =>
      let tab := foot (vaOf c.opr) (4 * x.e1)
      if sc then (src :: tab, footAll) else (footAll, [dst])
    | .cpyw =>
      if c.queued then
        match s.liveQueue s.core.t.id.asid (permAddr c.geo[15] &&& ~~~(63 : VAddr)) with
        | some q => ([src], [{ lo := q.base, hi := q.base + q.slotBytes * 2 ^ q.lgent }])
        | none => ([src], [])
      else ([src], [dst])
    | _ => ([src], [dst])

/-- The buffer that a collective handle describes; all of memory where it cannot be read (R197, R278). -/
def State.handleFoot (s : State) (h : VAddr) : List Interval :=
  match s.agentRead (some s.cur) s.core.t.id.asid (h + 8) 8, s.agentRead (some s.cur) s.core.t.id.asid (h + 16) 8 with
  | .ok a, .ok b => foot (BitVec.ofNat 55 (leNat a)) ((bitsOf (leNat b) 31 0 * bitsOf (leNat b) 38 32 : Nat) : Int)
  | _, _ => footAll

/-! ### Registers (R17, R175, R180) -/

/-- The copy engine that the executing slot names. -/
def State.slotCe (s : State) : Bool := decide (s.core.bundle.slot = 5)

/-- An arbitration word that R180 refuses. -/
def badWeights (w : Word) : Bool :=
  decide (w.extractLsb' 0 8 = 0) || decide (w.extractLsb' 8 8 = 0) || decide (w.extractLsb' 16 8 = 0) || decide (w.toNat / 2 ^ 24 ≠ 0)

/-- ERW (R173, R175, R180). -/
def execErw (g : BitVec 4) (a n : BitVec 6) (s : State) : Out :=
  s.when g fun s =>
    let v := s.rdX a
    if n.toNat < 16 then
      s.modT fun t => t.setCe s.slotCe { t.ce s.slotCe with geo := filePut (t.ce s.slotCe).geo (n.extractLsb' 0 4) v }
    else if badWeights v then s.fault .illegalOperand 1
    else if n = 16 then s.modT fun t => { t with niarb := v }
    else s.modMgmt fun m => { m with fparb := v }

/-- ERD (R173, R180). -/
def execErd (g : BitVec 4) (d n : BitVec 6) (s : State) : Out :=
  s.putX g d (if n.toNat < 16 then fileGet (s.core.t.ce s.slotCe).geo (n.extractLsb' 0 4)
              else if n = 16 then s.core.old.niarb else s.core.old.fparb) 1

/-! ### Queueing (R174, R183 to R185) -/

/-- A control word's reserved bits are not zero (R183). -/
def badCtl (x : Word) : Bool := decide (bitsOf x.toNat 15 7 ≠ 0) || decide (x.toNat / 2 ^ 48 ≠ 0)
def ctlTag (x : Word) : Option (BitVec 6) := if x.getLsbD 6 then some (x.extractLsb' 0 6) else none

/-- The command with its snapshot (R174). -/
def State.copyCmd (s : State) (kind : CopyKind) (ctl opr : Word) (addS addD : Bool) : CopyCmd :=
  { seq := s.core.t.nextSeq, kind, ctl, opr, addS, addD, geo := (s.core.t.ce s.slotCe).geo, srctr := s.rndCounter, slot := s.core.bundle.slot,
    bundle := s.core.bundle.header, image := s.core.lit.image }

/-- A full queue holds the bundle before it issues, and before anything is checked (R88, R174). -/
def State.whenQueue (s : State) (f : State → State) : State := if 16 ≤ (s.core.t.ce s.slotCe).queue.length then s.hold else f s

/-- Put a command into its engine's queue with its footprints, and take its tag (R174, R184, R278). -/
def State.queueCopy (s : State) (c : CopyCmd) (foot : List Interval × List Interval) (tag : Option (BitVec 6)) : State :=
  let s1 := s.modT fun t => (t.setCe c.ce { t.ce c.ce with queue := (t.ce c.ce).queue ++ [c] }).issueHazard (if c.ce then 3 else 2) foot.1 foot.2
  match tag with
  | none => s1
  | some k => s1.modComp fun q => q.take k

/-- A tag that a command may not take, because it is held (R184). -/
def State.badTag (s : State) (tag : Option (BitVec 6)) : Bool :=
  match tag with
  | none => false
  | some k => s.tagHeld k

/-- Issue a copy command: the checks of R183 to R186, the queue, and the random bits of mode 3 (R102, R181). -/
def State.issueCopy (s : State) (kind : CopyKind) (ctl opr : Word) (addS addD : Bool) : State := s.whenQueue fun s =>
  let c := s.copyCmd kind ctl opr addS addD
  let x := c.tile
  if badCtl ctl then s.fault .illegalOperand 0
  else if c.geo[13].toNat % 8 ≠ 0 ∨ c.geo[14].toNat % 16 ≠ 0 then s.fault .illegalOperand 4
  else if (match kind with
      | .cpyx _ => decide (opr.toNat % 4 ≠ 0)
      | _ => false) then s.fault .illegalOperand 1
  else if s.badTag (ctlTag ctl) then s.fault .illegalOperand 0
  else
    let s1 := s.queueCopy c (s.copyFoot c) (ctlTag ctl)
    if x.xf = 3 ∧ x.mode = 3 ∧ x.empty = false then s1.useRandom else s1

/-- CPY (R186). -/
def execCpy (g : BitVec 4) (c o : BitVec 6) (y z : Bool) (s : State) : Out := s.when g fun s => s.issueCopy .cpy (s.rdX c) (s.rdX o) z y
/-- CPYM (R178, R186). -/
def execCpym (g : BitVec 4) (c o : BitVec 6) (y z : Bool) (s : State) : Out := s.when g fun s => s.issueCopy .cpym (s.rdX c) (s.rdX o) z y
/-- CPYX (R186). -/
def execCpyx (g : BitVec 4) (c t : BitVec 6) (z : Bool) (s : State) : Out := s.when g fun s => s.issueCopy (.cpyx z) (s.rdX c) (s.rdX t) false false
/-- CPYW (R179, R187). -/
def execCpyw (g : BitVec 4) (c o : BitVec 6) (y z : Bool) (s : State) : Out := s.when g fun s => s.issueCopy .cpyw (s.rdX c) (s.rdX o) z y

/-! ### Cancelling (R194) -/

def CopyKind.isCopy (k : CopyKind) : Bool :=
  match k with
  | .coll => false
  | .csig => false
  | _ => true

/-- CPYC names the command: a copy whose tag's bit is set in the mask (R194). -/
def CopyCmd.named (c : CopyCmd) (m : Word) : Bool := c.kind.isCopy && m.getLsbD (c.ctl.extractLsb' 0 6).toNat

/-- A started command, its progress at the beginning. -/
def CopyCmd.begin (c : CopyCmd) : CopyRun :=
  { cmd := c, pos := 0, skipped := 0, permit := false, asked := none, entry := none, headed := false, sats := 0, census := 63, overrun := false, held := none, missing := none, fetched := [] }

/-- The commands that CPYC ends stand in flight with status CANCELLED, and wait for no page; the others stay (R194). -/
def CopyEngine.cancel (q : CopyEngine) (m : Word) : CopyEngine × Nat :=
  let gone := (match q.run with
    | some r => if r.cmd.named m then [r] else []
    | none => []) ++ (q.queue.filter fun c => c.named m).map CopyCmd.begin
  ({ q with queue := q.queue.filter fun c => !c.named m,
            run := match q.run with
              | some r => if r.cmd.named m then none else some r
              | none => none,
            flight := q.flight ++ gone.map fun r => { run := { r with asked := none, missing := none }, status := .cancelled } }, gone.length)

/-- CPYC: acts at issue (R194). -/
def execCpyc (g : BitVec 4) (d m : BitVec 6) (s : State) : Out :=
  s.when g fun s =>
    let q := (s.core.t.ce s.slotCe).cancel (s.rdX m)
    (s.modT fun t => t.setCe s.slotCe q.1).setX d (BitVec.ofNat 64 q.2) 2

/-! ### Collectives (R196 to R198) -/

/-- COLL (R183, R185, R196, R197). -/
def execColl (g : BitVec 4) (h c : BitVec 6) (s : State) : Out :=
  s.when g fun s => s.whenQueue fun s =>
    let xh := s.rdX h
    let ctl := s.rdX c
    let cmd := s.copyCmd .coll ctl xh false false
    if xh.toNat % 64 ≠ 0 then s.fault .illegalOperand 0
    else if badCtl ctl then s.fault .illegalOperand 1
    else if cmd.geo[13].toNat % 8 ≠ 0 ∨ cmd.geo[14].toNat % 16 ≠ 0 then s.fault .illegalOperand 4
    else if s.badTag (ctlTag ctl) then s.fault .illegalOperand 1
    else s.queueCopy cmd (s.handleFoot (vaOf xh), s.handleFoot (vaOf xh)) (ctlTag ctl)

/-- CSIG (R196, R198). R185 does not say whether it names a completion word: here it names none, and cwa and sba are not looked at [log 48]. -/
def execCsig (g : BitVec 4) (h k : BitVec 6) (s : State) : Out :=
  s.when g fun s => s.whenQueue fun s =>
    let xh := s.rdX h
    let xk := s.rdX k
    if xh.toNat % 64 ≠ 0 then s.fault .illegalOperand 0
    else if 64 ≤ xk.toNat then s.fault .illegalOperand 1
    else s.queueCopy (s.copyCmd .csig xk xh false false) ([], []) none

end Sys2Proof.Machine
end

