-- ==== Sys2Proof/Machine/CopyEngine.lean ====
section
/-! DEFINITION. The copy engines at work: commands started, permits, granules, stage-barrier arrivals, queue entries, completion, and the landing of a CSIG (R174, R181, R182, R186 to R188, R191, R193 to R198, R279 to R282, R288). -/

namespace Sys2Proof.Machine

/-! ### Engines and commands -/

/-- Change a copy engine. -/
def State.modCe (s : State) (e : Bool) (f : CopyEngine → CopyEngine) : State := s.modT fun t => t.setCe e (f (t.ce e))

/-- The number of a copy engine among the core's engines, and as a source of packets (R324). -/
def ceNum (e : Bool) : Nat := if e then 3 else 2
def State.ceFlow (s : State) (e : Bool) : Nat := 2 * s.cur + (if e then 1 else 0)

/-- Where an access of a command stands (R303). -/
def CopyCmd.place (c : CopyCmd) (opnd elem : Nat) (wr : Bool) (va : VAddr) : EngPlace :=
  { eng := ceNum c.ce, seq := c.seq, slot := c.slot, opnd, elem := elem % 65536, wr, bundle := c.bundle, image := c.image, va }

/-- The ordinal n of the unit at which the walk stands; of a row transform, the destination elements before its row (R181). -/
def CopyRun.ordinal (r : CopyRun) : Nat :=
  let x := r.cmd.tile
  if x.rowwise then (if x.writeLen = 0 then 0 else r.pos / x.writeLen * x.e0) else r.pos - r.skipped

/-- The running command has made its last access, or failed: it is in flight, and the engine may go on (R174). -/
def State.retireRun (s : State) (e : Bool) (r : CopyRun) (st : Status) : State :=
  s.modCe e fun q => { q with run := none, flight := q.flight ++ [{ run := { r with asked := none, missing := none }, status := st }] }

/-- The traffic class of a command's own READs: collective for what a COLL or a CSIG reads of its handle, else copy (R289, R323). -/
def CopyKind.readClass (k : CopyKind) : Nat := if k.isCopy then 0 else 2

/-- A failed access: a miss pauses the command at its granule, a refusal ends it, a line of another package is asked for (R193). -/
def State.copyFailed (s : State) (e : Bool) (r : CopyRun) (f : EngFail) (p : EngPlace) : Option State :=
  match f with
  | .miss => (s.engMiss p r.missing).map fun z => z.1.modCe e fun q => { q with run := some { r with missing := some z.2 } }
  | .ends st => some ((s.engEndRec p st).retireRun e r st)
  | .ask pkg key pa =>
    let tc := r.cmd.kind.readClass
    (s.askLine (s.ceFlow e) tc s.core.t.id.asid pkg key pa).map fun s1 =>
      s1.modCe e fun q => { q with run := some { r with missing := none, fetched := r.fetched ++ [s.fetchOf (s.ceFlow e) tc pkg pa] } }
  | .wait => none

/-! ### The walk (R181, R182, R186, R187, R280) -/

/-- Indices of dimensions 1 to 3 of row v of a walk. -/
def Tile.rowIdx (x : Tile) (v : Nat) : Nat × Nat × Nat := (v % x.e1, v / x.e1 % x.e2, v / (x.e1 * x.e2))

/-- The address of a side at dimension indices, from base b (R181): `j1` stands for i1 on CPYX's indexed side. -/
def sideAddr (b : VAddr) (st : Vector Int 4) (i0 j1 i2 i3 : Nat) : VAddr :=
  b + BitVec.ofInt 55 ((i0 : Int) * st[0] + (j1 : Int) * st[1] + (i2 : Int) * st[2] + (i3 : Int) * st[3])

/-- The destination of a unit (R181, R187): CPYW's tile i3 wraps at the ring's slots, or lies in its queue entry's payload. -/
def CopyRun.dest (r : CopyRun) (i0 j1 i2 i3 : Nat) : VAddr :=
  let c := r.cmd
  let x := c.tile
  if c.queued then sideAddr (BitVec.ofNat 55 (((r.entry.map (·.2)).getD 0) + 8) + x.db) x.ds i0 j1 i2 0
  else if c.counted && decide (c.ringSlots ≠ 0) then sideAddr x.db x.ds i0 j1 i2 (i3 % c.ringSlots)
  else sideAddr x.db x.ds i0 j1 i2 i3

/-- Why a unit of the walk cannot be read: the failed access, its operand in a record, and its ordinal. -/
structure CopyFail where
  fail : EngFail
  va : VAddr
  opnd : Nat
  elem : Nat

/-- The indices that dimension 1 uses on the source and on the destination; none for a row that the table skips (R186). -/
def State.rowSides (s : State) (r : CopyRun) (i1 n : Nat) : Except CopyFail (Option (Nat × Nat)) :=
  match r.cmd.kind with
  | .cpyx sc =>
    match s.rdSpan 2 r.fetched (vaOf (r.cmd.opr + BitVec.ofNat 64 (4 * i1))) 4 with
    | .error (f, va) => .error { fail := f, va, opnd := 2, elem := n }
    | .ok bs => .ok (if leNat bs = 0xFFFF_FFFF then none else some (if sc then (i1, leNat bs) else (leNat bs, i1)))
  | _ => .ok (some (i1, i1))

/-- Some of a row's bytes, as a transform or a plain copy makes them. -/
structure Granule where
  /-- destination addresses and bytes, in traversal order -/
  pieces : List (VAddr × List Byte)
  /-- where the walk stands after them -/
  pos : Nat
  skipped : Nat
  sats : Nat
  census : Nat
  /-- the lines read for them, last first -/
  reads : List (VAddr × Nat)

/-- One more read, if it is not of the line read last. -/
def Granule.read (g : Granule) (a : VAddr) (n : Nat) : List (VAddr × Nat) :=
  match g.reads with
  | [] => [(a, n)]
  | q :: r => if q.1.toNat / 64 = a.toNat / 64 ∧ a.toNat % 64 + n ≤ 64 then q :: r else (a, n) :: q :: r

def Granule.bytes (g : Granule) : Nat := (g.pieces.map fun p => p.2.length).sum

/-- The granule may take a piece at an address: the same aligned 64-byte line, and at most 64 bytes (R280). -/
def Granule.takes (g : Granule) (a : VAddr) (n : Nat) : Bool :=
  match g.pieces with
  | [] => true
  | p :: _ => decide (p.1.toNat / 64 = a.toNat / 64) && decide (g.bytes + n ≤ 64)

/-- One element of a plain or shift-down walk: its destination bytes, and whether it saturated, with its headroom (R99, R104, R107, R181). -/
def State.convert (s : State) (r : CopyRun) (n : Nat) (bs : List Byte) : List Byte × Nat × Nat :=
  let x := r.cmd.tile
  if x.xf = 3 then
    let y := sd (sgn (8 * x.z) (leNat bs)) x.k x.mode (rnd s.core.t.sys.srseed r.cmd.srctr (n % 65536))
    let q := satS (8 * x.zd) y
    (leBytes x.zd (pat (8 * x.zd) q), if q ≠ y then 1 else 0, headroom (8 * x.zd) false q)
  else (bs, 0, 63)

/-- The walk must stop before a step: its end, or for CPYW the end of a tile (R187). -/
def CopyRun.stopsAt (r : CopyRun) (u : Nat) : Bool :=
  decide (r.cmd.tile.total ≤ u) || (decide (r.cmd.kind = .cpyw) && decide (u ≠ r.pos) && decide (u % r.cmd.tile.perTile = 0))

/-- Gather elements from where the granule stands (R181, R280). -/
def State.gatherElems (fuel : Nat) (s : State) (r : CopyRun) (g : Granule) : Except CopyFail Granule :=
  match fuel with
  | 0 => .ok g
  | k + 1 =>
    let x := r.cmd.tile
    if r.stopsAt g.pos then .ok g
    else
      let i := x.rowIdx (g.pos / x.e0)
      let n := g.pos - g.skipped
      match s.rowSides r i.1 n with
      | .error e => .error e
      | .ok none => s.gatherElems k r { g with pos := (g.pos / x.e0 + 1) * x.e0, skipped := g.skipped + (x.e0 - g.pos % x.e0) }
      | .ok (some (js, jd)) =>
        let da := r.dest (g.pos % x.e0) jd i.2.1 i.2.2
        if g.takes da x.zd = false then .ok g
        else
          let sa := sideAddr x.sb x.ss (g.pos % x.e0) js i.2.1 i.2.2
          let got := match r.held with
            | some b => Except.ok ((b.drop (g.pos * x.z)).take x.z)
            | none => s.rdSpan 2 r.fetched sa x.z
          match got with
          | .error (f, va) => .error { fail := f, va, opnd := 0, elem := n }
          | .ok bs =>
            let q := s.convert r n bs
            s.gatherElems k r { g with pieces := g.pieces ++ [(da, q.1)], pos := g.pos + 1, sats := g.sats + q.2.1, census := min g.census q.2.2,
                                       reads := g.read sa x.z }

/-- INT4 unpack of a row (R182). -/
def unpackRow (e0 : Nat) (bs : List Byte) : List Byte :=
  let v := leNat bs
  (List.range e0).map fun j => BitVec.ofInt 8 (sgn 4 (v / 2 ^ (4 * j)))

/-- The nibbles of a 2:4 row's metadata (R182). -/
def nibbles (x : Tile) (bs : List Byte) : List Nat :=
  let m := leNat (bs.drop (x.e0 / 2 * x.z))
  (List.range (x.e0 / 4)).map fun g => m / 2 ^ (4 * g) % 16

/-- A nibble whose first position is not below the second (R182, R188). -/
def badNibble (n : Nat) : Bool := decide (n / 4 ≤ n % 4)

/-- 2:4 expand of a row (R182). -/
def expandRow (x : Tile) (bs : List Byte) : List Byte :=
  let ns := nibbles x bs
  let val (i : Nat) : List Byte := (bs.drop (i * x.z)).take x.z
  ((List.range x.e0).map fun j =>
    let nb := ns.getD (j / 4) 0
    if j % 4 = nb % 4 then val (2 * (j / 4)) else if j % 4 = nb / 4 then val (2 * (j / 4) + 1) else List.replicate x.z 0).flatten

/-- The destination bytes of a row of a transform (R182); a bad nibble ends the command FORMAT as its row is read (R188). -/
def State.rowBytes (s : State) (r : CopyRun) (sa : VAddr) (n : Nat) : Except CopyFail (List Byte) :=
  let x := r.cmd.tile
  match s.rdSpan (spanFuel x.readLen) r.fetched sa x.readLen with
  | .error (f, va) => .error { fail := f, va, opnd := 0, elem := n }
  | .ok bs =>
    if x.xf = 2 then .ok (unpackRow x.e0 bs)
    else if (nibbles x bs).any badNibble then .error { fail := .ends .format, va := sa, opnd := 0, elem := n }
    else .ok (expandRow x bs)

/-- Gather bytes of rows from where the granule stands (R182, R280). -/
def State.gatherRows (fuel : Nat) (s : State) (r : CopyRun) (g : Granule) : Except CopyFail Granule :=
  match fuel with
  | 0 => .ok g
  | k + 1 =>
    let x := r.cmd.tile
    let w := x.writeLen
    if r.stopsAt g.pos then .ok g
    else
      let i := x.rowIdx (g.pos / w)
      let n := g.pos / w * x.e0
      match s.rowSides r i.1 n with
      | .error e => .error e
      | .ok none => s.gatherRows k r { g with pos := (g.pos / w + 1) * w, skipped := g.skipped + (w - g.pos % w) }
      | .ok (some (js, jd)) =>
        let b := g.pos % w
        let da := r.dest 0 jd i.2.1 i.2.2 + BitVec.ofNat 55 b
        let m := min (min (w - b) (64 - da.toNat % 64)) (64 - g.bytes)
        if m = 0 ∨ g.takes da m = false then .ok g
        else
          match s.rowBytes r (sideAddr x.sb x.ss 0 js i.2.1 i.2.2) n with
          | .error e => .error e
          | .ok bs =>
            let sa := sideAddr x.sb x.ss 0 js i.2.1 i.2.2
            s.gatherRows k r { g with pieces := g.pieces ++ [(da, (bs.drop b).take m)], pos := g.pos + m, reads := g.read sa x.readLen }

/-- The next granule of a command (R280). -/
def State.granule (s : State) (r : CopyRun) : Except CopyFail Granule :=
  let x := r.cmd.tile
  let g : Granule := { pieces := [], pos := r.pos, skipped := r.skipped, sats := 0, census := 63, reads := [] }
  let fuel := 128 + x.e1 * x.e2 * x.e3
  if x.rowwise then s.gatherRows fuel r g else s.gatherElems fuel r g

/-! ### Writing a granule (R186, R206, R280, R282) -/

/-- Pieces that follow one another in memory as one (R280). -/
def joinPieces (ps : List (VAddr × List Byte)) : List (VAddr × List Byte) :=
  ps.foldr (fun p acc =>
    match acc with
    | (a, bs) :: r => if p.1 + BitVec.ofNat 55 p.2.length = a then (p.1, p.2 ++ bs) :: r else p :: acc
    | [] => [p]) []

/-- Write pieces at their homes, for the engine that runs the command. -/
def State.writePieces (s : State) (e : Bool) (seq : Nat) (pos : Option (Nat × Nat)) (ps : List (VAddr × List Byte)) : Except (EngFail × VAddr) State :=
  match ps with
  | [] => .ok s
  | p :: r =>
    match s.wrSpan 2 (s.ceFlow e) (some (.engine s.core.t.id (ceNum e) seq)) pos p.1 p.2 with
    | .error x => .error x
    | .ok s1 => s1.writePieces e seq pos r

/-- The cores whose windows a command writes; none for any other destination (R186). -/
def State.targets (s : State) (c : CopyCmd) : Option (List Nat) :=
  match c.kind with
  | .cpym => some (targetsOf c.geo[12] (coreDie s.cur))
  | _ => none

/-- An address of the own window as the same offset of core n's window (R186). -/
def State.atTarget (s : State) (n : Nat) (a : VAddr) : VAddr :=
  match s.ownOffset a with
  | some off => apertureAddr n off
  | none => 0x7F_FFFF_FFFF_FFFF

/-- Write a granule at every target. -/
def State.writeTargets (s : State) (e : Bool) (seq : Nat) (pos : Option (Nat × Nat)) (ts : List Nat) (ps : List (VAddr × List Byte)) : Except (EngFail × VAddr) State :=
  match ts with
  | [] => .ok s
  | n :: r =>
    match s.writePieces e seq pos (ps.map fun p => (s.atTarget n p.1, p.2)) with
    | .error x => .error x
    | .ok s1 => s1.writeTargets e seq pos r ps

/-- The barriers that a command is bound to, in the cores that its context's core map allows: core and offset (R186, R205, R235, R282). -/
def State.barriersOf (s : State) (c : CopyCmd) : List (Nat × Nat) :=
  if c.geo[14] = 0 then []
  else
    (match s.scratchAt (vaOf c.geo[14]), s.targets c with
    | some (_, off), some ts => ts.map fun n => (n, off)
    | some b, none => [b]
    | none, _ => []).filter fun b => decide (b.1 = s.cur) || s.coreAllowed s.core.t.id.asid b.1

/-- The queue of a CPYW, if its block is live (R187, R209). -/
def State.queueOf (s : State) (c : CopyCmd) : Option Queue := s.liveQueue s.core.t.id.asid (permAddr c.geo[15] &&& ~~~(63 : VAddr))

/-- A command whose stage barrier does not lie in its destination core's window, which for a queue is its ring's (R187, R205). -/
def State.badBarrier (s : State) (c : CopyCmd) : Bool :=
  if c.geo[14] = 0 then false
  else
    match s.scratchAt (vaOf c.geo[14]) with
    | none => true
    | some (n, _) =>
      if c.kind = .cpym then decide (n ≠ s.cur)
      else if c.queued then decide (((s.queueOf c).bind fun q => (s.scratchAt (BitVec.ofNat 55 q.base)).map (·.1)) ≠ some n)
      else decide ((s.scratchAt c.tile.db).map (·.1) ≠ some n)

/-- n bytes arrive at the command's barriers; answers whether some arrival was cut (R206, R282). -/
def State.arrive (s : State) (bs : List (Nat × Nat)) (n : Nat) : State × Bool :=
  bs.foldl (fun q b => let a := (q.1.barrierAt b.1 b.2).arrive n
                       (q.1.setBarrier b.1 b.2 a.1, q.2 || a.2)) (s, false)

/-- The bytes from the first payload byte to the end of a tile in a queue entry (R187, R189). -/
def Tile.payload (x : Tile) : Int × Int := let r := x.reach x.ds 1 x.writeLen 3
                                           (x.db.toNat + r.1, x.db.toNat + r.2)

/-- The push of the entry under way releases the queue, and is performed once every byte of the tile and every store released is (R187, R242); until then the run waits. -/
def State.pushTile (s : State) (e : Bool) (r : CopyRun) : State × CopyRun :=
  match r.entry, s.queueOf r.cmd with
  | some (seq, _), some q =>
    let s1 := s.release (objRef 1 q.block.toNat)
    if s1.owns (.engine s.core.t.id (ceNum e) r.cmd.seq) || s1.writesDue || s1.writesStuck then (s1, { r with headed := true })
    else (s1.perform q seq, { r with entry := none, headed := false })
  | _, _ => (s, { r with entry := none, headed := false })

/-- A tile's last byte is written: its permit is used, its queue entry receives its header and is pushed (R187). -/
def State.endTile (s : State) (e : Bool) (r : CopyRun) : Except (EngFail × VAddr) (State × CopyRun) :=
  match r.cmd.queued, r.entry with
  | true, some (seq, slot) =>
    match s.writePieces e r.cmd.seq none [(BitVec.ofNat 55 slot, slotHeader seq r.cmd.tile.payload.2.toNat)] with
    | .error x => .error x
    | .ok s1 => .ok (s1.pushTile e r)
  | _, _ => .ok (s, { r with permit := false })

/-- The walk goes on, or, after its last unit, the command is in flight (R174). -/
def State.goOn (s : State) (e : Bool) (r : CopyRun) : State :=
  if r.headed = false ∧ r.cmd.tile.total ≤ r.pos then s.retireRun e r (if r.overrun then .overrun else .ok)
  else s.modCe e fun q => { q with run := some { r with missing := none } }

/-- The granule is written at its bank, its arrivals are counted, and the walk stands after it; the last one puts the command in flight (R174, R193, R280, R282). -/
def State.writeGranule (s : State) (e : Bool) (r : CopyRun) (g : Granule) : Except (EngFail × VAddr) State :=
  let ps := joinPieces g.pieces
  match (match s.targets r.cmd with
    | some ts => s.writeTargets e r.cmd.seq (some (r.pos, r.skipped)) ts ps
    | none => s.writePieces e r.cmd.seq (some (r.pos, r.skipped)) ps) with
  | .error x => .error x
  | .ok s1 =>
    let a := if g.bytes = 0 then (s1, false) else s1.arrive (s1.barriersOf r.cmd) g.bytes
    let r1 := { r with pos := g.pos, skipped := g.skipped, sats := r.sats + g.sats, census := min r.census g.census, overrun := r.overrun || a.2,
                       fetched := r.fetched.filter fun f => f.data.isNone }
    let x := r.cmd.tile
    match (if r.cmd.kind = .cpyw ∧ g.pos % x.perTile = 0 then a.1.endTile e r1 else .ok (a.1, r1)) with
    | .error y => .error y
    | .ok (s2, r2) => .ok (s2.goOn e r2)

/-- The engine may make an access: the command waits for no verdict on a page (R193, R299). -/
def CopyRun.ready (r : CopyRun) : Bool := !waitsVerdict r.missing

/-- The command needs a permit, or a queue entry, before its next tile (R187, R281). -/
def CopyRun.needsPermit (r : CopyRun) : Bool := r.cmd.counted && !r.permit
def CopyRun.needsEntry (r : CopyRun) : Bool := r.cmd.queued && r.entry.isNone

/-- Take the queue entry of the next tile (R187, R210): the run with it, or how the command ends. -/
def State.takeEntry (s : State) (r : CopyRun) : Except Status (State × CopyRun) :=
  match s.queueOf r.cmd with
  | none => .error .format
  | some q =>
    if s.serves q = false then .error .scope
    else
      match s.reserve q with
      | none => .error .quota
      | some (s1, e) => .ok (s1, { r with entry := some (e.seq, e.slot) })

/-- One granule of the running command (R280); an eclipse ends it at this boundary (R195). -/
def State.copyStep (s : State) (e : Bool) : Option State :=
  match (s.core.t.ce e).run with
  | none => none
  | some r =>
    if !r.cmd.kind.isCopy then none
    else if s.core.eclipsing then some (s.retireRun e r .eclipsed)
    else if !r.ready || s.core.saving then none
    else if r.headed then
      let q := s.pushTile e r
      if q.2.headed && decide (q.1.core.l1 = s.core.l1) then none else some (q.1.goOn e q.2)
    else if r.needsPermit || decide (r.held = some []) then none
    else
      match (if r.needsEntry then s.takeEntry r else .ok (s, r)) with
      | .error st => some (s.retireRun e r st)
      | .ok (s1, r1) =>
        match s1.granule r1 with
        | .error x => (s1.modCe e fun q => { q with run := some r1 }).copyFailed e r1 x.fail (r1.cmd.place x.opnd x.elem false x.va)
        | .ok g =>
          match (s1.touchAll g.reads).writeGranule e r1 g with
          | .error (f, va) => (s1.modCe e fun q => { q with run := some r1 }).copyFailed e r1 f (r1.cmd.place 1 r1.ordinal true va)
          | .ok s2 => some s2

/-- COPY_GRANULE_WRITE (R280). -/
def execCopyGranuleWrite (c : Nat) (e : Bool) (s : State) : Out := s.atEngine c "COPY_GRANULE_WRITE" fun s => s.copyStep e

/-- The task's engine runs this command, which waits for a permit. -/
def TaskState.asksPermit (t : TaskState) (eng seq : Nat) : Bool :=
  ((t.ce (decide (eng = 3))).run.map fun r => decide (r.cmd.seq = seq) && r.needsPermit && r.ready).getD false

/-- The command of a parked request still waits for its permit: it has not ended, and no save or eclipse has withdrawn it; another package's request stays until it is granted (R281). -/
def State.wants (s : State) (q : PermitReq) : Bool :=
  match q.who with
  | .packet .. => true
  | .command task eng seq =>
    (s.liveCores.any fun n =>
      let c := s.getCore n
      decide (c.mode ≠ .idle) && decide (c.t.id = task) && !c.saving && !c.eclipsing && c.t.asksPermit eng seq) ||
    s.sched.saved.any fun v => v.ended && decide (v.task = task) && v.t.asksPermit eng seq

/-- The counter at a physical address gives one of its permits. -/
def State.takePermit (s : State) (key pa : Nat) : State :=
  ({ s with mem := s.mem.store key pa (leBytes 4 (leNat (s.mem.bytes key pa 4) - 1)) } : State).activate pa

/-- The request parked longest at a counter. -/
def State.firstAsker (s : State) (pa : Nat) : Option PermitReq := s.sched.permits.find? fun q => decide (q.pa = pa)

/-- Requests that are no longer wanted leave the counters' homes (R281). -/
def State.dropUnwanted (s : State) : State := s.modSched fun d => { d with permits := d.permits.filter s.wants }

/-- A request for a permit at a counter in this package: granted in arrival order, parked while the count is 0 or others wait (R187, R281). -/
def State.requestPermit (s : State) (e : Bool) (r : CopyRun) (l : Loc) : Option State :=
  let mine : PermitReq := { who := .command s.core.t.id (ceNum e) r.cmd.seq, pa := l.pa, key := l.key }
  let s1 := s.dropUnwanted
  if ((s1.firstAsker l.pa).map fun q => decide (q = mine)).getD true && decide (leNat (s.mem.bytes l.key l.pa 4) ≠ 0) then
    some (((s1.takePermit l.key l.pa).modSched fun d => { d with permits := d.permits.filter fun q => !decide (q = mine) }).modCe e fun q =>
      { q with run := some { r with permit := true, missing := none } })
  else if s1.sched.permits.contains mine then none
  else some (s1.modSched fun d => { d with permits := d.permits ++ [mine] })

/-- The waiting CPYW's request reaches the counter's home, and is granted or parked (R187, R281). To a counter of another package it goes as an ATOMIC that takes 1, which that home executes only once the count is not 0 [log 20]. -/
def State.askPermit (s : State) (e : Bool) : Option State :=
    match (s.core.t.ce e).run with
    | none => none
    | some r =>
      if !r.needsPermit || !r.ready || r.asked.isSome || s.core.saving || s.core.eclipsing then none
      else
        let a := permAddr r.cmd.geo[15]
        let asid := s.core.t.id.asid
        let at' := r.cmd.place 4 r.ordinal true a
        match s.xlate (some s.cur) asid a needRW with
        | .ok l =>
          match l.pkg with
          | none => if s.mem.poisoned l.pa 4 then s.copyFailed e r (.ends .poison) at' else (s.noteTlb asid a).requestPermit e r l
          | some p =>
            if s.fabric.lost.contains p then s.copyFailed e r (.ends .peerLost) at'
            else if s.flowFull (s.ceFlow e) p 1 then none
            else
              some ((s.send { type := 3, tc := 1, eng := s.ceFlow e, dst := p, asid, key := l.key, pa := l.pa, len := 0, op := 0, opnd := 2 ^ 32 - 1 }
                none none).modCe e fun q => { q with run := some { r with asked := some (p, (s.srcFlow (s.ceFlow e) p 1).next), missing := none } })
        | x => s.copyFailed e r x.engFail at'

/-! ### Starting a command (R174, R188, R191, R279, R288) -/

/-- The command's destination is not what its kind needs (R186, R187); a tile of no elements has the footprint that R189's sums give it (R176). -/
def State.badDest (s : State) (c : CopyCmd) : Bool :=
  let x := c.tile
  match c.kind with
  | .cpym =>
    let ts := targetsOf c.geo[12] (coreDie s.cur)
    (s.ownOffset x.db).isNone || decide (c.geo[12] = 0) || ts.any fun n => !(decide (n = s.cur) || s.coreAllowed s.core.t.id.asid n)
  | .cpyw =>
    if c.queued then
      match s.queueOf c with
      | none => true
      | some q => decide (x.payload.1 < 0) || decide ((16 * q.slot : Nat) - 8 < x.payload.2)
    else false
  | _ => false

/-- The move whose whole source is read first (R191). -/
def CopyCmd.memmove (c : CopyCmd) : Bool :=
  let x := c.tile
  decide (c.kind = .cpy) && decide (x.xf = 0 ∧ x.e1 = 1 ∧ x.e2 = 1 ∧ x.e3 = 1) && decide (x.ss[0] = x.z ∧ x.ds[0] = x.z)

def CopyKind.indexed (k : CopyKind) : Bool :=
  match k with
  | .cpyx _ => true
  | _ => false

/-- A copy command begins: FORMAT, empty, OVERLAP, or its walk (R176, R186 to R188, R191, R205). -/
def State.startCopy (s : State) (e : Bool) (c : CopyCmd) : Option State :=
  let r := c.begin
  let foot := s.copyFoot c
  let s1 := s.modCe e fun q => { q with run := some r }
  if c.badGeo || s.badDest c then some (s1.retireRun e r .format)
  else if c.tile.empty then some (s1.retireRun e r .ok)
  else if s.badBarrier c then some (s1.retireRun e r .format)
  else if !c.kind.indexed && meetAny (flatAll s.cur foot.1) (flatAll s.cur foot.2) then
    if c.memmove then some (s1.modCe e fun q => { q with run := some { r with held := some [] } })
    else some (s1.retireRun e r .overlap)
  else some s1

/-- The bytes of bucket k, from the first 24 bytes of a handle: where they start, and how many (R196, R198). -/
def bucketOf (bs : List Byte) (k : Nat) : Nat × Nat :=
  let bb := bitsOf (leNat (bs.drop 16)) 31 0
  ((leNat ((bs.drop 8).take 8) + k * bb) % 2 ^ 55, bb)

/-- A COLL or a CSIG is handed to the collective engine that its handle names, a COLL when that engine's queue has room (R174, R196, R288). -/
def State.handOn (s : State) (e : Bool) (r : CopyRun) : Option State :=
  match s.rdSpan 2 r.fetched (vaOf r.cmd.opr) 24 with
  | .error (f, va) => s.copyFailed e r f (r.cmd.place 4 0xFFFF false va)
  | .ok bs =>
    let n := bitsOf (leNat (bs.take 8)) 11 7
    let q := s.collOf n
    let c : CollCmd := { task := s.core.t.id, core := s.cur, eng := ceNum e, cmd := r.cmd }
    let s1 := (s.touchAll [(vaOf r.cmd.opr, 24)]).modCe e fun q => { q with run := none }
    if r.cmd.kind = .csig then
      let b := bucketOf bs r.cmd.ctl.toNat
      some (s1.setColl n { q with signals := q.signals ++ [{ cmd := c, lo := b.1, len := b.2, missing := none }] })
    else if 16 ≤ q.queue.length then none
    else some (s1.setColl n { q with queue := q.queue ++ [c] })

/-- Commands of the engine between start and completion (R174). -/
def TaskState.inFlight (t : TaskState) (e : Bool) : Nat := (t.haz.filter fun h => decide (h.eng = ceNum e)).length - (t.ce e).queue.length

/-- The head of the queue starts; a COLL or a CSIG is handed on; a move that overlaps reads its whole source before it writes; an eclipse ends every queued copy (R174, R191, R195, R279). -/
def State.copyStart (s : State) (e : Bool) : Option State :=
  let q := s.core.t.ce e
  if s.core.saving then none
  else
    match (if s.core.eclipsing then q.queue.find? fun c => c.kind.isCopy else none) with
    | some c => some ((s.modCe e fun q => { q with queue := q.queue.erase c }).modCe e fun q =>
        { q with flight := q.flight ++ [{ run := c.begin, status := .eclipsed }] })
    | none =>
      match q.run, q.queue with
      | none, c :: rest =>
        let s1 := s.modCe e fun q => { q with queue := rest }
        if s.core.t.blocked s.cur c.seq || decide (64 ≤ s.core.t.inFlight e) then none
        else
          if c.kind.isCopy then s1.startCopy e c
          else (s1.modCe e fun q => { q with run := some c.begin }).handOn e c.begin
      | some r, _ =>
        if !r.ready then none
        else if !r.cmd.kind.isCopy then s.handOn e r
        else if r.held = some [] ∧ s.core.eclipsing = false then
          let x := r.cmd.tile
          match s.rdSpan (spanFuel (x.e0 * x.z)) r.fetched x.sb (x.e0 * x.z) with
          | .error (f, va) => s.copyFailed e r f (r.cmd.place 0 ((va - x.sb).toNat / x.z) false va)
          | .ok bs => some ((s.touchAll [(x.sb, x.e0 * x.z)]).modCe e fun q => { q with run := some { r with held := some bs, missing := none } })
        else none
      | none, [] => none

/-- COPY_COMMAND_START (R174, R188). -/
def execCopyCommandStart (c : Nat) (e : Bool) (s : State) : Out := s.atEngine c "COPY_COMMAND_START" fun s => s.copyStart e

/-! ### Completion (R185, R193, R281, R282) -/

/-- The opcode of a command within class 0x9 (R173, R185). -/
def CopyKind.op (k : CopyKind) : BitVec 6 :=
  match k with
  | .cpy => 2 | .cpym => 3 | .cpyx _ => 4 | .cpyw => 5 | .coll => 7 | .csig => 8

/-- The completion word of a command (R175, R185). -/
def CopyCmd.word (c : CopyCmd) (st : Status) : Option (VAddr × Word) :=
  if c.geo[13] = 0 ∨ c.kind = .csig then none else some (vaOf c.geo[13], completionWord st c.kind.op (c.ctl.extractLsb' 16 32))

/-- The flight entry at place k changes. -/
def State.modFlight (s : State) (e : Bool) (k : Nat) (f : CopyFlight → CopyFlight) : State :=
  s.modCe e fun q => { q with flight := modNth q.flight k f }

/-- A permit that was granted for a tile not written goes back, before the command completes (R281); a miss on its counter pauses the completion, and any other failure loses the permit with a kind-4 record [log 47]. -/
def State.returnPermit (s : State) (e : Bool) (k : Nat) (c : CopyCmd) : Option State :=
  let a := permAddr c.geo[15]
  let asid := s.core.t.id.asid
  let p := c.place 4 0xFFFF true a
  let given (s : State) : State := s.modFlight e k fun f => { f with run := { f.run with permit := false } }
  match s.xlate (some s.cur) asid a needRW with
  | .ok l =>
    match l.pkg with
    | none =>
      if s.mem.poisoned l.pa 4 then some (given (s.addRec (s.engRec p 4 .poison)))
      else some (given ({ s with mem := s.mem.store l.key l.pa (leBytes 4 ((leNat (s.mem.bytes l.key l.pa 4) + 1) % 2 ^ 32)) } : State))
    | some q =>
      if s.fabric.lost.contains q then some (given s)
      else if s.flowFull (s.ceFlow e) q 1 then none
      else
        some (given (s.send { type := 5, tc := 1, eng := s.ceFlow e, dst := q, asid, key := l.key, pa := l.pa, len := 0, op := 11, opnd := 1 }
          (some (.engine s.core.t.id (ceNum e) c.seq)) none))
  | x =>
    match x.engFail with
    | .miss =>
      let before := (nth? (s.core.t.ce e).flight k).bind fun f => f.run.missing
      (s.engMiss p before).map fun z => z.1.modFlight e k fun f => { f with run := { f.run with missing := some z.2 } }
    | .ends st => some (given (s.addRec (s.engRec p 4 st)))
    | _ => none

/-- The barriers that count the completed command: those it is bound to (R186, R205, R282). -/
def State.barriersDone (s : State) (c : CopyCmd) : List (Nat × Nat) := if c.kind.isCopy && !(s.badBarrier c) then s.barriersOf c else []

/-- A command in flight completes once its packets are acknowledged and its permit is back: its word, then its barriers, counts and tag (R185, R281, R282, R325). -/
def State.copyDone (s : State) (e : Bool) (k : Nat) (late : Option Saved := none) : Option State :=
  match nth? (s.core.t.ce e).flight k with
  | none => none
  | some f =>
    let c := f.run.cmd
    let x := c.tile
    let shift := c.kind.isCopy && decide (x.xf = 3)
    if waitsVerdict f.run.missing || s.owns (.engine s.core.t.id (ceNum e) c.seq) then none
    else if f.run.permit then s.returnPermit e k c
    else
      (s.modCe e fun q => { q with flight := dropNth q.flight k }).endCommand
        { place := c.place 4 0xFFFF true 0, status := f.status, word := c.word f.status,
          closing := { seq := c.seq, slot := c.slot, tag := ctlTag c.ctl, ok := decide (f.status = .ok),
                       sats := if shift then [(x.t, f.run.sats)] else [], census := if shift then [(x.t, f.run.census)] else [],
                       bars := s.barriersDone c } } late

/-- COPY_COMMAND_COMPLETE: a command in flight of the task on core c, or of a task that has left it (R185, R231, R311). -/
def execCopyCommandComplete (c : Nat) (e : Bool) (k : Nat) (s : State) : Out :=
  s.atCore c "COPY_COMMAND_COMPLETE" fun s =>
    match s.copyDone e k with
    | some s1 => some s1
    | none => s.orSaved (fun v => !(v.t.ce e).flight.isEmpty) fun v s => s.copyDone e k (some v)

/-! ### CSIG lands (R198, R288) -/

/-- Two handles are the same place: one address, or one line at one home (R196, R278). -/
def State.sameHandle (s : State) (a b : VAddr) : Bool :=
  let asid := s.core.t.id.asid
  decide (a = b) || match s.xlate none asid a needR, s.xlate none asid b needR with
    | .ok l, .ok m => decide (l.pkg = m.pkg ∧ l.pa = m.pa)
    | _, _ => false

/-- The issue orders of the task's COLLs that read this handle, queued or handed on: a CSIG does not wait for those it signals (R198) [log 48]. -/
def State.collSeqs (s : State) (h : VAddr) : List Nat :=
  let id := s.core.t.id
  let ours (c : CopyCmd) : Bool := decide (c.kind = .coll) && s.sameHandle (vaOf c.opr) h
  let mine (e : Bool) : List CopyCmd := (s.core.t.ce e).queue ++ ((s.core.t.ce e).run.map (·.cmd)).toList
  let handed := (s.colls.toList.map fun q => ((q.queue ++ (q.run.map (·.cmd)).toList).filter fun c => decide (c.task = id)).map (·.cmd)).flatten
  ((mine false ++ mine true ++ handed).filter ours).map (·.seq)

/-- The 64 bits of `ready` are or'ed with bit k at their home, which tells the engine that runs the handle (R198, R288). -/
def State.setReady (s : State) (a : VAddr) (k : Nat) : Except EngFail State :=
  let asid := s.core.t.id.asid
  match s.xlate (some s.cur) asid a needRW with
  | .ok l =>
    match l.pkg with
    | none => if s.mem.poisoned l.pa 8 then .error (.ends .poison) else .ok ((s.noteTlb asid a).amoHome l.key l.pa 15 8 (2 ^ k) 0).1
    | some p =>
      if s.fabric.lost.contains p then .error (.ends .peerLost)
      else if s.flowFull s.netEng p 2 then .error .wait
      else .ok ((s.noteTlb asid a).send
        { type := 5, tc := 2, eng := s.netEng, dst := p, asid, key := l.key, pa := l.pa, len := 0, op := 15 + 16, opnd := 2 ^ k } none none)
  | x => .error x.engFail

/-- The collective engine no longer holds a CSIG. -/
def State.dropSignal (s : State) (n : Nat) (g : Signal) : State :=
  let q := s.collOf n
  s.setColl n { q with signals := q.signals.filter fun x => !decide (x.cmd.task = g.cmd.task ∧ x.cmd.cmd.seq = g.cmd.cmd.seq) }

/-- A CSIG of the task for which the core acts has ended (R198). -/
def State.endSignal (s : State) (n : Nat) (g : Signal) : State := (s.dropSignal n g).modT fun t => t.closeCommand g.cmd.cmd.seq none false

/-- What holds a CSIG up, changed. -/
def State.setSignal (s : State) (n : Nat) (g : Signal) (m : Option MissAt) : State :=
  let q := s.collOf n
  s.setColl n { q with signals := q.signals.map fun x => if x.cmd.task = g.cmd.task ∧ x.cmd.cmd.seq = g.cmd.cmd.seq then { x with missing := m } else x }

/-- The OR of a CSIG fails: a miss pauses it, a refusal ends it with its record (R193, R198). -/
def State.signalFailed (s : State) (n : Nat) (g : Signal) (f : EngFail) (va : VAddr) : Option State :=
  let p := g.cmd.cmd.place 4 0xFFFF true va
  let asid := s.core.t.id.asid
  match f with
  | .miss =>
    if s.pendingFull asid va then if g.missing = some (p.missAt true) then none else some (s.setSignal n g (some (p.missAt true)))
    else some ((s.missOn asid va (.signal g.cmd.task g.cmd.cmd.seq) (s.engRec p 1 .translation)).setSignal n g (some (p.missAt false)))
  | .ends st => some ((s.engEndRec p st).endSignal n g)
  | _ => none

/-- A CSIG lands: the commands before it that write the bucket have completed, the core's stores to the bucket are released and performed, and its ready bit is set (R198, R242). -/
def State.landSignal (s : State) (n : Nat) (g : Signal) : Option State :=
  let c := g.cmd.cmd
  let h := vaOf c.opr
  let bucket := flatAll s.cur (foot (BitVec.ofNat 55 g.lo) g.len)
  let colls := s.collSeqs h
  if waitsVerdict g.missing then none
  else if s.core.t.haz.any fun x => decide (x.seq < c.seq) && !(colls.contains x.seq) && meetAny (flatAll s.cur x.writes) bucket then none
  else
    let s1 := s.writeBack (fun l => decide (64 * l.va < g.lo + g.len) && decide (g.lo < 64 * l.va + 64)) false
    if s1.writesDue || s1.writesStuck then if s1.core.l1 = s.core.l1 then none else some s1
    else
      match s1.setReady (h + 40) c.ctl.toNat with
      | .error f => s.signalFailed n g f (h + 40)
      | .ok s2 =>
        let s3 := s2.endSignal n g
        match s1.xlate (some s.cur) s.core.t.id.asid (h + 40) needRW with
        | .ok l => some (if l.pkg.isSome then s3 else s3.tickHandle l.pa)
        | _ => some s3

/-- The CSIGs that a core's copy engine issued and that collective engines hold, with their engines. -/
def State.signalsOf (s : State) (core eng : Nat) : List (Nat × Signal) :=
  (List.range 32).flatMap fun n => ((s.collOf n).signals.filter fun g => decide (g.cmd.core = core ∧ g.cmd.eng = eng)).map fun g => (n, g)

/-- READY_BIT_SET: a CSIG that came by engine e of core c lands (R198, R288). -/
def execReadyBitSet (c : Nat) (e : Bool) (s : State) : Out :=
  enabledOr "READY_BIT_SET" ((s.signalsOf c (ceNum e)).findSome? fun q => s.asTask q.2.cmd.task c fun s => s.landSignal q.1 q.2)

end Sys2Proof.Machine
end

