-- ==== Sys2Proof/Machine/Atomics.lean ====
section
/-! DEFINITION. Atomics and non-returning reductions: class 0xC (R212 to R215). -/

namespace Sys2Proof.Machine

/-- The bytes of a size code (R41). -/
def amoBytes (z : BitVec 2) : Nat :=
  match z.toNat with
  | 0 => 4 | 1 => 8 | _ => 16

/-- An atomic at its home in this package, past every L1 (R212, R213, R215): the state after it, and old m; or where it is in another package. -/
inductive AmoPlace where
  | done (s : State) (old : Nat)
  | remote (l : Loc) (pkg : Nat)
  | fails (e : AccErr)

/-- Translate an atomic's address and, for a home here, perform it (R212, R215). -/
def State.amo (s : State) (va : VAddr) (op bytes v c : Nat) : AmoPlace :=
  let asid := s.core.t.id.asid
  match s.xlate (some s.cur) asid va needRW with
  | .ok l =>
    match l.pkg with
    | none =>
      if s.mem.poisoned l.pa bytes then .fails (.exc (s.accExc .poison 1 va 0xFFFF true none))
      else
        let q := (s.noteTlb asid va).amoHome l.key l.pa op bytes v c
        .done (q.1.modCore fun c => c.dropClean l bytes) q.2
    | some p =>
      if s.fabric.lost.contains p then .fails (.exc (s.lostExc 1 va 0xFFFF true))
      else .remote l p
  | x => .fails (.exc (s.xlExc x 1 va 0xFFFF true))

/-- The ATOMIC packet of an operation; a comparand travels in its payload [log 20] (R323). -/
def State.amoPacket (s : State) (l : Loc) (pkg op : Nat) (z : BitVec 2) (v c : Nat) : PacketSpec :=
  { type := 3, tc := 1, eng := s.netEng, dst := pkg, asid := s.core.t.id.asid, key := l.key, pa := l.pa, len := if op = 9 then 16 else 0,
    op := op + z.toNat * 16, opnd := v, payload := if op = 9 then leBytes 16 c else [] }

/-- The physical place of an address of the running task: package and address. -/
def State.placeAt (s : State) (va : VAddr) : Option (Option Nat × Nat) :=
  match s.xlate (some s.cur) s.core.t.id.asid va needRW with
  | .ok l => some (l.pkg, l.pa)
  | _ => none

/-- The physical place of a reduction: package and address. -/
def State.placeOfRed (s : State) (r : Red) : Option (Option Nat × Nat) :=
  match s.xlate (some s.cur) r.task.asid r.va needRW with
  | .ok l => some (l.pkg, l.pa)
  | _ => none

/-- A reduction and n bytes that an access of a context names share a byte, as far as can be told. -/
def State.redMeets (s : State) (r : Red) (asid : Nat) (va : VAddr) (n : Nat) (at' : Option (Option Nat × Nat)) : Bool :=
  match s.placeOfRed r, at' with
  | some p, some q => decide (p.1 = q.1 ∧ p.2 < q.2 + n ∧ q.2 < p.2 + r.size)
  | _, _ => decide (r.task.asid = asid ∧ r.va.toNat < va.toNat + n ∧ va.toNat < r.va.toNat + r.size)

/-- Some reduction of the core to one of n bytes at an address has retired and is not translated yet, or is parked: a returning atomic to them comes after it (R213, R308). -/
def State.redsTo (s : State) (va : VAddr) (n : Nat) : Bool :=
  (s.core.reds ++ s.xlat.parked.filter fun r => decide (r.core = s.cur)).any fun r => s.redMeets r s.core.t.id.asid va n (s.placeAt va)

/-- The oldest reduction at the network interface cannot leave it: the store is full, or its flow is (R308, R324). -/
def State.redsStuck (s : State) : Bool :=
  match s.core.reds.head? with
  | none => false
  | some r => decide (8192 ≤ s.xlat.parked.length) ||
      match s.placeAt r.va with
      | some (some p, _) => s.flowFull s.netEng p 1 && !(s.fabric.lost.contains p)
      | _ => false

/-- A returning atomic: old m comes back scoreboarded, sign-extended for 4 bytes (R59, R212, R215). -/
def State.atomic (s : State) (g : BitVec 4) (op : Nat) (z : BitVec 2) (d a b : BitVec 6) : Out :=
  s.when g fun s =>
    let bytes := amoBytes z
    let va := vaOf (s.rdX a)
    let v := if bytes = 16 then (s.rdPair b).toNat else (s.rdX b).toNat
    let c := if bytes = 16 then (s.rdPair d).toNat else (s.rdX d).toNat
    let e := s.accExc .none 1 va 0xFFFF true none
    let far (s : State) (old : Nat) : State :=
      s.addFar (if bytes = 16 then .pair d (BitVec.ofNat 128 old) else .x d (BitVec.ofNat 64 old)) e (if bytes = 4 then 32 else 0)
    if (s.rdX a).toNat % bytes ≠ 0 then s.faultAt .misaligned 1 va
    else if s.redsTo va bytes then s.hold
    else
      match s.amo va op bytes v c with
      | .fails x => s.accFail x
      | .done s1 old => far s1 old
      | .remote l p =>
        match s.askFor (s.amoPacket l p op z v c) (s.accExc .poison 1 va 0xFFFF true none) with
        | .error x => s.accFail x
        | .ok (bs, s1) => far (s1.modCore fun k => k.dropClean l bytes) (leNat (bs.take bytes))

/-- A reduction retires at issue: only its alignment can fault; it waits at the network interface to be translated (R215). While the oldest one that waits there cannot leave, it stalls (R308, R324). -/
def State.reduction (s : State) (g : BitVec 4) (op : Nat) (z : BitVec 2) (a b : BitVec 6) : Out :=
  s.when g fun s =>
    let bytes := amoBytes z
    let va := vaOf (s.rdX a)
    let id := s.core.t.id
    if (s.rdX a).toNat % bytes ≠ 0 then s.faultAt .misaligned 1 va
    else if s.redsStuck then s.hold
    else
      let r : Red := { task := id, op, size := bytes, va, operand := s.rdX b, core := s.cur, bundle := s.core.bundle.header, image := s.core.lit.image }
      (s.modCore fun q => { q with reds := q.reds ++ [r] }).modRec id.asid id.record fun q => { q with reds := q.reds + 1 }

/-- AADD (R212). -/
def execAadd (g : BitVec 4) (z : BitVec 2) (d a b : BitVec 6) (s : State) : Out := s.atomic g 0 z d a b
/-- AMIN (R212). -/
def execAmin (g : BitVec 4) (z : BitVec 2) (d a b : BitVec 6) (s : State) : Out := s.atomic g 1 z d a b
/-- AMAX (R212). -/
def execAmax (g : BitVec 4) (z : BitVec 2) (d a b : BitVec 6) (s : State) : Out := s.atomic g 2 z d a b
/-- AMINU (R212). -/
def execAminu (g : BitVec 4) (z : BitVec 2) (d a b : BitVec 6) (s : State) : Out := s.atomic g 3 z d a b
/-- AMAXU (R212). -/
def execAmaxu (g : BitVec 4) (z : BitVec 2) (d a b : BitVec 6) (s : State) : Out := s.atomic g 4 z d a b
/-- AAND (R212). -/
def execAand (g : BitVec 4) (z : BitVec 2) (d a b : BitVec 6) (s : State) : Out := s.atomic g 5 z d a b
/-- AOR (R212). -/
def execAor (g : BitVec 4) (z : BitVec 2) (d a b : BitVec 6) (s : State) : Out := s.atomic g 6 z d a b
/-- AXOR (R212). -/
def execAxor (g : BitVec 4) (z : BitVec 2) (d a b : BitVec 6) (s : State) : Out := s.atomic g 7 z d a b
/-- ASWAP (R212). -/
def execAswap (g : BitVec 4) (z : BitVec 2) (d a b : BitVec 6) (s : State) : Out := s.atomic g 8 z d a b
/-- ACAS (R212). -/
def execAcas (g : BitVec 4) (z : BitVec 2) (d a b : BitVec 6) (s : State) : Out := s.atomic g 9 z d a b
/-- AADDS (R212). -/
def execAadds (g : BitVec 4) (z : BitVec 2) (d a b : BitVec 6) (s : State) : Out := s.atomic g 10 z d a b
/-- REDADD (R212, R215). -/
def execRedadd (g : BitVec 4) (z : BitVec 2) (a b : BitVec 6) (s : State) : Out := s.reduction g 11 z a b
/-- REDMIN (R212, R215). -/
def execRedmin (g : BitVec 4) (z : BitVec 2) (a b : BitVec 6) (s : State) : Out := s.reduction g 12 z a b
/-- REDMAX (R212, R215). -/
def execRedmax (g : BitVec 4) (z : BitVec 2) (a b : BitVec 6) (s : State) : Out := s.reduction g 13 z a b
/-- REDADDS (R212, R215). -/
def execRedadds (g : BitVec 4) (z : BitVec 2) (a b : BitVec 6) (s : State) : Out := s.reduction g 14 z a b
/-- REDOR (R212, R215). -/
def execRedor (g : BitVec 4) (z : BitVec 2) (a b : BitVec 6) (s : State) : Out := s.reduction g 15 z a b

end Sys2Proof.Machine
end

