-- ==== Sys2Proof/Machine/Sync.lean ====
section
/-! DEFINITION. Objects, bindings, fences, local waits, stage and domain barriers, queues and mailboxes: class 0xA (R92, R199 to R211). -/

namespace Sys2Proof.Machine

/-! ### Memory objects (R200, R201, R203) -/

/-- Bits of an object reference (R200). -/
def objKind (o : Word) : Nat := bitsOf o.toNat 63 60
def objId (o : Word) : Nat := bitsOf o.toNat 54 0

/-- The checks of ACQ and REL on their object, then the effect (R201). -/
def State.memObject (s : State) (o : Word) (f : State → State) : State :=
  if o.toNat / 2 ^ 55 ≠ 0 then s.fault .illegalOperand 1
  else if objId o % 16 ≠ 0 then s.faultAt .misaligned 1 (vaOf o)
  else f s

/-- ACQ: the generation as its home has it, then the object is acquired (R200, R201). -/
def execAcq (g : BitVec 4) (d a : BitVec 6) (s : State) : Out :=
  s.when g fun s =>
    let o := s.rdX a
    s.memObject o fun s =>
      match s.homeRead (vaOf o) 8 1 0 with
      | .error e => s.accFail e
      | .ok (bs, s1) => State.afterFlush (s1.acquire o) fun s => s.deliverFar d (BitVec.ofNat 64 (leNat bs)) (vaOf o)

/-- REL: the object is released, and once its stores are performed its generation rises by 1 at its home (R200, R201, R242). -/
def execRel (g : BitVec 4) (d a : BitVec 6) (s : State) : Out :=
  s.when g fun s =>
    let o := s.rdX a
    s.memObject o fun s =>
      let va := vaOf o
      match s.amo va 0 8 1 0 with
      | .fails e => s.accFail e
      | _ =>
        s.afterWrites (s.release o) fun s =>
          match s.amo va 0 8 1 0 with
          | .fails e => s.accFail e
          | .done s1 old => s1.deliverFar d (BitVec.ofNat 64 (old + 1)) va
          | .remote l p =>
            match s.askFor (s.amoPacket l p 0 1 1 0) (s.accExc .poison 1 va 0xFFFF true none) with
            | .error e => s.accFail e
            | .ok (bs, s1) => (s1.modCore fun k => k.dropClean l 8).deliverFar d (BitVec.ofNat 64 (leNat bs + 1)) va

/-- Something the core has asked for is still on its way: loads and atomics of other packages, reductions not yet translated, stores not yet acknowledged (R203). -/
def State.accessesDue (s : State) : Bool :=
  !s.core.reds.isEmpty ||
  s.fabric.sources.any fun f => decide (f.eng = s.netEng) && !f.descs.isEmpty

/-- FENCE: for k of 1 and above the L1 is written back and dropped; the bundle is held until the core's earlier accesses are performed (R203). -/
def execFence (g : BitVec 4) (k : BitVec 6) (s : State) : Out :=
  s.when g fun s =>
    let s1 := if k = 0 then s else s.flushL1
    if s1.accessesDue || (decide (k ≠ 0) && s1.writesStuck) then s1.hold else s1

/-- A synchronising load of 8 bytes: from the L1 where the line holds them, from another package only once its answer is there (R203, R240). -/
def State.syncLoad (s : State) (va : VAddr) : Except AccErr (List Byte × State) :=
  match s.xlate (some s.cur) s.core.t.id.asid va needR with
  | .ok l =>
    let held := (l1Find s.core.l1 l).any fun o => decide (o.present &&& maskBits (l.pa % 64) 8 = maskBits (l.pa % 64) 8)
    if l.pkg.isSome && !held then s.homeRead va 8 1 0 else (s.load va 8 1 0 0xFFFF).map fun q => (q.bytes, q.state)
  | x => .error (.exc (s.xlExc x 1 va 0xFFFF false))

/-- LDACQ: a load of 8 bytes, after which every line of the L1 is written back and dropped (R203). -/
def execLdacq (g : BitVec 4) (d a _k : BitVec 6) (s : State) : Out :=
  s.when g fun s =>
    let va := vaOf (s.rdX a)
    if (s.rdX a).toNat % 8 ≠ 0 then s.faultAt .misaligned 1 va
    else
      match s.syncLoad va with
      | .error e => s.accFail e
      | .ok (bs, s1) => State.afterFlush s1.flushL1 fun s => s.deliverFar d (BitVec.ofNat 64 (leNat bs)) va

/-- The bindings of the memory object that STREL's address names, if it can name one (R203) [log 25]. -/
def State.releasedBy (s : State) (x : Word) : List Binding := if x.toNat % 16 = 0 then s.boundTo (objRef 0 (vaOf x).toNat) else []

/-- STREL: earlier accesses performed at scope k, the memory object at the address released, then the store, which reaches its home (R203, R242) [log 25]. -/
def execStrel (g : BitVec 4) (t a k : BitVec 6) (s : State) : Out :=
  s.when g fun s =>
    let va := vaOf (s.rdX a)
    if (s.rdX a).toNat % 8 ≠ 0 then s.faultAt .misaligned 1 va
    else
      match s.store va (leBytes 8 (s.rdX t).toNat) 1 0xFFFF with
      | .error e => s.accFail e
      | .ok _ =>
        let s1 := if k = 0 then s else s.writeBack (fun _ => true) false
        let s2 := if (s.rdX a).toNat % 16 = 0 then s1.release (objRef 0 va.toNat) else s1
        if s2.accessesDue || s2.core.l1.any (fun l => (decide (k ≠ 0) || lineIn (s2.releasedBy (s.rdX a)) l) && s2.lineStuck l) then s2.hold
        else
          match s2.store va (leBytes 8 (s.rdX t).toNat) 1 0xFFFF with
          | .error e => s.accFail e
          | .ok s3 => s3.writeBack (fun l => decide (l.va = va.toNat / 64)) false

/-- The lines that meet [xa, xa + xl) (R203). -/
def lineMeets (a : VAddr) (n : Nat) (l : L1Line) : Bool := decide (64 * l.va < a.toNat + n) && decide (a.toNat < 64 * l.va + 64)

/-- INVR and WBR: scratchpad addresses apart (R203). -/
def State.range (s : State) (g : BitVec 4) (a b : BitVec 6) (drop : Bool) : Out :=
  s.when g fun s =>
    let n := (s.rdX b).toNat
    if 2 ^ 40 < n then s.fault .illegalOperand 2
    else if n = 0 then s
    else State.afterFlush (s.writeBack (fun l => lineMeets (vaOf (s.rdX a)) n l && !scratchpadVa (BitVec.ofNat 55 (64 * l.va))) drop) id

/-- INVR (R203). -/
def execInvr (g : BitVec 4) (a b : BitVec 6) (s : State) : Out := s.range g a b true
/-- WBR (R203). -/
def execWbr (g : BitVec 4) (a b : BitVec 6) (s : State) : Out := s.range g a b false

/-! ### Bindings (R202) -/

/-- An object reference that BIND refuses (R200, R202). -/
def badObject (o : Word) : Bool :=
  let id := objId o
  decide (bitsOf o.toNat 59 55 ≠ 0) ||
  match objKind o with
  | 0 => decide (id % 16 ≠ 0)
  | 1 => false
  | 2 => decide (2 ^ 13 ≤ id)
  | 3 => decide (id % 16 ≠ 0)
  | 4 => decide (4 ≤ id)
  | 5 => decide (64 ≤ id)
  | 6 => decide (id % 8 ≠ 0)
  | _ => true

/-- The object named, a queue without its cursor bits (R200). -/
def objectOf (o : Word) : Word := if objKind o = 1 then o &&& ~~~(63 : Word) else o

/-- Entry i of the context's region table in memory changes, 16 bytes under the context's key; the manual does not give their layout (R202, R257) [log 3, log 14]. -/
def State.regionEntry (s : State) (i : Nat) : State :=
  let asid := s.core.t.id.asid
  let pa := s.desc asid 16 8 % 2 ^ 52 + 16 * i
  if s.descOf asid = none ∨ s.physOk pa = false then s
  else ({ s with mem := s.mem.store (bitsOf (s.desc asid 0 8) 19 13) pa ((List.range 16).map fun k => Config.freeByte s.fresh k) } : State).activate pa

/-- BIND (R202). -/
def execBind (g : BitVec 4) (d a b : BitVec 6) (s : State) : Out :=
  s.when g fun s =>
    let o := s.rdX a
    let base := (s.rdX b).toNat % 2 ^ 55
    let w := (s.rdX (b + 1)).toNat
    let len := bitsOf w 39 0
    let mine := s.sched.bindings.filter fun q => decide (q.asid = s.core.t.id.asid)
    if badObject o then s.fault .illegalOperand 1
    else if base % 64 ≠ 0 ∨ len % 64 ≠ 0 ∨ len = 0 ∨ w / 2 ^ 42 ≠ 0 then s.fault .illegalOperand 2
    else if mine.any fun q => decide (q.base < base + len ∧ base < q.base + q.len) then s.fault .illegalOperand 2
    else
      match (List.range 4096).find? fun i => !(mine.any fun q => decide (q.index = i)) with
      | none => s.fault .quota s.openOpnd
      | some i =>
        ((s.regionEntry i).modSched fun q => { q with bindings := q.bindings ++
          [{ asid := s.core.t.id.asid, index := i, obj := objectOf o, base, len, scope := bitsOf w 41 40 }] }).setX d (BitVec.ofNat 64 i) 1

/-- UNBIND (R202). -/
def execUnbind (g : BitVec 4) (a : BitVec 6) (s : State) : Out :=
  s.when g fun s =>
    let i := (s.rdX a).toNat
    let here (q : Binding) : Bool := decide (q.asid = s.core.t.id.asid ∧ q.index = i)
    if s.sched.bindings.any here then (s.regionEntry i).modSched fun q => { q with bindings := q.bindings.filter fun q => !here q }
    else s.fault .illegalOperand 1

/-! ### Tags and the return queue (R92, R204) -/

/-- Observing a tag acquires it, and with it the domain barriers whose arrival it may stand for (R200, R208). -/
def State.acquireTag (s : State) (t : Nat) : State :=
  forEach [0, 1, 2, 3] (fun k s => s.acquire (objRef 4 k)) (s.acquire (objRef 5 t))

/-- The tags of a mask, in order. -/
def tagsOf (m : Word) : List Nat := (List.range 64).filter fun t => m.getLsbD t

def State.acquireTags (s : State) (m : Word) : State := forEach (tagsOf m) (fun t s => s.acquireTag t) s

/-- Tags held and not yet complete (R204). -/
def Completion.pending (c : Completion) : Word := c.held &&& ~~~c.ctb

/-- WAITANY (R204). -/
def execWaitany (g : BitVec 4) (d a : BitVec 6) (s : State) : Out :=
  s.when g fun s =>
    let m := s.rdX a
    let c := s.core.t.comp
    if m = 0 ∨ (c.pending ||| c.ctb) &&& m = 0 then s.fault .illegalOperand 1
    else if c.ctb &&& m ≠ 0 then State.afterFlush (s.acquireTags (c.ctb &&& m)) fun s => s.setX d (c.ctb &&& m) 1
    else s.waitHere

/-- WAITALL (R204). -/
def execWaitall (g : BitVec 4) (d a : BitVec 6) (s : State) : Out :=
  s.when g fun s =>
    let m := s.rdX a
    let c := s.core.t.comp
    if m = 0 ∨ m &&& ~~~(c.pending ||| c.ctb) ≠ 0 then s.fault .illegalOperand 1
    else if c.ctb &&& m = m then State.afterFlush (s.acquireTags m) fun s => s.setX d (c.cte &&& m) 1
    else s.waitHere

/-- FFR (R204). -/
def execFfr (g : BitVec 4) (d a : BitVec 6) (s : State) : Out :=
  s.when g fun s =>
    match tagsOf (s.core.t.comp.ctb &&& s.rdX a) with
    | [] => s.setX d 64 1
    | t :: _ => State.afterFlush (s.acquireTag t) fun s => s.setX d (BitVec.ofNat 64 t) 1

/-- TAGCLR (R18, R204). -/
def execTagclr (g : BitVec 4) (a : BitVec 6) (s : State) : Out :=
  s.when g fun s => s.modComp fun c => { c with ctb := c.ctb &&& ~~~(s.rdX a), cte := c.cte &&& ~~~(s.rdX a) }

/-- RQPOP: the oldest reservation, once it has landed (R92). -/
def execRqpop (g : BitVec 4) (d : BitVec 6) (s : State) : Out :=
  s.when g fun s =>
    match s.core.t.comp.rq with
    | [] => s.fault .illegalOperand 4
    | q :: r =>
      match q.value, decide (q.due ≤ s.core.clock) with
      | some v, true => (s.modComp fun c => { c with rq := r }).setX d v 1
      | _, _ => (s.modCore fun c => { c with lodc := if c.bundle.again then c.lodc else c.lodc + 1 }).waitHere

/-! ### Stage barriers (R205 to R207) -/

/-- The checks that SBARM, SBWAIT and SBTST share: the offset of the barrier in the core's own window (R206, R207). -/
def State.ownBarrier (s : State) (x : Word) (f : State → Nat → State) : State :=
  match s.ownOffset (vaOf x) with
  | none => s.fault .illegalOperand 1
  | some off => if x.toNat % 16 ≠ 0 then s.fault .illegalOperand 1 else f s off

/-- SBARM (R206). -/
def execSbarm (g : BitVec 4) (a b : BitVec 6) (s : State) : Out :=
  s.when g fun s =>
    s.ownBarrier (s.rdX a) fun s off =>
      let w := (s.rdX b).toNat
      let q := s.barrierAt s.cur off
      let expb := q.expb + bitsOf w 31 0
      let expc := q.expc + bitsOf w 39 32
      if w / 2 ^ 40 ≠ 0 ∨ 2 ^ 32 ≤ expb ∨ 2 ^ 8 ≤ expc then s.fault .illegalOperand 2
      else s.setBarrier s.cur off (({ q with expb, expc } : StageBarrier).test false)

/-- Acquire a barrier under both names of its address (R200, R234). -/
def State.acquireBarrier (s : State) (off : Nat) : State :=
  (s.acquire (objRef 3 off)).acquire (objRef 3 (apertureAddr s.cur off).toNat)

/-- Read bytes 8 to 15 of a barrier and acquire it (R207). -/
def State.observeBarrier (s : State) (d : BitVec 6) (off : Nat) : State :=
  if s.mem.poisoned (spAddr s.cur (off + 8)) 8 then s.faultAt .poison 0 (BitVec.ofNat 55 (off + 8))
  else State.afterFlush (s.acquireBarrier off) fun s => s.setX d (BitVec.ofNat 64 (leNat (s.mem.bytes 0 (spAddr s.cur (off + 8)) 8))) 2

/-- SBWAIT: a bounded wait while the barrier's phase is the one named (R207). -/
def execSbwait (g : BitVec 4) (d a b : BitVec 6) (s : State) : Out :=
  s.when g fun s =>
    s.ownBarrier (s.rdX a) fun s off =>
      if (s.barrierAt s.cur off).phase = bitsOf (s.rdX b).toNat 15 0 then s.waitHere else s.observeBarrier d off

/-- SBTST (R207). -/
def execSbtst (g : BitVec 4) (d a : BitVec 6) (s : State) : Out :=
  s.when g fun s => s.ownBarrier (s.rdX a) fun s off => s.observeBarrier d off

/-! ### Domain barriers (R208) -/

/-- Which domain of a level the running task arrives at: its gang's record, or the die, package or pod. -/
def State.domainOf (s : State) (k : Nat) : Nat := if k = 0 then s.core.t.id.record.toNat / 128 else domId (s.core.t.domOf k)

/-- A domain barrier before any arrival; members of a gang that have already ended are gone (R208). -/
def State.newBarrier (s : State) (k : Nat) : DomBarrier :=
  let id := s.core.t.id
  let size := domSize (s.core.t.domOf k)
  let live := ((s.schedRec id.asid id.record).map (·.live)).getD []
  { asid := id.asid, level := k, domain := s.domainOf k, size, counts := [], waiting := [],
    gone := if k = 0 then (List.range size).filter fun m => !(live.contains m) && decide (m ≠ id.member) else [] }

/-- An arrival of a member (R208). -/
def DomBarrier.arrive (b : DomBarrier) (m : Nat) (id : TaskId) (tag : BitVec 6) : DomBarrier :=
  let n := mapGet 0 b.counts m + 1
  { b with counts := mapPut b.counts m n, waiting := b.waiting ++ [{ member := m, gen := n, task := id, tag }] }

/-- A package of the pod has been declared lost: a member of the pod's domain (R208). -/
def State.lostMember (s : State) (k : Nat) : Bool := decide (k = 3) && s.fabric.lost.any fun q => decide (q / 4096 = s.pkgId / 4096)

/-- The task arrives at the domain barrier of a level with a tag (R208). -/
def State.arriveAt (s : State) (lvl : Nat) (t : BitVec 6) : State :=
  let id := s.core.t.id
  let s1 := s.modComp fun c => c.take t
  if domSize (s.core.t.domOf lvl) = 1 then s1.modComp fun c => c.complete t false
  else if s.lostMember lvl then s1.modComp fun c => c.complete t true
  else
    let here (b : DomBarrier) : Bool := decide (b.asid = id.asid ∧ b.level = lvl ∧ b.domain = s.domainOf lvl)
    let s2 := if s1.sched.barriers.any here then s1 else s1.modSched fun d => { d with barriers := d.barriers ++ [s.newBarrier lvl] }
    (s2.modSched fun d => { d with barriers := modFirst here (fun b => b.arrive (domIndex (s.core.t.domOf lvl)) id t) d.barriers }).settleBarriers

/-- DBAR: the arrival releases the level's barrier, and is made once what that wrote is performed (R200, R208, R242). -/
def execDbar (g : BitVec 4) (k t : BitVec 6) (s : State) : Out :=
  s.when g fun s =>
    if s.tagHeld t then s.fault .illegalOperand 2 else s.afterWrites (s.release (objRef 4 k.toNat)) fun s => s.arriveAt k.toNat t

/-! ### Queues (R209, R210) -/

/-- The fields of a creation block (R209): as a queue of the running task, or none if one is out of range; bits 63:55 of the base are ignored (R234). -/
def State.creation (s : State) (block : VAddr) (w0 w1 : Nat) : Option Queue :=
  let lgent := bitsOf w1 4 0
  let slot := bitsOf w1 14 8
  let scope := bitsOf w1 17 16
  let ncons := bitsOf w1 21 18
  if w0 % 64 ≠ 0 ∨ lgent < 4 ∨ 16 < lgent ∨ slot = 0 ∨ ncons = 0 ∨ 8 < ncons ∨ bitsOf w1 7 5 ≠ 0 ∨ bitsOf w1 15 15 ≠ 0 ∨ w1 / 2 ^ 22 ≠ 0 then
    none
  else
    some { asid := s.core.t.id.asid, block, base := w0 % 2 ^ 55, lgent, slot, scope, ncons, core := s.cur,
           domain := if scope = 0 then 0 else domId (s.core.t.domOf scope), next := 0, cursors := List.replicate ncons 0, entries := [] }

/-- Bytes whose values the manual leaves open (R209) [log 3]. -/
def State.openBytes (s : State) (n : Nat) : List Byte := (List.range n).map fun i => Config.freeByte s.fresh i

/-- A block that is made a queue again: the cursors are undefined (R209) [log 3]. -/
def Queue.openCursors (q : Queue) (seed : Nat) : Queue :=
  { q with next := (Config.freeWord seed 0x200).toNat, cursors := (List.range q.ncons).map fun i => (Config.freeWord seed (0x201 + i)).toNat }

/-- The block becomes a live queue: its state field holds the marker, which reads as undefined (R209); that of a block in another package is that package's to hold [log 20]. -/
def State.makeQueue (s : State) (l : Loc) (q : Queue) : State :=
  let again := s.sched.queues.any fun x => x.is q.asid q.block
  let s1 := if l.pkg.isSome then s else { s with mem := s.mem.store l.key (l.pa + 16) (s.openBytes 48) }.modCore fun c => c.dropBytes l 64
  s1.modSched fun d => { d with queues := (d.queues.filter fun x => !(x.is q.asid q.block)) ++ [if again then q.openCursors s.fresh else q] }

/-- The place of a queue's block or a record, which its agents read and write (R209, R216). -/
def State.blockAt (s : State) (va : VAddr) : Xl := s.xlate (some s.cur) s.core.t.id.asid va needRW

/-- QMAKE (R209). -/
def execQmake (g : BitVec 4) (d a : BitVec 6) (s : State) : Out :=
  s.when g fun s =>
    let xp := s.rdX a
    let va := vaOf xp
    if xp.toNat % 64 ≠ 0 ∨ scratchpadVa va = true then s.fault .illegalOperand 1
    else
      match s.blockAt va with
      | .ok l =>
        if spBase ≤ l.pa then s.fault .illegalOperand 1
        else
          match s.homeRead va 16 1 0 with
          | .error e => s.accFail e
          | .ok (bs, s1) =>
            match s.creation va (leNat (bs.take 8)) (leNat (bs.drop 8)) with
            | none => s.fault .illegalOperand 1
            | some q => (s1.makeQueue l q).deliverFar d xp va
      | x => s.raise (s.xlExc x 1 va 0xFFFF true)

/-- The live queue that a handle names, whatever its scope (R209, R210): the queue, or the fault. -/
def State.queueNamed (s : State) (xh : Word) (cursor : Bool) (f : State → Queue → State) : State :=
  match s.liveQueue s.core.t.id.asid (queueBlock xh) with
  | none => s.fault .illegalOperand 1
  | some q => if bitsOf xh.toNat 5 3 ≠ 0 ∨ (cursor = true ∧ q.ncons ≤ bitsOf xh.toNat 2 0) then s.fault .illegalOperand 1 else f s q

/-- The live queue that a handle names, for an agent in its scope (R209, R210): the queue, or the fault. -/
def State.queueFor (s : State) (xh : Word) (cursor : Bool) (f : State → Queue → State) : State :=
  s.queueNamed xh cursor fun s q => if s.serves q = false then s.fault .scope s.openOpnd else f s q

/-- A store at the homes of a queue's bytes that cannot be made, as a fault or a wait (R74, R210). -/
def State.homeFail (s : State) (f : EngFail) (va : VAddr) : State :=
  match f with
  | .miss => s.raise (s.accExc .translation 1 va 0xFFFF true none)
  | .ends .peerLost => s.raise (s.lostExc 1 va 0xFFFF true)
  | .ends .poison => s.raise (s.accExc .poison 1 va 0xFFFF true none)
  | .ends _ => s.raise (s.accExc .protection 1 va 0xFFFF true none)
  | .ask _ _ _ => s.hold
  | .wait => s.hold

/-- An entry takes its sequence number and its slot, and its bytes are written (R210): the state after it, or the fault or wait that it ends in. -/
def State.pushInto (s : State) (q : Queue) (v : Word) : Except State (State × QEntry) :=
  match s.reserve q with
  | none => .error (s.fault .quota s.openOpnd)
  | some (s1, e) =>
    let bytes := slotHeader e.seq 8 ++ leBytes 8 v.toNat ++ List.replicate (q.slotBytes - 16) 0
    match s1.wrSpan (spanFuel bytes.length) s.netEng (some (.push q.asid q.block e.seq)) none (BitVec.ofNat 55 e.slot) bytes with
    | .error (f, va) => .error (s.homeFail f va)
    | .ok s2 => .ok (s2, e)

/-- The entry of a push is written: it is performed, at once or when the package that holds its slot has acknowledged it (R210, R242). -/
def State.pushed (s : State) (q : Queue) (seq : Nat) : State := if s.owns (.push q.asid q.block seq) then s else s.perform q seq

/-- QPUSH: its entry takes the next sequence number and is written; what the core stored in regions bound to the queue is performed before it (R210, R242). -/
def execQpush (g : BitVec 4) (d a b : BitVec 6) (s : State) : Out :=
  s.when g fun s =>
    s.queueFor (s.rdX a) false fun s q =>
      match s.pushInto q (s.rdX b) with
      | .error f => f
      | .ok _ =>
        s.afterWrites (s.release (objRef 1 q.block.toNat)) fun s =>
          match s.pushInto q (s.rdX b) with
          | .error f => f
          | .ok (s1, e) => (s1.pushed q e.seq).deliverFar d (BitVec.ofNat 64 e.seq) (BitVec.ofNat 55 e.slot)

/-- QPOP (R210). -/
def execQpop (g : BitVec 4) (d a : BitVec 6) (s : State) : Out :=
  s.when g fun s =>
    let xh := s.rdX a
    let j := bitsOf xh.toNat 2 0
    s.queueFor xh true fun s q =>
      if 16 ≤ s.core.t.tokens.length then s.fault .illegalOperand 4
      else
        let n := q.cursors.getD j 0
        match q.entries.find? fun e => decide (e.seq = n) && e.pushed with
        | none => s.deliverFar d (BitVec.allOnes 64) q.block
        | some e =>
          let s1 := (s.acquire (objRef 1 q.block.toNat)).writeBack (lineMeets (BitVec.ofNat 55 e.slot) q.slotBytes) true
          State.afterFlush s1 fun s =>
            ((s.modQueue q.asid q.block fun q => { q with cursors := q.cursors.set j (n + 1) }).modT fun t =>
              { t with tokens := t.tokens ++ [{ queue := q.block, cursor := j, seq := n }] }).deliverFar d (BitVec.ofNat 64 (e.slot + 8)) q.block

/-- QFREE: the oldest token of the queue and cursor goes back, whether or not the task is still in the queue's scope, which R210 asks of pushes and pops (R210). -/
def execQfree (g : BitVec 4) (a : BitVec 6) (s : State) : Out :=
  s.when g fun s =>
    let xh := s.rdX a
    let j := bitsOf xh.toNat 2 0
    s.queueNamed xh true fun s q =>
      let mine (k : Token) : Bool := decide (k.queue = q.block ∧ k.cursor = j)
      match s.core.t.tokens.find? mine with
      | none => s.fault .illegalOperand 1
      | some k => (s.modT fun t => { t with tokens := dropFirst mine t.tokens }).returnToken q.asid k

/-! ### Mailboxes (R211) -/

/-- The core and box of a mailbox number; none where there is no such core (R211). -/
def mailboxAt (n : Nat) : Option (Nat × Nat) :=
  let x := bitsOf n 6 3
  let y := bitsOf n 10 7
  if x < 12 ∧ y < 12 then some (144 * bitsOf n 12 11 + 12 * y + x, bitsOf n 2 0) else none

/-- Box k of a core. -/
def Core.box (c : Core) (k : Nat) : Mailbox := c.mail.toList[k]?.getD { owner := none, entries := [] }
def Core.setBox (c : Core) (k : Nat) (m : Mailbox) : Core := { c with mail := c.mail.setIfInBounds k m }

/-- The record that owns a box of core n and does not run there (R211). -/
def State.awayOwner (s : State) (n : Nat) (m : Mailbox) : Option VAddr :=
  let c := s.getCore n
  match m.owner with
  | none => none
  | some o => if c.mode ≠ .idle ∧ c.t.id.asid = o.asid ∧ c.t.id.record = o.record then none else some o.record

/-- What a delivery releases: the mailbox, and for a record that it may make READY every store of the task (R211, R242). -/
def State.mailRelease (s : State) (n number : Nat) (m : Mailbox) : State :=
  if (s.awayOwner n m).isSome then s.releaseAll else s.release (objRef 2 number)

/-- Deliver a message: it is appended; a record that owns the box and does not run there loses one dependence (R211, R219). -/
def State.deliver (s : State) (n k : Nat) (m : Mailbox) (v : BitVec 128) : State :=
  let s1 := s.setCore n ((s.getCore n).setBox k { m with entries := m.entries ++ [v] })
  match s.awayOwner n m with
  | none => s1
  | some r => (s1.tdec s.core.t.id.asid r 1 (some n)).2

/-- MBSEND (R211). -/
def execMbsend (g : BitVec 4) (d a b : BitVec 6) (s : State) : Out :=
  s.when g fun s =>
    let xm := (s.rdX a).toNat
    let va : VAddr := 0
    if xm / 2 ^ 13 ≠ 0 then s.fault .illegalOperand 1
    else
      match mailboxAt xm with
      | none => s.deliverFar d 3 va
      | some (n, k) =>
        let m := (s.getCore n).box k
        if s.coreAllowed s.core.t.id.asid n = false then s.deliverFar d 3 va
        else if (m.owner.map (·.asid)) ≠ some s.core.t.id.asid then s.deliverFar d 2 va
        else if 16 ≤ m.entries.length then s.deliverFar d 1 va
        else s.afterWrites (s.mailRelease n xm m) fun s => (s.deliver n k m (s.rdPair b)).deliverFar d 0 va

/-- The mailbox number of box k of a core (R211). -/
def mailboxNumber (n k : Nat) : Nat := k + 8 * coreCol n + 128 * coreRow n + 2048 * coreDie n

/-- A mailbox without its oldest entry. -/
def Mailbox.takeFirst (m : Mailbox) : Mailbox := { m with entries := m.entries.tail, bad := (m.bad.filter (· ≠ 0)).map (· - 1) }

/-- A received pair: its poison travels with it (R307). -/
def State.poisonPair (s : State) (d : BitVec 6) (bad : Bool) : State :=
  s.modT fun t =>
    let l := freshX [d, d + 1] t.regPoison
    { t with regPoison := if bad then l ++ ([d, d + 1].filter (· ≠ 0)).map fun r => 1024 + r.toNat else l }

/-- MBRECV: a poisoned message is received as it is, and the registers it comes to are poisoned (R211, R307) [log 44]. -/
def execMbrecv (g : BitVec 4) (d : BitVec 6) (p : BitVec 4) (k : BitVec 6) (s : State) : Out :=
  s.when g fun s =>
    let id := s.core.t.id
    let m := s.core.box k.toNat
    if m.ownedBy id.asid id.record = false then s.fault .illegalOperand 2
    else
      match m.entries with
      | [] => s.setP p 0 2
      | v :: _ =>
        State.afterFlush (s.acquire (objRef 2 (mailboxNumber s.cur k.toNat))) fun s =>
          (((s.modCore fun c => c.setBox k.toNat m.takeFirst).setPair d v 2).setP p (BitVec.allOnes 256) 2).poisonPair d (m.bad.contains 0)

/-- MBBIND (R211). What becomes of the entries the manual does not say: a box that is unbound loses them, and one bound to another record keeps them [log 49]. -/
def execMbbind (g : BitVec 4) (a k : BitVec 6) (s : State) : Out :=
  s.when g fun s =>
    let id := s.core.t.id
    let xt := s.rdX a
    let m := s.core.box k.toNat
    if xt.toNat % 128 ≠ 0 then s.fault .illegalOperand 1
    else if m.owner.isSome && !(m.ownedBy id.asid id.record) then s.fault .illegalOperand 2
    else if xt = 0 then s.modCore fun c => c.setBox k.toNat { owner := none, entries := [] }
    else
      let o : TaskId := if vaOf xt = id.record then id else { asid := id.asid, record := vaOf xt, member := 0 }
      s.modCore fun c => c.setBox k.toNat { m with owner := some o }

end Sys2Proof.Machine
end

