-- ==== Sys2Proof/Machine/Tasks.lean ====
section
/-! DEFINITION. Task records, spawning, dependence counters, futures, range tasks, planes, and how a task ends, continues or yields: class 0xB (R93, R216 to R228). -/

namespace Sys2Proof.Machine

/-! ### Records -/

/-- The record of the running task as task-class instructions read it, from tk (R10). -/
def State.tk (s : State) : VAddr := vaOf (s.rdX 61)

/-- The running task under the record that tk names. -/
def State.self (s : State) : TaskId := { s.core.t.id with record := s.tk }

/-- The home of a record that a task-class instruction names: a multiple of 128, in ring memory or DRAM, readable and writable (R216, R218, R219, R224) [log 26]. A record of another package ends in a refusal. -/
def State.recordAt (s : State) (name : String) (xr : Word) (opP : BitVec 3) (f : State) : Out :=
  let va := vaOf xr
  if xr.toNat % 128 ≠ 0 then .next (s.faultAt .misaligned 1 va)
  else if scratchpadVa va then .next (s.faultAt .illegalOperand 1 va)
  else
    match s.blockAt va with
    | .ok l =>
      match l.pkg with
      | some p => if s.fabric.lost.contains p then .next (s.raise (s.lostExc 1 va 0xFFFF false)) else .refused (.remoteHome name)
      | none =>
        if spBase ≤ l.pa then .next (s.faultAt .illegalOperand 1 va)
        else if s.mem.poisoned l.pa 128 then .next (s.raise (s.accExc .poison opP va 0xFFFF false none))
        else .next f
    | x => .next (s.raise (s.xlExc x 1 va 0xFFFF true))

/-- The core's cached copy of a record it has seen at its home goes (R241), and the TLBs take up its page (R298). -/
def State.seenRecord (s : State) (va : VAddr) : State :=
  match s.xlate (some s.cur) s.core.t.id.asid va needR with
  | .ok l => ((s.noteTlb s.core.t.id.asid va).activate (if l.pkg.isSome then ringBase else l.pa)).modCore fun c => (c.dropClean l 64).dropClean { l with pa := l.pa + 64 } 64
  | _ => s

/-- The first 96 bytes of a record as one number, the task's own stores seen (R75, R218). -/
def State.recordWord (s : State) (va : VAddr) : Nat :=
  match s.xlate (some s.cur) s.core.t.id.asid va needR with
  | .ok l => leNat (((s.l1Fetch l va).slice 0 64) ++ ((s.l1Fetch { l with pa := l.pa + 64 } (va + 64)).slice 0 32))
  | _ => 0

/-- The record may be spawned: INIT, no reserved bit or value, and the extra checks of its kind (R216, R218). -/
def spawnable (kind : Nat) (fut : Bool) (w : Nat) : Bool :=
  let lo := bitsOf w 303 256
  let hi := bitsOf w 367 320
  let chunk := bitsOf w 399 384
  let gsize := bitsOf w 25 22
  decide (bitsOf w 7 0 = stInit) && decide (bitsOf w 9 8 ≠ 3) && decide (bitsOf w 63 27 = 0) && decide (bitsOf w 303 256 = bitsOf w 319 256) &&
  decide (bitsOf w 367 320 = bitsOf w 383 320) && decide (bitsOf w 399 384 = bitsOf w 447 384) && decide (bitsOf w 97 96 = 0) &&
  (if kind = 1 then decide (lo ≤ hi) && decide (chunk ≠ 0) else true) && (if kind = 2 then decide (1 ≤ gsize ∧ gsize ≤ 8) else true) &&
  (if fut then decide (bitsOf w 223 192 = 0) else true)

/-- A record enters the scheduler: its HW fields, then READY on a die, or WAITING (R218, R258, R259). Offsets 104 to 127, whose reads are undefined, the model does not write: they read as the bytes that software stored [log 67]. -/
def State.enroll (s : State) (asid : Nat) (va : VAddr) (kind : Nat) (fut : Bool) (parent : Nat) (die : Nat) (port : Option Nat) : State :=
  let w := s.recGet asid va 0 8
  let w' := bitsOf w 63 27 * 2 ^ 27 + bitsOf w 25 11 * 2 ^ 11 + (if fut then 2 ^ 10 else 0) + kind * 2 ^ 8 + stWaiting
  let s1 := ((s.recSet asid va 56 8 parent).recSet asid va 96 2 asid).recSet asid va 0 8 w'
  let s2 := if fut then s1.recSet asid va 28 4 1 else s1
  let r : SchedRec := { task := { asid, record := va, member := 0 }, die, rt := 0, ready := false, pin := none, port, reds := 0,
                        finish := none, live := [], refs := [], lackAt := none }
  let s3 := s2.modSched fun d => { d with recs := d.recs.filter (fun q => !(q.is asid va)) ++ [r] }
  if s3.recGet asid va 24 4 = 0 then s3.makeReady asid va else s3

/-- A spawn instruction (R218). -/
def State.spawn (s : State) (name : String) (xr : Word) (kind : Nat) (fut : Bool) : Out :=
  let va := vaOf xr
  s.recordAt name xr 1
    (if spawnable kind fut (s.recordWord va) = false then (s.seenRecord va).faultAt .illegalOperand 1 va
     else if fut = true ∧ 16 ≤ s.core.t.refs.length then s.faultAt .quota s.openOpnd va
     else
       s.afterWrites s.releaseAll fun s =>
         let s := s.seenRecord va
         (if fut then s.modT fun t => { t with refs := t.refs ++ [va] } else s).enroll s.core.t.id.asid va kind fut (s.rdX 61).toNat (coreDie s.cur) none)

/-- TSPAWN (R218). -/
def execTspawn (g : BitVec 4) (a : BitVec 6) (s : State) : Out :=
  if s.guard g then s.spawn "TSPAWN" (s.rdX a) 0 false else .next s
/-- TSPAWNR (R218). -/
def execTspawnr (g : BitVec 4) (a : BitVec 6) (s : State) : Out :=
  if s.guard g then s.spawn "TSPAWNR" (s.rdX a) 1 false else .next s
/-- TSPAWNG (R218). -/
def execTspawng (g : BitVec 4) (a : BitVec 6) (s : State) : Out :=
  if s.guard g then s.spawn "TSPAWNG" (s.rdX a) 2 false else .next s
/-- FSPAWN (R218). -/
def execFspawn (g : BitVec 4) (a : BitVec 6) (s : State) : Out :=
  if s.guard g then s.spawn "FSPAWN" (s.rdX a) 0 true else .next s

/-- TDEC (R219). -/
def execTdec (g : BitVec 4) (d a b : BitVec 6) (s : State) : Out :=
  if s.guard g = false then .next s
  else
    let va := vaOf (s.rdX a)
    if 2 ^ 32 ≤ (s.rdX b).toNat then .next (s.fault .illegalOperand 2)
    else
      s.recordAt "TDEC" (s.rdX a) 0
        (s.afterWrites s.releaseAll fun s =>
          let q := (s.seenRecord va).tdec s.core.t.id.asid va (s.rdX b).toNat none
          q.2.deliverFar d (BitVec.ofNat 64 q.1) va)

/-! ### Futures (R224, R225) -/

/-- FREF (R224). -/
def execFref (g : BitVec 4) (a : BitVec 6) (s : State) : Out :=
  if s.guard g = false then .next s
  else
    let va := vaOf (s.rdX a)
    let asid := s.core.t.id.asid
    s.recordAt "FREF" (s.rdX a) 0
      (let cons := s.recGet asid va 28 4
       let s := s.seenRecord va
       if bitsOf (s.recGet asid va 0 8) 10 10 = 0 then s.fault .illegalOperand 1
       else if cons = 0 then s.fault .eclipsedRef s.openOpnd
       else if 16 ≤ s.core.t.refs.length then s.fault .quota s.openOpnd
       else (s.recSet asid va 28 4 (cons + 1)).modT fun t => { t with refs := t.refs ++ [va] })

/-- FDROP (R224, R225). -/
def execFdrop (g : BitVec 4) (a : BitVec 6) (s : State) : Out :=
  if s.guard g = false then .next s
  else
    let va := vaOf (s.rdX a)
    let asid := s.core.t.id.asid
    s.recordAt "FDROP" (s.rdX a) 0
      (let s := s.seenRecord va
       if bitsOf (s.recGet asid va 0 8) 10 10 = 0 ∨ s.core.t.refs.contains va = false then s.fault .illegalOperand 1
       else (s.modT fun t => { t with refs := t.refs.erase va }).dropRefs asid (s.refFuel [va]) [va])

/-- What FGET delivers of a record's first 96 bytes, with its predicate: the result of a DONE future, which is acquired by dropping the L1, or the state alone (R224, R242, R274). -/
def State.fgetResult (s : State) (d : BitVec 6) (p : BitVec 4) (va : VAddr) (w : Nat) : State :=
  let e := s.accExc .none 1 va 0xFFFF false none
  if bitsOf w 7 0 = stDone then State.afterFlush s.flushL1 fun s => s.addFar (.fget d (BitVec.ofNat 128 (bitsOf w 767 640)) p true) e 0
  else (s.seenRecord va).addFar (.fget d (BitVec.ofNat 128 (bitsOf w 7 0)) p false) e 0

/-- FGET (R224). -/
def execFget (g : BitVec 4) (d a : BitVec 6) (p : BitVec 4) (s : State) : Out :=
  s.when g fun s =>
    let va := vaOf (s.rdX a)
    if (s.rdX a).toNat % 128 ≠ 0 then s.faultAt .misaligned 1 va
    else
      match s.xlate (some s.cur) s.core.t.id.asid va needR with
      | .ok l =>
        match l.pkg with
        | none =>
          if s.mem.poisoned l.pa 96 then s.raise (s.accExc .poison 0 va 0xFFFF false none)
          else (s.noteTlb s.core.t.id.asid va).fgetResult d p va (s.recordWord va)
        | some q =>
          if s.fabric.lost.contains q then s.raise (s.lostExc 1 va 0xFFFF false)
          else
            match s.askFor { type := 1, tc := 0, eng := s.netEng, dst := q, asid := s.core.t.id.asid, key := l.key, pa := l.pa, len := 96 }
                (s.accExc .poison 0 va 0xFFFF false none) with
            | .error e => s.accFail e
            | .ok (bs, s1) => (s1.noteTlb s.core.t.id.asid va).fgetResult d p va (leNat bs)
      | x => s.raise (s.xlExc x 1 va 0xFFFF false)

/-! ### Ending, continuing, yielding (R220, R221, R228) -/

/-- Every engine command of the task has completed, and what it waits for has landed (R220). -/
def State.quiet (s : State) : Bool := s.core.t.enginesIdle && !s.resultsDue && !(s.core.asks.any fun q => q.live)

/-- The open segment as the ending bundle closes it: its words and its W counted (R90). -/
def State.closing (s : State) : Segment := s.core.t.seg.account s.core.bundle.head.wait s.core.bundle.words

/-- What TEND and TCONT wait for and check before their effect: every command, access and store of the task (R90, R220, R242) [log 51]. Slots of the bundle that counted past satth raise nothing: the task has ended with it [log 40]. -/
def State.ending (s : State) (f : State → State) : State :=
  if s.core.bundle.checked = false ∧ s.quiet = false then s.waitHere
  else if s.closing.fails then s.raise s.mirrorExc
  else
    let r := s.releaseAll
    if r.writesDue || r.writesStuck then (if s.core.bundle.checked then r.hold else r.waitHere) else f r.completeBundle

/-- The end of a task by TEND: release, result, the record's end, references (R217, R220, R309). -/
def State.endTask (s : State) (id : TaskId) (result : Option (BitVec 128)) : State :=
  let s1 := s.releaseAll
  let s2 := match result with
    | none => s1
    | some v => if id.member = 0 then s1.recSet id.asid id.record 80 16 v.toNat else s1
  ((s2.freeHeld.leaveCommands.drainPoint .idle).memberEnds id .done).dropHeld

/-- TEND (R220). -/
def execTend (g : BitVec 4) (a : BitVec 6) (s : State) : Out :=
  s.when g fun s =>
    let id := s.self
    let r := if a = 0 then none else some (s.rdPair a)
    s.ending fun s => s.endTask id r

/-- The end of a task's use of the core by TCONT: its record waits for its counter, or is READY again (R220). -/
def State.continueTask (s : State) (id : TaskId) (entry dep : Nat) : State :=
  let refs := s.core.t.refs
  let s1 := ((s.releaseAll.recSet id.asid id.record 12 4 entry).recSet id.asid id.record 24 4 dep).freeHeld
  let s2 := ((s1.modT fun t => { t with refs := [] }).modRec id.asid id.record fun q => { q with refs, live := [] }).leaveCommands.drainPoint .idle
  let s2 := s2.forgetRecord id.asid id.record
  if dep = 0 then s2.makeReady id.asid id.record else s2.recSet id.asid id.record 0 1 stWaiting

/-- TCONT (R220). -/
def execTcont (g : BitVec 4) (a b : BitVec 6) (s : State) : Out :=
  s.when g fun s =>
    let id := s.self
    let xe := (s.rdX a).toNat
    let xk := (s.rdX b).toNat
    if s.core.bundle.checked = false ∧ s.quiet = false then s.waitHere
    else if xe % 4 ≠ 0 ∨ 2 ^ 32 ≤ xe then s.fault .illegalOperand 1
    else if 2 ^ 32 ≤ xk then s.fault .illegalOperand 2
    else if s.recKind id.asid id.record = 2 then s.fault .illegalOperand 4
    else s.ending fun s => s.continueTask id xe xk

/-- TYIELD (R221). -/
def execTyield (g : BitVec 4) (k : BitVec 6) (s : State) : Out :=
  s.when g fun s =>
    if k = 1 ∧ s.core.old.sys.preq.getLsbD 0 = false then s else s.completeUntested.startSave .preempt none

/-- PSWAP (R228). -/
def execPswap (g : BitVec 4) (s : State) : Out :=
  s.when g fun s =>
    if s.core.shadow.state ≠ .loaded then s.fault .illegalOperand 4
    else (s.completeUntested.startSave .preempt none).modCore fun c => { c with swap := true }

/-! ### Range tasks (R93, R222) -/

/-- Claim the next chunk of a range record, in one step at its home: its start and end (R222). -/
def State.claim (s : State) (asid : Nat) (rec : VAddr) : Option (Nat × Nat) × State :=
  let lo := s.recGet asid rec 32 6
  let hi := s.recGet asid rec 40 6
  if lo < hi then
    let e := min (lo + s.recGet asid rec 48 2) hi
    (some (lo, e), s.recSet asid rec 32 6 e)
  else (none, s)

/-- RNEXT (R222). -/
def execRnext (g : BitVec 4) (d : BitVec 6) (s : State) : Out :=
  if s.guard g = false then .next s
  else
    let asid := s.core.t.id.asid
    s.recordAt "RNEXT" (s.rdX 61) 0
      (if s.recKind asid s.tk ≠ 1 then s.fault .illegalOperand 4
       else
         let q := (s.seenRecord s.tk).claim asid s.tk
         let v : BitVec 128 := match q.1 with
           | none => BitVec.allOnes 128
           | some (lo, e) => BitVec.ofNat 64 e ++ BitVec.ofNat 64 lo
         q.2.addFar (.pair d v) (s.accExc .none 4 s.tk 0xFFFF false none) 0)

/-- A next-tile request is sent; its answer is due 8 issue cycles on (R93). -/
def State.request (s : State) (d : BitVec 6) (xq : Word) (range : Bool) : State :=
  let t := s.core.t.sb.cyc + 8
  s.modSb fun b => { b with nxt := b.nxt ++ [{ d, q := xq, range, due := t }], landX := if d = 0 then b.landX else filePut b.landX d t }

/-- NXTREQ (R93). -/
def execNxtreq (g : BitVec 4) (d a : BitVec 6) (s : State) : Out :=
  if s.guard g = false then .next s
  else if a = 0 then
    s.recordAt "NXTREQ" (s.rdX 61) 0
      (if s.recKind s.core.t.id.asid s.tk ≠ 1 then s.fault .illegalOperand 4 else s.request d (s.rdX 61) true)
  else .next (s.queueFor (s.rdX a) true fun s _ => s.request d (s.rdX a) false)

/-! ### Planes (R227) -/

/-- A load of a core's shadow plane is cancelled: its tag completes CANCELLED (R227, R287). -/
def State.cancelLoad (s : State) (n : Nat) : State :=
  let s1 := match (s.getCore n).loading with
    | some { tag := some (id, k), .. } => s.completeTag id k true
    | _ => s
  s1.setCore n { s1.getCore n with loading := none }

/-- A load of an image into a core's shadow plane begins (R227, R265, R287). -/
def State.startLoad (s : State) (n : Nat) (l : PlaneLoad) : State :=
  let s1 := s.cancelLoad n
  let c := s1.getCore n
  (s1.setCore n { c with loading := some l, shadow := { c.shadow with state := .loading } }).noteImages

/-- PLOAD (R227). -/
def execPload (g : BitVec 4) (a k : BitVec 6) (s : State) : Out :=
  s.when g fun s =>
    let xi := (s.rdX a).toNat
    let id := s.core.t.id
    if 2 ^ 32 ≤ xi then s.fault .illegalOperand 1
    else if s.tagHeld k then s.fault .illegalOperand 2
    else
      let s1 := s.modComp fun c => c.take k
      if s.core.shadow.state = .loaded ∧ s.core.shadow.image.toNat = xi then s1.modComp fun c => c.complete k false
      else s1.startLoad s.cur { image := BitVec.ofNat 32 xi, tag := some (id, k), asid := id.asid }

end Sys2Proof.Machine
end

