-- ==== Sys2Proof/Machine/System.lean ====
section
/-! DEFINITION. Scale-slot and system-register access, TRAP, ERET and FEAT: the rest of class 0xB (R14, R15, R20 to R23, R229 to R232). -/

namespace Sys2Proof.Machine

/-! ### Scale slots (R14, R230) -/

/-- A value that a field can hold (R230). -/
def fieldHolds (f : BitVec 6) (v : Word) : Bool :=
  match f.toNat with
  | 0 => decide (-128 ≤ v.toInt ∧ v.toInt ≤ 127)
  | 1 => decide (v.toNat < 64)
  | 2 => decide (v.toNat < 2 ^ 32)
  | 3 => decide (v.toNat < 2 ^ 32)
  | 4 => true
  | 5 => true
  | _ => decide (v.toNat < 2 ^ 55)

/-- A scale slot with one field written. -/
def ScaleSlot.setField (t : ScaleSlot) (f : BitVec 6) (v : Word) : ScaleSlot :=
  match f.toNat with
  | 0 => { t with exp := v.extractLsb' 0 8 }
  | 1 => { t with census := v.extractLsb' 0 6 }
  | 2 => { t with satc := v.extractLsb' 0 32 }
  | 3 => { t with satth := v.extractLsb' 0 32 }
  | 4 => { t with cb := t.cb.extractLsb' 64 64 ++ v }
  | 5 => { t with cb := v ++ t.cb.extractLsb' 0 64 }
  | _ => { t with bsa := v.extractLsb' 0 55 }

/-- TSRD (R230). -/
def execTsrd (g : BitVec 4) (d n f : BitVec 6) (s : State) : Out :=
  s.when g fun s => s.setX d ((fileGet s.core.old.ts n).field f) 1

/-- TSWR: applied before the bundle's own counts, with no trap test (R15, R230). -/
def execTswr (g : BitVec 4) (n a f : BitVec 6) (s : State) : Out :=
  s.when g fun s =>
    if fieldHolds f (s.rdX a) = false then s.fault .illegalOperand 1
    else s.modT fun t => { t with ts := filePut t.ts n ((fileGet t.ts n).setField f (s.rdX a)) }

/-- TSCLR (R14, R230). -/
def execTsclr (g : BitVec 4) (n : BitVec 6) (s : State) : Out :=
  s.when g fun s => s.modT fun t => { t with ts := filePut t.ts n { fileGet t.ts n with census := 63, satc := 0 } }

/-! ### System registers (R20 to R23) -/

/-- The code of a power mode and of a Mirror mode (R21, R343). -/
def PowerMode.code (p : PowerMode) : Nat :=
  match p with
  | .peak => 0 | .rated => 1 | .efficient => 2
def MirrorMode.code (m : MirrorMode) : Nat :=
  match m with
  | .strict => 0 | .full => 1 | .sampled => 2

/-- sys.status (R21): the device modes each as it has taken effect on this core (R344). -/
def State.status (s : State) : Nat :=
  let y := s.core.old.sys
  (if y.th then 1 else 0) + (if y.preq.getLsbD 0 then 2 else 0) + (if y.ecl then 4 else 0) + s.core.mirror.code * 2 ^ 3 +
  s.power.power.code * 2 ^ 5 + s.power.modes.ring.toNat * 2 ^ 7 + (if s.core.failover then 2 ^ 10 else 0) +
  y.prio.toNat * 2 ^ 11 + y.eclass.toNat * 2 ^ 14

/-- sys.preq as it reads: while a request is pending and not yet forced, bits 31:16 hold what remains of the 10 µs of grace (R20, R270). -/
def State.preqNow (s : State) : Nat :=
  let y := s.core.old.sys
  if y.preq.getLsbD 0 && !(y.preq.getLsbD 1) then
    bitsOf y.preq.toNat 15 0 + max 1 (10 - (s.mgmt.tsc - y.graceAt).toNat / 1000) * 2 ^ 16
  else y.preq.toNat

/-- The value of a system register by its number (R20); bits above its width read as zero. -/
def State.sysRead (s : State) (r : BitVec 12) : Nat :=
  let y := s.core.old.sys
  let f := y.faults
  let l := s.core.t.loop
  match r.toNat with
  | 0x000 => s.status
  | 0x001 => f.epc.toNat
  | 0x002 => f.fcause.toNat
  | 0x003 => f.faddr.toNat
  | 0x004 => f.fslot.toNat
  | 0x005 => f.fopnd.toNat
  | 0x006 => f.felem.toNat
  | 0x007 => f.fimg.toNat
  | 0x008 => y.segstate.toNat
  | 0x009 => s.core.stallc.toNat
  | 0x00A => s.core.lodc.toNat
  | 0x00B => s.core.feat.toNat
  | 0x00C => (s.clusterOf (coreCluster s.cur)).d.toNat
  | 0x00D => y.tslice.toNat
  | 0x00E => s.preqNow
  | 0x00F => y.optp.toNat
  | 0x010 => y.vflags.toNat
  | 0x011 => y.srseed.toNat
  | 0x012 => s.core.srctr.toNat
  | 0x013 => y.dom[0].toNat
  | 0x014 => y.dom[1].toNat
  | 0x015 => y.dom[2].toNat
  | 0x016 => y.dom[3].toNat
  | 0x020 => l.lc[0].toNat
  | 0x021 => l.lc[1].toNat
  | 0x022 => l.lc[2].toNat
  | 0x023 => l.lb[0].toNat
  | 0x024 => l.lb[1].toNat
  | 0x025 => l.lb[2].toNat
  | 0x026 => l.ln[0].toNat
  | 0x027 => l.ln[1].toNat
  | 0x028 => l.ln[2].toNat
  | 0x029 => l.vrb.toNat
  | 0x02A => s.core.t.comp.ctb.toNat
  | 0x02B => s.core.t.comp.cte.toNat
  | _ => 0

/-- Access classes of R20. -/
inductive SysAccess where
  | rw | ro | th | sys
  deriving DecidableEq, Repr

/-- The access class of a system register (R20). -/
def sysAccess (r : BitVec 12) : SysAccess :=
  let n := r.toNat
  if n = 0x00D then .sys
  else if n ≤ 0x008 ∨ (0x020 ≤ n ∧ n ≤ 0x029) then .th
  else if 0x00F ≤ n ∧ n ≤ 0x012 then .rw
  else .ro

/-- Change the fault registers. -/
def State.modFaults (s : State) (f : FaultRegs → FaultRegs) : State := s.modSys fun y => { y with faults := f y.faults }

/-- Change the loop registers. -/
def State.modLoop (s : State) (f : LoopRegs → LoopRegs) : State := s.modT fun t => { t with loop := f t.loop }

/-- A permitted write of a system register: its own bits only; sys.status keeps all of its read-only fields (R20 to R22). -/
def State.sysWrite (s : State) (r : BitVec 12) (v : Word) : State :=
  match r.toNat with
  | 0x001 => s.modFaults fun f => { f with epc := v.extractLsb' 0 55 }
  | 0x002 => s.modFaults fun f => { f with fcause := v.extractLsb' 0 8 }
  | 0x003 => s.modFaults fun f => { f with faddr := v.extractLsb' 0 55 }
  | 0x004 => s.modFaults fun f => { f with fslot := v.extractLsb' 0 3 }
  | 0x005 => s.modFaults fun f => { f with fopnd := v.extractLsb' 0 3 }
  | 0x006 => s.modFaults fun f => { f with felem := v.extractLsb' 0 16 }
  | 0x007 => s.modFaults fun f => { f with fimg := v.extractLsb' 0 32 }
  | 0x008 => s.modSys fun y => { y with segstate := 0#2 ++ v.extractLsb' 0 30 }
  | 0x00F => s.modSys fun y => { y with optp := v.extractLsb' 0 18 }
  | 0x010 => s.modSys fun y => { y with vflags := v.extractLsb' 0 2 }
  | 0x011 => s.modSys fun y => { y with srseed := v }
  | 0x012 => s.modCore fun c => { c with srctr := v }
  | 0x020 => s.modLoop fun l => { l with lc := l.lc.set 0 (v.extractLsb' 0 32) }
  | 0x021 => s.modLoop fun l => { l with lc := l.lc.set 1 (v.extractLsb' 0 32) }
  | 0x022 => s.modLoop fun l => { l with lc := l.lc.set 2 (v.extractLsb' 0 32) }
  | 0x023 => s.modLoop fun l => { l with lb := l.lb.set 0 (v.extractLsb' 0 55) }
  | 0x024 => s.modLoop fun l => { l with lb := l.lb.set 1 (v.extractLsb' 0 55) }
  | 0x025 => s.modLoop fun l => { l with lb := l.lb.set 2 (v.extractLsb' 0 55) }
  | 0x026 => s.modLoop fun l => { l with ln := l.ln.set 0 (v.extractLsb' 0 9) }
  | 0x027 => s.modLoop fun l => { l with ln := l.ln.set 1 (v.extractLsb' 0 9) }
  | 0x028 => s.modLoop fun l => { l with ln := l.ln.set 2 (v.extractLsb' 0 9) }
  | 0x029 => s.modLoop fun l => { l with vrb := v.extractLsb' 0 4 }
  | _ => s

/-- SRD (R20, R230). -/
def execSrd (g : BitVec 4) (d : BitVec 6) (r : BitVec 12) (s : State) : Out :=
  s.when g fun s => s.setX d (BitVec.ofNat 64 (s.sysRead r)) 1

/-- SWR, under the access class of the register (R20, R230). -/
def execSwr (g : BitVec 4) (a : BitVec 6) (r : BitVec 12) (s : State) : Out :=
  s.when g fun s =>
    match sysAccess r with
    | .ro => s.fault .illegalOperand 4
    | .sys => s.fault .protection 4
    | .th => if s.core.old.sys.th then s.sysWrite r (s.rdX a) else s.fault .protection 4
    | .rw => s.sysWrite r (s.rdX a)

/-- FEAT (R229); the package has 4 compute dies (R1) [log 27]. -/
def execFeat (g : BitVec 4) (d k : BitVec 6) (s : State) : Out :=
  s.when g fun s =>
    let p := s.core.shadow
    let v := match k.toNat with
      | 0 => s.core.feat.toNat
      | 1 => s.core.lit.image.toNat
      | 2 => p.image.toNat + (match p.state with
          | .empty => 0
          | .loading => 1
          | .loaded => 2) * 2 ^ 32
      | _ => coreCode s.cur + 4 * 2 ^ 12
    s.setX d (BitVec.ofNat 64 v) 1

/-! ### TRAP and ERET (R231, R232) -/

/-- TRAP: after its bundle has completed (R31, R231). -/
def execTrap (g : BitVec 4) (k : BitVec 12) (s : State) : Out :=
  s.when g fun s =>
    let s1 := s.completeUntested
    s1.trapOrWait { cause := .trap, addr := 0, slot := 0, opnd := 7, elem := k.zeroExtend 16 } s1.core.t.pc

/-- The word at an address is a bundle header or an SCW of the lit plane's code (R232). -/
def Core.resumable (c : Core) (a : VAddr) : Bool :=
  match c.codeAt a with
  | some w => decide (w.extractLsb' 28 4 = 0xE#4) || decide (w.extractLsb' 28 4 = 0xF#4)
  | none => false

/-- ERET: the handler's segment is closed and checked, then the return (R91, R232). -/
def execEret (g : BitVec 4) (s : State) : Out :=
  s.when g fun s =>
    let y := s.core.old.sys
    if y.th = false then s.fault .protection s.openOpnd
    else if s.closing.fails then s.raise s.mirrorExc
    else if s.core.resumable y.faults.epc = false then
      s.raise { cause := .badTarget, addr := y.faults.epc, slot := 0, opnd := 4 }
    else (s.modBundle fun b => { b with redirect := .eret }).completeUntested.returnFromTrap

end Sys2Proof.Machine
end

