-- ==== Sys2Proof/Machine/Power.lean ====
section
/-! DEFINITION. ECC, the undervolting governor, thresholds, scrubbing, DRAM row counts, and the mode register (R237, R239, R343 to R348). -/

namespace Sys2Proof.Machine

/-! ### Arrays (R345) [log 29] -/

/-- The number of an array: 64 numbers a core (scratchpad banks 0 to 31, accumulators 32 + 2 x engine + bank, planes 36 and 37, microprogram stores 38 and 39, lit first), then ring slices, DRAM channels and Afterglow stores. -/
def coreArray (n k : Nat) : Nat := 64 * n + k
def ringArray (die slice : Nat) : Nat := 100000 + 24 * die + slice
def dramArray (channel : Nat) : Nat := 101000 + channel
def glowArray (die : Nat) : Nat := 102000 + die

/-- Where an array is, for Afterglow: its die and its location code. -/
structure ArrayPlace where
  array : Nat
  die : Nat
  loc : Nat
  /-- structure row of R345 -/
  row : Nat
  deriving DecidableEq, Repr

/-- The array that holds a physical address (R235 to R238). -/
def placeOfPa (pa : Nat) : ArrayPlace :=
  if pa < ringBase then { array := dramArray (channelOf pa), die := channelOf pa / 64, loc := 0, row := 4 }
  else if pa < spBase then
    let o := pa - ringBase
    { array := ringArray (o / 0x0C00_0000) (ringSlice (o % 0x0C00_0000)), die := o / 0x0C00_0000, loc := 0, row := 3 }
  else
    let n := (pa - spBase) / 0x10_0000
    { array := coreArray n (scratchBank (pa % 0x10_0000)), die := coreDie n, loc := coreCode n, row := 0 }

/-- The array that a scrubber names, with a word's address. -/
def placeOfScrub (x : ScrubArray) (a : Nat) : ArrayPlace :=
  match x with
  | .scratchpad => placeOfPa a
  | .ring => placeOfPa a
  | .dram => placeOfPa a
  | .accumulator n e b => { array := coreArray n (32 + (if e then 2 else 0) + (if b then 1 else 0)), die := coreDie n, loc := coreCode n, row := 0 }
  | .plane n lit => { array := coreArray n (if lit then 36 else 37), die := coreDie n, loc := coreCode n, row := 1 }
  | .microStore n lit => { array := coreArray n (if lit then 38 else 39), die := coreDie n, loc := coreCode n, row := 1 }
  | .afterglow d => { array := glowArray d, die := d, loc := 0, row := 5 }

/-! ### Corrected errors and the governor (R345, R347) -/

/-- A threshold of 0 is treated as 1 (R348). -/
def atLeast1 (w : BitVec 16) : Nat := max 1 w.toNat

/-- An array that an undervolted cluster holds. -/
def clusterOfArray (a : Nat) : Option Nat := if a / 64 < 576 then some (coreCluster (a / 64)) else none

/-- The veto: an unlocked rail returns to its safe step and is locked, a locked one rises a step; in Peak every rail stays at step 0 (R347) [log 30]. -/
def State.veto (s : State) (k : Nat) (p : ArrayPlace) : State :=
  let c := s.clusterOf k
  let next := if s.power.power = .peak then 0 else if c.lock then c.step - 1 else c.safe
  (s.modCluster k fun c => { c with step := next, lock := true }).glowEvent p.die 6 k (c.step * 256 + next) (Config.arrayCode p.array).toNat

/-- A corrected error: counted against its array, with what the count sets off (R345, R347, R352). An array outside the clusters stands at its nominal voltage, as at step 0 [log 30]. -/
def State.corrected (s : State) (p : ArrayPlace) : State :=
  let n := mapGet 0 s.power.counts p.array + 1
  let s1 := s.modPower fun q => { q with counts := mapPut q.counts p.array n }
  let tm := atLeast1 s.power.tm
  let tp := atLeast1 s.power.tp
  let s2 := if n = tm ∨ n = tp then s1.glowEvent p.die 5 p.loc (Config.arrayCode p.array).toNat n else s1
  match clusterOfArray p.array with
  | none => if n = tp then s2.glowEvent p.die 7 p.loc (Config.arrayCode p.array).toNat n else s2
  | some k =>
    let s3 := if n = tm then s2.veto k p else s2
    if n = tp ∧ (s3.clusterOf k).step = 0 then s3.glowEvent p.die 7 p.loc (Config.arrayCode p.array).toNat n else s3

/-- An uncorrectable error's Afterglow record, which freezes (R345, R352): `a` is the physical address; for an array outside the physical map the manual gives no value, so a free one [log 3]. -/
def State.uncorrected (s : State) (p : ArrayPlace) (a : Option Nat) : State :=
  s.glowEvent p.die 1 p.loc (a.getD (Config.freeWord s.fresh 0x300).toNat) p.row

/-- A word of core n's register files is poisoned, in the snapshots of its far results too (R307). -/
def State.poisonReg (s : State) (n w : Nat) : State :=
  let c := s.getCore n
  s.setCore n { c with t := { c.t with
    regPoison := addOnce c.t.regPoison w
    sb := { c.t.sb with far := c.t.sb.far.map fun f => { f with undo := { f.undo with regPoison := addOnce f.undo.regPoison w } } } } }

/-- An uncorrectable error that a routine instruction finds in core n's vector register file: its word is poisoned, and Afterglow records the location of R146 (R307, R345) [log 44]. -/
def State.regError (s : State) (n w opd : Nat) : State :=
  (s.poisonReg n w).glowEvent (coreDie n) 1 (coreCode n) (2 ^ 54 + opd * 2 ^ 10 + w) 2

/-- Which bank of an engine is meant. -/
def MatEngine.modBank (m : MatEngine) (shadow : Bool) (f : AccBank → AccBank) : MatEngine :=
  if shadow then { m with shadow := f m.shadow } else { m with lit := f m.lit }

/-- Change a core's plane. -/
def Core.modPlane (c : Core) (lit : Bool) (f : Plane → Plane) : Core :=
  if lit then { c with lit := f c.lit } else { c with shadow := f c.shadow }

/-- The word is poisoned already (R346). -/
def State.scrubPoisoned (s : State) (x : ScrubArray) (a : Nat) : Bool :=
  match x with
  | .scratchpad => s.mem.poison.contains (eccWord a)
  | .ring => s.mem.poison.contains (eccWord a)
  | .dram => s.mem.poison.contains (eccWord a)
  | .accumulator n e b => (let m := (s.getCore n).t.me e
                           if b then m.shadow else m.lit).poison.contains a
  | .plane n lit => (if lit then (s.getCore n).lit else (s.getCore n).shadow).poison.contains a
  | .microStore n lit => (if lit then (s.getCore n).lit else (s.getCore n).shadow).poison.contains (microEcc a)
  | .afterglow d => (s.glowOf d).poison.contains a

/-- Poison the word that a scrub read (R307, R346). -/
def State.scrubPoison (s : State) (x : ScrubArray) (a : Nat) : State :=
  match x with
  | .scratchpad => s.poisonPa a
  | .ring => s.poisonPa a
  | .dram => s.poisonPa a
  | .accumulator n e b =>
    let c := s.getCore n
    s.setCore n { c with t := c.t.setMe e ((c.t.me e).modBank b fun k => { k with poison := addOnce k.poison a }) }
  | .plane n lit => s.setCore n ((s.getCore n).modPlane lit fun p => { p with poison := addOnce p.poison a })
  | .microStore n lit => s.setCore n ((s.getCore n).modPlane lit fun p => { p with poison := addOnce p.poison (microEcc a) })
  | .afterglow d => s.setGlow d { s.glowOf d with poison := addOnce (s.glowOf d).poison a }

/-- The word that a scrub names exists. -/
def State.scrubExists (s : State) (x : ScrubArray) (a : Nat) : Bool :=
  match x with
  | .scratchpad => decide (spBase ≤ a) && s.physOk a
  | .ring => decide (ringBase ≤ a ∧ a < spBase) && s.physOk a
  | .dram => decide (a < ringBase) && s.physOk a
  | .accumulator n _ _ => decide (n < 576 ∧ a < 20480)
  | .plane n _ => decide (n < 576 ∧ a < 16384)
  | .microStore n _ => decide (n < 576 ∧ a < 1024)
  | .afterglow d => decide (d < 6 ∧ a < 4096)

/-- The physical address of a word that a scrub names, if it has one. -/
def scrubPa (x : ScrubArray) (a : Nat) : Option Nat :=
  match x with
  | .scratchpad => some a
  | .ring => some a
  | .dram => some a
  | _ => none

/-- SCRUB: a word already poisoned is left alone; a corrected error counts; an uncorrectable one poisons, with no fault record (R345, R346). -/
def execScrub (x : ScrubArray) (a : Nat) (r : EccResult) (s : State) : Out :=
  if s.scrubExists x a = false then notEnabled "SCRUB"
  else if s.scrubPoisoned x a then .next s
  else
    match r with
    | .clean => .next s
    | .corrected => .next (s.corrected (placeOfScrub x a))
    | .uncorrectable => .next ((s.scrubPoison x a).uncorrected (placeOfScrub x a) (scrubPa x a))

/-! ### Errors that a read finds (R307, R345) [log 44] -/

/-- The word that a read names exists. -/
def State.readExists (s : State) (p : ReadPlace) : Bool :=
  match p with
  | .scrubbed x a => s.scrubExists x a
  | .vector n w => decide (n < 576 ∧ w < 1024)
  | .scalar n r => decide (n < 576 ∧ 0 < r ∧ r < 64)
  | .predicate n w => decide (n < 576 ∧ 4 ≤ w ∧ w < 64)
  | .l1 n k w => decide (n < 576 ∧ w < 8) && decide (k < (s.getCore n).l1.length)
  | .stream n k w => decide (n < 576 ∧ k < 4) && decide (w < (fileGet (s.getCore n).t.streams (BitVec.ofNat 2 k)).length)
  | .mailbox n k i => decide (n < 576 ∧ k < 8) && decide (i < ((s.getCore n).box k).entries.length)
  | .returnQueue n k => decide (n < 576) && decide (k < (s.getCore n).t.comp.rq.length)
  | .loopBuffer n k => decide (n < 576) && decide (k < (s.getCore n).buf.words.length)
  | .store d x f k =>
    decide (d < 2) &&
    match x with
    | .retry => ((nth? s.fabric.sources f).map fun q => decide (k < q.descs.length)).getD false
    | .reorder => ((nth? s.fabric.dests f).map fun q => decide (k < q.held.length)).getD false
    | .result => ((nth? s.fabric.dests f).map fun q => decide (k < q.results.length)).getD false
    | .pending => decide (f < 32) && decide (k < (s.collOf f).early.length)

/-- An array of a core that no scrubber reads, by its number there (R345). -/
def corePlace (n k row : Nat) : ArrayPlace := { array := coreArray n k, die := coreDie n, loc := coreCode n, row }

def FabricStore.code (x : FabricStore) : Nat :=
  match x with
  | .retry => 0 | .reorder => 1 | .result => 2 | .pending => 3

/-- The array that holds the word which a read names (R345): the structure rows of its table. -/
def placeOfRead (p : ReadPlace) : ArrayPlace :=
  match p with
  | .scrubbed x a => placeOfScrub x a
  | .vector n _ => corePlace n 40 2
  | .scalar n _ => corePlace n 41 2
  | .predicate n _ => corePlace n 42 2
  | .l1 n _ _ => corePlace n 43 2
  | .stream n k _ => corePlace n (44 + k) 2
  | .mailbox n k _ => corePlace n (48 + k) 2
  | .returnQueue n _ => corePlace n 56 2
  | .loopBuffer n _ => corePlace n 57 1
  | .store d x _ _ => { array := 103000 + 4 * d + x.code, die := 4 + d, loc := 0, row := 3 }

/-- A poisoned packet: its first word. -/
def spoil (p : Packet) : Packet := { p with bad := addOnce p.bad 0 }

/-- A word of an L1 line is poisoned (R307): bytes of it that the core stored are lost, and their poison goes to their home; none while a home in another package cannot be told. -/
def State.poisonL1 (s : State) (n k w : Nat) : Option State :=
  let c := s.getCore n
  match nth? c.l1 k with
  | none => none
  | some l =>
    let m := maskBits (8 * w) 8
    let clean : State := s.setCore n { c with l1 := modNth c.l1 k fun o => { o with dirty := o.dirty &&& ~~~m, poison := o.poison ||| (m &&& o.present) } }
    if l.dirty &&& m = 0 then some clean
    else
      match l.pkg with
      | none => some (clean.poisonPa (64 * l.line + 8 * w))
      | some p =>
        if s.flowFull (1152 + n) p 0 then none
        else some (clean.send { type := 0, tc := 0, eng := 1152 + n, dst := p, asid := c.t.id.asid, key := l.key, pa := 64 * l.line + 8 * w,
                                len := 8, payload := List.replicate 8 0, bad := [0] } none none)

/-- The word that a read found uncorrectable is poisoned (R307, R345); none where it cannot be. -/
def State.poisonRead (s : State) (p : ReadPlace) : Option State :=
  match p with
  | .scrubbed x a => some (s.scrubPoison x a)
  | .vector n w => some (s.poisonReg n w)
  | .scalar n r => some (s.poisonReg n (1024 + r))
  | .predicate n w => some (s.poisonReg n (1088 + w))
  | .l1 n k w => s.poisonL1 n k w
  | .stream n k w =>
    let c := s.getCore n
    let i := BitVec.ofNat 2 k
    some (s.setCore n { c with t := { c.t with streamPoison := filePut c.t.streamPoison i (addOnce (fileGet c.t.streamPoison i) w) } })
  | .mailbox n k i =>
    let c := s.getCore n
    some (s.setCore n (c.setBox k { c.box k with bad := addOnce (c.box k).bad i }))
  | .returnQueue n k =>
    let c := s.getCore n
    some (s.setCore n { c with t := { c.t with comp := { c.t.comp with rq := modNth c.t.comp.rq k fun q => { q with bad := true } } } })
  | .loopBuffer n k =>
    let c := s.getCore n
    some (s.setCore n { c with buf := { c.buf with poison := addOnce (addOnce c.buf.poison (k / 2 * 2)) (k / 2 * 2 + 1) } })
  | .store _ x f k => some <|
    match x with
    | .retry => s.modFabric fun b => { b with sources := modNth b.sources f fun q => { q with descs := modNth q.descs k fun d => { d with packet := spoil d.packet } } }
    | .reorder => s.modFabric fun b => { b with dests := modNth b.dests f fun q => { q with held := modNth q.held k fun h => (h.1, spoil h.2) } }
    | .result => s.modFabric fun b => { b with dests := modNth b.dests f fun q => { q with results := modNth q.results k fun r => { r with bad := true } } }
    | .pending => s.setColl f { s.collOf f with early := modNth (s.collOf f).early k spoil }

/-- The physical address of a word that a read names, if it has one. -/
def readPa (p : ReadPlace) : Option Nat :=
  match p with
  | .scrubbed x a => scrubPa x a
  | _ => none

/-- A read of a word of a protected array finds it clean, corrected or uncorrectable (R345); what reads it then meets the poison (R307). -/
def State.readError (s : State) (p : ReadPlace) (r : EccResult) : Out :=
  if s.readExists p = false then .refused .badAgenda
  else
    match r with
    | .clean => .next s
    | .corrected => .next (s.corrected (placeOfRead p))
    | .uncorrectable =>
      match s.poisonRead p with
      | none => .refused .badAgenda
      | some s1 => .next (s1.uncorrected (placeOfRead p) (readPa p))

/-- A cluster's rail at the end of a window: with every array below Tm it was safe, and steps down (R347). -/
def Cluster.windowEnd (c : Cluster) (quiet : Bool) : Cluster :=
  if !c.lock && quiet then { c with safe := c.step, step := min (c.step + 1) 10 } else c

/-- GOVERNOR_WINDOW_END: every unlocked domain steps, the counts begin again, a threshold write takes effect (R347, R348). -/
def execGovernorWindowEnd (s : State) : Out :=
  let quiet (k : Nat) : Bool := s.power.counts.all fun q => decide (clusterOfArray q.1 ≠ some k) || decide (q.2 < atLeast1 s.power.tm)
  let s1 := if s.power.power = .peak then s
    else forEach (List.range 48) (fun k s => s.modCluster k fun c => c.windowEnd (quiet k)) s
  .next (s1.modPower fun p =>
    { p with counts := [], pending := none, tm := (p.pending.map (·.1)).getD p.tm, tp := (p.pending.map (·.2)).getD p.tp })

/-- A management write that is refused is counted (R358). -/
def State.mgmtError (s : State) : State := s.modMgmt fun m => { m with errcnt := m.errcnt + 1 }

/-- Management writes are accepted: once step 4 of the start-up has ended; till then, and after it has stopped, only bootgo is, in step 3 (R360). -/
def State.mgmtOpen (s : State) : Bool :=
  let k := s.mgmt.bootst.extractLsb' 0 4
  decide (k = 0xF#4 ∨ k = 5#4 ∨ k = 6#4)

/-- A management write before step 4 of the start-up has ended is refused and counted (R360). -/
def State.whenReady (s : State) (f : State → State) : Out := .next (if s.mgmtOpen then f s else s.mgmtError)

/-- THRESHOLD_WRITE: in effect at the next window end (R348). -/
def execThresholdWrite (w : Word) (s : State) : Out :=
  s.whenReady fun s => s.modPower fun p => { p with pending := some (w.extractLsb' 0 16, w.extractLsb' 16 16) }

/-! ### DRAM rows (R239) -/

/-- HOLDBACK_END: the requests held back at bank r proceed (R239). -/
def execHoldbackEnd (r : Nat) (s : State) : Out :=
  if s.mgmt.heldBanks.contains r then .next (s.modMgmt fun m => { m with heldBanks := m.heldBanks.filter (· ≠ r) })
  else notEnabled "HOLDBACK_END"

/-- REGULAR_REFRESH: the row's count is 0 (R239). -/
def execRegularRefresh (r : Nat) (s : State) : Out := .next (s.modMgmt fun m => { m with rowCounts := mapSet 0 m.rowCounts r 0 })

/-- ROW_THRESHOLD_WRITE: 256 to 16,384 in steps of 64; any other value is ignored (R239). -/
def execRowThresholdWrite (w : Word) (s : State) : Out :=
  s.whenReady fun s =>
    if 256 ≤ w.toNat ∧ w.toNat ≤ 16384 ∧ w.toNat % 64 = 0 then s.modMgmt fun m => { m with rmth := BitVec.ofNat 15 w.toNat } else s

/-! ### The mode register (R237, R343, R344) -/

/-- The mode register's value (R343). -/
def Modes.word (m : Modes) : Nat := m.power.code + m.mirror.code * 4 + m.ring.toNat * 16 + (if m.careful then 128 else 0)

/-- The modes that a word describes; none for a reserved value (R343). -/
def modesOf (w : Nat) : Option Modes :=
  if bitsOf w 1 0 = 3 ∨ bitsOf w 3 2 = 3 ∨ 5 ≤ bitsOf w 6 4 ∨ w / 256 ≠ 0 then none
  else some { power := match bitsOf w 1 0 with
                | 0 => .peak
                | 1 => .rated
                | _ => .efficient,
              mirror := match bitsOf w 3 2 with
                | 0 => .strict
                | 1 => .full
                | _ => .sampled,
              ring := BitVec.ofNat 3 (bitsOf w 6 4), careful := decide (bitsOf w 7 7 = 1) }

/-- Some core runs a task (R237, R344). -/
def State.anyRunning (s : State) : Bool := s.liveCores.any fun n => decide ((s.getCore n).mode ≠ .idle)

/-- A change of the ring split leaves ring memory undefined: a new generation of its contents (R237) [log 12]. -/
def Mem.newRing (m : Mem) : Mem := { m with ringKey := m.ringKey + 1 }

/-- MODE_WRITE (R343, R344): a reserved value is ignored as a whole and counted; a new ring split while a task runs is ignored and counted, and the other fields take their values [log 54]. -/
def execModeWrite (w : Word) (s : State) : Out :=
  s.whenReady fun s =>
    match modesOf w.toNat with
    | none => s.mgmtError
    | some m =>
      let old := s.power.modes
      let late := decide (m.ring ≠ old.ring) && s.anyRunning
      let s0 := if late then s.mgmtError else s
      let m := if late then { m with ring := old.ring } else m
      let s1 := if m.ring = old.ring then s0 else { s0 with mem := s0.mem.newRing }
      (s1.glowEvent 4 10 0 m.word old.word).modPower fun p => { p with modes := m }

end Sys2Proof.Machine
end

