-- ==== Sys2Proof/Machine/CoreEvents.lean ====
section
/-! DEFINITION. Events at a core's own results and requests: far loads, the return queue, next-tile answers, reductions, prefetch walks and L1 evictions (R59, R92, R93, R215, R240, R296, R308, R345). -/

namespace Sys2Proof.Machine

/-- The physical address of this package that an address of the running task names, if it has one. -/
def State.paOf (s : State) (va : VAddr) : Option Nat :=
  match s.xlate (some s.cur) s.core.t.id.asid va needR with
  | .ok l => if l.pkg.isNone then some l.pa else none
  | _ => none

/-- The registers as a snapshot has them: the bundle and all that came after it are nullified; earlier far results stay due (R31). -/
def State.undoTo (s : State) (u : Undo) (k : Nat) : State :=
  let t := s.core.t
  { s with core := { s.core with
      t := { t with x := u.x, v := u.v, p := u.p, ts := u.ts, pc := u.pc, loop := u.loop, seg := u.seg, satPend := u.satPend,
                    regPoison := u.regPoison, sys := { t.sys with vflags := u.vflags },
                    sb := { t.sb with far := t.sb.far.take k, landX := u.landX, landV := u.landV, landP := u.landP } }
      srctr := u.srctr
      pendTrap := none
      bundle := Bundle.reset } }

/-- A far load that cannot complete once its bytes are there: its bundle and those after it are nullified, and the fault is precise at that bundle (R31, R74, R330, R345); a task that is being saved takes it when it resumes [log 31]. -/
def State.badLoad (s : State) (k : Nat) (f : FarOp) (e : Exc) : State :=
  let s1 := (s.undoTo f.undo k).modCore fun c => c.forgetAsks
  match s.core.mode with
  | .running => s1.takeException e f.undo.pc
  | .saving r q _ => s1.modCore fun c => { c with mode := .saving r (some (q.getD e)) (some (some e)) }
  | _ => s1

/-- The bank of a far result's access is held back (R239). -/
def State.bankHeld (s : State) (f : FarOp) : Bool :=
  match s.paOf f.exc.addr with
  | none => false
  | some pa => decide (pa < ringBase) && s.mgmt.heldBanks.contains (Config.dramBank pa)

/-- LOAD_LAND: the far result at place k of core c lands, its read clean, corrected or in error (R59, R239, R345). An error nullifies its bundle, so it comes only while that can be done [log 31]. -/
def execLoadLand (c k : Nat) (r : EccResult) (s : State) : Out :=
  s.atCore c "LOAD_LAND" fun s =>
    match nth? s.core.t.sb.far k with
    | none => none
    | some f =>
      if f.parts.isEmpty = false ∨ s.bankHeld f = true then none
      else
        match r, s.paOf f.exc.addr with
        | .clean, _ => some (s.landNth k)
        | .corrected, some pa => some ((s.landNth k).corrected (placeOfPa pa))
        | .uncorrectable, some pa =>
          if f.firm then none
          else some (((s.poisonPa pa).uncorrected (placeOfPa pa) (some pa)).badLoad k f { f.exc with cause := .poison, opnd := if f.exc.wr then 1 else 0 })
        | _, none => none

/-- A return-queue value lands. -/
def RqEntry.land (q : RqEntry) : RqEntry := { q with due := 0 }

/-- RETURN_QUEUE_LAND: entry k, pushed 2 cycles ago, lands (R92). -/
def execReturnQueueLand (c k : Nat) (s : State) : Out :=
  s.atCore c "RETURN_QUEUE_LAND" fun s =>
    match nth? s.core.t.comp.rq k with
    | none => none
    | some q =>
      if q.value.isSome ∧ q.due ≠ 0 ∧ q.due ≤ s.core.clock then some (s.modComp fun p => { p with rq := p.rq.set k q.land })
      else none

/-- A next-tile request is served: a chunk of its range task, or the first 8 payload bytes of its queue's next entry, taken without a token; all ones if there is no more (R93, R222). Where the entry's payload cannot be read, the manual states no coordinates: they are a free value, and the entry is taken all the same [log 61]. -/
def State.nextTile (s : State) (q : NxtReq) : Word × State :=
  let asid := s.core.t.id.asid
  if q.range then
    let r := (s.seenRecord (vaOf q.q)).claim asid (vaOf q.q)
    match r.1 with
    | none => (BitVec.allOnes 64, r.2)
    | some (lo, e) => (BitVec.ofNat 64 (lo + (e - lo) * 2 ^ 48), r.2)
  else
    let j := bitsOf q.q.toNat 2 0
    match s.liveQueue asid (queueBlock q.q) with
    | none => (BitVec.allOnes 64, s)
    | some u =>
      let n := u.cursors.getD j 0
      match u.entries.find? fun e => decide (e.seq = n) && e.pushed with
      | none => (BitVec.allOnes 64, s)
      | some e =>
        let v := match s.agentRead (some s.cur) asid (BitVec.ofNat 55 (e.slot + 8)) 8 with
          | .ok bs => BitVec.ofNat 64 (leNat bs)
          | .error _ => Config.freeWord s.fresh 0x400
        let s := match s.xlate (some s.cur) asid (BitVec.ofNat 55 (e.slot + 8)) needR with
          | .ok l => s.modCore fun c => c.dropClean l 8
          | _ => s
        (v, (s.modQueue asid u.block fun u => { u with cursors := u.cursors.set j (n + 1) }).returnToken asid { queue := u.block, cursor := j, seq := n })

/-- NXTREQ_ANSWER: the oldest next-tile request of core c is served and its coordinates arrive (R93). -/
def execNxtreqAnswer (c : Nat) (s : State) : Out :=
  s.atCore c "NXTREQ_ANSWER" fun s =>
    match s.core.t.sb.nxt with
    | [] => none
    | q :: r =>
      let a := s.nextTile q
      some (a.2.modT fun t =>
        { t with x := if q.d = 0 then t.x else filePut t.x q.d a.1,
                 sb := { t.sb with nxt := r, far := t.sb.far.map fun f =>
                   { f with undo := if q.d = 0 then f.undo else { f.undo with x := filePut f.undo.x q.d a.1 } } } })

/-! ### Reductions (R212, R215, R308) -/

/-- A task's reduction has been performed (R309). -/
def State.redDone (s : State) (r : Red) : State := s.modRec r.task.asid r.task.record fun q => { q with reds := q.reds - 1 }

/-- The RED packet of a reduction (R323). -/
def Red.packet (r : Red) (eng : Nat) (l : Loc) (p : Nat) : PacketSpec :=
  { type := 5, tc := 1, eng, dst := p, asid := r.task.asid, key := l.key, pa := l.pa, op := r.op + (if r.size = 4 then 0 else 16),
    opnd := r.operand.toNat % 2 ^ (8 * r.size) }

/-- A reduction whose page has a translation: performed at its home, sent to its package, or dropped; none while its flow is full (R213, R215, R307, R330). -/
def State.performRed (s : State) (r : Red) (eng : Nat) (l : Loc) : Option State :=
  match l.pkg with
  | none =>
    if s.mem.poisoned l.pa r.size then some (s.dropRed r .poison)
    else some ((s.amoHome l.key l.pa r.op r.size r.operand.toNat 0).1.redDone r)
  | some p =>
    if s.fabric.lost.contains p then some (s.dropRed r .peerLost)
    else if s.flowFull eng p 1 then none
    else some (s.send (r.packet eng l p) (some (.red r)) none)

/-- The record of a reduction that parks (R304). -/
def State.redRec (s : State) (r : Red) : FaultRec :=
  { s.blankRec r.task.asid with cause := Cause.translation.code, kind := 2, slot := 0, opnd := 1, core := r.core, wr := true, image := r.image,
                                bundle := r.bundle, va := r.va, task := r.task.record }

/-- A reduction misses: it parks; none while the store or the pending-page table has no room (R299, R305, R308). -/
def State.parkRed (s : State) (r : Red) : Option State :=
  if 8192 ≤ s.xlat.parked.length ∨ s.pendingFull r.task.asid r.va = true then none
  else
    let q := { r with seq := s.xlat.parkSeq, go := false }
    some (((s.missOn r.task.asid r.va (.red q) (s.redRec r)).modXlat fun x =>
      { x with parked := x.parked ++ [q], parkSeq := x.parkSeq + 1 }).countField r.task.asid 56 (· + 1))

/-- A walk that found a malformed or poisoned entry leaves its kind-4 record (R296, R304). -/
def State.redWalkRec (s : State) (r : Red) (st : Status) : State := s.kind4 r.task r.core 0 1 0xFFFF true st r.bundle r.va

/-- Translate a reduction at a network interface (R215, R235, R296). -/
def State.translateRed (s : State) (win : Option Nat) (eng : Nat) (r : Red) : Option State :=
  match s.xlate win r.task.asid r.va needRW with
  | .ok l => (s.noteTlb r.task.asid r.va).performRed r eng l
  | .miss => s.parkRed r
  | .refused => some (s.dropRed r .protection)
  | .forbidden => some ((s.redWalkRec r .protection).dropRed r .protection)
  | .poisoned => some ((s.redWalkRec r .poison).dropRed r .poison)

/-- An earlier reduction of the same core to the same bytes is parked (R213, R308). -/
def State.redBehind (s : State) (r : Red) : Bool :=
  s.xlat.parked.any fun q => decide (q.core = r.core) && s.redMeets q r.task.asid r.va r.size (s.placeOfRed r)

/-- A reduction behind a parked one parks with it, if its page has an entry to wait on; else it waits at the network interface (R213, R308). -/
def State.followRed (s : State) (r : Red) : Option State :=
  if s.xlat.pending.any fun p => p.is r.task.asid (pageNo r.va) then s.parkRed r else none

/-- A parked reduction leaves the store (R308). -/
def State.unpark (s : State) (r : Red) : State :=
  (s.modXlat fun x => { x with parked := dropFirst (fun q => decide (q.seq = r.seq)) x.parked }).countField r.task.asid 56 (· - 1)

/-- A parked reduction is replayed under its number: removed as it is sent, in the flow of the store (R308, R324) [log 64]. -/
def State.replayRed (s : State) (r : Red) : Option State := (s.unpark r).translateRed none 1760 r

/-- RED_TRANSLATE: a parked reduction that waits for its flow is replayed, or the oldest retired reduction of core c is translated at its network interface (R215, R308). -/
def execRedTranslate (c : Nat) (s : State) : Out :=
  s.atCore c "RED_TRANSLATE" fun s =>
    match (s.xlat.parked.find? (·.go)).bind s.replayRed, s.core.reds with
    | some s1, _ => some s1
    | none, [] => none
    | none, r :: q =>
      let s1 := s.modCore fun k => { k with reds := q }
      if s.redBehind r then s1.followRed r else s1.translateRed (some s.cur) s.netEng r

/-! ### Prefetch walks and evictions (R73, R240, R296) -/

/-- A prefetched line comes into the L1 of the core that asked, if its task may read it: at once from this package, by a READ from another; a poisoned line is dropped (R73, R74, R240). -/
def State.prefetchLine (s : State) (w : Walk) : State :=
  if s.core.mode ≠ .running ∨ s.core.t.id.asid ≠ w.asid then s
  else
    match s.xlate (some s.cur) w.asid w.va needR with
    | .ok l =>
      match l.pkg with
      | none =>
        let o := s.l1Fetch { l with pa := l.pa / 64 * 64 } w.va
        if o.poison ≠ 0 ∨ s.l1Stuck l = true then s else (s.activate l.pa).l1Add o
      | some p =>
        if s.fabric.lost.contains p ∨ (heldBytes (l1Find s.core.l1 l) false 0 64).all (·.isSome) = true then s
        else
          match s.askFill l p w.va true with
          | none => s
          | some (_, s1) => s1
    | _ => s

/-! ### Lines of other packages arrive (R59, R240, R307) -/

/-- A line that a READ has brought goes into the L1 under the core's own dirty bytes; one asked for by PRF is dropped if it is poisoned (R74, R240). -/
def State.installFill (s : State) (f : Fill) (bs : List Byte) (bad : List Nat) : State :=
  if f.keep = false ∨ (f.pref = true ∧ bad ≠ []) ∨ s.l1Stuck { pkg := some f.pkg, pa := 64 * f.line, key := f.key } = true then s
  else
    let loc : Loc := { pkg := some f.pkg, pa := 64 * f.line, key := f.key }
    let o := (l1Find s.core.l1 loc).getD (blankLine loc (BitVec.ofNat 55 (64 * f.va)))
    s.l1Add ((List.range 64).foldl (fun (o : L1Line) i =>
      if o.dirty.getLsbD i then o
      else { o with data := linePut o.data i [bs.getD i 0], poison := if bad.contains (i / 8) then o.poison ||| maskBits i 1 else o.poison &&& ~~~(maskBits i 1) })
      { o with present := BitVec.allOnes 64 })

/-- The bytes of a part once its line is there; none if one of them is poisoned (R307). -/
def FarPart.fill (p : FarPart) (bs : List Byte) (bad : List Nat) : Option (List Byte) :=
  (p.bytes.zip (List.range p.bytes.length)).foldr (fun q acc =>
    match acc, q.1 with
    | none, _ => none
    | some r, some b => some (b :: r)
    | some r, none => if bad.contains ((p.off + q.2) / 8) then none else some (bs.getD (p.off + q.2) 0 :: r)) (some [])

/-- A far result with the parts that a line brings put in; a poisoned part stays, with its fault (R130). -/
def FarOp.take (f : FarOp) (pkg : Nat) (seq : BitVec 32) (bs : List Byte) (bad : List Nat) : FarOp :=
  f.parts.foldl (fun g p =>
    if p.fail.isSome ∨ p.pkg ≠ pkg ∨ p.seq ≠ seq then { g with parts := g.parts ++ [p] }
    else
      match p.fill bs bad with
      | none => { g with parts := g.parts ++ [{ p with fail := some { p.exc with cause := .poison, opnd := 0 } }] }
      | some b => { g with val := p.places.foldl (fun v k => v.put k b) g.val }) { f with parts := [] }

/-- A far result with the parts that a lost package owed (R330). -/
def FarOp.lose (f : FarOp) (pkg : Nat) : FarOp :=
  { f with parts := f.parts.map fun p =>
      if p.pkg = pkg ∧ p.fail = none then { p with fail := some { p.exc with cause := .protection, opnd := 1, rec4 := some .peerLost } } else p }

/-- The fault of a far result: the lowest of its elements that are not there cannot come (R130). -/
def FarOp.fault (f : FarOp) : Option Exc := f.parts.head?.bind (·.fail)

/-- The far results stand as they have been changed, and the earliest that faults does so (R31, R59). -/
def State.setFar (s : State) (l : List FarOp) : State :=
  let s1 := s.modSb fun b => { b with far := l }
  match l.findIdx? fun f => f.fault.isSome with
  | none => s1
  | some k =>
    match nth? l k with
    | none => s1
    | some f => match f.fault with
      | none => s1
      | some e => s1.badLoad k f e

/-- An RDATA brings a line to the current core (R59, R240): the L1 keeps it, and the far results that wait for it have their bytes. -/
def State.landLine (s : State) (pkg : Nat) (seq : BitVec 32) (bs : List Byte) (bad : List Nat) : State :=
  match s.core.fills.find? fun f => decide (f.pkg = pkg ∧ f.seq = seq) with
  | none => s
  | some f =>
    let s1 := (s.modCore fun c => { c with fills := dropFirst (fun g => decide (g.pkg = pkg ∧ g.seq = seq)) c.fills }).installFill f bs bad
    s1.setFar (s1.core.t.sb.far.map fun g => g.take pkg seq bs bad)

/-- The far results that wait for a package declared lost fail, the earliest first: PROTECTION with status PEER_LOST (R330). -/
def State.loseLines (s : State) (pkg : Nat) : State :=
  let s1 := s.modCore fun c => { c with fills := c.fills.filter fun f => decide (f.pkg ≠ pkg) }
  s1.setFar (s1.core.t.sb.far.map fun f => f.lose pkg)

/-- PAGE_WALK_COMPLETE: the walk at place k ends with a translation, a miss, PROTECTION or POISON (R296); a prefetch that fails is dropped (R73). -/
def execPageWalkComplete (k : Nat) (s : State) : Out :=
  match nth? s.xlat.walks k with
  | none => notEnabled "PAGE_WALK_COMPLETE"
  | some w =>
    let s1 := s.modXlat fun x => { x with walks := dropNth x.walks k, inval := x.inval.map fun i => if k < i.older then { i with older := i.older - 1 } else i }
    .next (s1.onCore w.core fun s =>
      match s.xlate (some s.cur) w.asid w.va needR with
      | .ok _ => (s.noteTlb w.asid w.va).prefetchLine w
      | .miss => s
      | .refused => s
      | .forbidden => s.kind4 { s.core.t.id with asid := w.asid } w.core 0 1 0xFFFF false .protection 0 w.va
      | .poisoned => s.kind4 { s.core.t.id with asid := w.asid } w.core 0 1 0xFFFF false .poison 0 w.va)

/-- L1_EVICTION: line k of core c's L1 is written back and dropped (R240). -/
def execL1Eviction (c k : Nat) (s : State) : Out :=
  s.atCore c "L1_EVICTION" fun s =>
    match nth? s.core.l1 k with
    | none => none
    | some l => if s.lineStuck l then none else some (s.writeBack (fun o => decide (o.pkg = l.pkg ∧ o.line = l.line)) true)

end Sys2Proof.Machine
end

