-- ==== Sys2Proof/Machine/Sched.lean ====
section
/-! DEFINITION. The scheduler: run queues, claims, admission, selection, dispatch, gangs, splits, slices, and stopping a record that no core runs (R8, R9, R223, R257 to R271, R286). -/

namespace Sys2Proof.Machine

/-! ### Records and images -/

def State.recPrio (s : State) (r : TaskId) : Nat := bitsOf (s.recGet r.asid r.record 0 8) 13 11
def State.recClass (s : State) (r : TaskId) : Nat := bitsOf (s.recGet r.asid r.record 0 8) 15 14
def State.recFeat (s : State) (r : TaskId) : BitVec 6 := BitVec.ofNat 6 (bitsOf (s.recGet r.asid r.record 0 8) 21 16)
def State.recGsize (s : State) (r : TaskId) : Nat := bitsOf (s.recGet r.asid r.record 0 8) 25 22
def State.recImage (s : State) (r : TaskId) : BitVec 32 := BitVec.ofNat 32 (s.recGet r.asid r.record 8 4)
def State.recEntry (s : State) (r : TaskId) : VAddr := BitVec.ofNat 55 (s.recGet r.asid r.record 12 4)

/-- An entry of an image table (R286). -/
structure ImageEntry where
  fmt : Nat
  code : Nat
  clen : Nat
  ucode : Nat
  /-- a reserved bit is set, or the code is misplaced or too long -/
  bad : Bool
  deriving DecidableEq, Repr

/-- The entry at a physical address (R286); bits 63:55 of its addresses are ignored (R234). -/
def State.imageEntry (s : State) (a : Nat) : ImageEntry :=
  let w0 := s.phys a 8
  let w1 := s.phys (a + 8) 8
  let w2 := s.phys (a + 16) 8
  let w3 := s.phys (a + 24) 8
  { fmt := bitsOf w0 47 32, code := w1 % 2 ^ 55, clen := w2, ucode := w3 % 2 ^ 55,
    bad := decide (2 ^ 48 ≤ w0 ∨ w1 % 64 ≠ 0 ∨ 131072 < w2 ∨ w2 % 4 ≠ 0) }

/-- Look an image up, to the table's end or 1,024 entries (R286). -/
def State.findImage (s : State) (n : Nat) (a : Nat) (img : Nat) : Option ImageEntry :=
  match n with
  | 0 => none
  | k + 1 =>
    let id := s.phys a 4
    if id = 0 then none else if id = img then some (s.imageEntry a) else s.findImage k (a + 32) img

/-- The image's entry in its context's table (R227, R257). -/
def State.imageOf (s : State) (asid : Nat) (img : BitVec 32) : Option ImageEntry := s.findImage 1024 (s.desc asid 88 7) img.toNat

/-- The address of a record's entry word, as fault records name it; 0 for an image that is not in the table (R304). -/
def State.entryVa (s : State) (r : TaskId) : VAddr :=
  match s.imageOf r.asid (s.recImage r) with
  | none => 0
  | some e => BitVec.ofNat 55 e.code + s.recEntry r

/-! ### Stopping a record without an instruction behind it (R231, R265, R266, R301, R313) -/

/-- Drop what a record without a core still holds: mailbox bindings, saved tokens and references (R210, R211, R217, R231). -/
def State.dropSaved (s : State) (r : SchedRec) : State :=
  let id := r.task
  let q := (s.forgetRecord id.asid id.record).dropSavedOf id.asid id.record
  let refs := q.2 ++ r.refs
  (q.1.modRec id.asid id.record fun q => { q with refs := [], live := [] }).dropRefs id.asid (s.refFuel refs) refs

/-- Stop a record that no core runs: STOPPED, what it holds dropped, its kind-3 record, and its end (R231, R304). -/
def State.stopRecord (s : State) (r : SchedRec) (c : Cause) (va : VAddr) : State :=
  let id := r.task
  let epc := ((s.sched.saved.find? fun v => decide (v.task.asid = id.asid ∧ v.task.record = id.record)).map fun v => v.t.pc).getD 0
  let s1 := ((s.recSet id.asid id.record 0 1 stStopped).dropSaved r)
  (s1.addRec { s1.blankRec id.asid with cause := c.code, kind := 3, slot := 7, opnd := 7, elem := 0xFFFF, bundle := epc, va,
                                          task := id.record, image := s.recImage id }).finish id.asid id.record .stopped

/-! ### Run queues, admission and claims (R259 to R262) -/

/-- The nanoseconds since a time, whose counter wraps modulo 2^64 (R365). -/
def State.since (s : State) (t : Nat) : Nat := (s.mgmt.tsc - BitVec.ofNat 64 t).toNat

/-- The effective priority (R261); Q is in microseconds and times in nanoseconds (R365). -/
def State.effPrio (s : State) (r : SchedRec) : Nat := min 15 (s.recPrio r.task + s.since r.rt / (1000 * s.mgmt.aging.toNat))

/-- Older by ready time, as the counter has counted since, then by record address (R365). -/
def State.older (s : State) (a b : SchedRec) : Bool :=
  decide (s.since b.rt < s.since a.rt) || (decide (s.since b.rt = s.since a.rt) && decide (a.task.record ≤ b.task.record))

/-- The order of selection (R263): effective priority, then age. -/
def State.before (s : State) (a b : SchedRec) : Bool :=
  decide (s.effPrio b < s.effPrio a) || (decide (s.effPrio a = s.effPrio b) && s.older a b)

/-- Put an element before the first one that it does not follow. -/
def insertBy {α : Type} (le : α → α → Bool) (x : α) (l : List α) : List α :=
  match l with
  | [] => [x]
  | a :: r => if le x a then x :: a :: r else a :: insertBy le x r

def sortBy {α : Type} (le : α → α → Bool) (l : List α) : List α := l.foldr (insertBy le) []

/-- Some core's prefetch slot holds the record (R259). -/
def State.prefetched (s : State) (r : SchedRec) : Bool :=
  s.liveCores.any fun n => decide ((s.getCore n).prefetch.map (fun t => (t.asid, t.record)) = some (r.task.asid, r.task.record))

/-- The context is halted (R314). -/
def State.haltedContext (s : State) (asid : Nat) : Bool := s.sched.contexts.any fun c => decide (c.asid = asid) && c.halted

/-- The context may be dispatched: registered and not halted (R257, R314). -/
def State.contextRuns (s : State) (asid : Nat) : Bool := s.sched.contexts.any fun c => decide (c.asid = asid) && !c.halted

/-- A saved task's commands that made their last access have not all completed (R311, R313); its collectives run on without it. -/
def State.settling (s : State) (v : Saved) : Bool :=
  let colls := (s.colls.toList.flatMap fun q => (q.queue ++ (q.run.map (·.cmd)).toList).filter fun c => decide (c.task = v.task)).map (·.cmd.seq)
  v.t.haz.any fun h => !((v.t.heldSeqs ++ colls).contains h.seq)

/-- A saved part of the record waits on a page, or for commands that made their last access: it cannot be dispatched (R299, R311, R313). -/
def State.saveWaits (s : State) (r : SchedRec) : Bool :=
  s.sched.saved.any fun v => !v.ended && decide (v.task.asid = r.task.asid ∧ v.task.record = r.task.record) && (v.waits.isSome || s.settling v)

/-- The READY records of a die, those in a prefetch slot among them (R259, R261). -/
def State.readyOf (s : State) (die : Nat) : List SchedRec :=
  s.sched.recs.filter fun r => r.ready && decide (r.die = die) && s.contextRuns r.task.asid && !s.saveWaits r

/-- The READY records of a die that may be dispatched (R259). -/
def State.runQueue (s : State) (die : Nat) : List SchedRec := (s.readyOf die).filter fun r => !s.prefetched r

/-- The members that a record's dispatch places: those that still run, or all (R268). -/
def State.membersOf (s : State) (r : SchedRec) : List Nat :=
  if r.live ≠ [] then sortBy (fun a b => decide (a ≤ b)) r.live
  else if s.recKind r.task.asid r.task.record = 2 then List.range (s.recGsize r.task) else [0]

def State.isGang (s : State) (r : SchedRec) : Bool := decide (s.recKind r.task.asid r.task.record = 2)

/-- The core may run the record, whatever images it holds (R264, R266). -/
def State.capable (s : State) (r : SchedRec) (n : Nat) : Bool :=
  s.coreAllowed r.task.asid n && decide (s.recFeat r.task &&& ~~~(s.getCore n).feat = 0) &&
  (match r.pin with
   | none => true
   | some p => decide (p = n))

/-- fits (R264). -/
def State.fits (s : State) (r : SchedRec) (n : Nat) : Bool :=
  s.capable r n && ((s.getCore n).lit.holds (s.recImage r.task) || (s.getCore n).shadow.holds (s.recImage r.task))

/-- Admission of m members of a class to a cluster (R260, R268) [log 32]. -/
def State.admits (s : State) (k cls m : Nat) : Bool :=
  let c := s.clusterOf k
  decide (c.load + classWeight cls * m ≤ 3 * c.d.toNat) || decide (c.load = 0)

/-- The cores of a die. -/
def dieCores (die : Nat) : List Nat := (List.range 144).map fun i => 144 * die + i

/-- The cores reserved for a record (R268). -/
def State.reservedFor (s : State) (r : SchedRec) : List Nat :=
  sortBy (fun a b => decide (a ≤ b)) (s.liveCores.filter fun n => decide ((s.getCore n).reserved = some r.task))

/-- A claim: who holds it, and the clusters it covers (R261). -/
structure Claim where
  task : TaskId
  clusters : List Nat
  deriving DecidableEq, Repr

/-- The cluster of the die that a claim covers: among those with a core for the record, the lowest load, then the lowest number (R261). -/
def State.claimCluster (s : State) (r : SchedRec) (die : Nat) (except : List Nat) : List Nat :=
  let ks := (List.range 12).map fun k => 12 * die + k
  let ok := ks.filter fun k => !(except.contains k) && (dieCores die).any fun n => decide (coreCluster n = k) && s.capable r n
  (sortBy (fun a b => decide ((s.clusterOf a).load < (s.clusterOf b).load) ||
    (decide ((s.clusterOf a).load = (s.clusterOf b).load) && decide (a ≤ b))) ok).take 1

/-- The claim of a die's oldest urgent task (R261). -/
def State.claimOf (s : State) (die : Nat) : Option Claim :=
  match sortBy s.older ((s.readyOf die).filter fun r => decide (s.effPrio r = 15)) with
  | [] => none
  | r :: _ =>
    let own := ((s.reservedFor r).map coreCluster).eraseDups
    some { task := r.task, clusters := own ++ s.claimCluster r die own }

/-- A claim covers a cluster for somebody else (R261). -/
def State.claimedFrom (s : State) (die k : Nat) (t : Option TaskId) : Bool :=
  match s.claimOf die with
  | none => false
  | some c => c.clusters.contains k && decide (some c.task ≠ t)

/-! ### Dispatch (R8, R9, R259, R263, R269, R310, R311) -/

/-- A domain register's value (R23). -/
def domOf (id index size : Nat) : BitVec 48 := BitVec.ofNat 48 (id % 2 ^ 16 + index % 2 ^ 16 * 2 ^ 16 + size % 2 ^ 16 * 2 ^ 32)

/-- The domain registers at a dispatch of a member to core n (R269). -/
def State.domains (s : State) (id : TaskId) (n : Nat) : Vector (BitVec 48) 4 :=
  let gang := decide (s.recKind id.asid id.record = 2)
  let p := s.pkgId
  #v[if gang then domOf (bitsOf id.record.toNat 22 7) id.member (s.recGsize id) else domReset,
     domOf (coreDie n) (n % 144) ((dieCores (coreDie n)).filter (s.coreAllowed id.asid)).length,
     domOf p n (coreNumbers.filter (s.coreAllowed id.asid)).length,
     domOf (p / 4096) (coordOf p 0 + s.extent 0 * (coordOf p 1 + s.extent 1 * coordOf p 2)) (s.extent 0 * s.extent 1 * s.extent 2)]

/-- A record's declared scratchpad extent, and its length (R310): an extent that breaks the limits counts as empty. -/
def State.extentOf (s : State) (id : TaskId) : Nat × Nat :=
  let a := s.saveAt id
  let b := ((s.ctxRead id.asid a 8).getD 0)
  let l := ((s.ctxRead id.asid (a + 8) 8).getD 0)
  if b % 64 ≠ 0 ∨ l % 64 ≠ 0 ∨ 0x10_0000 < b + l then (b % 2 ^ 20, 0) else (b, l)

/-- The system registers of a dispatch: what the scheduler writes (R20, R21, R269). -/
def State.dispatchSys (s : State) (y : SysRegs) (id : TaskId) (n : Nat) : SysRegs :=
  { y with tslice := BitVec.ofNat 64 (s.desc id.asid 48 8), preq := 0, dom := s.domains id n, ecl := false,
           prio := BitVec.ofNat 3 (s.recPrio id), eclass := BitVec.ofNat 2 (s.recClass id) }

/-- The state of R9 for a first dispatch on core n. -/
def State.freshTask (s : State) (id : TaskId) (n : Nat) (refs : List VAddr) : TaskState :=
  let p := (s.getCore n).lit
  let e := s.extentOf id
  { TaskState.reset with
    id, refs, pc := p.base + s.recEntry id
    x := (TaskState.reset.x.set 61 (id.record.zeroExtend 64)).set 1 (BitVec.ofNat 64 (s.recGet id.asid id.record 16 8))
    me0 := { MatEngine.reset with mfmt := p.fmt0 }, me1 := { MatEngine.reset with mfmt := p.fmt1 }
    sys := s.dispatchSys { SysRegs.reset with srseed := BitVec.ofNat 64 (s.desc id.asid 40 8) ^^^ id.record.zeroExtend 64 } id n
    spbase := BitVec.ofNat 20 e.1, splen := BitVec.ofNat 21 e.2 }

/-- A paused engine goes on (R171). -/
def MatEngine.resumed (m : MatEngine) : MatEngine :=
  { m with run := m.run.map fun r => { r with paused := false, fetched := r.fetched.filter fun f => f.data.isSome } }

def CopyEngine.resumed (m : CopyEngine) : CopyEngine :=
  { m with run := m.run.map fun r => { r with fetched := r.fetched.filter fun f => f.data.isSome } }

/-- A return-queue value that the save waited for has landed (R60, R92). -/
def Completion.landed (c : Completion) : Completion := { c with rq := c.rq.map fun q => if q.value.isSome then { q with due := 0 } else q }

/-- A read for an agent without a window that takes poisoned bytes as they stand: their poison travels with them (R307). -/
def State.agentRaw (s : State) (asid : Nat) (va : VAddr) (n : Nat) : Except AccFail (List Byte) :=
  match s.xlate none asid va needR with
  | .ok l => if l.pkg.isSome then .error .remote else .ok (s.mem.bytes l.key l.pa n)
  | x => .error x.fail

/-- Read a range at its homes for an agent without a window, 64 bytes at a time, poisoned bytes included or not (R234). -/
def State.agentSpan (s : State) (raw : Bool) (asid : Nat) (k : Nat) (va : VAddr) : Except (AccFail × VAddr) (List Byte) :=
  match k with
  | 0 => .ok []
  | j + 1 =>
    match if raw then s.agentRaw asid va 64 else s.agentRead none asid va 64 with
    | .error e => .error (e, va)
    | .ok b =>
      match s.agentSpan raw asid j (va + 64) with
      | .error e => .error e
      | .ok r => .ok (b ++ r)

/-- n bytes of a section of a task's save area (R310). -/
def State.saveSection (s : State) (id : TaskId) (off n : Nat) : List Byte :=
  match s.agentSpan true id.asid ((n + 63) / 64) (s.saveAt id + BitVec.ofNat 55 off) with
  | .ok b => b.take n
  | .error _ => []

/-- The 8 bytes of an agent's address are poisoned. -/
def State.badVa (s : State) (asid : Nat) (va : VAddr) : Bool :=
  match s.xlate none asid va needR with
  | .ok l => l.pkg.isNone && s.mem.poisoned l.pa 8
  | _ => false

/-- The poisoned 8-byte words of a section of a task's save area, by number (R307, R310). -/
def State.badSection (s : State) (id : TaskId) (off n : Nat) : List Nat :=
  if s.mem.poison = [] then []
  else (List.range ((n + 7) / 8)).filter fun k => s.badVa id.asid (s.saveAt id + BitVec.ofNat 55 (off + 8 * k))

/-- A bank from its section, with its poisoned words (R16, R307, R310). -/
def bankOf (bs : List Byte) (bad : List Nat) : AccBank :=
  { cells := ((List.range 40960).zip (wordsOf 4 40960 bs)).filterMap fun q => if q.2 = 0 then none else some (q.1, BitVec.ofNat 32 q.2),
    dirty := true, poison := bad }

/-- The values of a return queue's entries that had landed, and their poison (R92, R307, R310). -/
def rqFrom (bad : List Nat) : Nat → List RqEntry → List Nat → List RqEntry
  | _, [], _ => []
  | k, q :: r, w => { q with value := q.value.map fun _ => BitVec.ofNat 64 (w.headD 0), bad := bad.contains k } :: rqFrom bad (k + 1) r w.tail

/-- An engine's 16 registers of 8 bytes (R310) [log 16]. -/
def MatEngine.saveWords (m : MatEngine) : List Word :=
  let pt := m.run.map (·.pt)
  m.mp.toList ++ [m.mfmt.zeroExtend 64, m.mrp, if m.spec then 1 else 0, BitVec.ofNat 64 ((pt.map (·.pos)).getD 0)] ++
    (match pt with
     | none => List.replicate 4 0
     | some q => q.mq.toList.map (·.zeroExtend 64))

/-- An engine with its 16 registers as the save area has them (R310) [log 16]. -/
def MatEngine.fromWords (m : MatEngine) (w : Array Nat) : MatEngine :=
  let f (i : Nat) : Word := BitVec.ofNat 64 (w.getD i 0)
  { m with
    mp := Vector.ofFn fun i => f i.val, mfmt := (f 8).setWidth 8, mrp := f 9, spec := (f 10).getLsbD 0
    run := m.run.map fun r => { r with pt := { r.pt with pos := w.getD 11 0, mq := Vector.ofFn fun i => (f (12 + i.val)).setWidth 32 } } }

/-- The state of a saved task with the sections that the manual lays out read back from its save area: x, p, v, the return queue, the reference list, the geometry registers, the matrix engines' registers, the scale slots, the stream buffers and the saved banks, poison with them; and with the counts that are owed (R307, R310, R311, R313) [log 16]. -/
def State.restored (s : State) (v : Saved) : TaskState :=
  let id := v.task
  if s.ownArea id = false then v.t
  else
    let xs := (wordsOf 8 64 (s.saveSection id 0x40 512)).toArray
    let ps := (wordsOf 32 16 (s.saveSection id 0x240 512)).toArray
    let vs := (wordsOf 256 32 (s.saveSection id 0x1000 8192)).toArray
    let gs := (wordsOf 8 32 (s.saveSection id 0x740 256)).toArray
    let ts := s.saveSection id 0x3000 4096
    let ms := wordsOf 8 32 (s.saveSection id 0x840 256)
    let rq := v.t.comp.rq
    let refs := v.t.refs
    let banks := bitsOf (leNat (s.saveSection id 0x10 8)) 4 1
    let bank (i : Nat) (b : AccBank) : AccBank := if banks / 2 ^ i % 2 = 1 then bankOf (s.saveSection id (0x10000 + 0x28000 * i) 163840) (s.badSection id (0x10000 + 0x28000 * i) 163840) else b
    let t : TaskState := { v.t with
      x := Vector.ofFn fun i => if i.val = 0 then v.t.x[i] else BitVec.ofNat 64 (xs.getD i.val 0)
      p := Vector.ofFn fun i => if i.val = 0 then v.t.p[i] else BitVec.ofNat 256 (ps.getD i.val 0)
      v := Vector.ofFn fun i => BitVec.ofNat 2048 (vs.getD i.val 0)
      comp := { v.t.comp with rq := rqFrom (s.badSection id 0x540 (8 * rq.length)) 0 rq (wordsOf 8 rq.length (s.saveSection id 0x540 (8 * rq.length))) }
      refs := (wordsOf 8 refs.length (s.saveSection id 0x5C0 (8 * refs.length))).map (BitVec.ofNat 55)
      ce0 := { v.t.ce0 with geo := Vector.ofFn fun i => BitVec.ofNat 64 (gs.getD i.val 0) }
      ce1 := { v.t.ce1 with geo := Vector.ofFn fun i => BitVec.ofNat 64 (gs.getD (16 + i.val) 0) }
      ts := Vector.ofFn fun i => slotOf (ts.drop (64 * i.val))
      streams := Vector.ofFn fun i => s.saveSection id (0x4000 + 4096 * i.val) v.t.streams[i].length
      regPoison := s.badSection id 0x1000 8192 ++ ((s.badSection id 0x40 512).filter (· ≠ 0)).map (1024 + ·) ++
        ((s.badSection id 0x240 512).filter (4 ≤ ·)).map (1088 + ·)
      streamPoison := Vector.ofFn fun i => (s.badSection id (0x4000 + 4096 * i.val) v.t.streams[i].length).map (8 * ·)
      me0 := { v.t.me0.fromWords (ms.take 16).toArray with lit := bank 0 v.t.me0.lit, shadow := bank 1 v.t.me0.shadow }
      me1 := { v.t.me1.fromWords (ms.drop 16).toArray with lit := bank 2 v.t.me1.lit, shadow := bank 3 v.t.me1.shadow } }
    t.applyCounts v.owedSats v.owedCensus

/-- A barrier of the extent counts a command that completed since the save (R206, R311). -/
def padBar (base : Nat) (bs : List Byte) (off : Nat) : List Byte :=
  let k := off - base
  bs.take k ++ (barrierOf ((bs.drop k).take 16)).complete.pack ++ bs.drop (k + 16)

/-- The bytes of a saved task's declared extent (R310). -/
def State.restoredPad (s : State) (v : Saved) : List Byte :=
  v.owedBars.foldl (padBar v.t.spbase.toNat) (if s.ownArea v.task then s.saveSection v.task 0xB0000 v.t.splen.toNat else v.pad)

/-- The poisoned words of the extent, by number (R307). -/
def State.badPad (s : State) (v : Saved) : List Nat := if s.ownArea v.task then s.badSection v.task 0xB0000 v.t.splen.toNat else v.badPad

/-- The entries of a saved task's boxes, read back from its save area, with the places of the poisoned ones (R211, R307, R310) [log 16]. -/
def State.restoredMail (s : State) (v : Saved) : List (Nat × List (BitVec 128) × List Nat) :=
  if s.ownArea v.task = false then v.mail.map fun q => (q.1, q.2, mapGet [] v.badMail q.1)
  else v.mail.map fun q => (q.1, (wordsOf 16 q.2.length (s.saveSection v.task (0x8000 + 256 * q.1) (16 * q.2.length))).map (BitVec.ofNat 128),
    (List.range q.2.length).filter fun i => (s.badSection v.task (0x8000 + 256 * q.1) (16 * q.2.length)).any fun w => decide (w / 2 = i))

/-- The state that a resumed task gets back (R9, R10, R311). -/
def State.savedTask (s : State) (v : Saved) (n : Nat) : TaskState :=
  let t := s.restored v
  { t with
    x := t.x.set 61 (v.task.record.zeroExtend 64), me0 := t.me0.resumed, me1 := t.me1.resumed, ce0 := t.ce0.resumed,
    ce1 := t.ce1.resumed, comp := t.comp.landed, sys := s.dispatchSys t.sys v.task n }

/-- A core's scratchpad holds undefined bytes but for the restored extent (R310) [log 12]. -/
def State.restorePad (s : State) (n base : Nat) (bs : List Byte) (bad : List Nat) : State :=
  bad.foldl (fun s k => s.poisonPa (spAddr n (base + 8 * k)))
    { s with mem := ({ s.mem with spKey := mapPut s.mem.spKey n (mapGet 0 s.mem.spKey n + 1) }).store 0 (spAddr n base) bs }

/-- Bind a resumed task's boxes again, with their entries (R211). -/
def Core.restoreBoxes (c : Core) (id : TaskId) (m : List (Nat × List (BitVec 128) × List Nat)) : Core :=
  m.foldl (fun c q => c.setBox q.1 { owner := some id, entries := q.2.1, bad := q.2.2 }) c

/-- The planes of a core change places, unless the shadow plane is loading (R228, R264, R287). -/
def Core.exchange (c : Core) : Core := if c.loading.isSome then c else { c with lit := c.shadow, shadow := c.lit }

/-- The planes as a record's dispatch leaves them: exchanged if its image is the shadow image, for a gang only if the lit plane does not hold it (R263, R264). -/
def Core.planesFor (c : Core) (img : BitVec 32) (gang : Bool) : Core :=
  if c.shadow.holds img && !(gang && c.lit.holds img) then c.exchange else c

/-- Core n, whose turn it is, is ready for a new task: its L1 written back and empty, its planes as the image needs them, its loop buffer empty (R8, R263). -/
def State.clearCore (s : State) (img : BitVec 32) (gang : Bool) : State :=
  s.flushL1.modCore fun c =>
    let c1 := c.planesFor img gang
    { c1 with bundle := Bundle.reset, pendTrap := none, swap := false, prefetch := none, reserved := none, buf := LoopBuf.reset, asks := c1.forgetAsks.asks }

/-- Before a task resumes, its loop buffer refills from the innermost active level, if the saved valid bit is set (R8). -/
def Core.refill (c : Core) : Core := { c with buf := if c.t.loop.valid then c.fillBuf true else LoopBuf.reset }


/-- Place one member on core n: its load is counted, its state loaded, and it starts; a trap due from a verdict is entered first (R259, R263, R301, R311). -/
def State.placeMember (s : State) (id : TaskId) (n : Nat) (refs : List VAddr) : State :=
  let sv := s.sched.saved.find? fun v => decide (v.task = id)
  let s0 := (s.modCluster (coreCluster n) fun k => { k with load := k.load + classWeight (s.recClass id) }).modSched fun d =>
    { d with saved := d.saved.filter fun v => !decide (v.task = id) }
  s0.onCore n fun s =>
    let s1 := s.clearCore (s.recImage id) (decide (s.recKind id.asid id.record = 2))
    match sv with
    | none => s1.modCore fun c => { c with t := s1.freshTask id n refs, mode := .running }
    | some v =>
      let s2 := (s1.restorePad n v.t.spbase.toNat (s1.restoredPad v) (s1.badPad v)).modCore fun c =>
        ({ c.restoreBoxes id (s1.restoredMail v) with t := s1.savedTask v n, mode := .running } : Core).refill
      match v.deliver with
      | none => s2
      | some e => s2.enterTrap e v.t.pc

/-- The page of a saved member's save area that a restore cannot read, header and sections in turn; poison in a section of data travels with the data, in any other it fails the restore (R307, R310, R313) [log 16]. -/
def State.badRestore (s : State) (r : SchedRec) : Option (AccFail × VAddr) :=
  (s.sched.saved.filter fun v => decide (v.task.asid = r.task.asid ∧ v.task.record = r.task.record) && !v.ended).findSome? fun v =>
    let banks := bitsOf (leNat (s.saveSection v.task 0x10 8)) 4 1
    (([(0, 1, false), (0x40, 16, true), (0x440, 4, false), (0x540, 2, true), (0x5C0, 14, false), (0x1000, 128, true), (0x3000, 64, false),
       (0x4000, 256, true), (0x8000, 32, true), (0x8800, 32, false), (0x9000, 102, false)] ++
      ((List.range 4).filter fun i => decide (banks / 2 ^ i % 2 = 1)).map (fun i => (0x10000 + 0x28000 * i, 2560, true)) ++
      [(0xB0000, v.t.splen.toNat / 64, true)] : List (Nat × Nat × Bool))).findSome? fun q =>
        match s.agentSpan q.2.2 r.task.asid q.2.1 (s.saveAt v.task + BitVec.ofNat 55 q.1) with
        | .error e => some e
        | .ok _ => none

/-- A restore that misses pauses on its page, once the pending-page table has room; any other failure stops the task, its record naming the save area (R299, R304, R313). -/
def State.failRestore (s : State) (r : SchedRec) (f : AccFail) (va : VAddr) : State :=
  match f with
  | .miss =>
    let w : FaultRec := { s.blankRec r.task.asid with cause := Cause.translation.code, kind := 1, va, task := r.task.record, image := s.recImage r.task }
    if s.pendingFull r.task.asid va then s
    else (s.missOn r.task.asid va (.save r.task) w).modSched fun d =>
      { d with saved := d.saved.map fun v => if v.task.asid = r.task.asid ∧ v.task.record = r.task.record then { v with waits := some (pageNo va) } else v }
  | _ => (s.agentWalkRec r.task.asid f va false r.task.record).stopRecord r f.status.cause (s.saveAt r.task)

/-- The entry word of a record that starts for the first time is an SCW in the plane of core n that holds its image (R265). -/
def State.entryOk (s : State) (r : SchedRec) (n : Nat) : Bool :=
  let p := (s.getCore n).planesFor (s.recImage r.task) (decide (s.recKind r.task.asid r.task.record = 2))
  p.isScw (p.lit.base + s.recEntry r.task)

/-- Dispatch a record to its cores, one a member in ascending core order (R263, R268, R269). -/
def State.dispatch (s : State) (r : SchedRec) (cores : List Nat) : State :=
  match s.badRestore r with
  | some (f, va) => s.failRestore r f va
  | none =>
    let ms := s.membersOf r
    let fresh := !(s.sched.saved.any fun v => decide (v.task.asid = r.task.asid ∧ v.task.record = r.task.record) && !v.ended)
    if fresh && !(cores.all (s.entryOk r)) then s.stopRecord r .badTarget (s.entryVa r.task)
    else
      let s1 := (s.recSet r.task.asid r.task.record 0 1 stRunning).modRec r.task.asid r.task.record fun q =>
        { q with ready := false, pin := none, live := ms, refs := [] }
      forEach (cores.zip ms) (fun q s => s.placeMember { r.task with member := q.2 } q.1 r.refs) s1

/-! ### Moving, gangs and splits (R223, R266 to R268) -/

/-- How many cores of a die could run the record, its pin apart or not. -/
def State.capableIn (s : State) (r : SchedRec) (die : Nat) : Nat := ((dieCores die).filter (s.capable r)).length

/-- A READY record that no core of its die can ever run moves to another die, or is stopped (R266). -/
def State.migrateOne (s : State) (r : SchedRec) : State :=
  let need := (s.membersOf r).length
  if need ≤ s.capableIn r r.die then s
  else
    match (List.range 4).find? fun d => decide (need ≤ s.capableIn { r with pin := none } d) with
    | some d => (s.modRec r.task.asid r.task.record fun q => { q with die := d, pin := none }).noteImages
    | none => s.stopRecord r .featureAbsent (s.entryVa r.task)

def State.migrate (s : State) (die : Nat) : State := forEach (s.runQueue die) (fun r s => s.migrateOne r) s

/-- A gang gives up its reservations (R268). -/
def State.unreserve (s : State) (t : TaskId) : State :=
  forEach (s.liveCores.filter fun n => decide ((s.getCore n).reserved = some t)) (fun n s => s.setCore n { s.getCore n with reserved := none }) s

def State.reserveCore (s : State) (t : TaskId) (n : Nat) : State := s.setCore n { s.getCore n with reserved := some t }

/-- A gang may reserve or start on a core: it fits, and no other task claims its cluster (R261, R264, R268). -/
def State.gangFits (s : State) (r : SchedRec) (n : Nat) : Bool := s.fits r n && !(s.claimedFrom r.die (coreCluster n) (some r.task))

/-- Take reserved cores that fit from a younger gang, which gives up the rest (R268). -/
def State.rob (s : State) (r g : SchedRec) : State :=
  let need := (s.membersOf r).length - (s.reservedFor r).length
  if need = 0 then s
  else
    let take := ((s.reservedFor g).filter (s.gangFits r)).take need
    if take = [] then s else forEach take (fun n s => s.reserveCore r.task n) (s.unreserve g.task)

/-- The core runs no task (R259), and no write-back of its last task waits for its flow (R8, R324). -/
def Core.atDrain (c : Core) : Bool :=
  decide (c.mode = .idle) && c.l1.all fun l => decide (l.dirty = 0)

/-- A gang that holds all its cores starts, on as many as it has members, once they all run no task and admission holds for every member together; what else it had reserved is free again (R268). -/
def State.tryGang (s : State) (r : SchedRec) : State :=
  let need := (s.membersOf r).length
  let cs := ((s.reservedFor r).filter fun n => s.gangFits r n && (s.getCore n).atDrain).take need
  let ok := cs.all fun n => s.admits (coreCluster n) (s.recClass r.task) (cs.filter fun m => decide (coreCluster m = coreCluster n)).length
  if need ≤ cs.length ∧ ok = true then (s.dispatch r cs).unreserve r.task else s

/-- reserve (R268). -/
def State.reserveGang (s : State) (r : SchedRec) (n : Nat) : State :=
  let s1 := s.reserveCore r.task n
  let young := sortBy s.older ((s1.runQueue r.die).filter fun g => decide (g.task ≠ r.task) && s1.isGang g && s.older r g && !(s1.reservedFor g).isEmpty)
  let s2 := forEach young (fun g s => s.rob r g) s1
  s2.tryGang r

/-- The chunks that remain of a range record (R223, R267). -/
def State.chunksLeft (s : State) (t : TaskId) : Nat :=
  let lo := s.recGet t.asid t.record 32 6
  let hi := s.recGet t.asid t.record 40 6
  let ch := s.recGet t.asid t.record 48 2
  if ch = 0 then 0 else (hi - lo + ch - 1) / ch

/-- The range task that a core without work would split (R267). -/
def State.splitCandidate (s : State) (n : Nat) : Option SchedRec :=
  let die := coreDie n
  let ok := s.sched.recs.filter fun r =>
    !r.ready && decide (s.recKind r.task.asid r.task.record = 1) &&
    ((s.coresOf r.task.asid r.task.record).any fun m => decide (coreDie m = die) && (decide ((s.getCore m).mode = .running) || (s.getCore m).saving)) &&
    s.contextRuns r.task.asid && s.fits { r with pin := none } n && s.admits (coreCluster n) (s.recClass r.task) 1 && decide (2 ≤ s.chunksLeft r.task)
  (sortBy (fun a b => decide (s.chunksLeft b.task < s.chunksLeft a.task) ||
    (decide (s.chunksLeft a.task = s.chunksLeft b.task) && decide (a.task.record ≤ b.task.record))) ok).head?

/-- A split that cannot reach its pool entry or record changes nothing but a kind-4 record (R267). -/
def State.splitFails (s : State) (r : SchedRec) (f : AccFail) (va : VAddr) (wr : Bool) : State :=
  s.addRec { s.blankRec r.task.asid with cause := f.status.cause.code, kind := 4, wr, status := f.status.code, va, task := r.task.record,
                                          image := s.recImage r.task }

/-- The bytes of a split's new record: a copy with lo, parent, state and save replaced (R223, R267). -/
def pieceBytes (old : List Byte) (mid parent save : Nat) : List Byte :=
  leBytes 1 stReady ++ (old.drop 1).take 31 ++ leBytes 6 mid ++ (old.drop 38).take 18 ++ leBytes 8 parent ++ (old.drop 64).take 8 ++ leBytes 8 save ++
    old.drop 80

/-- Split a range task for core n, and dispatch the new piece there (R223, R267). -/
def State.splitFor (s : State) (n : Nat) : State :=
  match s.splitCandidate n with
  | none => s
  | some r =>
    let a := r.task.asid
    let pcnt := s.desc a 80 2
    if pcnt = 0 ∨ s.claimedFrom (coreDie n) (coreCluster n) none = true then s
    else
      let pe : VAddr := BitVec.ofNat 55 (s.desc a 72 7 + 8 * (pcnt - 1))
      match s.agentRead none a pe 8 with
      | .error f => s.splitFails r f pe false
      | .ok pb =>
        let nr : VAddr := BitVec.ofNat 55 (leNat pb)
        match s.agentSpan false a 2 nr, s.agentSpan false a 2 r.task.record with
        | .error (f, va), _ => s.splitFails r f va false
        | _, .error (f, va) => s.splitFails r f va false
        | .ok own, .ok old =>
          let lo := s.recGet a r.task.record 32 6
          let mid := lo + s.recGet a r.task.record 48 2 * ((s.chunksLeft r.task + 1) / 2)
          match s.agentPut a 2 nr (pieceBytes old mid r.task.record.toNat (leNat ((own.drop 72).take 8))) with
          | .error (f, va) => s.splitFails r f va true
          | .ok s1 =>
            let nt : VAddr := BitVec.ofNat 55 (s.recGet a r.task.record 64 8)
            let s2 := s1.recSet a r.task.record 40 6 mid
            let s3 := if nt = 0 then s2 else s2.recSet a nt 24 4 (s2.recGet a nt 24 4 + 1)
            let s4 := { s3 with mem := s3.mem.store 0 (((s3.descOf a).getD 0) + 80) (leBytes 2 (pcnt - 1)) }
            let q : SchedRec := { task := { asid := a, record := nr, member := 0 }, die := coreDie n, rt := s.now, ready := true, pin := none,
                                  port := none, reds := 0, finish := none, live := [], refs := [], lackAt := none }
            (s4.modSched fun d => { d with recs := d.recs.filter (fun z => !(z.is a nr)) ++ [q] }).dispatch q [n]

/-! ### Selection (R263) -/

/-- What selection finds for a core. -/
inductive Pick where
  | nothing
  | run (r : SchedRec)
  | gang (r : SchedRec)
  deriving DecidableEq, Repr

/-- The first record, in order, that core n takes (R263). -/
def State.pick (s : State) (n : Nat) (rs : List SchedRec) : Pick :=
  match rs with
  | [] => .nothing
  | r :: rest =>
    let k := coreCluster n
    if !(s.fits r n) || s.claimedFrom (coreDie n) k (some r.task) then s.pick n rest
    else if s.isGang r then .gang r
    else if s.admits k (s.recClass r.task) 1 then .run r
    else s.pick n rest

/-- The bundle that waits holds TEND or TCONT (R259). -/
def Core.endingHeld (c : Core) : Bool :=
  decide (c.mode = .running) && c.bundle.held && c.bundle.bounded &&
  c.bundle.words.any fun w => w.isTaskClass && (decide (w.extractLsb' 22 6 = 8#6) || decide (w.extractLsb' 22 6 = 9#6))

/-- Selection at a drain point (R263). -/
def State.selectAt (s : State) (n : Nat) : State :=
  let s1 := s.migrate (coreDie n)
  match s1.pick n (sortBy s1.before (s1.runQueue (coreDie n))) with
  | .run r => s1.dispatch r [n]
  | .gang r => s1.reserveGang r n
  | .nothing => s1.splitFor n

/-- The task chosen early is dispatched if it is still READY, fits and is admitted; else it goes back (R259, R271). -/
def State.takePrefetch (s : State) (n : Nat) (t : TaskId) : State :=
  let s1 := s.setCore n { s.getCore n with prefetch := none }
  match s1.schedRec t.asid t.record with
  | none => s1
  | some r =>
    if r.ready && s1.contextRuns t.asid && s1.fits r n && s1.admits (coreCluster n) (s1.recClass t) 1 && !(s1.claimedFrom (coreDie n) (coreCluster n) (some r.task)) then
      s1.dispatch r [n]
    else s1

/-- A reserved core: its gang is considered again, or it is free if the gang no longer waits (R268). -/
def State.retryGang (s : State) (n : Nat) (t : TaskId) : State :=
  match s.schedRec t.asid t.record with
  | none => s.setCore n { s.getCore n with reserved := none }
  | some r => if r.ready then s.tryGang r else s.setCore n { s.getCore n with reserved := none }

/-- SELECT: selection for core c, at a drain point or early (R259, R263); lines that waited for their flow are written back first (R8, R324). -/
def execSelect (c : Nat) (s : State) : Out :=
  if 576 ≤ c then notEnabled "SELECT"
  else
    let s := if (s.getCore c).mode = .idle ∧ (s.getCore c).l1 ≠ [] then s.onCore c fun s => s.flushL1 else s
    let k := s.getCore c
    if k.atDrain then
      match k.reserved, k.prefetch with
      | some t, _ => .next (s.retryGang c t)
      | none, some t => .next (s.takePrefetch c t)
      | none, none => .next (s.selectAt c)
    else if (k.saving || k.endingHeld) && k.prefetch.isNone && k.reserved.isNone then
      let s1 := s.migrate (coreDie c)
      match s1.pick c (sortBy s1.before (s1.runQueue (coreDie c))) with
      | .run r => .next (s1.setCore c { s1.getCore c with prefetch := some r.task })
      | .gang r => .next (s1.reserveGang r c)
      | _ => .next s1
    else notEnabled "SELECT"

/-! ### Slices (R270) -/

/-- A preemption request on every core that runs a member of a task. -/
def State.preempt (s : State) (id : TaskId) (f : SysRegs → SysRegs) : State :=
  forEach (s.coresOf id.asid id.record) (fun n s => s.onCore n fun s => s.modSys f) s

/-- TIME_SLICE_EXPIRY: a preemption request with 10 microseconds of grace if somebody waits for the core, else a new slice (R270). -/
def execTimeSliceExpiry (c : Nat) (s : State) : Out :=
  if 576 ≤ c then notEnabled "TIME_SLICE_EXPIRY"
  else
    let k := s.getCore c
    let y := k.t.sys
    if k.mode ≠ .running ∨ bitsOf y.tslice.toNat (8 * y.prio.toNat + 7) (8 * y.prio.toNat) = 0 ∨ y.preq.getLsbD 0 = true then notEnabled "TIME_SLICE_EXPIRY"
    else if ((s.runQueue (coreDie c)).any fun r => decide (y.prio.toNat ≤ s.effPrio r) && s.fits r c) || s.claimedFrom (coreDie c) (coreCluster c) none then
      .next (s.preempt k.t.id fun y => { y with preq := y.preq ||| 1, graceAt := s.mgmt.tsc })
    else .next s

/-- GRACE_EXPIRY: the save is forced before the next bundle (R270). -/
def execGraceExpiry (c : Nat) (s : State) : Out :=
  if 576 ≤ c then notEnabled "GRACE_EXPIRY"
  else
    let k := s.getCore c
    if k.mode = .running ∧ k.t.sys.preq.getLsbD 0 = true ∧ k.t.sys.preq.getLsbD 1 = false then .next (s.preempt k.t.id fun y => { y with preq := y.preq ||| 3 })
    else notEnabled "GRACE_EXPIRY"

end Sys2Proof.Machine
end

