-- ==== Sys2Proof/Machine/Saves.lean ====
section
/-! DEFINITION. Saves, the end of an eclipsed task, the last steps of a record, and plane loads (R225, R226, R227, R265, R286, R287, R309 to R313). -/

namespace Sys2Proof.Machine

/-! ### The save area (R310) [log 16] -/

/-- The cores whose boxes go with a task that is saved on the current core: its own, and those on which its record has boxes and no member runs (R211). -/
def State.boxCores (s : State) (id : TaskId) : List Nat :=
  s.cur :: (s.liveCores.filter fun n => decide (n ≠ s.cur) && !(decide ((s.getCore n).mode ≠ .idle) && decide ((s.getCore n).t.id.asid = id.asid ∧ (s.getCore n).t.id.record = id.record)))

/-- Two boxes of one number as one, which holds 16 entries [log 49]. -/
def Mailbox.join (a b : Mailbox) : Mailbox :=
  { a with entries := (a.entries ++ b.entries).take 16, bad := (a.bad ++ b.bad.map (· + a.entries.length)).filter (· < 16) }

/-- Box k of a record as a save takes it: those of that number on its cores, the saving core's first (R211) [log 49]. -/
def State.boxOf (s : State) (id : TaskId) (k : Nat) : Option Mailbox :=
  match (s.boxCores id).filterMap fun n => if ((s.getCore n).box k).ownedBy id.asid id.record then some ((s.getCore n).box k) else none with
  | [] => none
  | m :: r => some (r.foldl Mailbox.join m)

/-- The boxes that the task's record owns, with their entries (R211). -/
def State.ownBoxes (s : State) (id : TaskId) : List (Nat × List (BitVec 128)) :=
  (List.range 8).filterMap fun k => (s.boxOf id k).map fun m => (k, m.entries)

/-- The places of the poisoned entries in them. -/
def State.badBoxes (s : State) (id : TaskId) : List (Nat × List Nat) := (List.range 8).filterMap fun k => (s.boxOf id k).map fun m => (k, m.bad)

/-- Some bytes of the save area whose coding the manual does not give (R310). -/
def State.openSection (s : State) (off n : Nat) : List Byte :=
  codedBytes s.core.t (s.ownBoxes s.core.t.id) off n

/-- A section of n bytes that begins with the bytes in use; the manual does not say what the unused places hold (R310). -/
def State.filledSection (s : State) (off n : Nat) (bs : List Byte) : Nat × List Byte :=
  (off, bs.take n ++ s.openSection (off + bs.length) (n - bs.length))

/-- A dirty bank's 160 KiB (R16, R310). -/
def AccBank.bytes (b : AccBank) : List Byte := ((List.range 40960).map fun k => leBytes 4 (mapGet 0 b.cells k).toNat).flatten

/-- The banks of a task in the order of the banks field (R310). -/
def TaskState.banks (t : TaskState) : List AccBank := [t.me0.lit, t.me0.shadow, t.me1.lit, t.me1.shadow]

/-- The banks field (R310). -/
def TaskState.dirtyBanks (t : TaskState) : Nat :=
  ((List.range 4).map fun i => if (t.banks.getD i AccBank.reset).dirty then 2 ^ i else 0).sum

/-- The bytes of the declared extent in core n's scratchpad (R310). -/
def State.extentBytes (s : State) : List Byte := s.mem.bytes 0 (spAddr s.cur s.core.t.spbase.toNat) s.core.t.splen.toNat

/-- The hardware's part of the header: valid, banks, reason, time and core (R310). -/
def State.saveHeader (s : State) (valid : Bool) (reason : Cause) : List Byte :=
  leBytes 8 ((if valid then 1 else 0) + s.core.t.dirtyBanks * 2 + reason.code * 2 ^ 5) ++ leBytes 8 s.now ++
    leBytes 8 (coreCode s.cur) ++ List.replicate 24 0

/-- The sections by offset: a bank that is not dirty is not written; registers and entries lie in rising order, the oldest entry of a queue first (R310) [log 16]. -/
def State.saveSections (s : State) : List (Nat × List Byte) :=
  let t := s.core.t
  let words (l : List Word) : List Byte := (l.map fun v => leBytes 8 v.toNat).flatten
  [(0x40, ((0 :: t.x.toList.tail).map fun v => leBytes 8 v.toNat).flatten),
   (0x240, ((BitVec.allOnes 256 :: t.p.toList.tail).map fun v => leBytes 32 v.toNat).flatten),
   (0x440, s.openSection 0x440 0x100),
   s.filledSection 0x540 0x80 (words (t.comp.rq.map fun q => q.value.getD (Config.freeWord s.fresh 0x540))),
   s.filledSection 0x5C0 0x80 (words (t.refs.map (·.zeroExtend 64))), (0x640, s.openSection 0x640 0x100),
   (0x740, words (t.ce0.geo.toList ++ t.ce1.geo.toList)), (0x840, words (t.me0.saveWords ++ t.me1.saveWords)),
   (0x1000, (t.v.toList.map fun v => leBytes 256 v.toNat).flatten), s.filledSection 0x3000 0x1000 (t.ts.toList.map (·.bytes)).flatten,
   (0x8800, s.openSection 0x8800 0x800), (0x9000, s.openSection 0x9000 6528)] ++
  (List.range 4).map (fun i => s.filledSection (0x4000 + 4096 * i) 4096 ((t.streams.toList)[i]?.getD [])) ++
  (List.range 8).map (fun k => s.filledSection (0x8000 + 256 * k) 256
    (((((s.boxOf t.id k).map (·.entries)).getD []).map fun m => leBytes 16 m.toNat).flatten.take 256)) ++
  ((List.range 4).filter fun i => (t.banks.getD i AccBank.reset).dirty).map (fun i =>
    (0x10000 + 0x28000 * i, (t.banks.getD i AccBank.reset).bytes)) ++ [(0xB0000, s.extentBytes)]

/-- Where the save area holds words that are poisoned in the task's registers, stream buffers, return queue, boxes, banks and extent: their poison goes with them (R307, R310). -/
def State.savedPoison (s : State) : List Nat :=
  let t := s.core.t
  let base := spAddr s.cur t.spbase.toNat
  (t.regPoison.map fun w => if w < 1024 then 0x1000 + 8 * w else if w < 1088 then 0x40 + 8 * (w - 1024) else 0x240 + 8 * (w - 1088)) ++
  (List.range 4).flatMap (fun i => ((t.streamPoison.toList)[i]?.getD []).flatMap fun w => [0x4000 + 4096 * i + w, 0x4000 + 4096 * i + w + 7]) ++
  ((List.range t.comp.rq.length).filter fun k => ((nth? t.comp.rq k).map (·.bad)).getD false).map (fun k => 0x540 + 8 * k) ++
  (s.badBoxes t.id).flatMap (fun q => q.2.map fun i => 0x8000 + 256 * q.1 + 16 * i) ++
  (List.range 4).flatMap (fun i => let b := t.banks.getD i AccBank.reset
                                   if b.dirty then b.poison.map fun a => 0x10000 + 0x28000 * i + 8 * a else []) ++
  (s.mem.poison.filter fun w => decide (base ≤ w ∧ w < base + t.splen.toNat)).map fun w => 0xB0000 + w - base

/-- Words of the save area are poisoned (R307). -/
def State.poisonArea (s : State) (asid : Nat) (at' : VAddr) (l : List Nat) : State :=
  l.foldl (fun s o => match s.xlate none asid (at' + BitVec.ofNat 55 o) needW with
    | .ok l => if l.pkg.isSome then s else s.poisonPa l.pa
    | _ => s) s

/-- Write a section at its homes, 64 bytes at a time; at a failure the bytes before it stay written. -/
def State.savePut (s : State) (asid : Nat) (k : Nat) (va : VAddr) (bs : List Byte) : State × Option (AccFail × VAddr) :=
  match k with
  | 0 => (s, none)
  | j + 1 =>
    match s.agentWrite none asid va (bs.take 64) needW with
    | .error e => (s, some (e, va))
    | .ok s1 => s1.savePut asid j (va + 64) (bs.drop 64)

/-- Write the sections in order (R311). -/
def State.saveAll (s : State) (asid : Nat) (at' : VAddr) (ps : List (Nat × List Byte)) : State × Option (AccFail × VAddr) :=
  match ps with
  | [] => (s, none)
  | p :: r =>
    match s.savePut asid ((p.2.length + 63) / 64) (at' + BitVec.ofNat 55 p.1) p.2 with
    | (s1, some e) => (s1, some e)
    | (s1, none) => s1.saveAll asid at' r

/-- Step 4 of R311: valid = 0, the sections, and last the header with valid = 1. -/
def State.writeSave (s : State) (reason : Cause) : State × Option (AccFail × VAddr) :=
  let id := s.core.t.id
  let a := s.saveAt id
  match s.agentWrite none id.asid (a + 16) (s.saveHeader false reason) needW with
  | .error e => (s, some (e, a + 16))
  | .ok s1 =>
    match s1.saveAll id.asid a s1.saveSections with
    | (s2, some e) => (s2, some e)
    | (s2, none) =>
      match (s2.poisonArea id.asid a s1.savedPoison).agentWrite none id.asid (a + 16) (s2.saveHeader true reason) needW with
      | .error e => (s2, some (e, a + 16))
      | .ok s3 => (s3, none)

/-! ### A save ends (R211, R228, R266, R268, R270, R299, R301, R311, R313) -/

/-- The engine has paused (R171, R285). -/
def MatEngine.still (m : MatEngine) : Bool :=
  match m.run with
  | none => true
  | some r => r.ended.isSome || (r.step.isNone && (r.missing.isSome || r.paused))

/-- Results have landed and the matrix engines have paused; a copy engine stands at a granule's end between its steps (R285, R311). -/
def TaskState.paused (t : TaskState) : Bool := t.sb.far.isEmpty && t.sb.nxt.isEmpty && t.me0.still && t.me1.still

/-- Steps 1 and 2 of R311 are done: what the core asked other packages for has come too. -/
def Core.pausedAll (c : Core) : Bool := c.t.paused && c.asks.all fun q => !q.live || q.val.isSome

/-- A save or restore of the task waits on a page (R299, R313). -/
def State.saveHalted (s : State) (id : TaskId) : Bool := s.xlat.pending.any fun p => p.waiters.contains (.save id)

/-- What the verdict of a missed page does to a saved task: the page it waits on, and the trap that is due (R301). -/
def verdictOf (fault : Option Exc) (v : Option (Option Exc)) : Option Nat × Option Exc :=
  match fault, v with
  | none, _ => (none, none)
  | some e, none => (some (pageNo e.addr), none)
  | some _, some d => (none, d)

/-- Every live member of the record is saved, and none waits on a page (R268, R270, R299). -/
def State.allSaved (s : State) (q : SchedRec) : Bool :=
  q.live.all fun m => s.sched.saved.any fun v => decide (v.task = { q.task with member := m }) && v.waits.isNone && !v.ended

/-- Every live member is saved, waiting or not. -/
def State.nothingRuns (s : State) (q : SchedRec) : Bool :=
  q.live.all fun m => s.sched.saved.any fun v => decide (v.task = { q.task with member := m }) && !v.ended

/-- A record all of whose members are saved is SAVED, and READY again once none waits, unless it is held: with a new ready time, but for a requeue that some member's FEATURE_ABSENT caused (R266, R270, R301). -/
def State.requeue (s : State) (id : TaskId) (held : Bool) : State :=
  match s.schedRec id.asid id.record with
  | none => s
  | some q =>
    let keepRt := s.sched.saved.any fun v => decide (v.task.asid = id.asid ∧ v.task.record = id.record ∧ v.reason = .featureAbsent)
    if q.ready || !(s.nothingRuns q) then s
    else if s.allSaved q && !held then
      if keepRt then ((s.recSet id.asid id.record 0 1 stReady).modRec id.asid id.record fun q => { q with ready := true }).noteImages
      else s.makeReady id.asid id.record
    else s.recSet id.asid id.record 0 1 stSaved

/-- A save keeps its task from failing: other members of its gang are saved as well (R268, R270). -/
def State.saveGang (s : State) (id : TaskId) : State :=
  forEach ((s.coresOf id.asid id.record).filter fun n => decide ((s.getCore n).mode = .running)) (fun n s =>
    s.onCore n fun s => s.modSys fun y => { y with preq := y.preq ||| 2 }) s

/-- The save of the task on the current core is complete (R311); in a halted context the task stays SAVED (R314, R315) [log 54]. -/
def State.saved (s : State) (reason : Cause) (fault : Option Exc) (v : Option (Option Exc)) : State :=
  let id := s.core.t.id
  let w := verdictOf fault v
  let base := spAddr s.cur s.core.t.spbase.toNat
  let sv : Saved := { task := id, t := s.core.t, mail := s.ownBoxes id, badMail := s.badBoxes id, reason, fault, deliver := w.2, waits := w.1, pad := s.extentBytes,
                      badPad := (s.mem.poison.filter fun w => decide (base ≤ w ∧ w < base + s.core.t.splen.toNat)).map (fun w => (w - base) / 8),
                      core := s.cur, time := s.now }
  let s1 := (forEach (s.boxCores id) (fun n s => s.setCore n ((s.getCore n).unbindOf id.asid id.record)) s).modSched fun d => { d with saved := d.saved ++ [sv] }
  let s2 := if s1.core.swap then s1.modCore fun c => { c.exchange with swap := false } else s1
  (((s2.drainPoint .idle).saveGang id).requeue id (s2.haltedContext id.asid))

/-- A save write that fails: a miss pauses the save, anything else stops the task (R313). -/
def State.saveFails (s : State) (f : AccFail) (va : VAddr) : Option State :=
  let id := s.core.t.id
  match f with
  | .miss =>
    if s.pendingFull id.asid va then none
    else some (s.missOn id.asid va (.save id) { s.blankRec id.asid with cause := Cause.translation.code, kind := 1, wr := true, va })
  | _ => some ((s.agentWalkRec id.asid f va true id.record).stopTask { cause := f.status.cause, addr := s.saveAt id } s.core.t.pc)

/-! ### The end of an eclipsed task (R225, R226, R313) -/

/-- The copy and matrix commands of the task have ended, and its CSIGs and COLLs have left the core (R195, R225). -/
def TaskState.commandsGone (t : TaskState) : Bool := ({ t with haz := [] } : TaskState).enginesIdle

/-- The commands of the eclipsed task on the current core have ended: what it holds is freed, its record is ECLIPSED, its references are dropped (R225). -/
def State.eclipseFinish (s : State) : State := ((s.freeHeld.drainPoint .idle).memberEnds s.core.t.id .eclipsed).dropHeld

/-- The task on the current core ends by eclipse: it issues nothing more, and once its commands have ended the rest follows (R225). -/
def State.eclipseEnd (s : State) : State :=
  let s1 := s.modCore fun c => { c.forgetAsks with pendTrap := none, swap := false, mode := .eclipsing }
  if s1.core.t.commandsGone then s1.eclipseFinish else s1

/-- SAVE_COMPLETE: the save of the task on core c runs to its end (R311); an eclipsed task ends there, its saved state discarded (R270). -/
def execSaveComplete (c : Nat) (s : State) : Out :=
  s.atCore c "SAVE_COMPLETE" fun s =>
    match s.core.mode with
    | .saving reason fault v =>
      if s.core.pausedAll = false ∨ s.saveHalted s.core.t.id = true then none
      else if s.core.t.sys.ecl then some s.eclipseEnd
      else
        let s1 := (s.modCore fun c => c.forgetAsks).flushL1
        if s1.writesStuck then none
        else
        match s1.writeSave reason with
        | (s2, none) => some (s2.saved reason fault v)
        | (s2, some (f, va)) => s2.saveFails f va
    | _ => none

/-! ### Reclamation (R226, R309) -/

/-- The bundle at the program counter is a reclamation point (R226). -/
def Core.atReclaim (c : Core) : Bool :=
  match c.fetchWord c.t.pc with
  | .error _ => false
  | .ok w =>
    match c.decodeBundle w with
    | .error _ => false
    | .ok d => d.reclaims

/-- ECLIPSE_RECLAIM: the eclipsed task on core c ends before its reclamation point, in its bounded wait, or in its save (R226, R270, R313); or its commands have ended, and the rest of its end follows (R225). -/
def execEclipseReclaim (c : Nat) (s : State) : Out :=
  s.atCore c "ECLIPSE_RECLAIM" fun s =>
    let k := s.core
    if k.mode = .eclipsing then (if k.t.commandsGone then some s.eclipseFinish else none)
    else
    let waits := k.bundle.held && k.bundle.bounded
    if k.t.sys.ecl = true ∧ (k.saving = true ∨ (k.mode = .running ∧ k.pendTrap = none ∧ (waits = true ∨ k.atReclaim = true))) then some s.eclipseEnd
    else none

/-- TASK_FINISH: the last steps of the record t of context a, once its reductions and commands are done (R309). -/
def execTaskFinish (a t : Nat) (s : State) : Out :=
  let rec' : VAddr := BitVec.ofNat 55 t
  if s.mayFinish a rec' then .next (s.finishNow a rec') else notEnabled "TASK_FINISH"

/-! ### Plane loads (R227, R265, R286, R287) -/

/-- Read n bytes as code or micro-words, line after line, as the loader does, which needs x (R286, R296); the fuel bounds the lines. -/
def State.loadSpan (s : State) (asid : Nat) (fuel : Nat) (va : VAddr) (n : Nat) : Except (AccFail × VAddr) (List Byte) :=
  match fuel with
  | 0 => .ok []
  | j + 1 =>
    if n = 0 then .ok []
    else
      let k := min n (64 - va.toNat % 64)
      match s.xlate none asid va needX with
      | .ok l =>
        if l.pkg.isSome then .error (.remote, va)
        else if s.mem.poisoned l.pa k then .error (.poison, va)
        else
          match s.loadSpan asid j (va + BitVec.ofNat 55 k) (n - k) with
          | .error e => .error e
          | .ok r => .ok (s.mem.bytes l.key l.pa k ++ r)
      | x => .error (x.fail, va)

/-- What the loader's reads leave: their pages' translations in the TLBs, and rows that they may have activated (R239, R298). -/
def State.touchCode (s : State) (asid : Nat) (fuel : Nat) (va : VAddr) (n : Nat) : State :=
  match fuel with
  | 0 => s
  | j + 1 =>
    if n = 0 then s
    else
      let k := min n (64 - va.toNat % 64)
      let s1 := match s.xlate none asid va needX with
        | .ok l => (s.noteTlb asid va).activate (if l.pkg.isSome then ringBase else l.pa)
        | _ => s
      s1.touchCode asid j (va + BitVec.ofNat 55 k) (n - k)

/-- The same for a look-up in an image table (R286). -/
def State.touchTable (s : State) (n : Nat) (a : Nat) (img : Nat) : State :=
  match n with
  | 0 => s
  | k + 1 =>
    let id := s.phys a 4
    let s1 := s.activate a
    if id = 0 ∨ id = img then s1 else s1.touchTable k (a + 32) img

/-- A plane load has read the table, the code and the micro-store (R239, R286). -/
def State.touchImage (s : State) (asid : Nat) (img : BitVec 32) : State :=
  let s1 := s.touchTable 1024 (s.desc asid 88 7) img.toNat
  match s.imageOf asid img with
  | none => s1
  | some e =>
    if e.bad then s1
    else (s1.touchCode asid (e.clen / 64 + 2) (BitVec.ofNat 55 e.code) e.clen).touchCode asid 130 (BitVec.ofNat 55 e.ucode) (if e.ucode = 0 then 0 else 8192)

/-- Little-endian words of n bytes, as a sparse map. -/
def wordMap (w : Nat) (n : Nat) (k : Nat) (bs : List Byte) : List (Nat × BitVec w) :=
  let v := BitVec.ofNat w (leNat (bs.take (w / 8)))
  match n with
  | 0 => []
  | j + 1 => if v = 0 then wordMap w j (k + 1) (bs.drop (w / 8)) else (k, v) :: wordMap w j (k + 1) (bs.drop (w / 8))

/-- The bytes that a look-up in an image table reads have an uncorrectable error (R287). -/
def State.badTable (s : State) (n : Nat) (a : Nat) (img : Nat) : Bool :=
  match n with
  | 0 => false
  | k + 1 =>
    let id := s.phys a 4
    s.mem.poisoned a 4 || (decide (id ≠ 0) && (if id = img then s.mem.poisoned a 32 else s.badTable k (a + 32) img))

/-- What the loader makes of an image (R286, R287): the plane, or how the load ends, with the access that failed. For image bytes that miss, that are refused, or that lie in another package the manual gives no status: the model's is FORMAT [log 66]. -/
def State.loadImage (s : State) (asid : Nat) (img : BitVec 32) : Except (Status × Option (AccFail × VAddr)) Plane :=
  if s.badTable 1024 (s.desc asid 88 7) img.toNat then .error (.poison, none)
  else
  match s.imageOf asid img with
  | none => .error (.format, none)
  | some e =>
    if e.bad then .error (.format, none)
    else
      let fail (f : AccFail) : Status := if f = .poison ∨ f = .walkPoison then .poison else .format
      match s.loadSpan asid (e.clen / 64 + 2) (BitVec.ofNat 55 e.code) e.clen,
          s.loadSpan asid 130 (BitVec.ofNat 55 e.ucode) (if e.ucode = 0 then 0 else 8192) with
      | .error f, _ => .error (fail f.1, some f)
      | _, .error f => .error (fail f.1, some f)
      | .ok code, .ok micro =>
        .ok { code := wordMap 32 (e.clen / 4) 0 code, base := BitVec.ofNat 55 e.code, clen := e.clen,
              micro := if e.ucode = 0 then library else wordMap 64 1024 0 micro, fmt0 := BitVec.ofNat 8 e.fmt, fmt1 := BitVec.ofNat 8 (e.fmt / 256),
              image := img, state := .loaded, poison := [] }

/-- PLANE_LOAD_COMPLETE: the load of core c's shadow plane ends: loaded, or empty (R227, R287). -/
def execPlaneLoadComplete (c : Nat) (s : State) : Out :=
  if 576 ≤ c then notEnabled "PLANE_LOAD_COMPLETE"
  else
    match (s.getCore c).loading with
    | none => notEnabled "PLANE_LOAD_COMPLETE"
    | some l =>
      let q := s.loadImage l.asid l.image
      let bad : Bool := match q with
        | .ok _ => false
        | .error _ => true
      let s0 := match q with
        | .error (_, some (f, va)) => (s.touchImage l.asid l.image).agentWalkRec l.asid f va false 0
        | _ => s.touchImage l.asid l.image
      let s1 := match l.tag with
        | none => s0
        | some (id, t) => s0.completeTag id t bad
      let k := s1.getCore c
      .next (s1.setCore c { k with
        loading := none
        shadow := match q with
          | .ok p => p
          | .error _ => { k.shadow with state := .empty } }).noteImages

/-- The shadow plane may take a load for the scheduler: no task chosen early needs its image (R265). -/
def State.loadable (s : State) (n : Nat) : Bool :=
  let c := s.getCore n
  match c.prefetch with
  | none => true
  | some t => !decide (c.shadow.image = s.recImage t) || decide (c.shadow.state ≠ .loaded)

/-- Some READY or SAVED task of the die holds the image of a shadow plane (R265). -/
def State.imageWanted (s : State) (die : Nat) (img : BitVec 32) : Bool :=
  s.sched.recs.any fun r => decide (r.die = die) && decide (s.recImage r.task = img) &&
    (r.ready || decide (s.recGet r.task.asid r.task.record 0 1 = stSaved))

/-- The core whose shadow plane the scheduler loads (R265). -/
def State.loadCore (s : State) (r : SchedRec) : Option Nat :=
  let ok := (dieCores r.die).filter fun n => s.coreAllowed r.task.asid n && s.loadable n
  let empty := ok.filter fun n => decide ((s.getCore n).shadow.state = .empty)
  let idle := ok.filter fun n => decide ((s.getCore n).shadow.state = .loaded) && !(s.imageWanted r.die (s.getCore n).shadow.image)
  (empty ++ idle ++ ok).head?

/-- The image cannot be placed: missing, too large, or its entry word is not an SCW (R265). -/
def State.unplaceable (s : State) (r : SchedRec) : Bool :=
  match s.imageOf r.task.asid (s.recImage r.task) with
  | none => true
  | some e =>
    e.bad || decide (e.clen ≤ (s.recEntry r.task).toNat) || decide ((s.recEntry r.task).toNat % 4 ≠ 0) ||
    match s.xlate none r.task.asid (BitVec.ofNat 55 e.code + s.recEntry r.task) needX with
    | .ok l => l.pkg.isNone && decide (leNat (s.mem.bytes l.key l.pa 4) / 2 ^ 28 ≠ 0xE)
    | _ => false

/-- A load of the image is under way on a core of the die that the context allows (R265). -/
def State.imageComing (s : State) (r : SchedRec) : Bool :=
  (dieCores r.die).any fun n => s.coreAllowed r.task.asid n && decide ((s.getCore n).loading.map (·.image) = some (s.recImage r.task))

/-- The READY record has waited a whole quantum while no allowed core of its die held its image (R265). -/
def State.imageLate (s : State) (r : SchedRec) : Bool :=
  r.ready && !(s.imageHeld r) && !(s.imageComing r) &&
  match r.lackAt with
  | none => false
  | some t => decide (1000 * s.mgmt.aging.toNat ≤ s.since t)

/-- IMAGE_LOAD_START: the READY task of context a with record t has waited a quantum without its image; a load starts, or the task is stopped (R265). -/
def execImageLoadStart (a t : Nat) (s : State) : Out :=
  match s.schedRec a (BitVec.ofNat 55 t) with
  | none => notEnabled "IMAGE_LOAD_START"
  | some r =>
    let img := s.recImage r.task
    if s.imageLate r = false ∨ s.contextRuns a = false then notEnabled "IMAGE_LOAD_START"
    else if s.unplaceable r then .next (s.stopRecord r .badTarget (s.entryVa r.task))
    else
      match s.loadCore r with
      | none => notEnabled "IMAGE_LOAD_START"
      | some n => .next (s.startLoad n { image := img, tag := none, asid := a })

end Sys2Proof.Machine
end

