-- ==== Sys2Proof/Machine/Faults.lean ====
section
/-! DEFINITION. Fault records written to a context's queue, and verdicts on pending pages (R300, R301, R303 to R305, R308, R313). -/

namespace Sys2Proof.Machine

/-! ### Fault records (R303 to R305) -/

/-- The 64 bytes of a record (R303). -/
def FaultRec.bytes (r : FaultRec) (seq time : Nat) : List Byte :=
  leBytes 8 seq ++
  leBytes 8 (r.cause + r.kind * 2 ^ 8 + r.slot * 2 ^ 12 + r.opnd * 2 ^ 15 + r.elem % 65536 * 2 ^ 18 + coreDie r.core * 2 ^ 34 +
    coreRow r.core * 2 ^ 36 + coreCol r.core * 2 ^ 40 + r.asid * 2 ^ 44 + (if r.wr then 2 ^ 57 else 0)) ++
  leBytes 8 (r.image.toNat + r.status * 2 ^ 32) ++ leBytes 8 r.bundle.toNat ++ leBytes 8 r.va.toNat ++
  leBytes 8 (match r.pa with
    | none => 0
    | some a => a + 2 ^ 63) ++
  leBytes 8 r.task.toNat ++ leBytes 8 time

/-- The header of a context's fault queue, where it can be read and written (R305): base, lg, head, tail. -/
def State.faultQueue (s : State) (a : Nat) : Option (VAddr × Nat × Nat × Nat) :=
  let fq : VAddr := BitVec.ofNat 55 (s.desc a 32 7)
  if fq = 0 then none
  else
    match s.xlate none a fq needRW, s.agentRead none a fq 64 with
    | .ok l, .ok bs =>
      let lg := leNat (bs.drop 8) % 32
      if l.pkg.isSome ∨ lg < 6 ∨ 16 < lg then none
      else some (BitVec.ofNat 55 (leNat (bs.take 8)), lg, leNat ((bs.drop 16).take 8), leNat ((bs.drop 24).take 8))
    | _, _ => none

/-- The queue's lost field, if the header can be written (R305). -/
def State.countLost (s : State) (a : Nat) : State :=
  let fq : VAddr := BitVec.ofNat 55 (s.desc a 32 7)
  if fq = 0 then s
  else
    match s.ctxRead a (fq + 32) 8 with
    | none => s
    | some v => s.ctxWrite a (fq + 32) 8 (v + 1)

/-- Remove the first waiting record that satisfies a test. -/
def State.dropRec (s : State) (p : FaultRec → Bool) : State := s.modXlat fun x => { x with records := dropFirst p x.records }

/-- A record that finds the queue unreachable (R305). -/
def State.loseRec (s : State) (a : Nat) : State := (s.countLost a).modMgmt fun m => { m with errcnt := m.errcnt + 1 }

/-- Kinds 3 to 5 have their Afterglow record too (R352). -/
def State.glowFault (s : State) (r : FaultRec) (seq : Nat) : State :=
  if r.kind < 3 then s else s.glowEvent (coreDie r.core) 8 (coreCode r.core) seq (r.cause + r.kind * 2 ^ 8 + r.asid * 2 ^ 12)

/-- FAULT_RECORD_WRITE: the oldest waiting record of context a is written, or is lost (R305). -/
def execFaultRecordWrite (a : Nat) (s : State) : Out :=
  match s.xlat.records.find? fun r => decide (r.asid = a) with
  | none => notEnabled "FAULT_RECORD_WRITE"
  | some r =>
    let mine : FaultRec → Bool := fun r => decide (r.asid = a)
    match s.faultQueue a with
    | none => .next ((s.loseRec a).dropRec mine)
    | some (base, lg, head, tail) =>
      let fq : VAddr := BitVec.ofNat 55 (s.desc a 32 7)
      if head - tail < 2 ^ lg then
        match s.agentWrite none a (base + BitVec.ofNat 55 (64 * (head % 2 ^ lg))) (r.bytes head s.now) needW with
        | .error _ => .next ((s.loseRec a).dropRec mine)
        | .ok s1 => .next (((s1.ctxWrite a (fq + 16) 8 (head + 1)).glowFault r head).dropRec mine)
      else
        let lossy : FaultRec → Bool := fun r => decide (r.asid = a) && decide (3 ≤ r.kind)
        if s.xlat.records.any lossy then .next ((s.countLost a).dropRec lossy) else notEnabled "FAULT_RECORD_WRITE"

/-! ### Verdicts (R300, R301, R308, R313) -/

/-- The verdicts of R300. -/
inductive Verdict where
  | retry
  | deny (st : Status)
  | drop
  deriving DecidableEq, Repr

/-- The status with which a command ends: a drop ends it TRANSLATION (R301). -/
def Verdict.status (v : Verdict) : Option Status :=
  match v with
  | .retry => none
  | .deny st => some st
  | .drop => some .translation

/-- Where a task is: its core, or the one that saved it. -/
def State.whereIs (s : State) (id : TaskId) : Nat :=
  match s.liveCores.find? fun n => decide ((s.getCore n).mode ≠ .idle) && decide ((s.getCore n).t.id = id) with
  | some n => n
  | none => ((s.sched.saved.find? fun v => decide (v.task = id)).map (·.core)).getD s.cur

/-- The core that saves a task now. -/
def State.savingCore (s : State) (id : TaskId) : Option Nat :=
  s.liveCores.find? fun n => (s.getCore n).saving && decide ((s.getCore n).t.id = id)

/-- Keep a verdict that came while the save runs (R301). -/
def CoreMode.decide' (m : CoreMode) (f : Exc → Option Exc) : CoreMode :=
  match m with
  | .saving r (some e) none => .saving r (some e) (some (f e))
  | m => m

/-- A saved task no longer waits on its page; a trap may be due (R301). -/
def State.release' (s : State) (id : TaskId) (f : Option Exc → Option Exc) : State :=
  (s.modSched fun d => { d with saved := d.saved.map fun v =>
    if v.task = id then { v with waits := none, deliver := f v.fault } else v }).requeue id false

/-- The fault that a drop verdict stops a task with (R301, R304). -/
def dropExc (page : Nat) : Exc := { cause := .protection, addr := BitVec.ofNat 55 (page * 0x1_0000) }

/-- A verdict on a core task (R301): READY to execute its bundle again, READY with a trap due, or stopped. -/
def State.taskVerdict (s : State) (page : Nat) (v : Verdict) (id : TaskId) : State :=
  match v, s.savingCore id with
  | .drop, some n => s.onCore n fun s => s.stopTask (dropExc page) s.core.t.pc
  | .drop, none =>
    match s.schedRec id.asid id.record, s.sched.saved.any fun v => decide (v.task = id) with
    | some r, true => s.stopRecord r .protection (dropExc page).addr
    | _, _ => s
  | .retry, some n => s.setCore n { s.getCore n with mode := (s.getCore n).mode.decide' fun _ => none }
  | .retry, none => s.release' id fun _ => none
  | .deny st, some n => s.setCore n { s.getCore n with mode := (s.getCore n).mode.decide' fun e => some { e with cause := st.cause } }
  | .deny st, none => s.release' id fun e => e.map fun e => { e with cause := st.cause }

/-- The kind-4 record of a command that a verdict ends (R304). -/
def State.verdictRec (s : State) (id : TaskId) (m : MissAt) (bundle : VAddr) (img : BitVec 32) (st : Status) : State :=
  s.addRec { s.blankRec id.asid with
    cause := st.cause.code, kind := 4, slot := m.slot, opnd := m.opnd, elem := m.elem, core := s.whereIs id, wr := m.wr, image := img,
    status := st.code, bundle, va := m.va, task := id.record }

/-- A matrix engine's command after its verdict (R169, R170). -/
def MatEngine.verdict (m : MatEngine) (seq : Nat) (st : Option Status) : MatEngine :=
  { m with run := m.run.map fun r =>
      if r.cmd.seq = seq then
        match st with
        | none => { r with missing := none }
        | some x => { r with missing := none, step := none, ended := some x }
      else r,
           mrp := if st.isSome && (m.run.map fun r => decide (r.cmd.seq = seq)).getD false then m.noLoad.mrp else m.mrp }

/-- A copy engine's command after its verdict (R193); one that waited to give a permit back goes on, or gives it up (R281). -/
def CopyEngine.verdict (m : CopyEngine) (seq : Nat) (st : Option Status) : CopyEngine :=
  let back (f : CopyFlight) : CopyFlight :=
    if f.run.cmd.seq = seq ∧ f.run.missing.isSome = true then { f with run := { f.run with missing := none, permit := f.run.permit && st.isNone } } else f
  let m1 := { m with flight := m.flight.map back }
  match m.run, st with
  | some r, none => if r.cmd.seq = seq then { m1 with run := some { r with missing := none } } else m1
  | some r, some x => if r.cmd.seq = seq then { m1 with run := none, flight := m1.flight ++ [{ run := { r with missing := none }, status := x }] } else m1
  | none, _ => m1

/-- An engine of a task after a verdict (R301). -/
def TaskState.engVerdict (eng seq : Nat) (st : Option Status) (t : TaskState) : TaskState :=
  if eng < 2 then t.setMe (decide (eng = 1)) ((t.me (decide (eng = 1))).verdict seq st)
  else t.setCe (decide (eng = 3)) ((t.ce (decide (eng = 3))).verdict seq st)

/-- What an engine's command missed on, with its bundle and image. -/
def TaskState.missOf (t : TaskState) (eng seq : Nat) : Option (MissAt × VAddr × BitVec 32) :=
  if eng < 2 then
    match (t.me (decide (eng = 1))).run with
    | some r => if r.cmd.seq = seq then r.missing.map fun m => (m, r.cmd.bundle, r.cmd.image) else none
    | none => none
  else
    let q := t.ce (decide (eng = 3))
    ((q.run.toList ++ q.flight.map (·.run)).find? fun r => decide (r.cmd.seq = seq)).bind fun r => r.missing.map fun m => (m, r.cmd.bundle, r.cmd.image)

/-- The state of a task, on a core or saved. -/
def State.taskOf (s : State) (id : TaskId) : Option TaskState :=
  match s.liveCores.find? fun n => decide ((s.getCore n).mode ≠ .idle) && decide ((s.getCore n).t.id = id) with
  | some n => some (s.getCore n).t
  | none => (s.sched.saved.find? fun v => decide (v.task = id)).map (·.t)

/-- A verdict on an engine's command (R301): it goes on from its progress, or ends with a kind-4 record. -/
def State.engineVerdict (s : State) (v : Verdict) (id : TaskId) (eng seq : Nat) : State :=
  match (s.taskOf id).bind fun t => t.missOf eng seq with
  | none => s
  | some (m, bundle, img) =>
    match v.status with
    | none => s.modTask id (TaskState.engVerdict eng seq none)
    | some st => (s.modTask id (TaskState.engVerdict eng seq (some st))).verdictRec id m bundle img st

/-- A verdict on a collective (R301, R193). -/
def State.collVerdict (s : State) (v : Verdict) (n : Nat) : State :=
  let c := s.collOf n
  match c.run with
  | none => s
  | some r =>
    match r.missing with
    | none => s
    | some m =>
      match v.status with
      | none => (s.setColl n { c with run := some { r with missing := none } }).collTick n
      | some st => (s.setColl n { c with run := some { r with missing := none, ended := some st } }).verdictRec r.cmd.task m r.cmd.cmd.bundle r.cmd.cmd.image st

/-- A verdict on a CSIG that its collective engine holds (R193, R198, R301): its OR is tried again, or it ends, unset, with a kind-4 record. -/
def State.signalVerdict (s : State) (v : Verdict) (id : TaskId) (seq : Nat) : State :=
  let held := (List.range 32).flatMap fun n => (s.collOf n).signals.map fun g => (n, g)
  match held.find? fun q => decide (q.2.cmd.task = id ∧ q.2.cmd.cmd.seq = seq) with
  | none => s
  | some (n, g) =>
    match v.status, g.missing with
    | some st, some m =>
      let s1 := ((s.asTask id g.cmd.core fun s => some (s.endSignal n g)).getD s)
      s1.verdictRec id m g.cmd.cmd.bundle g.cmd.cmd.image st
    | _, _ => s.setSignal n g none

/-- A verdict on a parked reduction (R301, R308): replayed once, in park order, or dropped; it stays in the store while an earlier one or its own flow has it wait. -/
def State.redVerdict (s : State) (v : Verdict) (r : Red) : State :=
  match v.status with
  | some st => (s.unpark r).dropRed r st
  | none =>
    match if s.xlat.parked.any (·.go) then none else s.replayRed r with
    | some s1 => s1
    | none => s.modXlat fun x => { x with parked := modFirst (fun q => decide (q.seq = r.seq)) (fun q => { q with go := true }) x.parked }

/-- A completion word is tried again (R185): it is written, waits on, or stays unwritten with a kind-4 record; the command completes with it. -/
def State.goWord (s : State) (id : TaskId) (a : VAddr) (val : Word) (c : Closing) (bundle : VAddr) (img : BitVec 32) : State :=
  let n := s.whereIs id
  let w : Waiter := .word id a val c bundle img
  match (s.switchTo n).putWord id.asid a val w with
  | .written s1 => (s1.switchTo s.cur).closeFor id c (!c.ok)
  | .sent s1 => s1.switchTo s.cur
  | .full => s.parkWord w
  | .miss =>
    if s.pendingFull id.asid a then s.parkWord w
    else
      s.missOn id.asid a w { s.blankRec id.asid with
        cause := Cause.translation.code, kind := 1, slot := c.slot, opnd := 4, core := n, wr := true, va := a, task := id.record, bundle, image := img }
  | .fails st => (s.closeFor id c true).verdictRec id { va := a, slot := c.slot, opnd := 4, elem := 0xFFFF, wr := true, full := false } bundle img st

/-- The completion words that had no room in their flow are tried again, oldest first (R185, R324). -/
def State.goWords (s : State) : State :=
  forEach s.xlat.words (fun w s => match w with
    | .word id a val c bundle img => s.goWord id a val c bundle img
    | _ => s) (s.modXlat fun x => { x with words := [] })

/-- A verdict on a completion word (R185). -/
def State.wordVerdict (s : State) (v : Verdict) (id : TaskId) (a : VAddr) (val : Word) (c : Closing) (bundle : VAddr) (img : BitVec 32) : State :=
  match v.status with
  | some st => (s.closeFor id c true).verdictRec id { va := a, slot := c.slot, opnd := 4, elem := 0xFFFF, wr := true, full := false } bundle img st
  | none => s.goWord id a val c bundle img

/-- A verdict on a save or a restore (R299, R313). -/
def State.saveVerdict (s : State) (v : Verdict) (id : TaskId) : State :=
  let cause : Cause := match v with
    | .deny st => st.cause
    | _ => .protection
  match v, s.savingCore id with
  | .retry, some _ => s
  | _, some n => s.onCore n fun s => s.stopTask { cause, addr := s.saveAt id } s.core.t.pc
  | .retry, none => s.modSched fun d => { d with saved := d.saved.map fun v =>
      if v.task.asid = id.asid ∧ v.task.record = id.record then { v with waits := none } else v }
  | _, none =>
    match s.schedRec id.asid id.record with
    | none => s
    | some r => s.stopRecord r cause (s.saveAt id)

/-- A verdict on one waiter (R301). -/
def State.waiterVerdict (s : State) (page : Nat) (v : Verdict) (w : Waiter) : State :=
  match w with
  | .task id => s.taskVerdict page v id
  | .engine id eng seq => s.engineVerdict v id eng seq
  | .collective n => s.collVerdict v n
  | .signal id seq => s.signalVerdict v id seq
  | .red r => s.redVerdict v r
  | .word id a val c bundle img => s.wordVerdict v id a val c bundle img
  | .save id => s.saveVerdict v id
  | .push _ _ _ => s

/-- A verdict frees its page's entry and acts on every waiter in the order of attachment; without an entry it is counted as an error (R300). -/
def State.verdict (s : State) (a p : Nat) (v : Verdict) : Out :=
  s.whenReady fun s =>
    match s.xlat.pending.find? fun q => q.is a p with
    | none => s.mgmtError
    | some q =>
      let s1 := (s.modXlat fun x => { x with pending := x.pending.filter fun q => !(q.is a p) }).countField a 48 (· - 1)
      forEach q.waiters (fun w s => s.waiterVerdict p v w) s1

/-- VERDICT_RETRY (R301). -/
def execVerdictRetry (a p : Nat) (s : State) : Out := s.verdict a p .retry

/-- VERDICT_TRANSLATION (R301). -/
def execVerdictTranslation (a p : Nat) (s : State) : Out := s.verdict a p (.deny .translation)

/-- VERDICT_PROTECTION (R301). -/
def execVerdictProtection (a p : Nat) (s : State) : Out := s.verdict a p (.deny .protection)

/-- VERDICT_DROP (R301). -/
def execVerdictDrop (a p : Nat) (s : State) : Out := s.verdict a p .drop

end Sys2Proof.Machine
end

