-- ==== Sys2Proof/Machine/CollEvents.lean ====
section
/-! DEFINITION. The start and the completion of a collective (R196, R197, R288, R333, R334, R339). -/

namespace Sys2Proof.Machine

/-- A collective whose handle is not yet read. -/
def CollCmd.fresh (c : CollCmd) : CollRun :=
  { cmd := c, begun := false, ordinal := 0, op := 0, red := 0, ew := 1, torus := false, slot := 0, buf := 0, bbytes := 0, nb := 0, self := 0,
    group := [], recAddr := 0, ready := 0, differs := false, chunks := [], sats := 0, fetched := [], ended := none, missing := none }

/-- The words of a handle (R196). -/
structure Handle where
  w0 : Nat
  buf : Nat
  w2 : Nat
  grp : Nat
  w4 : Nat
  recAddr : Nat
  w7 : Nat

def handleOf (bs : List Byte) : Handle :=
  let w (i : Nat) : Nat := leNat ((bs.drop (8 * i)).take 8)
  { w0 := w 0, buf := w 1, w2 := w 2, grp := w 3, w4 := w 4, recAddr := w 6, w7 := w 7 }

/-- A reserved value or bit, or a field out of range (R196, R340). -/
def Handle.bad (h : Handle) : Bool :=
  decide (bitsOf h.w0 1 0 = 3 ∨ bitsOf h.w0 5 4 = 0 ∨ bitsOf h.w0 5 4 = 3 ∨ h.w0 / 2 ^ 18 ≠ 0 ∨ h.buf % 64 ≠ 0 ∨ bitsOf h.w2 31 0 % 64 ≠ 0 ∨
    bitsOf h.w2 38 32 = 0 ∨ 64 < bitsOf h.w2 38 32 ∨ h.w2 / 2 ^ 39 ≠ 0 ∨ bitsOf h.w4 12 0 < 2 ∨ 4096 < bitsOf h.w4 12 0 ∨
    bitsOf h.w4 28 16 ≥ bitsOf h.w4 12 0 ∨ bitsOf h.w4 15 13 ≠ 0 ∨ h.w4 / 2 ^ 29 ≠ 0 ∨ h.w7 ≠ 0)

/-- 16-bit identifiers of a member table (R196). -/
def memberIds (n : Nat) (bs : List Byte) : List Nat :=
  match n with
  | 0 => []
  | k + 1 => leNat (bs.take 2) :: memberIds k (bs.drop 2)

/-- The collective as its handle gives it (R196). -/
def CollRun.begin (r : CollRun) (h : Handle) (g : List Nat) (ordinal : Nat) : CollRun :=
  { r with begun := true, ordinal, op := bitsOf h.w0 1 0, red := bitsOf h.w0 3 2, ew := 2 * bitsOf h.w0 5 4, torus := decide (bitsOf h.w0 6 6 = 1),
           slot := BitVec.ofNat 6 (bitsOf h.w0 17 12), buf := BitVec.ofNat 55 h.buf, bbytes := bitsOf h.w2 31 0, nb := bitsOf h.w2 38 32,
           self := bitsOf h.w4 28 16, group := g, recAddr := BitVec.ofNat 55 h.recAddr, fetched := [], missing := none }

/-- An ordinal is before another, modulo 2^32 (R331). -/
def ordBefore (a b : Nat) : Bool := decide (2 ^ 31 ≤ (a + 2 ^ 32 - b) % 2 ^ 32)

/-- Read the handle and the member table; a reserved value ends the collective FORMAT, with no ordinal used (R196, R333) [log 33]. -/
def State.readHandle (s : State) (n : Nat) (r : CollRun) : Option State :=
  let asid := r.cmd.task.asid
  let a := vaOf r.cmd.cmd.opr
  match s.netRead 2 r.fetched asid a 64 with
  | .error (f, va) => s.collFailed n r f va 4 false
  | .ok bs =>
    let h := handleOf bs
    if h.bad then some (s.setCollRun n { r with ended := some .format, missing := none })
    else
      let nm := bitsOf h.w4 12 0
      match s.netRead (2 * nm / 64 + 2) r.fetched asid (BitVec.ofNat 55 h.grp) (2 * nm) with
      | .error (f, va) => s.collFailed n r f va 4 false
      | .ok t =>
        let g := memberIds nm t
        if bitsOf h.w0 6 6 = 1 ∧ s.completeBox g = false then some (s.setCollRun n { r with ended := some .format, missing := none })
        else
          let c := s.collOf n
          some ((s.setColl n { c with
            ordinal := (c.ordinal + 1) % 2 ^ 32
            early := c.early.filter fun p => !(ordBefore (Packet.ordinal p) c.ordinal)
            run := some (r.begin h g c.ordinal) }).collTick n)

/-- The oldest queued collective of an engine starts; one that a miss held up at its handle starts, and one whose miss found no room in the pending-page table tries its access again (R197, R288, R299). -/
def State.collStart (s : State) (n : Nat) : Option State :=
  let c := s.collOf n
  match c.run, c.queue with
  | some r, _ =>
    if waitsVerdict r.missing || r.ended.isSome then none
    else if r.begun then if r.missing.isSome then s.collOnce n else none
    else s.collMoved n (s.readHandle n { r with missing := none })
  | none, q :: rest => (s.setColl n { c with run := some q.fresh, queue := rest }).readHandle n q.fresh
  | none, [] => none

/-- COLLECTIVE_START (R288). -/
def execCollectiveStart (n : Nat) (s : State) : Out := if 32 ≤ n then notEnabled "COLLECTIVE_START" else enabledOr "COLLECTIVE_START" (s.collStart n)

/-- Every chunk is done at this member: final, or for a reduce-scatter passed on (R333, R339). -/
def CollRun.done (r : CollRun) : Bool :=
  (List.range r.nb).all fun b => (List.range r.perBucket).all fun c =>
    match r.chunk b c with
    | none => false
    | some k => k.out.isEmpty && (k.final || (decide (r.op = 0) && k.last.isSome))

/-- The members missing from some final chunk (R334). -/
def CollRun.absent (r : CollRun) : Nat :=
  let full := 2 ^ r.nm - 1
  (r.chunks.filter (·.final)).foldl (fun m k => Nat.lor m (full - Nat.land full k.members)) 0

/-- A COLL of a task completes, wherever the task is (R184, R185, R311). -/
def State.completeFor (s : State) (id : TaskId) (c : CopyCmd) (st : Status) (sats : List (BitVec 6 × Nat)) : State :=
  let k : Closing := { seq := c.seq, slot := c.slot, tag := ctlTag c.ctl, ok := decide (st = .ok), sats, census := [], bars := [] }
  match c.word st with
  | none => s.closeFor id k (!k.ok)
  | some (a, v) => s.goWord id a v k c.bundle c.image

/-- The collective of engine n completes: the missing members, the counts, the word and the tag (R104, R197, R334, R339). -/
def State.collDone (s : State) (n : Nat) : Option State :=
  match (s.collOf n).run with
  | none => none
  | some r =>
    let id := r.cmd.task
    let close (s : State) (st : Status) : Option State :=
      some <| (s.setColl n { s.collOf n with run := none }).completeFor id r.cmd.cmd st [(r.slot, r.sats)]
    match r.ended with
    | some st => close s st
    | none =>
      if !r.begun || waitsVerdict r.missing || !r.done || s.owns (.collective n) then none
      else if r.absent = 0 then close s .ok
      else
        match s.netWrite ((r.nm + 7) / 8 / 64 + 2) (collFlow n) none id.asid r.recAddr (leBytes ((r.nm + 7) / 8) r.absent) with
        | .error (f, va) => s.collMoved n (s.collFailed n r f va 4 true)
        | .ok s1 => close s1 .partially

/-- COLLECTIVE_COMPLETE (R197, R339). -/
def execCollectiveComplete (n : Nat) (s : State) : Out :=
  if 32 ≤ n then notEnabled "COLLECTIVE_COMPLETE" else enabledOr "COLLECTIVE_COMPLETE" (s.collDone n)

end Sys2Proof.Machine
end

