-- ==== Sys2Proof/Machine/Fabric.lean ====
section
/-! DEFINITION. The fabric: packets in and out, flows at their destination, acknowledgements, timeouts and routes, beacons, probes, and packages declared lost (R322 to R335) [log 20]. -/

namespace Sys2Proof.Machine

/-! ### Flows at their destination (R325, R326) -/

def DstFlow.is (f : DstFlow) (eng src tc : Nat) : Bool := decide (f.eng = eng ∧ f.src = src ∧ f.tc = tc)

/-- The flow of a packet at its destination; a new one starts at sequence number 0. -/
def State.dstFlow (s : State) (eng src tc : Nat) : DstFlow :=
  (s.fabric.dests.find? fun f => f.is eng src tc).getD { eng, src, tc, next := 0, held := [], results := [], unacked := 0 }

def State.setDstFlow (s : State) (f : DstFlow) : State :=
  s.modFabric fun b => { b with dests := f :: b.dests.filter fun g => !(g.is f.eng f.src f.tc) }

/-- The ACK of a flow: what is below `next` is delivered, and the bitmap names what is held (R323, R325, R339). -/
def State.sendAck (s : State) (f : DstFlow) : State :=
  let bits := ((List.range 64).map fun i => if f.held.any (fun h => decide (h.2.seq = f.next + 1 + BitVec.ofNat 32 i)) then 2 ^ i else 0).sum
  (s.setDstFlow { f with unacked := 0 }).sendPlain { type := 7, tc := f.tc, eng := f.eng, dst := f.src, opnd := bits } f.next

/-- The answer to an ATOMIC, which doubles as its acknowledgement (R326). -/
def State.sendResult (s : State) (f : DstFlow) (seq : BitVec 32) (old : BitVec 128) (bad : Bool) : State :=
  s.sendPlain { type := 4, tc := f.tc, eng := f.eng, dst := f.src, opnd := old.toNat, bad := if bad then [0] else [] } seq

/-- The core that a source engine number belongs to (R324). -/
def engCore (eng : Nat) : Nat := if eng < 1152 then eng / 2 else if eng < 1728 then eng - 1152 else 0

/-- A partial write that met poison at its home here (R307). -/
def State.remoteWriteRec (s : State) (p : Packet) : State :=
  s.addRec { s.blankRec p.asid with cause := Cause.poison.code, kind := 4, core := engCore p.eng, wr := true, status := Status.poison.code,
                                     pa := some p.pa, task := 0, image := 0 }

/-- A WRITE is performed at its home (R240, R307); words that came poisoned are poisoned there; one to an address that does not exist has no effect [log 20]. -/
def State.performWrite (s : State) (p : Packet) : State :=
  if s.physOk p.pa = false then s
  else
    let bs := p.payload.take p.len
    let lose (s : State) : State := forEach p.bad (fun k s => s.poisonPa (p.pa + 8 * k)) s
    lose <| if p.skip.isEmpty then
      let s1 := ({ s with mem := s.mem.store p.key p.pa bs } : State).activate p.pa
      if s.mem.storeDiscards p.pa bs.length then s1.remoteWriteRec p else s1
    else
      let ws := (((List.range bs.length).zip bs).filter fun q => !(p.skip.contains q.1)).map fun q => (p.pa + q.1, [q.2])
      let s1 := ({ s with mem := s.mem.storeAll p.key ws } : State).activate p.pa
      if ws.any fun w => s.mem.discards ws w.1 1 then s1.remoteWriteRec p else s1

/-- The operation and the size of an ATOMIC or RED (R212, R323). -/
def Packet.amoOp (p : Packet) : Nat := bitsOf p.op 3 0
def Packet.amoSize (p : Packet) : Nat := match bitsOf p.op 5 4 with
  | 0 => 4 | 1 => 8 | _ => 16

/-- A RED is performed at its home, or dropped and counted where its word is poisoned (R213, R307). -/
def State.performRedPacket (s : State) (p : Packet) : State :=
  if s.physOk p.pa = false then s
  else if s.mem.poisoned p.pa (Packet.amoSize p) then
    s.dropRed { task := { asid := p.asid, record := 0, member := 0 }, op := Packet.amoOp p, size := Packet.amoSize p, va := 0, operand := 0,
                core := engCore p.eng, bundle := 0, image := 0 } .poison
  else (s.amoHome p.key p.pa (Packet.amoOp p) (Packet.amoSize p) p.opnd.toNat 0).1.tickHandle p.pa

/-- An ATOMIC executes once; old m (R213, R326). A poisoned word is left as it is, and the answer is poisoned (R215, R307). -/
def State.performAtomic (s : State) (p : Packet) : State × BitVec 128 × Bool :=
  let n := Packet.amoSize p
  let old := BitVec.ofNat 128 (leNat (s.mem.bytes p.key p.pa n))
  let bad := s.mem.poisoned p.pa n
  if s.physOk p.pa = false ∨ bad = true then (s, old, bad)
  else ((s.amoHome p.key p.pa (Packet.amoOp p) n p.opnd.toNat (leNat (p.payload.take 16))).1, old, false)

/-- A copy engine's ATOMIC asks for a permit, and there is none for it now: the count is 0, or earlier requests wait at the counter (R187, R281). -/
def State.noPermit (s : State) (p : Packet) : Bool :=
  decide (p.eng < 1152) && s.physOk p.pa && !(s.mem.poisoned p.pa 4) &&
  (decide (leNat (s.mem.bytes p.key p.pa 4) = 0) || (s.dropUnwanted.firstAsker p.pa).isSome)

/-- The counter's home parks another package's request behind those that came before (R281). -/
def State.parkPermit (s : State) (p : Packet) (die : Nat) : State :=
  s.modSched fun d => { d with permits := d.permits ++ [{ who := .packet p.eng p.src p.tc p.seq die, pa := p.pa, key := p.key }] }

/-- A READ is answered with its bytes, on the answering package's own flow with the same engine number [log 20]. -/
def State.performRead (s : State) (p : Packet) : Option State :=
  if s.flowFull p.eng p.src p.tc then none
  else
    some ((s.activate p.pa).send
      { type := 2, tc := p.tc, eng := p.eng, dst := p.src, asid := p.asid, key := p.key, pa := p.pa, len := p.len,
        payload := s.mem.bytes p.key p.pa p.len,
        bad := (List.range ((p.len + 7) / 8)).filter fun k => s.mem.poisoned (p.pa + 8 * k) 8 } none none)

/-- A fetched line that an answer is for: the one that the READ of this number asked for. -/
def Fetched.fill (f : Fetched) (seq : BitVec 32) (bs : List Byte) (bad : List Nat) : Fetched :=
  if f.seq = seq ∧ f.data.isNone = true then { f with data := some bs, bad } else f

/-- The request that an answer is for takes it; one whose bundle has gone is dropped. -/
def fillAsk (q : Ask → Bool) (bs : List Byte) (bad : Bool) (l : List Ask) : List Ask :=
  match l with
  | [] => []
  | a :: r => if q a && a.val.isNone then (if a.live then { a with val := some bs, bad } :: r else r) else a :: fillAsk q bs bad r

/-- The earlier of two sequence numbers. -/
def earlierSeq (a b : BitVec 32) : BitVec 32 := if (b - a).toNat < 2 ^ 31 then a else b

/-- The first of the READs of one flow that an answer can be for: answers come in the order of their READs (R324, R325). -/
def firstSeq (l : List (BitVec 32)) : Option (BitVec 32) :=
  match l with
  | [] => none
  | a :: r => some (r.foldl earlierSeq a)

/-- The lines of a matrix engine's run that an answer could be for. -/
def fetchSeqs (fs : List Fetched) (pkg pa len : Nat) : List (BitVec 32) :=
  (fs.filter fun f => f.data.isNone && decide (f.pkg = pkg ∧ f.pa = pa ∧ len = 64)).map (·.seq)

/-- The lines that a task's matrix engines have asked for and that an RDATA can answer. -/
def TaskState.meReads (t : TaskState) (pkg pa len : Nat) : List (BitVec 32) :=
  let me (m : MatEngine) : List (BitVec 32) := ((m.run.map fun r => fetchSeqs r.fetched pkg pa len)).getD []
  me t.me0 ++ me t.me1

/-- The READs of a core's network interface that an RDATA can answer: a held bundle's, the L1's, the matrix engines'. -/
def Core.netReads (c : Core) (pkg pa len : Nat) : List (BitVec 32) :=
  (c.asks.filter fun a => decide (a.pkg = pkg ∧ a.pa = pa ∧ a.len = len ∧ a.atomic = false) && a.val.isNone).map (·.seq) ++
  (c.fills.filter fun f => decide (f.pkg = pkg ∧ 64 * f.line = pa ∧ len = 64)).map (·.seq) ++ c.t.meReads pkg pa len

/-- The lines that the READ of this number asked for have their bytes. -/
def landLines (fs : List Fetched) (pkg : Nat) (seq : BitVec 32) (bs : List Byte) (bad : List Nat) : List Fetched :=
  fs.map fun f => if f.pkg = pkg then f.fill seq bs bad else f

/-- The bytes of an RDATA reach a task's matrix engines. -/
def TaskState.meLand (t : TaskState) (pkg : Nat) (seq : BitVec 32) (bs : List Byte) (bad : List Nat) : TaskState :=
  let me (m : MatEngine) : MatEngine := { m with run := m.run.map fun r => { r with fetched := landLines r.fetched pkg seq bs bad } }
  { t with me0 := me t.me0, me1 := me t.me1 }

/-- The bytes of an RDATA reach whoever sent the READ of this number: a held bundle or a matrix engine (R324). -/
def Core.landData (c : Core) (pkg : Nat) (seq : BitVec 32) (bs : List Byte) (bad : List Nat) : Core :=
  { c with
    asks := fillAsk (fun a => decide (a.pkg = pkg ∧ a.seq = seq ∧ a.atomic = false)) bs (!bad.isEmpty) c.asks
    t := c.t.meLand pkg seq bs bad }

/-- The bytes of an RDATA reach the oldest READ of an engine that they can answer. -/
def landFetched (fs : List Fetched) (pkg pa : Nat) (bs : List Byte) (bad : List Nat) : List Fetched :=
  match firstSeq (fetchSeqs fs pkg pa bs.length) with
  | none => fs
  | some q => landLines fs pkg q bs bad

/-- The lines of a task's copy engine that were asked for in a traffic class and that an RDATA can answer (R289). -/
def CopyEngine.reads (m : CopyEngine) (tc pkg pa len : Nat) : List (BitVec 32) :=
  ((m.run.filter fun r => decide (r.cmd.kind.readClass = tc)).map fun r => fetchSeqs r.fetched pkg pa len).getD []

/-- The bytes of an RDATA reach a copy engine. -/
def CopyEngine.landData (m : CopyEngine) (tc pkg : Nat) (seq : BitVec 32) (bs : List Byte) (bad : List Nat) : CopyEngine :=
  { m with run := m.run.map fun r => if r.cmd.kind.readClass = tc then { r with fetched := landLines r.fetched pkg seq bs bad } else r }

/-- Tasks that have left core n and whose engine commands still run there (R231, R309). -/
def State.ghosts (s : State) (n : Nat) : List Saved := s.sched.saved.filter fun v => v.ended && decide (v.core = n)

/-- Change their states. -/
def State.modGhosts (s : State) (n : Nat) (f : TaskState → TaskState) : State :=
  s.modSched fun d => { d with saved := d.saved.map fun v => if v.ended && decide (v.core = n) then { v with t := f v.t } else v }

/-! ### A payload read again (R190, R327) [log 64] -/

/-- What reading a packet's payload again gives: bytes; a line of another package that is needed first; or, until such a line comes, nothing. -/
inductive Reread where
  | bytes (bs : List Byte)
  | ask (pkg key pa : Nat)
  | wait

/-- The run of a copy command of the task on the current core (R327). -/
def TaskState.copyRun (t : TaskState) (eng seq : Nat) : Option CopyRun :=
  let m := t.ce (decide (eng = 3))
  (m.run.toList ++ m.flight.map (·.run)).find? fun r => decide (r.cmd.seq = seq)

/-- Bytes from an address on among the pieces of a granule. -/
def pieceAt (ps : List (VAddr × List Byte)) (va : VAddr) (n : Nat) : Option (List Byte) :=
  (ps.find? fun p => decide (p.1 ≤ va ∧ va.toNat + n ≤ p.1.toNat + p.2.length)).map fun p => (p.2.drop (va - p.1).toNat).take n

/-- The states in which a task's commands run: on its core, or, with `left`, as it left one. -/
def State.viewsOf (s : State) (id : TaskId) : List (Bool × State) :=
  (s.liveCores.filter fun n => decide ((s.getCore n).mode ≠ CoreMode.idle) && decide ((s.getCore n).t.id = id)).map (fun n => (false, s.switchTo n)) ++
  (s.sched.saved.filter fun v => decide (v.task = id)).map fun v =>
    (true, let s1 := s.switchTo v.core
           { s1 with core := { s1.core with t := v.t, l1 := [] } })

/-- A copy's payload read again from its source, in a state in which it runs; none where it cannot be read now: the source has failed since, or lies in a scratchpad that the task has left. -/
def State.rereadCopy (s : State) (left : Bool) (eng seq pos skipped : Nat) (va : VAddr) (n : Nat) (got : List Fetched) : Option Reread :=
  match s.core.t.copyRun eng seq with
  | none => none
  | some r =>
    match s.granule { r with pos, skipped, fetched := got } with
    | .error x =>
      match x.fail with
      | .ask p k a => some (.ask p k a)
      | .wait => some .wait
      | _ => none
    | .ok g =>
      if left && g.reads.any fun q => (s.ownOffset q.1).isSome then none
      else
        let ts := ((s.targets r.cmd).getD []).map fun k => joinPieces (g.pieces.map fun p => (s.atTarget k p.1, p.2))
        (pieceAt (joinPieces g.pieces ++ ts.flatten) va n).map .bytes

/-- A chunk's payload read again from the engine's bucket state. -/
def State.rereadChunk (s : State) (n : Nat) (p : Packet) : Option (List Byte) :=
  match (s.collOf n).run with
  | none => none
  | some r =>
    if r.ordinal ≠ Packet.ordinal p then none
    else
      match r.chunk (Packet.bucket p) (Packet.chunkNo p) with
      | none => none
      | some k =>
        let bs := leBytes (64 * r.recFlits) k.members ++ k.acc
        if bs.length = p.len then some bs else none

/-- The payload of a packet that is sent again: of a copy from its source, of a CHUNK from its collective engine, of any other the payload it had. -/
def State.reread (s : State) (d : Descriptor) : Reread :=
  let got : Option Reread := match d.owner, d.source with
    | some (.engine id eng seq), some (pos, skipped, va) =>
      (s.viewsOf id).findSome? fun (q : Bool × State) => q.2.rereadCopy q.1 eng seq pos skipped va d.packet.len d.refetch
    | some (.collective n), _ => if d.packet.type = 6 then (s.rereadChunk n d.packet).map Reread.bytes else none
    | _, _ => none
  match got with
  | some (.bytes bs) => .bytes (if bs.length = d.packet.len then padFlits bs else d.packet.payload)
  | some x => x
  | none => .bytes d.packet.payload

/-- Put a descriptor of a flow in its place. -/
def State.setDesc (s : State) (f : SrcFlow) (d : Descriptor) : State :=
  s.setSrcFlow { f with descs := f.descs.map fun e => if e.seq = d.seq then d else e }

/-- A descriptor's packet goes out again on its flow's route, once its payload has been read again: its header is rebuilt, and retx is set (R327). -/
def State.retransmit (s : State) (f : SrcFlow) (d : Descriptor) : State :=
  let rt := s.routeOf f.dst f.route
  let again (bs : List Byte) : Packet :=
    ((((({ d.packet with payload := bs }.setField 12 1 1).setField 13 3 rt.1).setField 16 3 rt.2).setField 19 6 0).setField 96 32 f.rseq.toNat).sealed
  match s.reread d with
  | .bytes bs => (s.setDesc f { d with packet := again bs, refetch := [] }).emit (s.firstPort f.dst rt.1 rt.2 f.eng f.tc) (again bs)
  | .wait => s.setDesc f { d with packet := again d.packet.payload }
  | .ask pkg key pa =>
    let s1 := s.setDesc f { d with packet := again d.packet.payload, refetch := d.refetch ++ [s.fetchOf f.eng 0 pkg pa] }
    (s1.askLine f.eng 0 d.packet.asid pkg key pa).getD (s.setDesc f { d with packet := again d.packet.payload })

/-- The descriptors of an engine's flows that wait for a line, with their flows. -/
def State.rereaders (s : State) (eng : Nat) : List (SrcFlow × Descriptor) :=
  ((s.fabric.sources.filter fun f => decide (f.eng = eng)).map fun f => (f.descs.filter fun d => !d.refetch.isEmpty).map fun d => (f, d)).flatten

/-- A line comes for the payload of a packet that is to be sent again. -/
def State.landRereads (s : State) (eng pkg : Nat) (seq : BitVec 32) (bs : List Byte) (bad : List Nat) : State :=
  forEach ((s.rereaders eng).filter fun q => q.2.refetch.any fun f => decide (f.pkg = pkg ∧ f.seq = seq) && f.data.isNone) (fun q s =>
    let f := s.srcFlow q.1.eng q.1.dst q.1.tc
    s.retransmit f { q.2 with refetch := landLines q.2.refetch pkg seq bs bad }) s

/-- An RDATA is delivered (R324, R325): it answers the oldest READ of its engine, class and line. -/
def State.performData (s : State) (p : Packet) : State :=
  let bs := p.payload.take p.len
  let n := engCore p.eng
  if p.eng < 1152 then
    let e := decide (p.eng % 2 = 1)
    let land (q : BitVec 32) (t : TaskState) : TaskState := t.setCe e ((t.ce e).landData p.tc p.src q bs p.bad)
    let k := s.getCore n
    let again := if p.tc = 0 then ((s.rereaders p.eng).map fun q => fetchSeqs q.2.refetch p.src p.pa p.len).flatten else []
    match firstSeq ((k.t.ce e).reads p.tc p.src p.pa p.len ++ ((s.ghosts n).map fun v => (v.t.ce e).reads p.tc p.src p.pa p.len).flatten ++ again) with
    | none => s
    | some q =>
      let s1 := (s.setCore n { k with t := land q k.t }).modGhosts n (land q)
      if p.tc = 0 then s1.landRereads p.eng p.src q bs p.bad else s1
  else if p.eng < 1728 then
    let k := s.getCore n
    match firstSeq (k.netReads p.src p.pa p.len ++ ((s.ghosts n).map fun v => v.t.meReads p.src p.pa p.len).flatten) with
    | none => s
    | some q =>
      ((s.setCore n (k.landData p.src q bs p.bad)).modGhosts n fun t => t.meLand p.src q bs p.bad).onCore n fun s => s.landLine p.src q bs p.bad
  else if p.eng < 1760 then
    let n := p.eng - 1728
    let c := s.collOf n
    (s.setColl n { c with run := c.run.map fun r => { r with fetched := landFetched r.fetched p.src p.pa bs p.bad } }).collTick n
  else s

/-- A chunk of the collective that an engine has started. -/
def CollEngine.started (c : CollEngine) (p : Packet) : Bool :=
  match c.run with
  | none => false
  | some r => r.begun && decide (Packet.ordinal p = r.ordinal)

/-- The chunk's bucket is ready and its collective has not paused, so that it is reduced as it arrives: it takes no room in the pending store (R197, R331, R338). -/
def State.bucketReady (s : State) (n : Nat) (p : Packet) : Bool :=
  (s.collOf n).started p &&
  match (s.collOf n).run with
  | none => false
  | some r =>
    r.missing.isNone &&
    match s.netRead 2 r.fetched r.cmd.task.asid (vaOf r.cmd.cmd.opr + 40) 8 with
    | .error _ => decide (r.ready / 2 ^ Packet.bucket p % 2 = 1)
    | .ok bs => decide (leNat bs / 2 ^ Packet.bucket p % 2 = 1)

/-- The bytes that chunks hold in the pending store of an engine's fabric die (R331, R338). -/
def State.earlyBytes (s : State) (n : Nat) : Nat :=
  (((List.range 16).map fun i =>
    (((s.collOf (16 * (n / 16) + i)).early.filter fun p => !(s.bucketReady (16 * (n / 16) + i) p)).map (·.len)).sum)).sum

/-- A CHUNK is delivered to its collective engine; a late copy is discarded; none where the pending store has no room (R331, R338). -/
def State.performChunk (s : State) (p : Packet) : Option State :=
  let n := Packet.collEngine p
  let c := s.collOf n
  let now := match c.run with
    | some r => if r.begun then r.ordinal else c.ordinal
    | none => c.ordinal
  if ordBefore (Packet.ordinal p) now then some s
  else if 0x10_0000 < s.earlyBytes n + p.len ∧ s.bucketReady n p = false then none
  else some ((s.setColl n { c with early := c.early ++ [p] }).collTick n)

/-- Results in the cache of a fabric die: 4 MiB, an entry of 32 bytes each (R326). -/
def State.resultsHeld (s : State) (die : Nat) : Nat := (s.fabric.dests.map fun f => (f.results.filter fun r => decide (r.die = die)).length).sum

/-- Deliver a packet that is next in its flow: performed at its home, or none where it must stay unacknowledged (R325, R326, R331). -/
def State.deliverPacket (s : State) (f : DstFlow) (port : Nat) (p : Packet) : Option (State × DstFlow) :=
  match p.type with
  | 0 => some (s.performWrite p, f)
  | 1 => (s.performRead p).map fun s1 => (s1, f)
  | 2 => some (s.performData p, f)
  | 3 =>
    if 131072 ≤ s.resultsHeld (fabricDie (some port)) then none
    else if s.noPermit p then some (s.parkPermit p (fabricDie (some port)), f)
    else
      let q := s.performAtomic p
      some (q.1.sendResult f p.seq q.2.1 q.2.2,
            { f with results := f.results ++ [{ seq := p.seq, old := q.2.1, bad := q.2.2, die := fabricDie (some port) }] })
  | 5 => some (s.performRedPacket p, f)
  | _ => (s.performChunk p).map fun s1 => (s1, f)

/-- A packet of which a word was found uncorrectable in the retry or the reorder store (R307, R345): a reduction is dropped, an ATOMIC and a READ are answered poisoned, and any other goes on with its poison [log 44]. -/
def State.deliverMarked (s : State) (f : DstFlow) (port : Nat) (p : Packet) : Option (State × DstFlow) :=
  if p.bad.isEmpty then s.deliverPacket f port p
  else
    match p.type with
    | 1 => if s.flowFull p.eng p.src p.tc then none
           else some (s.send { type := 2, tc := p.tc, eng := p.eng, dst := p.src, asid := p.asid, key := p.key, pa := p.pa, len := p.len,
                               payload := List.replicate p.len 0, bad := List.range ((p.len + 7) / 8) } none none, f)
    | 3 => if 131072 ≤ s.resultsHeld (fabricDie (some port)) then none
           else some (s.sendResult f p.seq 0 true, { f with results := f.results ++ [{ seq := p.seq, old := 0, bad := true, die := fabricDie (some port) }] })
    | 5 => some (s.dropRed { task := { asid := p.asid, record := 0, member := 0 }, op := Packet.amoOp p, size := Packet.amoSize p, va := 0, operand := 0,
                             core := engCore p.eng, bundle := 0, image := 0 } .poison, f)
    | _ => s.deliverPacket f port p

/-- A packet has been delivered: `next` advances, and every eighth delivery is acknowledged (R325). -/
def State.afterDelivery (s : State) (f : DstFlow) : State × DstFlow :=
  let f1 := { f with next := f.next + 1, unacked := f.unacked + 1 }
  if 8 ≤ f1.unacked then (s.sendAck f1, { f1 with unacked := 0 }) else (s, f1)

/-- Deliver what is held and now in sequence (R325). -/
def State.drainHeld (s : State) (f : DstFlow) (fuel : Nat) : State × DstFlow :=
  match fuel with
  | 0 => (s, f)
  | k + 1 =>
    match f.held.find? fun h => decide (h.2.seq = f.next) with
    | none => (s, f)
    | some h =>
      match s.deliverMarked { f with held := f.held.filter fun q => !decide (q.2.seq = f.next) } h.1 h.2 with
      | none => (s, f)
      | some (s1, f1) =>
        let q := s1.afterDelivery f1
        q.1.drainHeld q.2 k

/-- The bytes that the reorder store of the port's fabric die holds (R325). -/
def State.reorderBytes (s : State) (port : Nat) : Nat :=
  ((s.fabric.dests.map fun f => (f.held.filter fun h => decide (h.1 % 2 = port % 2)).map fun h => 64 + h.2.payload.length).flatten).sum

/-- Results below the source's rseq are no longer needed (R326). -/
def DstFlow.forget (f : DstFlow) (rseq : BitVec 32) : DstFlow :=
  { f with results := f.results.filter fun r => decide ((r.seq - rseq).toNat < 2 ^ 31) }

/-- A data packet arrives in its flow (R325, R326). -/
def State.arriveIn (s : State) (f : DstFlow) (port : Nat) (p : Packet) : State :=
  let d := (p.seq - f.next).toNat
  if d = 0 then
    match s.deliverMarked { f with held := f.held.filter fun h => !decide (h.2.seq = p.seq) } port p with
    | none => s.setDstFlow f
    | some (s1, f1) =>
      let a := s1.afterDelivery f1
      let q := a.1.drainHeld a.2 4096
      q.1.setDstFlow q.2
  else if 2 ^ 31 ≤ d then
    match p.type, f.results.find? fun r => decide (r.seq = p.seq) with
    | 3, some r => (s.setDstFlow f).sendResult f p.seq r.old r.bad
    | _, _ => s.sendAck f
  else if f.held.any fun h => decide (h.2.seq = p.seq) then s.sendAck f
  else if d < 4096 ∧ s.reorderBytes port + 64 + p.payload.length ≤ 4 * 0x10_0000 then s.setDstFlow { f with held := f.held ++ [(port, p)] }
  else s.setDstFlow f

/-- A data packet arrives at its destination: held packets that could not be performed before are tried again first (R325, R326). -/
def State.arrivePacket (s : State) (port : Nat) (p : Packet) : State :=
  let q := s.drainHeld ((s.dstFlow p.eng p.src p.tc).forget p.rseq) 4096
  q.1.arriveIn q.2 port p

/-- A packet that fails the checks of every hop is discarded and counted at its port (R323). -/
def State.discard (s : State) (port : Nat) : State :=
  s.modFabric fun b => { b with portErr := mapPut b.portErr port (mapGet 0 b.portErr port + 1) }

/-- A packet of a type arrives for this package: discarded if it fails the checks, or comes from a package declared lost (R323, R330). -/
def State.inbound (s : State) (name : String) (type port : Nat) (p : Packet) (f : State → State) : Out :=
  if 148 ≤ port then notEnabled name
  else if p.sound = false then .next (s.discard port)
  else if p.type ≠ type ∨ p.dst ≠ s.pkgId then notEnabled name
  else if s.fabric.lost.contains p.src then .next s
  else .next (f s)

/-- WRITE_PACKET (R325). -/
def execWritePacket (n : Nat) (p : Packet) (s : State) : Out := s.inbound "WRITE_PACKET" 0 n p fun s => s.arrivePacket n p
/-- READ_PACKET (R325). -/
def execReadPacket (n : Nat) (p : Packet) (s : State) : Out := s.inbound "READ_PACKET" 1 n p fun s => s.arrivePacket n p
/-- RDATA_PACKET (R325). -/
def execRdataPacket (n : Nat) (p : Packet) (s : State) : Out := s.inbound "RDATA_PACKET" 2 n p fun s => s.arrivePacket n p
/-- ATOMIC_PACKET (R326). -/
def execAtomicPacket (n : Nat) (p : Packet) (s : State) : Out := s.inbound "ATOMIC_PACKET" 3 n p fun s => s.arrivePacket n p
/-- RED_PACKET (R325). -/
def execRedPacket (n : Nat) (p : Packet) (s : State) : Out := s.inbound "RED_PACKET" 5 n p fun s => s.arrivePacket n p
/-- CHUNK_PACKET (R332). -/
def execChunkPacket (n : Nat) (p : Packet) (s : State) : Out := s.inbound "CHUNK_PACKET" 6 n p fun s => s.arrivePacket n p

/-- ACK_SEND: the destination flow at place k acknowledges what it has delivered, held packets that can be performed now among it (R325). -/
def execAckSend (k : Nat) (s : State) : Out :=
  match nth? s.fabric.dests k with
  | none => notEnabled "ACK_SEND"
  | some f =>
    let q := s.drainHeld f 4096
    if q.2.unacked = 0 then (if q.2.next = f.next then notEnabled "ACK_SEND" else .next (q.1.setDstFlow q.2)) else .next (q.1.sendAck q.2)

/-! ### Acknowledgements at the source (R309, R325, R326, R329) -/

/-- The bytes of a queue entry's slot in another package have come there: the push is performed once the last of them has (R210). -/
def State.pushAcked (s : State) (asid : Nat) (queue : VAddr) (seq : Nat) : State :=
  match s.liveQueue asid queue with
  | none => s
  | some q => s.pushed q seq

/-- A packet has been acknowledged: a reduction is performed, a collective may go on, a command whose completion word it was completes (R185, R279). -/
def State.acked (s : State) (w : Option Waiter) : State :=
  match w with
  | some (.red r) => s.redDone r
  | some (.collective n) => s.collTick n
  | some (.word id _ _ c _ _) => s.closeFor id c (!c.ok)
  | some (.push asid q seq) => s.pushAcked asid q seq
  | _ => s

/-- The lowest sequence number that still waits for an ARESULT (R323). -/
def SrcFlow.answered (f : SrcFlow) : SrcFlow :=
  { f with rseq := ((f.descs.find? fun d => decide (d.packet.type = 3)).map (·.seq)).getD f.next }

/-- Free the descriptors of a flow that satisfy a test. -/
def State.freeDescs (s : State) (eng dst tc : Nat) (p : Descriptor → Bool) : State :=
  let f := s.srcFlow eng dst tc
  let s1 := s.setSrcFlow ({ f with descs := f.descs.filter fun d => !p d } : SrcFlow).answered
  (forEach (f.descs.filter p) (fun d s => s.acked d.owner) s1).goWords

/-- Any answer clears the suspicion of a package (R329). -/
def State.clearSuspect (s : State) (q : Nat) : State := s.modFabric fun b => { b with suspects := b.suspects.filter fun u => !decide (u.pkg = q) }

/-- A sequence number is acknowledged by a cumulative number and a bitmap (R325). -/
def ackCovers (cum : BitVec 32) (bits : BitVec 128) (seq : BitVec 32) : Bool :=
  let below := (cum - seq).toNat
  let above := (seq - cum).toNat
  decide (1 ≤ below ∧ below ≤ 2 ^ 31) || (decide (1 ≤ above ∧ above ≤ 64) && bits.getLsbD (above - 1))

/-- ACK_PACKET (R325); an ATOMIC's acknowledgement is its ARESULT, which its descriptor waits for (R323, R326) [log 64]. -/
def execAckPacket (n : Nat) (p : Packet) (s : State) : Out :=
  s.inbound "ACK_PACKET" 7 n p fun s =>
    (s.clearSuspect p.src).freeDescs p.eng p.src p.tc fun d => decide (d.packet.type ≠ 3) && ackCovers p.seq p.opnd d.seq

/-- The answer to a copy engine's ATOMIC: the waiting CPYW has its permit, or ends POISON; a command that no longer waits gives the permit back (R187, R281). -/
def State.permitAnswer (s : State) (p : Packet) : State :=
  let e := decide (p.eng % 2 = 1)
  let take (s : State) : Option State :=
    match (s.core.t.ce e).run with
    | none => none
    | some r =>
      if r.asked ≠ some (p.src, p.seq) then none
      else if p.bad.isEmpty then some (s.modCe e fun q => { q with run := some { r with permit := true, asked := none } })
      else s.copyFailed e { r with asked := none } (.ends .poison) (r.cmd.place 4 r.ordinal true (permAddr r.cmd.geo[15]))
  let s1 := s.switchTo (engCore p.eng)
  match (match take s1 with
    | some t => some t
    | none => s1.orSaved (·.ended) fun _ => take) with
  | some t => t.switchTo s.cur
  | none =>
    match (s.srcFlow p.eng p.src p.tc).descs.find? fun d => decide (d.seq = p.seq) with
    | none => s
    | some d =>
      if p.bad.isEmpty then
        s.send { type := 5, tc := p.tc, eng := p.eng, dst := p.src, asid := d.packet.asid, key := d.packet.key, pa := d.packet.pa, len := 0, op := 11, opnd := 1 }
          none none
      else s

/-- ARESULT_PACKET: the answer to an ATOMIC reaches the bundle or the copy engine that waits for it, and acknowledges it (R326). -/
def execAresultPacket (n : Nat) (p : Packet) (s : State) : Out :=
  s.inbound "ARESULT_PACKET" 4 n p fun s =>
    let c := engCore p.eng
    let k := s.getCore c
    let s1 := if p.eng < 1152 then s.permitAnswer p else s.setCore c { k with asks := fillAsk (fun a => decide (a.pkg = p.src ∧ a.seq = p.seq ∧ a.atomic = true)) (leBytes 16 p.opnd.toNat) (!p.bad.isEmpty) k.asks }
    (s1.clearSuspect p.src).freeDescs p.eng p.src p.tc fun d => decide (d.seq = p.seq)

/-! ### Permits (R187, R281) -/

/-- The parked request of another package that is due a permit: the first at a counter whose count is not 0, whose answer the result cache has room for (R281, R326). -/
def State.duePermit (s : State) : Option (PermitReq × DstFlow × AtomResult) :=
  s.sched.permits.findSome? fun r =>
    match r.who with
    | .command .. => none
    | .packet eng src tc seq die =>
      let n := leNat (s.mem.bytes r.key r.pa 4)
      if n ≠ 0 ∧ s.firstAsker r.pa = some r ∧ s.resultsHeld die < 131072 then some (r, s.dstFlow eng src tc, { seq, old := BitVec.ofNat 128 n, bad := false, die })
      else none

/-- The home grants it: the count falls by 1, and the answer goes out (R281, R326). -/
def State.grantPermit (s : State) : Option State :=
  let s0 := s.dropUnwanted
  s0.duePermit.map fun q =>
    let s1 := (s0.takePermit q.1.key q.1.pa).modSched fun d => { d with permits := d.permits.filter fun r => !decide (r = q.1) }
    (s1.setDstFlow { q.2.1 with results := q.2.1.results ++ [q.2.2] }).sendResult q.2.1 q.2.2.seq q.2.2.old false

/-- PERMIT_GRANT: the waiting CPYW's request reaches the counter's home, and is granted or parked; or the home grants a request of another package that it had parked (R187, R281). -/
def execPermitGrant (c : Nat) (e : Bool) (s : State) : Out :=
  s.atEngine c "PERMIT_GRANT" fun s => match s.askPermit e with
    | some t => some t
    | none => s.grantPermit

/-! ### Retransmission and routes (R327, R328) -/

/-- Send a descriptor's packet again, on its flow's route (R327). -/
def State.resend (s : State) (f : SrcFlow) (d : Descriptor) : State := s.retransmit f { d with tries := min 3 (d.tries + 1) }

/-- The next route after a flow's own whose first hop is up (R328). -/
def State.nextRoute (s : State) (f : SrcFlow) : Nat := s.liveRoute f.eng f.dst f.tc ((f.route + 1) % 48)

/-- A package becomes suspect (R329). -/
def State.suspect (s : State) (q : Nat) : State :=
  if s.fabric.suspects.any fun u => decide (u.pkg = q) then s
  else s.modFabric fun b => { b with suspects := b.suspects ++ [{ pkg := q, route := 0, probes := 0 }] }

/-- The flow and the descriptor at a place in the retry store. -/
def descAt (k : Nat) (fs : List SrcFlow) : Option (SrcFlow × Descriptor) := nth? (fs.flatMap fun f => f.descs.map fun d => (f, d)) k

/-- The failover mode takes effect for a flow, and so on the core whose engines send it (R344) [log 63]. -/
def State.takeFailover (s : State) (eng : Nat) : State :=
  if eng < 1728 then s.setCore (engCore eng) { s.getCore (engCore eng) with failover := s.power.modes.careful } else s

/-- RETX_TIMEOUT: the failover mode takes effect for the flow (R344) [log 63]; the descriptor at place k is sent again; its flow moves to another route as the failover mode decides, and after its last route the destination is suspect (R327 to R329, R335). -/
def execRetxTimeout (k : Nat) (s : State) : Out :=
  match descAt k s.fabric.sources with
  | none => notEnabled "RETX_TIMEOUT"
  | some (f, d) =>
    let s := s.takeFailover f.eng
    let d := { d with timeouts := d.timeouts + 1 }
    let moves := !s.power.modes.careful || decide (2 ≤ d.timeouts)
    let far := decide (f.dst / 4096 ≠ s.pkgId / 4096)
    let r := s.nextRoute f
    let s1 := if moves && (far || decide (r ≤ f.route)) then s.suspect f.dst else s
    .next (s1.resend (if moves && !far then { f with route := r } else f) d)

/-- The first hop of a route is down. -/
def State.hopDown (s : State) (f : SrcFlow) (order dirs : Nat) : Bool := (s.firstPort f.dst order dirs f.eng f.tc).isNone

/-- Flows whose first hop has gone down move on, and what they sent that way is sent again (R327, R328). -/
def State.reroute (s : State) : State :=
  forEach s.fabric.sources (fun f s =>
    let rt := s.routeOf f.dst f.route
    let f1 := if s.hopDown f rt.1 rt.2 then { f with route := s.nextRoute f } else f
    let lost := f1.descs.filter fun d => s.hopDown f d.packet.order d.packet.dirs
    forEach lost (fun d s => s.resend (s.srcFlow f1.eng f1.dst f1.tc) d) (s.setSrcFlow f1)) s

/-- The package at the other end of a port (R322). -/
def State.neighbour (s : State) (port : Nat) : Nat :=
  let dim := port / 48
  let e := s.extent dim
  let c := coordOf s.pkgId dim
  let c1 := if port / 24 % 2 = 0 then (c + 1) % e else (c + e - 1) % e
  s.pkgId - c * 16 ^ dim + c1 * 16 ^ dim

/-- PORT_DOWN: port n has failed (R328, R352). -/
def execPortDown (n : Nat) (s : State) : Out :=
  if 148 ≤ n ∨ s.fabric.down.contains n = true then notEnabled "PORT_DOWN"
  else
    let s1 := s.modFabric fun b => { b with down := b.down ++ [n] }
    .next (s1.glowEvent (4 + n % 2) 9 n n (if n < 144 then s.neighbour n else 0)).reroute

/-! ### Forwarding (R323) -/

/-- PACKET_FORWARD: a packet for another package goes on by its order and directions (R323, R328). -/
def execPacketForward (n : Nat) (p : Packet) (s : State) : Out :=
  if 148 ≤ n then notEnabled "PACKET_FORWARD"
  else if p.sound = false then .next (s.discard n)
  else if p.dst = s.pkgId then notEnabled "PACKET_FORWARD"
  else if 64 ≤ p.hops + 1 then .next s
  else
    match s.firstPort p.dst p.order p.dirs p.eng p.tc with
    | none => notEnabled "PACKET_FORWARD"
    | some q => .next (s.emit (some q) (p.setField 19 6 (p.hops + 1)))

/-- PACKET_AGE_DISCARD: a packet that has waited over 100 microseconds in port n's queue is discarded (R323). -/
def execPacketAgeDiscard (n : Nat) (p : Packet) (s : State) : Out :=
  if s.fabric.sent.contains (n, p) then .next (s.modFabric fun b => { b with sent := dropFirst (fun q => decide (q = (n, p))) b.sent })
  else notEnabled "PACKET_AGE_DISCARD"

/-! ### Beacons, probes, and lost packages (R208, R329, R330, R334) -/

/-- BEACON_SEND: a BEACON goes out on every port that has not failed (R329) [log 35]; after a thermal trip none does (R350). -/
def execBeaconSend (s : State) : Out :=
  .next (if s.power.tripped then s else forEach ((List.range 144).filter fun p => decide (s.extent (p / 48) > 1) && !(s.fabric.down.contains p)) (fun p s =>
    s.emit (some p) (mkPacket s.pkgId { type := 8, tc := 3, eng := 0, dst := s.neighbour p } 0 0 0 0 false)) s)

/-- BEACON_MISS: three beacons in a row are missed on port n, which counts as down until one arrives (R328, R329). -/
def execBeaconMiss (n : Nat) (s : State) : Out :=
  if 144 ≤ n ∨ s.portUp n = false then notEnabled "BEACON_MISS"
  else .next (s.modFabric fun b => { b with silent := b.silent ++ [n] }).reroute

/-- BEACON_PACKET (R329); with it the arrivals of the pod's other packages may have come (R208) [log 20]. -/
def execBeaconPacket (n : Nat) (p : Packet) (s : State) : Out :=
  s.inbound "BEACON_PACKET" 8 n p fun s =>
    (s.modFabric fun b => { b with silent := b.silent.filter fun q => !decide (q = n) }).settleBarriers

/-- Send a PROBE on the route of an index; its seq tells a probe, 0, from the answer to one, 1 (R329) [log 35]. -/
def State.sendProbe (s : State) (q route : Nat) (seq : BitVec 32) : State :=
  let rt := s.routeOf q route
  s.emit (s.firstPort q rt.1 rt.2 0 3) (mkPacket s.pkgId { type := 9, tc := 3, eng := 0, dst := q } seq 0 rt.1 rt.2 false)

/-- PROBE_SEND: every 10 microseconds, on each route index in turn (R329). -/
def execProbeSend (q : Nat) (s : State) : Out :=
  match s.fabric.suspects.find? fun u => decide (u.pkg = q) with
  | none => notEnabled "PROBE_SEND"
  | some u =>
    .next ((s.sendProbe q u.route 0).modFabric fun b =>
      { b with suspects := modFirst (fun v => decide (v.pkg = q)) (fun v => { v with route := (v.route + 1) % 48, probes := v.probes + 1 }) b.suspects })

/-- PROBE_PACKET: a probe is answered by the fabric die; an answer clears the suspicion of the package it comes from (R329) [log 35]. -/
def execProbePacket (n : Nat) (p : Packet) (s : State) : Out :=
  s.inbound "PROBE_PACKET" 9 n p fun s =>
    if p.seq = 0 then s.sendProbe p.src (s.liveRoute 0 p.src 3 0) 1 else s.clearSuspect p.src

/-- Whether some other survivor holds chunk c of bucket b with a lost member's bit set, which this package cannot see and the manual gives no way to ask: a free choice [log 33]. -/
def State.heldElsewhere (s : State) (b c : Nat) : Bool := Config.freeBool s.fresh (0x10000 + 4096 * b + c)

/-- A running collective closes around its lost members (R334); a chunk that another survivor holds with a lost member's bit waits for that copy. -/
def State.relinkOne (s : State) (n : Nat) (b c : Nat) : State :=
  match (s.collOf n).run with
  | none => s
  | some r =>
    match r.chunk b c with
    | none =>
      if r.op = 1 ∧ r.alive s.fabric.lost (c % r.nm) = false ∧ s.heldElsewhere b c = false then
        s.setCollRun n (r.putChunk { bucket := b, index := c, acc := [], members := 2 ^ r.nm - 1 - 2 ^ (c % r.nm), final := true, out := [], last := none })
      else s
    | some k =>
      let gone (m : Nat) : Bool := !(r.alive s.fabric.lost m)
      let moved := (k.last.map gone).getD false || k.out.any gone ||
        (!k.final && decide (r.op ≠ 1) && ((r.onward s.fabric.lost c k.members).1 ||
          (k.last.isNone && k.out.isEmpty && !(r.onward s.fabric.lost c k.members).2.isEmpty))) || (k.final && r.torus && r.orphan s.fabric.lost c k.members)
      let waits := !k.final && (r.onward s.fabric.lost c k.members).1 && !(maskWithin (2 ^ r.nm - 1) k.members) && s.heldElsewhere b c
      if !moved || (k.final && k.acc.isEmpty) || waits then s else (s.collTried n r (s.settleChunk n r b c k.acc k.members 0)).getD s

def State.relink (s : State) (n : Nat) : State :=
  match (s.collOf n).run with
  | none => s
  | some r =>
    if !r.begun || r.ended.isSome then s
    else
      let all := (List.range r.nb).flatMap fun b => (List.range r.perBucket).map fun c => (b, c)
      (forEach all (fun q s => s.relinkOne n q.1 q.2) s).collTick n

/-- The commands whose packets to a lost package will never be acknowledged end PEER_LOST (R193, R330). -/
def TaskState.loseCommand (eng seq : Nat) (t : TaskState) : TaskState :=
  if eng < 2 then
    t.setMe (decide (eng = 1)) (let m := t.me (decide (eng = 1))
                                { m with run := m.run.map fun r => if r.cmd.seq = seq then { r with missing := none, step := none, ended := some .peerLost } else r })
  else
    let m := t.ce (decide (eng = 3))
    let m1 := { m with flight := m.flight.map fun (f : CopyFlight) => if f.run.cmd.seq = seq then { f with status := .peerLost } else f }
    t.setCe (decide (eng = 3)) (match m1.run with
      | some r => if r.cmd.seq = seq then { m1 with run := none, flight := m1.flight ++ [{ run := { r with missing := none }, status := .peerLost }] } else m1
      | none => m1)

/-- The record of stored bytes that a lost package will not take (R330). -/
def State.lostWrite (s : State) (p : Packet) : State :=
  s.addRec { s.blankRec p.asid with kind := 4, core := engCore p.eng, wr := true, status := Status.peerLost.code, task := 0, image := 0 }

/-- A packet to a lost package is given up (R330): a reduction is dropped, a command ends, a write-back leaves a kind-4 record. -/
def State.losePacket (s : State) (d : Descriptor) : State :=
  let p := d.packet
  match d.owner with
  | some (.red r) => s.dropRed r .peerLost
  | some (.engine id eng seq) => s.modTask id (TaskState.loseCommand eng seq)
  | some (.word id a _ c bundle img) =>
    (s.closeFor id c true).verdictRec id { va := a, slot := c.slot, opnd := 4, elem := 0xFFFF, wr := true, full := false } bundle img .peerLost
  | some (.push asid q seq) => (s.lostWrite p).pushAcked asid q seq
  | some _ => s
  | none =>
    if p.type = 0 then s.lostWrite p
    else if p.type = 5 then
      s.dropRed { task := { asid := p.asid, record := 0, member := 0 }, op := 0, size := 8, va := 0, operand := 0, core := engCore p.eng, bundle := 0, image := 0 } .peerLost
    else s

/-- A copy engine whose command asks a lost package for a permit: the command ends PEER_LOST; its READs there will never be answered (R193, R330). -/
def CopyEngine.losePeer (m : CopyEngine) (q : Nat) : CopyEngine :=
  match m.run with
  | none => m
  | some r =>
    if (r.asked.map fun a => decide (a.1 = q)).getD false then
      { m with run := none, flight := m.flight ++ [{ run := { r with asked := none, missing := none }, status := .peerLost }] }
    else { m with run := some { r with fetched := r.fetched.filter fun f => !decide (f.pkg = q) || f.data.isSome } }

/-- Requests of a task's engines to a package that will never be answered. -/
def TaskState.losePeer (q : Nat) (t : TaskState) : TaskState :=
  let me (m : MatEngine) : MatEngine := { m with run := m.run.map fun r => { r with fetched := r.fetched.filter fun f => !decide (f.pkg = q) || f.data.isSome } }
  { t with me0 := me t.me0, me1 := me t.me1, ce0 := t.ce0.losePeer q, ce1 := t.ce1.losePeer q }

/-- Requests of a core to it. -/
def Core.loseAsks (c : Core) (q : Nat) : Core :=
  { c with asks := c.asks.filter fun a => !decide (a.pkg = q) || a.val.isSome, t := c.t.losePeer q }

/-- What is kept here for it: the permit requests that it sent, lines asked of it for a packet to be sent again, the requests of tasks that have left their cores (R330). -/
def State.forgetPeer (s : State) (q : Nat) : State :=
  (s.modSched fun d => { d with
    permits := d.permits.filter fun r => match r.who with
      | .packet _ src _ _ _ => decide (src ≠ q)
      | .command .. => true
    saved := d.saved.map fun v => if v.ended then { v with t := v.t.losePeer q } else v }).modFabric fun b => { b with
      sources := b.sources.map fun f => { f with descs := f.descs.map fun d =>
        { d with refetch := d.refetch.filter fun g => !decide (g.pkg = q) || g.data.isSome } } }

/-- The tags of the open generations of pod-level barriers complete PEER_LOST (R208). -/
def State.loseBarriers (s : State) : State :=
  let open' := ((s.sched.barriers.filter fun b => decide (b.level = 3)).map (·.waiting)).flatten
  (forEach open' (fun a s => s.completeTag a.task a.tag true) s).modSched fun d =>
    { d with barriers := d.barriers.map fun b => if b.level = 3 then { b with waiting := [] } else b }

/-- A declaration takes effect (R208, R330, R334). -/
def State.declareLost (s : State) (q : Nat) : State :=
  let s1 := (s.clearSuspect q).modFabric fun b => { b with lost := addOnce b.lost q }
  let ds := ((s1.fabric.sources.filter fun f => decide (f.dst = q)).map (·.descs)).flatten
  let s2 := s1.modFabric fun b => { b with sources := b.sources.map fun f => if f.dst = q then { f with descs := [] } else f }
  let s3 := forEach ds (fun d s => s.losePacket d) s2
  let s4 := forEach s3.liveCores (fun n s => (s.setCore n ((s.getCore n).loseAsks q)).onCore n fun s => s.loseLines q) s3
  let s5 := forEach (List.range 32) (fun n s => s.setColl n { s.collOf n with
    run := (s.collOf n).run.map fun r => { r with fetched := r.fetched.filter fun f => !decide (f.pkg = q) || f.data.isSome } }) s4
  let s6 := s5.forgetPeer q
  forEach (List.range 32) (fun n s => s.relink n) (if q / 4096 = s.pkgId / 4096 then s6.goWords.loseBarriers else s6.goWords)

/-- The other packages of this package's pod (R322). -/
def State.podMates (s : State) : List Nat :=
  ((List.range (s.extent 2)).flatMap fun z => (List.range (s.extent 1)).flatMap fun y => (List.range (s.extent 0)).map fun x =>
    x + 16 * y + 256 * z + 4096 * (s.pkgId / 4096)).filter (· ≠ s.pkgId)

/-- The declaration that q is lost goes to every package of the pod (R329) [log 35]. -/
def State.tellLost (s : State) (q : Nat) : State :=
  s.modFabric fun b => { b with told := b.told ++ (s.podMates.filter (· ≠ q)).map fun m => (m, q) }

/-- PEER_LOST_DECLARE: 100 microseconds without an answer, 1,000 for another pod: the package is declared lost (R329, R335, R352). -/
def execPeerLostDeclare (q : Nat) (s : State) : Out :=
  match s.fabric.suspects.find? fun u => decide (u.pkg = q) with
  | none => notEnabled "PEER_LOST_DECLARE"
  | some u =>
    if u.probes < (if q / 4096 = s.pkgId / 4096 then 10 else 100) then notEnabled "PEER_LOST_DECLARE"
    else .next (((s.glowEvent 4 4 0 q 0).tellLost q).declareLost q)

/-- LOST_DECLARATION: another package's declaration that q is lost arrives (R329, R330). -/
def execLostDeclaration (q : Nat) (s : State) : Out :=
  if q = s.pkgId then notEnabled "LOST_DECLARATION" else .next (s.declareLost q)

end Sys2Proof.Machine
end

