-- ==== Sys2Proof/Machine/Monitor.lean ====
section
/-! DEFINITION. The power controller's interval and the freeze signals of Afterglow (R268, R344, R349, R350, R354). -/

namespace Sys2Proof.Machine

/-- The limit Pl of a power mode, in units of 0.5 W (R344). -/
def PowerMode.limit (m : PowerMode) : Nat :=
  match m with
  | .peak => 4800 | .rated => 4000 | .efficient => 2800

/-- G after an interval (R349). -/
def nextG (g p l : Nat) : Nat := if l < p then g - 2 else if 20 * p < 19 * l then min 15 (g + 1) else g

/-- Dt of a cluster at Tj in units of 0.25 degrees (R349). -/
def dimTemp (tj : Nat) : Nat := min 15 ((400 - tj) / 4)

/-- A cluster after an interval (R349, R350): `peak` sets its rail to step 0 (R347). -/
def Cluster.interval (c : Cluster) (tj g : Nat) (hot peak : Bool) : Cluster :=
  { c with tj := BitVec.ofNat 12 tj, d := BitVec.ofNat 4 (min (min (dimTemp tj) g) c.cap.toNat), thr := decide (400 ≤ tj) || hot,
           step := if peak then 0 else c.step }

/-- A thermal trip: its record freezes Afterglow, and the core clocks stop (R350). -/
def State.trip (s : State) (k tj : Nat) : State := (s.glowEvent (k / 12) 3 k tj 0).modPower fun p => { p with tripped := true }

/-- DIMMER_UPDATE: module power p, and Tj of each cluster (R268, R344, R349, R350). -/
def execDimmerUpdate (p : Nat) (t : List Nat) (s : State) : Out :=
  if t.length ≠ 48 ∨ 2 ^ 16 ≤ p ∨ (t.any fun x => decide (4096 ≤ x)) = true then notEnabled "DIMMER_UPDATE"
  else
    let m := s.power.modes.power
    let l := m.limit
    let g := nextG s.power.g p l
    let high := decide (21 * l < 20 * p)
    let hot := (high && s.power.high) || (s.power.hot && decide (l < p))
    let s1 := s.modPower fun q => { q with power := m, g, pm := BitVec.ofNat 16 p, high, hot }
    let s2 := forEach (List.range 48) (fun k s => s.modCluster k fun c => c.interval (t.getD k 0) g hot (decide (m = .peak))) s1
    let s3 := if g = s.power.g then s2 else s2.glowEvent 4 13 0 g p
    let s4 := match (List.range 48).find? fun k => decide (440 ≤ t.getD k 0) with
      | some k => if s.power.tripped then s3 else s3.trip k (t.getD k 0)
      | none => s3
    .next (if s4.power.tripped then s4 else forEach (s4.sched.recs.filter fun r => r.ready && s4.contextRuns r.task.asid && s4.isGang r && !(s4.reservedFor r).isEmpty) (fun r s => s.tryGang r) s4)

/-- A freeze signal reaches die d (R354). -/
def State.freezeAt (s : State) (d o q : Nat) : State :=
  let g := s.glowOf d
  match g.state with
  | .recording =>
    let r : AgRecord := { time := s.mgmt.tsc, seq := g.seq, type := 11, die := BitVec.ofNat 3 d, trig := false, loc := 0, a := BitVec.ofNat 64 o,
                          b := BitVec.ofNat 64 q }
    s.setGlow d { g.put r with state := postLeft g.post.toNat }
  | _ => s

/-- FREEZE_SIGNAL (R354). -/
def execFreezeSignal (d o q : Nat) (s : State) : Out := if 6 ≤ d ∨ 6 ≤ o then notEnabled "FREEZE_SIGNAL" else .next (s.freezeAt d o q)

end Sys2Proof.Machine
end

