-- ==== Sys2Proof/Machine/Host.lean ====
section
/-! DEFINITION. The host's windows, launches, contexts, halt and resume, invalidations, keys, attestation, start-up and resets (R258, R298, R300, R314, R315, R330, R351, R353, R354, R356 to R363, R365). -/

namespace Sys2Proof.Machine

/-! ### Host accesses (R356, R357) -/

/-- The boot area is open (R360). -/
def State.bootOpen (s : State) (a n : Nat) : Bool := decide (s.mgmt.bootst.extractLsb' 0 4 = 3#4) && decide (a + n ≤ 0x40_0000)

/-- A host read is answered. -/
def State.answer (s : State) (bs : List Byte) : State := s.modMgmt fun m => { m with answer := bs }

/-- A host access that is discarded is counted, and a read among them answers zeros (R356). -/
def State.hostDiscard (s : State) (wr : Bool) (n : Nat) : State := if wr then s.mgmtError else s.mgmtError.answer (List.replicate n 0)

/-- A host access at a home, under key slot 0; before the package is ready only the boot area can be written (R356, R360) [log 36]. -/
def State.hostAccess (s : State) (wr : Bool) (a n v : Nat) : State :=
  if s.mgmtOpen || (wr && s.bootOpen a n) then
    let s1 := s.activate a
    if wr then { s1 with mem := s1.mem.store 0 a (leBytes n v) } else s1.answer (s.mem.bytes 0 a n)
  else if wr then s else s.answer (List.replicate n 0)

/-- HOST_MEMORY_ACCESS: DRAM or ring memory, 1 to 64 aligned bytes (R356). -/
def execHostMemoryAccess (x : Bool) (a n v : Nat) (s : State) : Out :=
  .next (if [1, 2, 4, 8, 16, 32, 64].contains n && decide (a % n = 0) && decide (a < spBase) && s.physOk a then s.hostAccess x a n v else s.hostDiscard x n)

/-- HOST_SCRATCHPAD_ACCESS: aligned 8 or 16 bytes (R356). -/
def execHostScratchpadAccess (x : Bool) (a n v : Nat) (s : State) : Out :=
  .next (if [8, 16].contains n && decide (a % n = 0) && decide (spBase ≤ a) && s.physOk a then s.hostAccess x a n v else s.hostDiscard x n)

/-! ### Launches (R258, R359) -/

/-- A record that a launch may take: once the package is ready (R360), in ring memory or DRAM of this package, readable and writable, and as a spawn requires it (R218, R258). -/
def State.launchable (s : State) (asid : Nat) (va : VAddr) (kind : Nat) (fut : Bool) : Bool :=
  decide (s.mgmt.bootst.extractLsb' 0 4 = 0xF#4) &&
  match s.xlate none asid va needRW with
  | .ok l =>
    l.pkg.isNone && decide (l.pa < spBase) && !(s.mem.poisoned l.pa 128) && !(scratchpadVa va) && decide (va.toNat % 128 = 0) &&
    spawnable kind fut (leNat (s.mem.bytes l.key l.pa 96))
  | _ => false

/-- A launch word at die d: the task enters the scheduler, or the word is latched; a future's first reference is the host's (R258, R359). -/
def State.doLaunch (s : State) (d : Nat) (w : Word) : State :=
  let n := w.toNat
  let asid := (s.portOf d).ctx.toNat
  let va : VAddr := BitVec.ofNat 55 (bitsOf n 54 7 * 128)
  let k := bitsOf n 1 0
  let kind := if k = 3 then 0 else k
  if bitsOf n 6 2 ≠ 0 ∨ bitsOf n 63 55 ≠ 0 ∨ s.descOf asid = none ∨ s.launchable asid va kind (decide (k = 3)) = false then
    s.modPort d fun p => { p with errors := p.errors + 1, latched := w }
  else
    let s1 := (s.enroll asid va kind (decide (k = 3)) 0 d (some d)).modPort d fun p => { p with accepted := p.accepted + 1 }
    if k = 3 then s1.modSched fun q => { q with hostRefs := q.hostRefs ++ [(asid, va)] } else s1

/-- LAUNCH (R258). -/
def execLaunch (d : Nat) (w : Word) (s : State) : Out := if 4 ≤ d then notEnabled "LAUNCH" else s.whenReady fun s => s.doLaunch d w

/-- The host drops its reference to a future that it launched (R258, R359): as FDROP, and where FDROP would fault, or the host holds no reference, nothing changes [log 37]. -/
def State.doDrop (s : State) (d : Nat) (w : Word) : State :=
  let asid := (s.portOf d).ctx.toNat
  let va : VAddr := BitVec.ofNat 55 w.toNat
  match s.xlate none asid va needRW with
  | .ok l =>
    if l.pkg.isSome ∨ w.toNat % 128 ≠ 0 ∨ 2 ^ 55 ≤ w.toNat ∨ bitsOf (s.recGet asid va 0 8) 10 10 = 0 ∨ s.recGet asid va 28 4 = 0 ∨
      s.sched.hostRefs.contains (asid, va) = false then s
    else (s.modSched fun q => { q with hostRefs := q.hostRefs.erase (asid, va) }).dropRefs asid (s.refFuel [va]) [va]
  | _ => s

/-- LAUNCH_DROP (R359). -/
def execLaunchDrop (d : Nat) (w : Word) (s : State) : Out := if 4 ≤ d then notEnabled "LAUNCH_DROP" else s.whenReady fun s => s.doDrop d w

/-! ### Contexts (R257, R358) -/

/-- A context descriptor is registered (R257); registering it again replaces it, and a halt lasts until RESUME (R315) [log 54]. -/
def State.doRegister (s : State) (w : Word) : State :=
  let a := w.toNat
  if a % 128 ≠ 0 ∨ 2 ^ 52 ≤ a ∨ s.physOk a = false then s.mgmtError
  else
    let asid := s.phys a 8 % 2 ^ 13
    s.modSched fun d => { d with contexts := d.contexts.filter (fun c => !decide (c.asid = asid)) ++ [{ asid, desc := a, halted := s.haltedContext asid, moved := s.sched.contexts.any fun c => decide (c.asid = asid) && c.moved }] }

/-- CONTEXT_REGISTER (R358). -/
def execContextRegister (w : Word) (s : State) : Out := s.whenReady fun s => s.doRegister w

/-- Some taken record of the context is WAITING, READY, RUNNING or SAVED (R358). -/
def State.holdsRecords (s : State) (asid : Nat) : Bool :=
  s.sched.recs.any fun r => decide (r.task.asid = asid) &&
    let st := s.recGet asid r.task.record 0 1
    decide (stWaiting ≤ st ∧ st ≤ stSaved)

/-- A context is removed, with what the hardware held of it (R358). -/
def State.doDelete (s : State) (w : Word) : State :=
  let asid := w.toNat
  if s.descOf asid = none ∨ s.holdsRecords asid = true then s.mgmtError
  else
    s.modSched fun d =>
      { d with contexts := d.contexts.filter fun c => !decide (c.asid = asid), recs := d.recs.filter fun r => !decide (r.task.asid = asid),
               saved := d.saved.filter fun v => !decide (v.task.asid = asid), bindings := d.bindings.filter fun b => !decide (b.asid = asid),
               queues := d.queues.filter fun q => !decide (q.asid = asid), spill := d.spill.filter fun p => !decide (p.asid = asid),
               barriers := d.barriers.filter fun b => !decide (b.asid = asid), hostRefs := d.hostRefs.filter fun q => !decide (q.1 = asid) }

/-- CONTEXT_DELETE (R358). -/
def execContextDelete (w : Word) (s : State) : Out := s.whenReady fun s => s.doDelete w

/-! ### Halt and resume (R314, R315) -/

/-- A halt begins: no more dispatch, prefetch slots emptied, running tasks saved without grace (R314). -/
def State.doHalt (s : State) (w : Word) : State :=
  let asid := w.toNat
  if s.descOf asid = none then s.mgmtError
  else
    let s1 := s.modSched fun d => { d with contexts := d.contexts.map fun c => if c.asid = asid then { c with halted := true } else c }
    let s2 := forEach s1.liveCores (fun n s =>
      let c := s.getCore n
      s.setCore n { c with
        prefetch := if c.prefetch.map (·.asid) = some asid then none else c.prefetch
        reserved := if c.reserved.map (·.asid) = some asid then none else c.reserved
        t := if c.mode = .running ∧ c.t.id.asid = asid then { c.t with sys := { c.t.sys with preq := c.t.sys.preq ||| 2 } } else c.t }) s1
    s2.modMgmt fun m => { m with halting := m.halting.filter (· ≠ asid) ++ [asid], haltst := 0 }

/-- HALT (R314). -/
def execHalt (w : Word) (s : State) : Out := s.whenReady fun s => s.doHalt w

/-- Nothing of the context is left to wait for (R314). -/
def State.drained (s : State) (asid : Nat) : Bool :=
  (s.liveCores.all fun n => let c := s.getCore n
                            (decide (c.mode = .idle) || decide (c.t.id.asid ≠ asid)) && (c.reds.all fun r => decide (r.task.asid ≠ asid))) &&
  (s.sched.saved.all fun v => decide (v.task.asid ≠ asid) || !(s.settling v)) &&
  (s.colls.toList.all fun q => (q.queue ++ (q.run.map (·.cmd)).toList).all fun c => decide (c.task.asid ≠ asid)) &&
  s.xlat.parked.all fun r => decide (r.task.asid ≠ asid)

/-- The records of a halt list: READY, RUNNING or SAVED, die after die (R314). -/
def State.haltRecords (s : State) (asid : Nat) : List VAddr :=
  ((List.range 4).flatMap fun d => s.sched.recs.filter fun r => decide (r.die = d ∧ r.task.asid = asid) &&
    let st := s.recGet asid r.task.record 0 1
    decide (stReady ≤ st ∧ st ≤ stSaved)).map fun r => r.task.record

/-- The hardware state of the context's queues is written back into their blocks (R209, R314): the manual does not give its layout [log 3, log 15]. -/
def State.writeQueues (s : State) (asid : Nat) : State :=
  forEach (s.sched.queues.filter fun q => decide (q.asid = asid)) (fun q s =>
    match s.agentWrite none asid (q.block + 16) (s.openBytes 48) needW with
    | .ok s1 => s1
    | .error _ => s) s

/-- Write addresses one after another at a physical address (R314). -/
def State.putList (s : State) (pa : Nat) (l : List VAddr) : State :=
  match l with
  | [] => s
  | a :: r => State.putList { s with mem := s.mem.store 0 pa (leBytes 8 a.toNat) } (pa + 8) r

/-- HALT_DRAIN_DONE: the halt list is written and the halt is done (R314). -/
def execHaltDrainDone (s : State) : Out :=
  match s.mgmt.halting.find? s.drained with
  | none => notEnabled "HALT_DRAIN_DONE"
  | some asid =>
    let rs := s.haltRecords asid
    let room := s.mgmt.hlen.toNat
    let a := s.mgmt.hlist.toNat
    let s1 := s.writeQueues asid
    let s2 := { s1 with mem := s1.mem.store 0 a (leBytes 8 rs.length) }.putList (a + 8) (rs.take room)
    .next (s2.modMgmt fun m =>
      { m with halting := m.halting.filter (· ≠ asid), haltst := if room < rs.length then BitVec.ofNat 64 (1 + 2 ^ 36) else 1 })

/-- The halt status register: pend, parked and running collectives of the contexts being halted (R314, R358). -/
def State.haltWord (s : State) : Nat :=
  let hs := s.mgmt.halting
  let pend := (s.xlat.pending.filter fun p => hs.contains p.asid).length
  let parked := (s.xlat.parked.filter fun r => hs.contains r.task.asid).length
  let colls := (s.colls.toList.filter fun q => (q.run.map fun r => hs.contains r.cmd.task.asid).getD false).length
  s.mgmt.haltst.toNat + pend * 2 + parked * 2 ^ 16 + colls * 2 ^ 30

/-- The addresses of a halt list (R314). -/
def State.haltList (s : State) (n : Nat) (a : Nat) : List VAddr :=
  match n with
  | 0 => []
  | k + 1 => BitVec.ofNat 55 (s.phys a 8) :: s.haltList k (a + 8)

/-- Everything that the scheduler holds of a context takes another ASID (R315). -/
def State.rename (s : State) (old new : Nat) : State :=
  let id (t : TaskId) : TaskId := if t.asid = old then { t with asid := new } else t
  s.modSched fun d =>
    { d with
      recs := d.recs.map fun r => { r with task := id r.task }
      saved := d.saved.map fun v => { v with task := id v.task, t := { v.t with id := id v.t.id } }
      bindings := d.bindings.map fun b => if b.asid = old then { b with asid := new } else b
      queues := d.queues.map fun q => if q.asid = old then { q with asid := new } else q
      spill := d.spill.map fun p => if p.asid = old then { p with asid := new } else p
      barriers := d.barriers.map fun b => if b.asid = old then { b with asid := new, waiting := b.waiting.map fun a => { a with task := id a.task } } else b
      hostRefs := d.hostRefs.map fun q => if q.1 = old then (new, q.2) else q }

/-- The engines of a resumed task look up their missing pages afresh (R315). -/
def TaskState.retryMisses (t : TaskState) : TaskState :=
  let me (m : MatEngine) : MatEngine := { m with run := m.run.map fun r => { r with missing := none } }
  let ce (m : CopyEngine) : CopyEngine :=
    { m with run := m.run.map fun r => { r with missing := none }, flight := m.flight.map fun f => { f with run := { f.run with missing := none } } }
  { t with me0 := me t.me0, me1 := me t.me1, ce0 := ce t.ce0, ce1 := ce t.ce1 }

/-- The state that the coded sections of a save area hold for a gang member, as another package has written them: an unspecified function of their bytes [log 3, log 16]. -/
opaque sectionsOf : List Byte → Nat → TaskState
/-- The boxes of such a save area, by number, with as many entries as they hold [log 3, log 16]. -/
opaque entriesOf : List Byte → Nat → List (Nat × List (BitVec 128))

/-- The sections of a save area whose coding the manual does not give (R310). -/
def State.codedSections (s : State) (id : TaskId) : List Byte :=
  s.saveSection id 0x440 256 ++ s.saveSection id 0x640 256 ++ s.saveSection id 0x840 256 ++ s.saveSection id 0x8800 2048 ++ s.saveSection id 0x9000 6528

/-- A member's save that another package has made, as a dispatch here restores it (R310, R315) [log 16]. -/
def State.foreign (s : State) (id : TaskId) : Saved :=
  let e := s.extentOf id
  let bs := s.codedSections id
  let t := sectionsOf bs id.member
  let ce (q : CopyEngine) : CopyEngine := { q with flight := [] }
  { task := id, mail := entriesOf bs id.member, reason := .preempt, fault := none, deliver := none, waits := none, pad := [], core := s.cur,
    time := leNat (s.saveSection id 24 8)
    t := { t with id, spbase := BitVec.ofNat 20 e.1, splen := BitVec.ofNat 21 e.2, ce0 := ce t.ce0, ce1 := ce t.ce1
                  me0 := { t.me0 with lit := .reset, shadow := .reset }, me1 := { t.me1 with lit := .reset, shadow := .reset }
                  sb := Scoreboard.reset } }

/-- The save area holds what this package saved: its header has that time and core (R310). -/
def State.madeHere (s : State) (v : Saved) : Bool :=
  !(s.ownArea v.task) || (decide (leNat (s.saveSection v.task 24 8) = v.time) && decide (leNat (s.saveSection v.task 32 8) = coreCode v.core))

/-- A SAVED record has its save to resume from: this package's own, or what another one wrote (R315). -/
def State.adoptSave (s : State) (asid : Nat) (rec' : VAddr) : State :=
  let mine := s.sched.saved.filter fun v => decide (v.task.asid = asid ∧ v.task.record = rec')
  if !mine.isEmpty && mine.all s.madeHere then s
  else
    let id : TaskId := { asid, record := rec', member := 0 }
    let ms := if s.ownArea id then [0] else List.range (s.recGsize id)
    s.modSched fun q => { q with
      saved := (q.saved.filter fun v => !decide (v.task.asid = asid ∧ v.task.record = rec')) ++ ms.map fun m => s.foreign { id with member := m } }

/-- A record that was not SAVED starts at its entry: a save it may still have is dropped (R315). -/
def State.dropSave (s : State) (asid : Nat) (rec' : VAddr) : State :=
  let q := s.dropSavedOf asid rec'
  q.1.dropRefs asid (s.refFuel q.2) q.2

/-- A record that another package ran: its context's queues continue from their blocks, and a future's reference may be the host's (R209, R315) [log 15, log 37]. -/
def State.adoptRecord (s : State) (asid : Nat) (rec' : VAddr) : State :=
  if (s.schedRec asid rec').isSome then s
  else
    s.modSched fun q => { q with
      contexts := q.contexts.map fun c => if c.asid = asid then { c with moved := true } else c
      hostRefs := if bitsOf (s.recGet asid rec' 0 8) 10 10 = 1 ∧ s.recGet asid rec' 28 4 ≠ 0 then q.hostRefs ++ [(asid, rec')] else q.hostRefs }

/-- A record of a halt list is READY again, under its new ASID (R315). -/
def State.resumeRecord (s : State) (d asid : Nat) (rec' : VAddr) : State :=
  let s := s.adoptRecord asid rec'
  let s0 := if s.recGet asid rec' 0 1 = stSaved then s.adoptSave asid rec' else s.dropSave asid rec'
  let s1 := s0.recSet asid rec' 96 2 asid
  let s2 := s1.modSched fun q =>
    { q with
      saved := q.saved.map fun v => if v.task.asid = asid ∧ v.task.record = rec' then { v with waits := none, t := v.t.retryMisses } else v
      recs := if q.recs.any fun r => r.is asid rec' then modFirst (fun r => r.is asid rec') (fun r => { r with die := d }) q.recs
        else q.recs ++ [{ task := { asid, record := rec', member := 0 }, die := d, rt := 0, ready := false, pin := none, port := none, reds := 0,
                          finish := none, live := [], refs := [], lackAt := none }] }
  s2.makeReady asid rec'

/-- The context under which the scheduler knows a record of a halted context. -/
def State.knownAs (s : State) (rs : List VAddr) : Option Nat :=
  (s.sched.recs.find? fun r => rs.contains r.task.record && !(s.contextRuns r.task.asid)).map fun r => r.task.asid

/-- The pending pages of a context are dropped, and its fault queue counts them no more (R305, R315). -/
def State.dropPending (s : State) (asid : Nat) : State :=
  let k := (s.xlat.pending.filter fun p => decide (p.asid = asid)).length
  if k = 0 then s
  else (s.modXlat fun x => { x with pending := x.pending.filter fun p => !decide (p.asid = asid) }).countField asid 48 (· - k)

/-- RESUME: the records of a halt list take the ASID of the die's port and are READY (R315). -/
def State.doResume (s : State) (d : Nat) (w : Word) : Out :=
  let a := w.toNat
  let asid := (s.portOf d).ctx.toNat
  if s.descOf asid = none then .next s.mgmtError
  else
    let rs := s.haltList (s.phys a 8) (a + 8)
    let old := (s.knownAs rs).getD asid
    let s1 := ((s.dropPending old).dropPending asid).rename old asid
    let s2 := s1.modSched fun q => { q with contexts := q.contexts.map fun c => if c.asid = asid then { c with halted := false } else c }
    .next (forEach rs (fun r s => s.resumeRecord d asid r) s2)

/-- RESUME (R315). -/
def execResume (d : Nat) (w : Word) (s : State) : Out :=
  if 4 ≤ d then notEnabled "RESUME" else if s.mgmtOpen then s.doResume d w else .next s.mgmtError

/-! ### Invalidations (R298, R358) -/

/-- An invalidation begins, unless one is running. -/
def State.doInvalidate (s : State) (w : Word) : State :=
  let n := w.toNat
  if s.xlat.inval.isSome then s.mgmtError
  else
    let q : Inval := { asid := bitsOf n 12 0, page := if bitsOf n 13 13 = 1 then none else some (bitsOf n 52 14), older := s.xlat.walks.length }
    s.modXlat fun x => { x with inval := some q }

/-- TLBINV_PAGE (R358). -/
def execTlbinvPage (w : Word) (s : State) : Out := if w.getLsbD 13 then notEnabled "TLBINV_PAGE" else s.whenReady fun s => s.doInvalidate w

/-- TLBINV_ASID (R358). -/
def execTlbinvAsid (w : Word) (s : State) : Out := if w.getLsbD 13 then s.whenReady fun s => s.doInvalidate w else notEnabled "TLBINV_ASID"

/-- A page of a context is one that the invalidation names. -/
def invalidates (q : Inval) (asid page : Nat) : Bool :=
  decide (q.asid = asid) && (match q.page with
    | none => true
    | some p => decide (p = page))

/-- TLBINV_DONE: no TLB holds a matching entry, and every walk that had started before has ended (R358). -/
def execTlbinvDone (s : State) : Out :=
  match s.xlat.inval with
  | none => notEnabled "TLBINV_DONE"
  | some q =>
    if q.older ≠ 0 then notEnabled "TLBINV_DONE"
    else .next (s.modXlat fun x => { x with tlb := x.tlb.filter fun e => !(invalidates q e.asid e.page), inval := none })

/-! ### Packages, telemetry and Afterglow (R330, R351, R353) -/

/-- A package is admitted again: every flow to and from it starts at sequence number 0 (R330). -/
def State.doAdmit (s : State) (w : Word) : State :=
  let q := w.toNat % 2 ^ 16
  s.modFabric fun b =>
    { b with lost := b.lost.filter (· ≠ q), suspects := b.suspects.filter fun u => !decide (u.pkg = q),
             sources := b.sources.filter fun f => !decide (f.dst = q), dests := b.dests.filter fun f => !decide (f.src = q) }

/-- PACKAGE_ADMIT (R330). -/
def execPackageAdmit (w : Word) (s : State) : Out := s.whenReady fun s => s.doAdmit w

/-- The control register of a die's Afterglow is written: post, and run while frozen (R353). -/
def Afterglow.control (g : Afterglow) (w : Word) : Afterglow :=
  { g with post := w.extractLsb' 3 12,
           state := match g.state with
             | .frozen => if w.getLsbD 2 then .recording else .frozen
             | st => st }

/-- AFTERGLOW_RUN (R353). -/
def execAfterglowRun (d : Nat) (w : Word) (s : State) : Out :=
  if 6 ≤ d then notEnabled "AFTERGLOW_RUN" else s.whenReady fun s => s.setGlow d ((s.glowOf d).control w)

/-! ### Keys and attestation (R361 to R363) [log 12, log 21] -/

/-- The identity of an unwrapped key; no two numbers of fresh keys equal one. -/
def unwrappedId (k : Nat) : Nat := 2 * k + 2

/-- A wrapped key is unwrapped into a slot (R362). -/
def State.doKey (s : State) (w : Word) : State :=
  let slot := bitsOf w.toNat 6 0
  match Config.unwrapKey (s.mem.bytes 0 (bitsOf w.toNat 58 7 * 64) 72) with
  | none => s.mgmtError
  | some k => { s with mem := { s.mem with slotKey := mapPut s.mem.slotKey slot (unwrappedId k) } }.modMgmt fun m =>
      { m with loadedKeys := addOnce m.loadedKeys slot }

/-- KEY_LOAD (R362). -/
def execKeyLoad (w : Word) (s : State) : Out := s.whenReady fun s => s.doKey w

/-- A report is asked for: bootst[21] is set and bootst[20] cleared (R363). -/
def State.doAttest (s : State) (w : Word) : State :=
  if s.mgmt.bootst.getLsbD 21 then s.mgmtError
  else s.modMgmt fun m =>
    { m with attestBuf := some (w.toNat % 2 ^ 52), bootst := (m.bootst &&& ~~~(BitVec.ofNat 64 (2 ^ 20))) ||| BitVec.ofNat 64 (2 ^ 21) }

/-- ATTEST (R363). -/
def execAttest (w : Word) (s : State) : Out := s.whenReady fun s => s.doAttest w

/-- The fields of a report: the nonce, the firmware digest, and in 8 bytes each the mode register, the package identifier and the number of loaded key slots (R363) [log 21]. -/
def State.reportFields (s : State) (nonce : List Byte) : List Byte :=
  nonce ++ leBytes 64 s.mgmt.digest.toNat ++ leBytes 8 s.power.modes.word ++ leBytes 8 s.pkgId ++ leBytes 8 s.mgmt.loadedKeys.length

/-- A report: its fields, the signature of 4,627 bytes over their digest, and the identity certificate (R363). -/
def State.report (s : State) (nonce : List Byte) : List Byte :=
  let fields := s.reportFields nonce
  fields ++ (List.range 4627).map (Config.signatureByte (Config.digest fields)) ++ Config.certificate

/-- ATTEST_DONE: the report is written at b + 64, then busy clears and done is set (R363). -/
def execAttestDone (s : State) : Out :=
  match s.mgmt.attestBuf with
  | none => notEnabled "ATTEST_DONE"
  | some b =>
    .next ({ s with mem := s.mem.store 0 (b + 64) (s.report (s.mem.bytes 0 b 64)) }.modMgmt fun m =>
      { m with attestBuf := none, bootst := (m.bootst &&& ~~~(BitVec.ofNat 64 (2 ^ 21))) ||| BitVec.ofNat 64 (2 ^ 20) })

/-! ### Management reads (R343, R348, R351, R353, R358, R359) -/

/-- A cluster's telemetry word (R351). -/
def Cluster.word (c : Cluster) : Nat :=
  c.tj.toNat + c.d.toNat * 2 ^ 12 + c.load % 256 * 2 ^ 16 + c.step % 16 * 2 ^ 24 + (if c.lock then 2 ^ 28 else 0) + (if c.thr then 2 ^ 29 else 0) +
    c.cap.toNat * 2 ^ 32

/-- An Afterglow control register (R353). -/
def Afterglow.word (g : Afterglow) : Nat :=
  (match g.state with
    | .recording => 0
    | .post _ => 1
    | .frozen => 2) + g.post.toNat * 2 ^ 3 + g.lost.toNat * 2 ^ 32

/-- A launch port's register (R359); none for one that cannot be read. -/
def LaunchPort.read (p : LaunchPort) (o : Nat) : Option Nat :=
  match o with
  | 0x08 => some p.ctx.toNat
  | 0x10 => some p.accepted.toNat
  | 0x18 => some p.errors.toNat
  | 0x20 => some p.latched.toNat
  | 0x30 => some p.done.toNat
  | _ => none

/-- The thresholds as last written (R348) [log 36]. -/
def Power.thresholds (p : Power) : Nat := let q := p.pending.getD (p.tm, p.tp); q.1.toNat + q.2.toNat * 2 ^ 16

/-- A register at an offset of its own (R343, R348, R351, R358); none for one that cannot be read, or that is not listed. -/
def State.plainRead (s : State) (o : Nat) : Option Nat :=
  match o with
  | 0x00 => some s.mgmt.bootst.toNat
  | 0x08 => some s.mgmt.errcnt.toNat
  | 0x18 => some s.mgmt.tsc.toNat
  | 0x10000 => some s.power.modes.word
  | 0x10008 => some s.power.thresholds
  | 0x10010 => some (s.power.pm.toNat + s.power.g * 2 ^ 16)
  | 0x40018 => some s.haltWord
  | 0x40040 => some (if s.xlat.inval.isSome then 1 else 0)
  | 0x40050 => some s.mgmt.aging.toNat
  | 0x40058 => some s.mgmt.hlist.toNat
  | 0x40060 => some s.mgmt.hlen.toNat
  | 0x50000 => some s.mgmt.pod.toNat
  | 0x50008 => some s.mgmt.retx.toNat
  | 0x50010 => some s.mgmt.sotx.toNat
  | 0x50020 => some s.mgmt.udp.toNat
  | 0x60000 => some s.mgmt.rmth.toNat
  | _ => none

/-- What a management register reads as; none for a write-only one, or an offset that is not listed (R358). -/
def State.mgmtWord (s : State) (o : Nat) : Option Nat :=
  if 0x10100 ≤ o ∧ o < 0x10100 + 8 * 48 then some (s.clusterOf ((o - 0x10100) / 8)).word
  else if 0x20000 ≤ o ∧ o < 0x26000 ∧ o % 0x1000 = 0 then some (s.glowOf ((o - 0x20000) / 0x1000)).word
  else if 0x20000 ≤ o ∧ o < 0x26000 ∧ o % 0x1000 = 8 then some (s.glowOf ((o - 0x20000) / 0x1000)).trigSeq.toNat
  else if 0x30000 ≤ o ∧ o < 0x30400 then (s.portOf ((o - 0x30000) / 0x100)).read (o % 0x100)
  else if 0x60100 ≤ o ∧ o < 0x60100 + 8 * 256 then some (mapGet 0 s.mgmt.rmcnt ((o - 0x60100) / 8))
  else s.plainRead o

/-- A host read at a management offset: 8 aligned bytes; what cannot be read answers zero and is counted (R356, R358). -/
def State.mgmtRead (s : State) (o n : Nat) : State :=
  if n ≠ 8 ∨ o % 8 ≠ 0 then s.hostDiscard false n
  else
    match s.mgmtWord o with
    | some w => s.answer (leBytes 8 w)
    | none => s.hostDiscard false 8

/-! ### Start-up and resets (R354, R360, R365) -/

/-- Fresh random keys in every slot: identities that no other key has (R360) [log 12]. -/
def freshKeys (seed : Nat) : List (Nat × Nat) := (List.range 128).map fun i => (i, 2 * (128 * (seed + 1) + i) + 1)

/-- Step 2: every key slot has a fresh random key (R360). -/
def Mem.newKeys (m : Mem) (seed : Nat) : Mem := { m with slotKey := freshKeys seed }

/-- Step 5: ring memory and the scratchpads hold zeros with correct ECC (R360). -/
def Mem.clearSram (m : Mem) : Mem :=
  { m with cells := m.cells.filter fun c => decide (c.1 < ringBase), poison := m.poison.filter fun w => decide (w < ringBase),
           lineKey := m.lineKey.filter fun l => decide (64 * l.1 < ringBase), ringKey := 0, spKey := [] }

/-- bootst after a step has failed: the step, and the cause (R360). -/
def bootFailed (step cause : Nat) : Word := BitVec.ofNat 64 (step + step * 2 ^ 4 + cause * 2 ^ 12)

/-- bootst shows another step, or that the package is ready (R360). -/
def State.atStep (s : State) (k : Nat) : State := s.modMgmt fun m => { m with bootst := BitVec.ofNat 64 k }

/-- Step 2's training (R360): the cause of its failure; the DRAM's where both fail [log 68]. -/
def trainFault (seed : Nat) : Option Nat := if Config.trains seed 0 = false then some 2 else if Config.trains seed 1 = false then some 3 else none

/-- The step that bootst names is done, and the next one begins (R360) [log 68]: 1 the ROM; 2 the keys and the training, after which a cold reset opens the boot area and a warm one goes on at step 4; 4 the image in the boot store, whose digest is recorded once its signature has been checked; 5 the fabric ports, of which one that fails stays down, and the SRAM; 6 the library, which a core's planes have held since its reset. -/
def State.bootStep (s : State) : Out :=
  match s.mgmt.bootst.toNat with
  | 1 => .next (s.atStep 2)
  | 2 =>
    let s1 := { s with mem := s.mem.newKeys s.fresh }
    .next (match trainFault s.fresh with
      | some c => s1.modMgmt fun m => { m with bootst := bootFailed 2 c }
      | none => s1.atStep (if s.mgmt.warm then 4 else 3))
  | 4 => .next (s.modMgmt fun m =>
      if Config.signatureOk m.bootStore then { m with digest := Config.digest m.bootStore, bootst := 5 } else { m with bootst := bootFailed 4 1 })
  | 5 =>
    let s1 := { s with mem := s.mem.clearSram }
    .next ((s1.modFabric fun b => { b with down := (List.range 148).filter fun p => !(Config.trains s.fresh (2 + p)) }).atStep 6)
  | 6 => .next (s.atStep 0xF)
  | _ => .refused .badAgenda

/-- bootgo: accepted in step 3 alone; the image goes to the boot store, for step 4 (R360). -/
def State.doBoot (s : State) (w : Word) : State :=
  let n := w.toNat % 2 ^ 23
  if s.mgmt.bootst ≠ 3 then s.mgmtError
  else if n = 0 ∨ 0x40_0000 < n then s.modMgmt fun m => { m with bootst := bootFailed 4 1 }
  else s.modMgmt fun m => { m with bootStore := s.mem.bytes 0 0 n, bootst := 4 }

/-- BOOT_GO (R360). -/
def execBootGo (w : Word) (s : State) : Out := .next (s.doBoot w)

/-- The RESET record of a die that is recording (R352, R354). -/
def Afterglow.noteReset (g : Afterglow) (die : Nat) (now : Word) (cold : Bool) : Afterglow :=
  match g.state with
  | .recording => g.put { time := now, seq := g.seq, type := 12, die := BitVec.ofNat 3 die, trig := false, loc := 0, a := if cold then 1 else 0, b := 0 }
  | _ => g

/-- Everything but memory, Afterglow, the timestamp counter and the boot store is as after reset. -/
def State.restart (s : State) : State :=
  { State.reset with mem := s.mem, agenda := s.agenda, fresh := s.fresh, glow := s.glow }

/-- COLD_RESET: the sequence begins at step 1 (R354, R360, R365). -/
def execColdReset (s : State) : Out :=
  let s1 := s.restart
  .next { s1 with
    mgmt := { s1.mgmt with bootst := 1 }
    glow := Vector.ofFn fun i => ({ Afterglow.reset with state := (s.glowOf i.val).state } : Afterglow).noteReset i.val 0 true |> fun g => { g with state := .recording } }

/-- WARM_RESET: the sequence begins at step 2, for the image in the boot store; Afterglow and the timestamp counter are kept (R354, R360, R365). -/
def execWarmReset (s : State) : Out :=
  let s1 := s.restart
  .next { s1 with
    mgmt := { s1.mgmt with tsc := s.mgmt.tsc, bootStore := s.mgmt.bootStore, warm := true, bootst := 2 }
    glow := Vector.ofFn fun i => (s.glowOf i.val).noteReset i.val s.mgmt.tsc false }

/-- SUPPLY_LOSS: everything is lost, the keys and Afterglow too; the package waits for a cold reset (R354, R365) [log 68]. -/
def execSupplyLoss (s : State) : Out :=
  let s1 := s.restart
  .next { s1 with mem := s1.mem.newKeys s.fresh, glow := .replicate 6 .reset }

/-! ### Management writes (R300, R358) -/

/-- A verdict word (R300). -/
def State.doVerdict (s : State) (w : Word) : Out :=
  let n := w.toNat
  let a := bitsOf n 51 39
  let p := bitsOf n 38 0
  if bitsOf n 63 54 ≠ 0 then .next s.mgmtError
  else
    match bitsOf n 53 52 with
    | 0 => s.verdict a p .retry
    | 1 => s.verdict a p (.deny .translation)
    | 2 => s.verdict a p (.deny .protection)
    | _ => s.verdict a p .drop

/-- A plain field of the management space: set if its value is in range, else ignored and counted [log 36]. -/
def State.setField (s : State) (ok : Bool) (f : Mgmt → Mgmt) : State := if ok then s.modMgmt f else s.mgmtError

/-- The write of a launch port's register (R359). -/
def State.portWrite (s : State) (d o : Nat) (w : Word) : State :=
  match o with
  | 0x00 => s.doLaunch d w
  | 0x08 => s.modPort d fun p => { p with ctx := w.extractLsb' 0 13 }
  | 0x28 => s.doDrop d w
  | _ => s.mgmtError

/-- The registers that are plain values (R358); an offset not listed is ignored and counted. -/
def State.plainWrite (s : State) (o : Nat) (w : Word) : State :=
  let n := w.toNat
  match o with
  | 0x40000 => s.doRegister w
  | 0x40008 => s.doDelete w
  | 0x40010 => s.doHalt w
  | 0x40040 => s.doInvalidate w
  | 0x40050 => s.setField (decide (1 ≤ n ∧ n ≤ 255)) fun m => { m with aging := BitVec.ofNat 8 n }
  | 0x40058 => s.setField (decide (n % 8 = 0 ∧ n < 2 ^ 52)) fun m => { m with hlist := BitVec.ofNat 52 n }
  | 0x40060 => s.setField true fun m => { m with hlen := BitVec.ofNat 32 n }
  | 0x50000 => s.setField true fun m => { m with pod := BitVec.ofNat 28 n }
  | 0x50008 => s.setField (decide (1 ≤ n ∧ n ≤ 1000)) fun m => { m with retx := BitVec.ofNat 10 n }
  | 0x50010 => s.setField (decide (10 ≤ n ∧ n ≤ 10000)) fun m => { m with sotx := BitVec.ofNat 14 n }
  | 0x50018 => s.doAdmit w
  | 0x50020 => s.setField true fun m => { m with udp := BitVec.ofNat 16 n }
  | 0x70000 => s.doKey w
  | 0x70040 => s.doAttest w
  | _ => s.mgmtError

/-- A management write while the package is ready (R343, R348, R351, R353, R358, R359). -/
def State.mgmtWrite (s : State) (o : Nat) (w : Word) : Out :=
  if o = 0x10000 then execModeWrite w s
  else if o = 0x10008 then execThresholdWrite w s
  else if o = 0x60000 then execRowThresholdWrite w s
  else if o = 0x40048 then s.doVerdict w
  else if 0x40020 ≤ o ∧ o ≤ 0x40038 ∧ o % 8 = 0 then s.doResume ((o - 0x40020) / 8) w
  else if 0x10100 ≤ o ∧ o < 0x10100 + 8 * 48 ∧ o % 8 = 0 then
    .next (s.modCluster ((o - 0x10100) / 8) fun c => { c with cap := w.extractLsb' 32 4 })
  else if 0x20000 ≤ o ∧ o < 0x26000 ∧ o % 0x1000 = 0 then
    let d := (o - 0x20000) / 0x1000
    .next (s.setGlow d ((s.glowOf d).control w))
  else if 0x30000 ≤ o ∧ o < 0x30400 then .next (s.portWrite ((o - 0x30000) / 0x100) (o % 0x100) w)
  else .next (s.plainWrite o w)

/-- MGMT_WRITE: a host write of 8 bytes at a management offset (R356, R358, R360). -/
def execMgmtWrite (o : Nat) (w : Word) (s : State) : Out :=
  if o % 8 ≠ 0 then .next s.mgmtError
  else if o = 0x10 then .next (s.doBoot w)
  else if s.mgmtOpen then s.mgmtWrite o w
  else .next s.mgmtError

end Sys2Proof.Machine
end

