-- ==== Sys2Proof/Machine/Dispatch.lean ====
section
/-! DEFINITION. One arm per instruction: a direct call of its meaning. -/

namespace Sys2Proof.Machine

/-- The meaning of an instruction in a state. -/
def exec (i : Instr) (s : State) : Host.Outcome State Fault Refusal :=
  match i with
  | .nop plop pd pa pb wait rp => Sys2Proof.Machine.execNop plop pd pa pb wait rp s
  | .add g d a b => Sys2Proof.Machine.execAdd g d a b s
  | .sub g d a b => Sys2Proof.Machine.execSub g d a b s
  | .and g d a b => Sys2Proof.Machine.execAnd g d a b s
  | .or g d a b => Sys2Proof.Machine.execOr g d a b s
  | .xor g d a b => Sys2Proof.Machine.execXor g d a b s
  | .andn g d a b => Sys2Proof.Machine.execAndn g d a b s
  | .orn g d a b => Sys2Proof.Machine.execOrn g d a b s
  | .sll g d a b => Sys2Proof.Machine.execSll g d a b s
  | .srl g d a b => Sys2Proof.Machine.execSrl g d a b s
  | .sra g d a b => Sys2Proof.Machine.execSra g d a b s
  | .rol g d a b => Sys2Proof.Machine.execRol g d a b s
  | .ror g d a b => Sys2Proof.Machine.execRor g d a b s
  | .mul g d a b => Sys2Proof.Machine.execMul g d a b s
  | .mulh g d a b => Sys2Proof.Machine.execMulh g d a b s
  | .mulhu g d a b => Sys2Proof.Machine.execMulhu g d a b s
  | .div g d a b => Sys2Proof.Machine.execDiv g d a b s
  | .divu g d a b => Sys2Proof.Machine.execDivu g d a b s
  | .rem g d a b => Sys2Proof.Machine.execRem g d a b s
  | .remu g d a b => Sys2Proof.Machine.execRemu g d a b s
  | .min g d a b => Sys2Proof.Machine.execMin g d a b s
  | .max g d a b => Sys2Proof.Machine.execMax g d a b s
  | .minu g d a b => Sys2Proof.Machine.execMinu g d a b s
  | .maxu g d a b => Sys2Proof.Machine.execMaxu g d a b s
  | .adds g d a b => Sys2Proof.Machine.execAdds g d a b s
  | .subs g d a b => Sys2Proof.Machine.execSubs g d a b s
  | .slt g d a b => Sys2Proof.Machine.execSlt g d a b s
  | .sltu g d a b => Sys2Proof.Machine.execSltu g d a b s
  | .seq g d a b => Sys2Proof.Machine.execSeq g d a b s
  | .clz g d a => Sys2Proof.Machine.execClz g d a s
  | .ctz g d a => Sys2Proof.Machine.execCtz g d a s
  | .popc g d a => Sys2Proof.Machine.execPopc g d a s
  | .brev g d a => Sys2Proof.Machine.execBrev g d a s
  | .bswap g d a => Sys2Proof.Machine.execBswap g d a s
  | .sextb g d a => Sys2Proof.Machine.execSextb g d a s
  | .sexth g d a => Sys2Proof.Machine.execSexth g d a s
  | .sextw g d a => Sys2Proof.Machine.execSextw g d a s
  | .peq g p a b => Sys2Proof.Machine.execPeq g p a b s
  | .pne g p a b => Sys2Proof.Machine.execPne g p a b s
  | .plt g p a b => Sys2Proof.Machine.execPlt g p a b s
  | .pge g p a b => Sys2Proof.Machine.execPge g p a b s
  | .pltu g p a b => Sys2Proof.Machine.execPltu g p a b s
  | .pgeu g p a b => Sys2Proof.Machine.execPgeu g p a b s
  | .ptox g d p k => Sys2Proof.Machine.execPtox g d p k s
  | .xtop g p a k => Sys2Proof.Machine.execXtop g p a k s
  | .pcnt g d p q => Sys2Proof.Machine.execPcnt g d p q s
  | .addi g d a m => Sys2Proof.Machine.execAddi g d a m s
  | .andi g d a m => Sys2Proof.Machine.execAndi g d a m s
  | .ori g d a m => Sys2Proof.Machine.execOri g d a m s
  | .xori g d a m => Sys2Proof.Machine.execXori g d a m s
  | .slli g d a m => Sys2Proof.Machine.execSlli g d a m s
  | .srli g d a m => Sys2Proof.Machine.execSrli g d a m s
  | .srai g d a m => Sys2Proof.Machine.execSrai g d a m s
  | .lih g d m => Sys2Proof.Machine.execLih g d m s
  | .ldb g t b o => Sys2Proof.Machine.execLdb g t b o s
  | .ldbu g t b o => Sys2Proof.Machine.execLdbu g t b o s
  | .ldh g t b o => Sys2Proof.Machine.execLdh g t b o s
  | .ldhu g t b o => Sys2Proof.Machine.execLdhu g t b o s
  | .ldw g t b o => Sys2Proof.Machine.execLdw g t b o s
  | .ldwu g t b o => Sys2Proof.Machine.execLdwu g t b o s
  | .ldd g t b o => Sys2Proof.Machine.execLdd g t b o s
  | .ldq g t b o => Sys2Proof.Machine.execLdq g t b o s
  | .stb g t b o => Sys2Proof.Machine.execStb g t b o s
  | .sth g t b o => Sys2Proof.Machine.execSth g t b o s
  | .stw g t b o => Sys2Proof.Machine.execStw g t b o s
  | .std g t b o => Sys2Proof.Machine.execStd g t b o s
  | .stq g t b o => Sys2Proof.Machine.execStq g t b o s
  | .prf g b o => Sys2Proof.Machine.execPrf g b o s
  | .zln g b o => Sys2Proof.Machine.execZln g b o s
  | .br g o => Sys2Proof.Machine.execBr g o s
  | .call g o => Sys2Proof.Machine.execCall g o s
  | .jr g a => Sys2Proof.Machine.execJr g a s
  | .jalr g d a => Sys2Proof.Machine.execJalr g d a s
  | .loop g k c l => Sys2Proof.Machine.execLoop g k c l s
  | .loopi g k n l => Sys2Proof.Machine.execLoopi g k n l s
  | .loopp g k c n l => Sys2Proof.Machine.execLoopp g k c n l s
  | .lexit g k => Sys2Proof.Machine.execLexit g k s
  | .vadd g w d a b => Sys2Proof.Machine.execVadd g w d a b s
  | .vsub g w d a b => Sys2Proof.Machine.execVsub g w d a b s
  | .vadds g w d a b => Sys2Proof.Machine.execVadds g w d a b s
  | .vsubs g w d a b => Sys2Proof.Machine.execVsubs g w d a b s
  | .vaddsu g w d a b => Sys2Proof.Machine.execVaddsu g w d a b s
  | .vsubsu g w d a b => Sys2Proof.Machine.execVsubsu g w d a b s
  | .vmul g w d a b => Sys2Proof.Machine.execVmul g w d a b s
  | .vmulh g w d a b => Sys2Proof.Machine.execVmulh g w d a b s
  | .vmulhu g w d a b => Sys2Proof.Machine.execVmulhu g w d a b s
  | .vmulq g w d a b m => Sys2Proof.Machine.execVmulq g w d a b m s
  | .vmin g w d a b => Sys2Proof.Machine.execVmin g w d a b s
  | .vmax g w d a b => Sys2Proof.Machine.execVmax g w d a b s
  | .vminu g w d a b => Sys2Proof.Machine.execVminu g w d a b s
  | .vmaxu g w d a b => Sys2Proof.Machine.execVmaxu g w d a b s
  | .vand g w d a b => Sys2Proof.Machine.execVand g w d a b s
  | .vor g w d a b => Sys2Proof.Machine.execVor g w d a b s
  | .vxor g w d a b => Sys2Proof.Machine.execVxor g w d a b s
  | .vandn g w d a b => Sys2Proof.Machine.execVandn g w d a b s
  | .vsll g w d a b => Sys2Proof.Machine.execVsll g w d a b s
  | .vsrl g w d a b => Sys2Proof.Machine.execVsrl g w d a b s
  | .vsra g w d a b => Sys2Proof.Machine.execVsra g w d a b s
  | .vabs g w d a => Sys2Proof.Machine.execVabs g w d a s
  | .vneg g w d a => Sys2Proof.Machine.execVneg g w d a s
  | .vavg g w d a b m => Sys2Proof.Machine.execVavg g w d a b m s
  | .vmov g w d a => Sys2Proof.Machine.execVmov g w d a s
  | .vsel g w d a b => Sys2Proof.Machine.execVsel g w d a b s
  | .vcls g w d a => Sys2Proof.Machine.execVcls g w d a s
  | .vpopc g w d a => Sys2Proof.Machine.execVpopc g w d a s
  | .vcmpeq g w p a b => Sys2Proof.Machine.execVcmpeq g w p a b s
  | .vcmpne g w p a b => Sys2Proof.Machine.execVcmpne g w p a b s
  | .vcmplt g w p a b => Sys2Proof.Machine.execVcmplt g w p a b s
  | .vcmple g w p a b => Sys2Proof.Machine.execVcmple g w p a b s
  | .vcmpltu g w p a b => Sys2Proof.Machine.execVcmpltu g w p a b s
  | .vcmpleu g w p a b => Sys2Proof.Machine.execVcmpleu g w p a b s
  | .vnarrow g w d a b m => Sys2Proof.Machine.execVnarrow g w d a b m s
  | .vwiden g w d a b m => Sys2Proof.Machine.execVwiden g w d a b m s
  | .vshrr g w d a b => Sys2Proof.Machine.execVshrr g w d a b s
  | .vsshr g w d a b => Sys2Proof.Machine.execVsshr g w d a b s
  | .vsplat g w d b => Sys2Proof.Machine.execVsplat g w d b s
  | .vextr g w d a b m => Sys2Proof.Machine.execVextr g w d a b m s
  | .vinsr g w d a b => Sys2Proof.Machine.execVinsr g w d a b s
  | .viota g w d b m => Sys2Proof.Machine.execViota g w d b m s
  | .vcb4 g d a b m => Sys2Proof.Machine.execVcb4 g d a b m s
  | .vq4p g d a => Sys2Proof.Machine.execVq4p g d a s
  | .vq4u g d a m => Sys2Proof.Machine.execVq4u g d a m s
  | .vredadd g w d a b m => Sys2Proof.Machine.execVredadd g w d a b m s
  | .vredmax g w d a b m => Sys2Proof.Machine.execVredmax g w d a b m s
  | .vredmin g w d a b m => Sys2Proof.Machine.execVredmin g w d a b m s
  | .vredor g w d a b => Sys2Proof.Machine.execVredor g w d a b s
  | .vtorq g w a b m => Sys2Proof.Machine.execVtorq g w a b m s
  | .vcens g w a b m => Sys2Proof.Machine.execVcens g w a b m s
  | .vexp g d a b => Sys2Proof.Machine.execVexp g d a b s
  | .vrcp g d a b => Sys2Proof.Machine.execVrcp g d a b s
  | .vrsq g d a b => Sys2Proof.Machine.execVrsq g d a b s
  | .vdiv g d a b => Sys2Proof.Machine.execVdiv g d a b s
  | .vopt g d a b => Sys2Proof.Machine.execVopt g d a b s
  | .vbmm g d a b m => Sys2Proof.Machine.execVbmm g d a b m s
  | .vpdep g w d a b => Sys2Proof.Machine.execVpdep g w d a b s
  | .vpext g w d a b => Sys2Proof.Machine.execVpext g w d a b s
  | .vbperm g d a b => Sys2Proof.Machine.execVbperm g d a b s
  | .vperm g w d a b m => Sys2Proof.Machine.execVperm g w d a b m s
  | .vslide g w d a b m => Sys2Proof.Machine.execVslide g w d a b m s
  | .vspush g w n a => Sys2Proof.Machine.execVspush g w n a s
  | .vspop g w d n p m => Sys2Proof.Machine.execVspop g w d n p m s
  | .vsflush g w d n => Sys2Proof.Machine.execVsflush g w d n s
  | .vslen g w d n => Sys2Proof.Machine.execVslen g w d n s
  | .vld g w d a b => Sys2Proof.Machine.execVld g w d a b s
  | .vst g w d a b => Sys2Proof.Machine.execVst g w d a b s
  | .vlds g w d a b => Sys2Proof.Machine.execVlds g w d a b s
  | .vsts g w d a b => Sys2Proof.Machine.execVsts g w d a b s
  | .vldx g w d a b m => Sys2Proof.Machine.execVldx g w d a b m s
  | .vstx g w d a b m => Sys2Proof.Machine.execVstx g w d a b m s
  | .vldt g w d a b => Sys2Proof.Machine.execVldt g w d a b s
  | .vstt g w d a b => Sys2Proof.Machine.execVstt g w d a b s
  | .vldb g w d a b => Sys2Proof.Machine.execVldb g w d a b s
  | .vldp g p a b => Sys2Proof.Machine.execVldp g p a b s
  | .vstp g p a b => Sys2Proof.Machine.execVstp g p a b s
  | .mpw g a k e => Sys2Proof.Machine.execMpw g a k e s
  | .mpr g d k e => Sys2Proof.Machine.execMpr g d k e s
  | .mcfg g a e => Sys2Proof.Machine.execMcfg g a e s
  | .mdrain g d e => Sys2Proof.Machine.execMdrain g d e s
  | .mcall g r c p e => Sys2Proof.Machine.execMcall g r c p e s
  | .mcallg g r c p e => Sys2Proof.Machine.execMcallg g r c p e s
  | .mspec g z e => Sys2Proof.Machine.execMspec g z e s
  | .mcommit g e => Sys2Proof.Machine.execMcommit g e s
  | .mdiscard g e => Sys2Proof.Machine.execMdiscard g e s
  | .mzero g a z e => Sys2Proof.Machine.execMzero g a z e s
  | .maccld g x a e => Sys2Proof.Machine.execMaccld g x a e s
  | .maccst g x a e => Sys2Proof.Machine.execMaccst g x a e s
  | .mucw g x a h e => Sys2Proof.Machine.execMucw g x a h e s
  | .mucr g d x h e => Sys2Proof.Machine.execMucr g d x h e s
  | .mstat g k e => Sys2Proof.Machine.execMstat g k e s
  | .mrpg g d e => Sys2Proof.Machine.execMrpg g d e s
  | .erw g a n => Sys2Proof.Machine.execErw g a n s
  | .erd g d n => Sys2Proof.Machine.execErd g d n s
  | .cpy g c o y z => Sys2Proof.Machine.execCpy g c o y z s
  | .cpym g c o y z => Sys2Proof.Machine.execCpym g c o y z s
  | .cpyx g c t z => Sys2Proof.Machine.execCpyx g c t z s
  | .cpyw g c o y z => Sys2Proof.Machine.execCpyw g c o y z s
  | .cpyc g d m => Sys2Proof.Machine.execCpyc g d m s
  | .coll g h c => Sys2Proof.Machine.execColl g h c s
  | .csig g h k => Sys2Proof.Machine.execCsig g h k s
  | .acq g d a => Sys2Proof.Machine.execAcq g d a s
  | .rel g d a => Sys2Proof.Machine.execRel g d a s
  | .bind g d a b => Sys2Proof.Machine.execBind g d a b s
  | .unbind g a => Sys2Proof.Machine.execUnbind g a s
  | .fence g k => Sys2Proof.Machine.execFence g k s
  | .qmake g d a => Sys2Proof.Machine.execQmake g d a s
  | .qpush g d a b => Sys2Proof.Machine.execQpush g d a b s
  | .qpop g d a => Sys2Proof.Machine.execQpop g d a s
  | .qfree g a => Sys2Proof.Machine.execQfree g a s
  | .mbsend g d a b => Sys2Proof.Machine.execMbsend g d a b s
  | .mbrecv g d p k => Sys2Proof.Machine.execMbrecv g d p k s
  | .mbbind g a k => Sys2Proof.Machine.execMbbind g a k s
  | .sbarm g a b => Sys2Proof.Machine.execSbarm g a b s
  | .sbwait g d a b => Sys2Proof.Machine.execSbwait g d a b s
  | .sbtst g d a => Sys2Proof.Machine.execSbtst g d a s
  | .dbar g k t => Sys2Proof.Machine.execDbar g k t s
  | .waitany g d a => Sys2Proof.Machine.execWaitany g d a s
  | .waitall g d a => Sys2Proof.Machine.execWaitall g d a s
  | .ffr g d a => Sys2Proof.Machine.execFfr g d a s
  | .tagclr g a => Sys2Proof.Machine.execTagclr g a s
  | .rqpop g d => Sys2Proof.Machine.execRqpop g d s
  | .ldacq g d a k => Sys2Proof.Machine.execLdacq g d a k s
  | .strel g t a k => Sys2Proof.Machine.execStrel g t a k s
  | .invr g a b => Sys2Proof.Machine.execInvr g a b s
  | .wbr g a b => Sys2Proof.Machine.execWbr g a b s
  | .tspawn g a => Sys2Proof.Machine.execTspawn g a s
  | .tspawnr g a => Sys2Proof.Machine.execTspawnr g a s
  | .tspawng g a => Sys2Proof.Machine.execTspawng g a s
  | .fspawn g a => Sys2Proof.Machine.execFspawn g a s
  | .fref g a => Sys2Proof.Machine.execFref g a s
  | .fdrop g a => Sys2Proof.Machine.execFdrop g a s
  | .fget g d a p => Sys2Proof.Machine.execFget g d a p s
  | .tdec g d a b => Sys2Proof.Machine.execTdec g d a b s
  | .tcont g a b => Sys2Proof.Machine.execTcont g a b s
  | .tend g a => Sys2Proof.Machine.execTend g a s
  | .tyield g k => Sys2Proof.Machine.execTyield g k s
  | .rnext g d => Sys2Proof.Machine.execRnext g d s
  | .nxtreq g d a => Sys2Proof.Machine.execNxtreq g d a s
  | .pload g a t => Sys2Proof.Machine.execPload g a t s
  | .pswap g => Sys2Proof.Machine.execPswap g s
  | .tsrd g d n f => Sys2Proof.Machine.execTsrd g d n f s
  | .tswr g n a f => Sys2Proof.Machine.execTswr g n a f s
  | .tsclr g n => Sys2Proof.Machine.execTsclr g n s
  | .srd g d r => Sys2Proof.Machine.execSrd g d r s
  | .swr g a r => Sys2Proof.Machine.execSwr g a r s
  | .trap g k => Sys2Proof.Machine.execTrap g k s
  | .eret g => Sys2Proof.Machine.execEret g s
  | .feat g d k => Sys2Proof.Machine.execFeat g d k s
  | .aadd g z d a b => Sys2Proof.Machine.execAadd g z d a b s
  | .amin g z d a b => Sys2Proof.Machine.execAmin g z d a b s
  | .amax g z d a b => Sys2Proof.Machine.execAmax g z d a b s
  | .aminu g z d a b => Sys2Proof.Machine.execAminu g z d a b s
  | .amaxu g z d a b => Sys2Proof.Machine.execAmaxu g z d a b s
  | .aand g z d a b => Sys2Proof.Machine.execAand g z d a b s
  | .aor g z d a b => Sys2Proof.Machine.execAor g z d a b s
  | .axor g z d a b => Sys2Proof.Machine.execAxor g z d a b s
  | .aswap g z d a b => Sys2Proof.Machine.execAswap g z d a b s
  | .acas g z d a b => Sys2Proof.Machine.execAcas g z d a b s
  | .aadds g z d a b => Sys2Proof.Machine.execAadds g z d a b s
  | .redadd g z a b => Sys2Proof.Machine.execRedadd g z a b s
  | .redmin g z a b => Sys2Proof.Machine.execRedmin g z a b s
  | .redmax g z a b => Sys2Proof.Machine.execRedmax g z a b s
  | .redadds g z a b => Sys2Proof.Machine.execRedadds g z a b s
  | .redor g z a b => Sys2Proof.Machine.execRedor g z a b s
  | .loadLand c k r => Sys2Proof.Machine.execLoadLand c k r s
  | .returnQueueLand c k => Sys2Proof.Machine.execReturnQueueLand c k s
  | .matrixCommandAccept c e => Sys2Proof.Machine.execMatrixCommandAccept c e s
  | .microEnd c e => Sys2Proof.Machine.execMicroEnd c e s
  | .microNop c e => Sys2Proof.Machine.execMicroNop c e s
  | .microSetm c e => Sys2Proof.Machine.execMicroSetm c e s
  | .microSeti c e => Sys2Proof.Machine.execMicroSeti c e s
  | .microAddi c e => Sys2Proof.Machine.execMicroAddi c e s
  | .microBnz c e => Sys2Proof.Machine.execMicroBnz c e s
  | .microJmp c e => Sys2Proof.Machine.execMicroJmp c e s
  | .microLda c e => Sys2Proof.Machine.execMicroLda c e s
  | .microLdb c e => Sys2Proof.Machine.execMicroLdb c e s
  | .microMac c e => Sys2Proof.Machine.execMicroMac c e s
  | .microZero c e => Sys2Proof.Machine.execMicroZero c e s
  | .microScat c e => Sys2Proof.Machine.execMicroScat c e s
  | .microAddv c e => Sys2Proof.Machine.execMicroAddv c e s
  | .microChk c e => Sys2Proof.Machine.execMicroChk c e s
  | .microReserved c e => Sys2Proof.Machine.execMicroReserved c e s
  | .stagingLoadComplete c e p => Sys2Proof.Machine.execStagingLoadComplete c e p s
  | .macStepComplete c e => Sys2Proof.Machine.execMacStepComplete c e s
  | .matrixCommandComplete c e => Sys2Proof.Machine.execMatrixCommandComplete c e s
  | .copyCommandStart c e => Sys2Proof.Machine.execCopyCommandStart c e s
  | .permitGrant c e => Sys2Proof.Machine.execPermitGrant c e s
  | .copyGranuleWrite c e => Sys2Proof.Machine.execCopyGranuleWrite c e s
  | .copyCommandComplete c e k => Sys2Proof.Machine.execCopyCommandComplete c e k s
  | .collectiveStart n => Sys2Proof.Machine.execCollectiveStart n s
  | .readyBitSet c e => Sys2Proof.Machine.execReadyBitSet c e s
  | .collectiveComplete n => Sys2Proof.Machine.execCollectiveComplete n s
  | .nxtreqAnswer c => Sys2Proof.Machine.execNxtreqAnswer c s
  | .redTranslate c => Sys2Proof.Machine.execRedTranslate c s
  | .pageWalkComplete k => Sys2Proof.Machine.execPageWalkComplete k s
  | .faultRecordWrite a => Sys2Proof.Machine.execFaultRecordWrite a s
  | .verdictRetry a p => Sys2Proof.Machine.execVerdictRetry a p s
  | .verdictTranslation a p => Sys2Proof.Machine.execVerdictTranslation a p s
  | .verdictProtection a p => Sys2Proof.Machine.execVerdictProtection a p s
  | .verdictDrop a p => Sys2Proof.Machine.execVerdictDrop a p s
  | .select c => Sys2Proof.Machine.execSelect c s
  | .imageLoadStart a t => Sys2Proof.Machine.execImageLoadStart a t s
  | .planeLoadComplete c => Sys2Proof.Machine.execPlaneLoadComplete c s
  | .timeSliceExpiry c => Sys2Proof.Machine.execTimeSliceExpiry c s
  | .graceExpiry c => Sys2Proof.Machine.execGraceExpiry c s
  | .saveComplete c => Sys2Proof.Machine.execSaveComplete c s
  | .eclipseReclaim c => Sys2Proof.Machine.execEclipseReclaim c s
  | .taskFinish a t => Sys2Proof.Machine.execTaskFinish a t s
  | .dimmerUpdate p t => Sys2Proof.Machine.execDimmerUpdate p t s
  | .governorWindowEnd => Sys2Proof.Machine.execGovernorWindowEnd s
  | .scrub x a r => Sys2Proof.Machine.execScrub x a r s
  | .freezeSignal d o q => Sys2Proof.Machine.execFreezeSignal d o q s
  | .holdbackEnd r => Sys2Proof.Machine.execHoldbackEnd r s
  | .regularRefresh r => Sys2Proof.Machine.execRegularRefresh r s
  | .writePacket n p => Sys2Proof.Machine.execWritePacket n p s
  | .readPacket n p => Sys2Proof.Machine.execReadPacket n p s
  | .rdataPacket n p => Sys2Proof.Machine.execRdataPacket n p s
  | .atomicPacket n p => Sys2Proof.Machine.execAtomicPacket n p s
  | .aresultPacket n p => Sys2Proof.Machine.execAresultPacket n p s
  | .redPacket n p => Sys2Proof.Machine.execRedPacket n p s
  | .chunkPacket n p => Sys2Proof.Machine.execChunkPacket n p s
  | .ackPacket n p => Sys2Proof.Machine.execAckPacket n p s
  | .beaconPacket n p => Sys2Proof.Machine.execBeaconPacket n p s
  | .probePacket n p => Sys2Proof.Machine.execProbePacket n p s
  | .packetForward n p => Sys2Proof.Machine.execPacketForward n p s
  | .packetAgeDiscard n p => Sys2Proof.Machine.execPacketAgeDiscard n p s
  | .ackSend k => Sys2Proof.Machine.execAckSend k s
  | .retxTimeout k => Sys2Proof.Machine.execRetxTimeout k s
  | .portDown n => Sys2Proof.Machine.execPortDown n s
  | .beaconSend => Sys2Proof.Machine.execBeaconSend s
  | .beaconMiss n => Sys2Proof.Machine.execBeaconMiss n s
  | .probeSend q => Sys2Proof.Machine.execProbeSend q s
  | .peerLostDeclare q => Sys2Proof.Machine.execPeerLostDeclare q s
  | .lostDeclaration q => Sys2Proof.Machine.execLostDeclaration q s
  | .hostMemoryAccess x a n v => Sys2Proof.Machine.execHostMemoryAccess x a n v s
  | .hostScratchpadAccess x a n v => Sys2Proof.Machine.execHostScratchpadAccess x a n v s
  | .launch d w => Sys2Proof.Machine.execLaunch d w s
  | .launchDrop d w => Sys2Proof.Machine.execLaunchDrop d w s
  | .contextRegister w => Sys2Proof.Machine.execContextRegister w s
  | .contextDelete w => Sys2Proof.Machine.execContextDelete w s
  | .halt w => Sys2Proof.Machine.execHalt w s
  | .haltDrainDone => Sys2Proof.Machine.execHaltDrainDone s
  | .resume d w => Sys2Proof.Machine.execResume d w s
  | .tlbinvPage w => Sys2Proof.Machine.execTlbinvPage w s
  | .tlbinvAsid w => Sys2Proof.Machine.execTlbinvAsid w s
  | .tlbinvDone => Sys2Proof.Machine.execTlbinvDone s
  | .packageAdmit w => Sys2Proof.Machine.execPackageAdmit w s
  | .modeWrite w => Sys2Proof.Machine.execModeWrite w s
  | .thresholdWrite w => Sys2Proof.Machine.execThresholdWrite w s
  | .rowThresholdWrite w => Sys2Proof.Machine.execRowThresholdWrite w s
  | .afterglowRun d w => Sys2Proof.Machine.execAfterglowRun d w s
  | .keyLoad w => Sys2Proof.Machine.execKeyLoad w s
  | .attest w => Sys2Proof.Machine.execAttest w s
  | .attestDone => Sys2Proof.Machine.execAttestDone s
  | .bootGo w => Sys2Proof.Machine.execBootGo w s
  | .mgmtWrite o w => Sys2Proof.Machine.execMgmtWrite o w s
  | .coldReset => Sys2Proof.Machine.execColdReset s
  | .warmReset => Sys2Proof.Machine.execWarmReset s
  | .supplyLoss => Sys2Proof.Machine.execSupplyLoss s
  | .l1Eviction c k => Sys2Proof.Machine.execL1Eviction c k s

end Sys2Proof.Machine
end

