-- ==== Sys2Proof/Machine/Run.lean ====
section
/-! DEFINITION. What moves next: the issue of a bundle by the core whose turn it is, and the events of the package (R6, R31, R33, R43, R60, R88, R90, R106, R226, R270, R364) [log 5]. -/

namespace Sys2Proof.Machine

/-! ### Issuing a bundle -/

/-- The slot whose word executes. -/
def State.atSlot (s : State) (k : Nat) : State := s.modBundle fun b => { b with slot := k }

/-- A slot word has executed: its bundle waits, has faulted, or goes on. -/
def State.settled (s : State) : Bool := s.core.bundle.held || s.core.bundle.exc.isSome

/-- What trying the slots of a bundle finds: the first slot that waits, the first that faults, and the first that would send a request. -/
structure Tried where
  waits : Option (Nat × Instr)
  bad : Option Out
  asks : Option (Nat × Instr)

/-- Nothing found yet. -/
def Tried.start : Tried := { waits := none, bad := none, asks := none }

/-- Try the slots in slot order, each after the effects of those before it (R31, R58, R75, R141). -/
def State.tryFrom (begun s : State) (slots : List (Nat × Instr)) (t : Tried) : Tried :=
  match slots with
  | [] => t
  | (k, i) :: r =>
    match exec i (s.atSlot k) with
    | .next s1 =>
      if s1.core.bundle.held then
        if s1.core.asks = begun.core.asks then begun.tryFrom s r { t with waits := some (t.waits.getD (k, i)) }
        else begun.tryFrom s r { t with asks := some (t.asks.getD (k, i)) }
      else
        match s1.core.bundle.exc with
        | none => begun.tryFrom (if i.last then s else s1) r t
        | some e => begun.tryFrom s r { t with bad := some (t.bad.getD (.next (begun.raise e))) }
    | .fault f => begun.tryFrom s r { t with bad := some (t.bad.getD (.fault f)) }
    | .refused f => begun.tryFrom s r { t with bad := some (t.bad.getD (.refused f)) }

/-- The bundle waits in one of its slots: what that slot alone does. -/
def State.waitAt (s : State) (q : Nat × Instr) : Out :=
  match exec q.2 (s.atSlot q.1) with
  | .next s1 => .next (if s1.core.bundle.held then s1 else s.hold)
  | o => o

/-- A bundle of several slots is tried: one that waits decides; else the first that faults; else one that has a request to send; none if the bundle may issue (R31, R88) [log 28]. -/
def State.probe (s : State) (slots : List (Nat × Instr)) : Option Out :=
  let t := s.tryFrom s slots .start
  match t.waits, t.bad, t.asks with
  | some q, _, _ => some (s.waitAt q)
  | none, some o, _ => some o
  | none, none, some q => some (s.waitAt q)
  | none, none, none => none

/-- The effects of the slots, one after another: each reads the registers as they were before the bundle (R58). -/
def State.effects (s begun : State) (slots : List (Nat × Instr)) : Out :=
  match slots with
  | [] => .next s.endBundle
  | (k, i) :: r =>
    match exec i (s.atSlot k) with
    | .next s1 =>
      if s1.core.bundle.held then .next (if i.last then s1.modBundle fun b => { b with tail := true } else begun.hold)
      else
        match s1.core.bundle.exc with
        | none => s1.effects begun r
        | some e => .next (begun.raise e)
    | .fault f => .fault f
    | .refused f => .refused f

/-- The slots of a begun bundle: none is a NOP, one executes alone, several issue together or not at all (R27, R31). -/
def State.runSlots (s : State) (d : Decoded) : Out :=
  match d.slots with
  | [] => exec (nopOf d.head) s
  | [(k, i)] =>
    match exec i (s.atSlot k) with
    | .next s1 => .next (if s1.settled then s1 else s1.endBundle)
    | .fault f => .fault f
    | .refused f => .refused f
  | _ =>
    match s.probe d.slots with
    | some o => o
    | none => (s.modBundle fun b => { b with checked := true }).effects s d.order

/-- A bounded wait ends at once for an eclipsed task, and at a preemption request (R88, R226, R270). -/
def State.endWait (s : State) : State :=
  let y := s.core.t.sys
  if s.core.bundle.held && s.core.bundle.bounded && decide (s.core.mode = .running) then
    if y.ecl then s.eclipseEnd else if y.preq.getLsbD 0 then s.startSave .preempt none else s
  else s

/-- The bundle whose other slots have executed ends with the one that waited (R220). -/
def State.runTail (s : State) (d : Decoded) : Out :=
  let s1 := s.modBundle fun b => { b with held := false, tail := false }
  s1.effects s1 (d.slots.filter fun q => q.2.last)

/-- A bundle one of whose slots consumes a poisoned word: another slot that waits decides, then the first slot that faults (R31, R88, R307) [log 28, log 44]. -/
def State.runPoisoned (s : State) (d : Decoded) (k : Nat) : Out :=
  match (s.tryFrom s (d.slots.filter fun q => decide (q.1 ≠ k)) .start).waits with
  | some q => s.waitAt q
  | none => ((s.tryFrom s (d.slots.filter fun q => decide (q.1 < k)) .start).bad).getD (.next (s.raise (s.consumeExc k)))

/-- The slots of a begun bundle, near poison: one consumes a poisoned word, or none does (R307). -/
def State.runNear (s : State) (d : Decoded) : Out :=
  match s.firstPoison d with
  | none => s.runSlots d
  | some k => s.runPoisoned d k

/-- What the slots come to, with the end of a bounded wait. -/
def ended (o : Out) : Out :=
  match o with
  | .next s1 => .next s1.endWait
  | .fault f => .fault f
  | .refused f => .refused f

/-- The decoded bundle at the program counter: reclamation, the Mirror's count, the interlocks, then its slots (R59, R90, R226, R307). -/
def State.runBundle (s : State) (d : Decoded) : Out :=
  let t := s.core.t
  if t.sys.ecl && d.reclaims then .next s.eclipseEnd
  else if s.core.bundle.tail then s.runTail d
  else if t.seg.overrun d.head.wait then .next (s.takeException s.mirrorExc t.pc)
  else if t.interlocked d then (if t.mustStall d then .next (s.beginBundle d).hold else ended ((s.beginBundle d).runNear d))
  else ended ((s.beginBundle d).runSlots d)

/-- The word at the program counter: a fault of the fetch, an SCW, or a bundle (R33, R43, R364). -/
def State.fetch (s : State) : Out :=
  let pc := s.core.t.pc
  match s.core.fetchWord pc with
  | .error e => .next (s.takeException e pc)
  | .ok w =>
    if Code.cls w = 0xE#4 then .next (s.scw w)
    else
      match s.core.decodeBundle w with
      | .error e => .next (s.takeException e pc)
      | .ok d => s.runBundle d

/-- The bundle at the program counter has sent an ATOMIC, or all its slots but the last have executed: that is done once, so the bundle goes on to its end before the task is saved or trapped (R213, R311, R326) [log 28]. -/
def Core.committed (c : Core) : Bool := c.bundle.tail || c.asks.any fun q => q.live && q.atomic

/-- The turn of a core that runs a task: a trap that waits, a SATURATION left by a command, a forced save, or the next position (R60, R93, R106, R270). -/
def State.issue (s : State) : Out :=
  let t := s.core.t
  match s.core.pendTrap with
  | some (e, epc) =>
    if s.resultsDue then .next s.settle.hold else .next ((s.modCore fun c => { c with pendTrap := none }).enterTrap e epc)
  | none =>
    match (if t.sys.th || s.core.committed then none else satExc t.ts t.satPend) with
    | some e => .next ((s.modT fun t => { t with satPend := [] }).trapOrWait e t.pc)
    | none =>
      let s1 := if t.sys.th || s.core.committed then s else s.modT fun t => { t with satPend := [] }
      if t.sys.preq.getLsbD 1 && !s.core.committed then .next (s1.startSave .preempt none) else s1.fetch

/-! ### Events of the package, when nothing else is said [log 5] -/

/-- The first of some events that can occur. -/
def firstEvent (l : List (State → Out)) (s : State) : Option State :=
  match l with
  | [] => none
  | f :: r =>
    match f s with
    | .next s1 => some s1
    | .fault _ => firstEvent r s
    | .refused _ => firstEvent r s

/-- The events of a matrix engine. -/
def matEvents (c : Nat) (e : Bool) : List (State → Out) :=
  [execMatrixCommandComplete c e, execMacStepComplete c e, execStagingLoadComplete c e false, execStagingLoadComplete c e true,
   execMatrixCommandAccept c e, execMicroEnd c e, execMicroNop c e, execMicroSetm c e, execMicroSeti c e, execMicroAddi c e, execMicroBnz c e,
   execMicroJmp c e, execMicroLda c e, execMicroLdb c e, execMicroMac c e, execMicroZero c e, execMicroScat c e, execMicroAddv c e, execMicroChk c e,
   execMicroReserved c e]

/-- The events of a copy engine. -/
def copyEvents (c : Nat) (e : Bool) : List (State → Out) :=
  [execCopyCommandComplete c e 0, execCopyCommandStart c e, execPermitGrant c e, execCopyGranuleWrite c e, execReadyBitSet c e]

/-- The events of a core. -/
def coreEvents (c : Nat) : List (State → Out) :=
  [execLoadLand c 0 .clean, execNxtreqAnswer c] ++ (List.range 16).map (execReturnQueueLand c) ++ [execRedTranslate c] ++
  matEvents c false ++ matEvents c true ++ copyEvents c false ++ copyEvents c true ++
  [execSaveComplete c, execEclipseReclaim c, execPlaneLoadComplete c]

/-- Selection for core c, where it changes anything. -/
def selectNow (c : Nat) (s : State) : Out :=
  match execSelect c s with
  | .next t => if t = s then notEnabled "SELECT" else .next t
  | o => o

/-- The events of the package around its cores. -/
def State.packageEvents (s : State) : List (State → Out) :=
  State.bootStep :: (List.range 32).flatMap (fun n => [execCollectiveStart n, execCollectiveComplete n]) ++
  (s.sched.recs.map fun r => execTaskFinish r.task.asid r.task.record.toNat) ++
  (s.xlat.records.map fun r => execFaultRecordWrite r.asid) ++ [execPageWalkComplete 0, execAckSend 0, execTlbinvDone, execHaltDrainDone, execAttestDone] ++
  s.mgmt.heldBanks.map execHoldbackEnd ++
  ((s.sched.recs.filter (·.ready)).map fun r => execImageLoadStart r.task.asid r.task.record.toNat) ++
  (if !s.power.tripped && s.sched.recs.any (fun r => r.ready || decide (s.recKind r.task.asid r.task.record = 1)) then
    (s.liveCores.filter fun n => (s.getCore n).atDrain).map selectNow else [])

/-- An event that can occur now: of the core whose turn it is, of the other cores, then of the package. -/
def State.nextInternal (s : State) : Option State :=
  match firstEvent (coreEvents s.cur) s with
  | some s1 => some s1
  | none =>
    match firstEvent ((s.others.map (·.1)).flatMap coreEvents) s with
    | some s1 => some s1
    | none => firstEvent s.packageEvents s

/-- A running core that waits lets the next event happen. -/
def State.waiting (s : State) : Bool := decide (s.core.mode = .running) && s.core.bundle.held

/-- The turn of core n. -/
def State.turn (s : State) (n : Nat) : Out :=
  let s1 := s.switchTo n
  if s.power.tripped then .fault .coreClocksStopped else if s1.core.mode = .running then s1.issue else .next s1

/-- The next core in number order that runs a task. -/
def State.nextRunning (s : State) : Option Nat :=
  let rs := (s.others.filter fun e => decide (e.2.mode = .running)).map (·.1)
  match rs.find? fun n => decide (s.cur < n) with
  | some n => some n
  | none => rs.head?

/-- The turn passes to the next core that runs a task, if there is another. -/
def State.passTurn (s : State) : State :=
  match s.nextRunning with
  | none => s
  | some n => s.switchTo n

/-- After an issue: a core that waits lets the next event happen, and the turn passes on. -/
def State.afterIssue (s : State) : State := (if s.waiting then s.nextInternal.getD s else s).passTurn

/-- Every second step, an event comes first if one can occur. -/
def State.eventDue (s : State) : Option State := if s.fresh % 2 = 0 then s.nextInternal else none

/-- What happens when the agenda is empty: after a thermal trip, an event outside the cores (R350); else an event that is due, or the current core issues, or, if it does not run, an event occurs or another core takes its turn. -/
def State.idleTurn (s : State) : Out :=
  if s.power.tripped then
    match firstEvent s.packageEvents s with
    | some s1 => .next s1
    | none => .fault .coreClocksStopped
  else
    match s.eventDue with
    | some s1 => .next s1.passTurn
    | none =>
      if s.core.mode = .running then
        match s.issue with
        | .next s1 => .next s1.afterIssue
        | o => o
      else
        match s.nextInternal with
        | some s1 => .next s1.passTurn
        | none =>
          match s.nextRunning with
          | some n => s.turn n
          | none => .next s

/-- An event of the operation table, not a word that a bundle holds. -/
def Instr.isEvent (i : Instr) : Bool :=
  match encode i with
  | none => true
  | some _ => false

/-- An event that a core's clock drives (R350). -/
def Instr.onCore (i : Instr) : Bool :=
  match i with
  | .loadLand .. | .returnQueueLand .. | .matrixCommandAccept .. | .microEnd .. | .microNop .. | .microSetm .. | .microSeti .. | .microAddi ..
  | .microBnz .. | .microJmp .. | .microLda .. | .microLdb .. | .microMac .. | .microZero .. | .microScat .. | .microAddv .. | .microChk ..
  | .microReserved .. | .stagingLoadComplete .. | .macStepComplete .. | .matrixCommandComplete .. | .copyCommandStart .. | .permitGrant ..
  | .copyGranuleWrite .. | .copyCommandComplete .. | .readyBitSet .. | .nxtreqAnswer .. | .redTranslate .. | .select .. | .planeLoadComplete ..
  | .timeSliceExpiry .. | .graceExpiry .. | .saveComplete .. | .eclipseReclaim .. | .l1Eviction .. => true
  | _ => false

/-- Time passes, and the next free value is used (R365) [log 3, log 6]. -/
def State.pass (s : State) : State :=
  { s with fresh := s.fresh + 1, mgmt := { s.mgmt with tsc := s.mgmt.tsc + BitVec.ofNat 64 (Config.elapsed s.fresh) } }

/-- One step: the head of the agenda, or what happens by itself (R6). -/
def State.advance (s : State) : Out :=
  match s.agenda with
  | [] => s.idleTurn
  | .event e :: r =>
    if Instr.isEvent e then (if s.power.tripped && Instr.onCore e then .fault .coreClocksStopped else exec e { s with agenda := r })
    else .refused .badAgenda
  | .core n :: r => if n < 576 then State.turn { s with agenda := r } n else .refused .badAgenda
  | .freeze d o q :: r => .next (State.freezeAt { s with agenda := r } d o q)
  | .mgmtRead o n :: r => .next (State.mgmtRead { s with agenda := r } o n)
  | .regError n w k :: r => if n < 576 ∧ w < 1024 ∧ k < 5 then .next (State.regError { s with agenda := r } n w k) else .refused .badAgenda
  | .readError p e :: r => State.readError { s with agenda := r } p e
  | .boot :: r => State.bootStep { s with agenda := r }

/-! ### Placing a word to fetch [log 17] -/

/-- The slot of a word's class: S, V0, M or C0; none for a header position (R26). -/
def slotOfClass (c : BitVec 4) : Option Nat :=
  if c.toNat ≤ 3 then some 0 else if c.toNat ≤ 7 then some 1 else if c = 8 then some 3 else if c = 9 then some 4
  else if c.toNat ≤ 12 then some 0 else none

/-- The bundle that holds one word: a header for its slot, then the word; a header is its own bundle. -/
def bundleOf (w : Code) : List (Nat × Code) :=
  match slotOfClass (Code.cls w) with
  | none => [(0, w)]
  | some k => [(0, BitVec.ofNat 32 (0xF * 2 ^ 28 + 2 ^ (22 + k))), (1, w)]

/-- The core whose turn it is runs a task whose next bundle holds the word: the lit plane holds it, in an open unchecked segment (R33, R89). -/
def Core.withWord (c : Core) (w : Code) : Core :=
  { c with
    mode := .running, pendTrap := none, bundle := Bundle.reset, buf := LoopBuf.reset
    lit := { c.lit with code := bundleOf w, clen := 8, poison := [], state := .loaded }
    t := { c.t with pc := c.lit.base, satPend := [], sys := { c.t.sys with preq := 0, ecl := false },
                    seg := { count := 0, crc := 0xFFFF, isOpen := true, unchk := true, expCount := 0, expSig := 0, scw := c.lit.base } } }

end Sys2Proof.Machine
end

