-- ==== Sys2Proof/Machine/Step.lean ====
section
/-! DEFINITION. One step of the package, and a word placed where it fetches next. -/

namespace Sys2Proof.Machine

/-- One step (R6). -/
def step (s : State) : Host.Outcome State Fault Refusal := s.pass.advance

/-- The state with a word stored where the next step fetches it, as the whole of its bundle [log 17]. -/
def State.withFetchWord (s : State) (nbits w : Nat) : State :=
  { s with core := s.core.withWord (BitVec.ofNat 32 (w % 2 ^ nbits)), agenda := [.core s.cur] }

end Sys2Proof.Machine
end

