-- ==== Sys2Proof/Safety.lean ====
section
/-! DEFINITION. What the claims say of a step: when it goes on, what an invariant is, what a register holds, and what an instruction leaves unchanged. -/

-- Elaborated in order: the package as one text then needs few threads.
set_option Elab.async false

namespace Sys2Proof.Machine

/-! ### Steps and invariants -/

/-- The step answers a next state: it is neither a fault nor a refusal. -/
def State.goesOn (s : State) : Prop := ∃ t, step s = .next t

/-- A property that every step keeps, wherever it starts. -/
def Kept (p : State → Prop) : Prop := ∀ s t, p s → step s = .next t → p t

/-- Memory is in canonical form: its cells stand in rising order of address, and none holds what an unlisted byte reads as [log 2]. -/
def State.memWf (s : State) : Prop := s.mem.wf = true

/-- The outcome is a next state of which a property holds. -/
def Answers (o : Out) (p : State → Prop) : Prop := ∃ t, o = .next t ∧ p t

/-! ### What there is to observe -/

/-- What a program reads at a byte of physical memory under a key slot. -/
def State.readByte (s : State) (slot pa : Nat) : Byte := s.mem.byte slot pa

/-- Every byte of memory reads as before. -/
def SameMemory (s t : State) : Prop := ∀ slot pa, t.readByte slot pa = s.readByte slot pa

/-- The content of a scalar register; x0 holds zero (R10). -/
def State.xNow (s : State) (r : BitVec 6) : Word := if r = 0 then 0 else fileGet s.core.t.x r

/-- The content of a predicate register; p0 holds all ones (R12). -/
def State.pNow (s : State) (r : BitVec 4) : Pred := if r = 0 then BitVec.allOnes 256 else fileGet s.core.t.p r

/-! ### Frames -/

/-- Besides the scalar registers of a set, with the latency of their results, nothing changes: no other register, flag, special register, accumulator, exception register, and no byte of memory. -/
def OnlyX (ds : List (BitVec 6)) (s t : State) : Prop :=
  t = { s with core := { s.core with t := { s.core.t with x := t.core.t.x, sb := t.core.t.sb } } } ∧
  t.core.t.sb = { s.core.t.sb with landX := t.core.t.sb.landX, nxt := t.core.t.sb.nxt } ∧
  (∀ r, r ∉ ds → t.xNow r = s.xNow r ∧ fileGet t.core.t.sb.landX r = fileGet s.core.t.sb.landX r) ∧ SameMemory s t

/-- Besides one predicate register, with the latency of its result, nothing changes. -/
def OnlyP (p : BitVec 4) (s t : State) : Prop :=
  t = { s with core := { s.core with t := { s.core.t with p := t.core.t.p, sb := t.core.t.sb } } } ∧
  t.core.t.sb = { s.core.t.sb with landP := t.core.t.sb.landP } ∧
  (∀ r, r ≠ p → t.pNow r = s.pNow r ∧ fileGet t.core.t.sb.landP r = fileGet s.core.t.sb.landP r) ∧ SameMemory s t

/-- Besides one vector register, with the latency of its result and the poison of its own words, nothing changes. -/
def OnlyV (d : BitVec 5) (s t : State) : Prop :=
  t = { s with core := { s.core with t := { s.core.t with v := t.core.t.v, sb := t.core.t.sb, regPoison := t.core.t.regPoison } } } ∧
  t.core.t.sb = { s.core.t.sb with landV := t.core.t.sb.landV } ∧
  (∀ r, r ≠ d → t.curV r = s.curV r) ∧ SameMemory s t ∧
  ∀ w, (w ∈ t.core.t.regPoison → w ∈ s.core.t.regPoison) ∧ (w ∈ s.core.t.regPoison → w / 32 ≠ (physV s.core.old.vrb d).toNat → w ∈ t.core.t.regPoison)

/-- Memory and registers are as before: only the bundle in issue changes. -/
def OnlyBundle (s t : State) : Prop := t = { s with core := { s.core with bundle := t.core.bundle } } ∧ SameMemory s t

/-! ### Results -/

/-- A scalar result of latency n: the register holds the value, x0 keeps zero, and nothing else changes. -/
def GivesX (d : BitVec 6) (v : Word) (n : Nat) (s t : State) : Prop :=
  t.xNow d = (if d = 0 then 0 else v) ∧ (d ≠ 0 → fileGet t.core.t.sb.landX d = s.core.t.sb.cyc + n) ∧ OnlyX [d] s t

/-- A predicate result, visible from the next bundle; p0 keeps all ones. -/
def GivesP (p : BitVec 4) (v : Pred) (s t : State) : Prop :=
  t.pNow p = (if p = 0 then BitVec.allOnes 256 else v) ∧ (p ≠ 0 → fileGet t.core.t.sb.landP p = s.core.t.sb.cyc + 1) ∧ OnlyP p s t

/-- A vector result of latency n: each active lane holds its value, each inactive lane what it held (R30). -/
def GivesV (g : Pred) (w : Width) (d : BitVec 5) (f : Nat → Nat) (n : Nat) (s t : State) : Prop :=
  (∀ l < Width.lanes w, lane (Width.bits w) (t.curV d) l =
    if active w g l then f l % 2 ^ Width.bits w else lane (Width.bits w) (s.curV d) l) ∧
  ((∃ l < Width.lanes w, active w g l = true) → fileGet t.core.t.sb.landV (physV s.core.old.vrb d) = s.core.t.sb.cyc + n) ∧ OnlyV d s t

/-- A guarded instruction whose effect on a scalar register is a value (R30): with lane 0 of its guard clear, nothing happens. -/
def ResultX (g : BitVec 4) (d : BitVec 6) (v : Word) (n : Nat) (s : State) (o : Out) : Prop :=
  if s.guard g then Answers o (GivesX d v n s) else o = .next s

/-- A guarded instruction whose effect on a predicate register is a value. -/
def ResultP (g p : BitVec 4) (v : Pred) (s : State) (o : Out) : Prop :=
  if s.guard g then Answers o (GivesP p v s) else o = .next s

/-- A vector instruction whose effect is a value in each lane of a register. -/
def ResultV (g : BitVec 4) (w : Width) (d : BitVec 5) (f : Nat → Nat) (n : Nat) (s : State) (o : Out) : Prop :=
  Answers o (GivesV (s.rdP g) w d f n s)

/-- An instruction that takes a precise exception: the bundle is nullified, and the exception is the one named (R31). -/
def Traps (e : Exc) (s : State) (o : Out) : Prop := o = .next (s.raise e)

/-! ### Performed writes -/

/-- Nothing in the core's L1 can be held up on its way to another package (R324). -/
def L1Here (s : State) : Prop := ∀ l ∈ s.core.l1, l.pkg = none ∨ l.dirty = 0

/-- Every store of the core is performed once its L1 is written back: none is on its way to another package (R200, R240). -/
def Performed (s : State) : Prop := s.writesDue = false ∧ L1Here s

/-! ### Turns -/

/-- What a core's turn ends with when the agenda is empty: a bounded wait may end, a core that waits lets the next event happen, and the turn passes on [log 5]. -/
def State.afterTurn (s : State) : State := s.endWait.afterIssue

/-- An event at core c occurs: the outcome is a next state, of which a property holds as that core sees it. -/
def Occurs (c : Nat) (s : State) (o : Out) (p : State → Prop) : Prop := c < 576 → ∃ t, o = .next (t.switchTo s.cur) ∧ p t

/-! ### Scalar memory -/

/-- n bytes of physical memory under a key slot as one number, the lowest address first (R2). -/
def State.little (s : State) (slot pa n : Nat) : Nat := leNat ((List.range n).map fun i => s.readByte slot (pa + i))

/-- The fault of the executing slot with a cause, a field and an address. -/
def State.slotExc (s : State) (c : Cause) (opnd : BitVec 3) (a : VAddr) : Exc :=
  { cause := c, slot := BitVec.ofNat 3 s.core.bundle.slot, opnd, addr := a }

/-- An aligned read of n unpoisoned bytes in the own window, at a place of memory. -/
def OwnRead (s : State) (ea : Word) (n : Nat) (l : Loc) : Prop :=
  ea.toNat % n = 0 ∧ s.xlate (some s.cur) s.core.t.id.asid (vaOf ea) needR = .ok l ∧ s.ownWindow (vaOf ea) = true ∧ s.mem.poisoned l.pa n = false

/-- An instruction is a load of n bytes from the own window, converted by f. -/
def OwnLoad (i : Instr) (g : BitVec 4) (t b : BitVec 6) (o : BitVec 8) (n : Nat) (f : Nat → Word) : Prop :=
  ∀ (s : State) (l : Loc), OwnRead s (s.ea b o n) n l → ResultX g t (f (s.little l.key l.pa n)) 4 s (exec i s)

/-- What a store of the low n bytes of v at a place of memory leaves (R71, R307). -/
def StoredAt (s : State) (l : Loc) (n v : Nat) (u : State) : Prop :=
  u = { s with mem := u.mem, xlat := { s.xlat with records := u.xlat.records } } ∧
  (∀ slot a, ¬(l.pa ≤ a ∧ a < l.pa + n) → u.readByte slot a = s.readByte slot a) ∧
  (s.mem.storeDiscards l.pa n = false → u.xlat.records = s.xlat.records ∧
    ∀ k < n, u.readByte l.key (l.pa + k) = BitVec.ofNat 8 (v / 256 ^ k)) ∧
  (s.mem.storeDiscards l.pa n = true → u.xlat.records.length = s.xlat.records.length + 1)

/-- An instruction is a store of n bytes to the own window. -/
def OwnStore (i : Instr) (g : BitVec 4) (b : BitVec 6) (o : BitVec 8) (n : Nat) (v : State → Nat) : Prop :=
  ∀ (s : State) (l : Loc), (s.ea b o n).toNat % n = 0 → s.xlate (some s.cur) s.core.t.id.asid (vaOf (s.ea b o n)) needW = .ok l →
    s.ownWindow (vaOf (s.ea b o n)) = true →
    if s.guard g then Answers (exec i s) (StoredAt s l n (v s)) else exec i s = .next s

/-- Byte k of n bytes at a place of memory as the core's loads see it: its L1 line's where the line holds all of them or the core stored it, else its home's (R75, R240). -/
def State.seenByte (s : State) (l : Loc) (n k : Nat) : Byte :=
  match l1Find s.core.l1 l with
  | none => s.readByte l.key (l.pa + k)
  | some o =>
    if o.present &&& maskBits (l.pa % 64) n = maskBits (l.pa % 64) n ∨ o.dirty.getLsbD (l.pa % 64 + k) = true then lineByte o.data (l.pa % 64 + k)
    else s.readByte l.key (l.pa + k)

/-- A place of n far bytes in one line of this package. -/
def FarPlace (s : State) (ea : Word) (n : Nat) (need : Need) (l : Loc) : Prop :=
  ea.toNat % n = 0 ∧ s.xlate (some s.cur) s.core.t.id.asid (vaOf ea) need = .ok l ∧ s.ownWindow (vaOf ea) = false ∧ l.pkg = none ∧ l.pa % 64 + n ≤ 64

/-- No poison in a line, nor in the core's copy of it. -/
def CleanLine (s : State) (l : Loc) : Prop :=
  (∀ k < 64, s.mem.poisoned (l.pa / 64 * 64 + k) 1 = false) ∧ ∀ o, l1Find s.core.l1 l = some o → o.poison = 0

/-- Memory changes at most in the line that leaves the L1 for one that is put into it (R240). -/
def OnlyVictim (s : State) (l : Loc) (u : State) : Prop :=
  ∀ slot a, (∀ o, s.l1Victim l.pkg (l.pa / 64) = some o → o.pkg = none → a / 64 ≠ o.line) → u.readByte slot a = s.readByte slot a

/-- An instruction is a load of n bytes from a far place, for which the L1 has a place; its result is pending (R59). -/
def FarLoad (i : Instr) (g : BitVec 4) (t b : BitVec 6) (o : BitVec 8) (n : Nat) (f : Nat → Word) : Prop :=
  ∀ (s : State) (l : Loc), FarPlace s (s.ea b o n) n needR l → CleanLine s l → s.l1Stuck l = false →
    if s.guard g then
      Answers (exec i s) fun u =>
        (∃ q w, u.core.t.sb.far = s.core.t.sb.far ++ [q] ∧ q.val = .x t w ∧
          signFrom q.ext w = f (leNat ((List.range n).map (s.seenByte l n)))) ∧
        u.core.t = { s.core.t with sb := { s.core.t.sb with far := u.core.t.sb.far } } ∧ OnlyVictim s l u
    else exec i s = .next s

/-- An instruction is a store of n bytes to a far place, for which the L1 has a place: they are dirty bytes of the L1 line, and the core's own load sees them (R75, R240). -/
def FarStore (i : Instr) (g : BitVec 4) (b : BitVec 6) (o : BitVec 8) (n : Nat) (v : State → Nat) : Prop :=
  ∀ (s : State) (l : Loc), FarPlace s (s.ea b o n) n needW l → s.l1Stuck l = false →
    if s.guard g then
      Answers (exec i s) fun u =>
        u.core.t = s.core.t ∧ OnlyVictim s l u ∧
        (∃ q, l1Find u.core.l1 l = some q ∧ ∀ k < n, lineByte q.data (l.pa % 64 + k) = BitVec.ofNat 8 (v s / 256 ^ k) ∧
          q.dirty.getLsbD (l.pa % 64 + k) = true) ∧
        (u.xlate (some u.cur) u.core.t.id.asid (vaOf (s.ea b o n)) needR = .ok l → ∃ q, u.load (vaOf (s.ea b o n)) n 1 0 0xFFFF = .ok q ∧
          leNat q.bytes = v s % 256 ^ n)
    else exec i s = .next s

/-- A packet has joined its flow, whose next sequence number it carries, and waits there to be acknowledged (R323, R324). -/
def Sends (s : State) (sp : PacketSpec) (u : State) : Prop :=
  let f := s.srcFlow sp.eng sp.dst sp.tc; let h := u.srcFlow sp.eng sp.dst sp.tc
  h.next = f.next + 1 ∧ ∃ q order dirs, h.descs = f.descs ++ [q] ∧ q.seq = f.next ∧ q.packet = mkPacket s.pkgId sp f.next f.rseq order dirs false

/-- An access of n bytes whose home is in package p, which is not lost (R330). -/
def RemotePlace (s : State) (ea : Word) (n : Nat) (need : Need) (l : Loc) (p : Nat) : Prop :=
  ea.toNat % n = 0 ∧ s.xlate (some s.cur) s.core.t.id.asid (vaOf ea) need = .ok l ∧ s.ownWindow (vaOf ea) = false ∧ l.pkg = some p ∧
  s.fabric.lost.contains p = false

/-- An instruction is a load of n bytes whose home is in another package: where the L1 holds nothing of the line and none is on its way, it sends a READ of the line, and its result waits for that answer (R59, R240, R323). -/
def RemoteLoad (i : Instr) (g : BitVec 4) (val : FarVal) (b : BitVec 6) (o : BitVec 8) (n : Nat) : Prop :=
  ∀ (s : State) (l : Loc) (p : Nat), RemotePlace s (s.ea b o n) n needR l p → l1Find s.core.l1 l = none →
    (∀ f ∈ s.core.fills, f.keep = true → ¬(f.pkg = p ∧ f.line = l.pa / 64)) → s.flowFull s.netEng p 0 = false → s.core.bundle.firm = false →
    if s.guard g then
      Answers (exec i s) fun u =>
        Sends s { type := 1, tc := 0, eng := s.netEng, dst := p, asid := s.core.t.id.asid, key := l.key, pa := l.pa / 64 * 64, len := 64 } u ∧
        (∃ q k, u.core.t.sb.far = s.core.t.sb.far ++ [q] ∧ q.val = val ∧ q.parts = [k] ∧ k.pkg = p ∧ k.seq = (s.srcFlow s.netEng p 0).next ∧
          k.off = l.pa % 64) ∧
        u.core.t = { s.core.t with sb := { s.core.t.sb with far := u.core.t.sb.far } } ∧ SameMemory s u
    else exec i s = .next s

/-- The scalar loads at base plus scaled offset, with their sizes (R71, R72). -/
def loadsOf (g : BitVec 4) (t b : BitVec 6) (o : BitVec 8) : List (Instr × Nat) :=
  [(.ldb g t b o, 1), (.ldbu g t b o, 1), (.ldh g t b o, 2), (.ldhu g t b o, 2), (.ldw g t b o, 4), (.ldwu g t b o, 4), (.ldd g t b o, 8), (.ldq g t b o, 16)]

/-- The scalar stores at base plus scaled offset, with their sizes (R71 to R73). -/
def storesOf (g : BitVec 4) (t b : BitVec 6) (o : BitVec 8) : List (Instr × Nat) :=
  [(.stb g t b o, 1), (.sth g t b o, 2), (.stw g t b o, 4), (.std g t b o, 8), (.stq g t b o, 16), (.zln g b o, 64)]

/-- The returning atomics of a size at the address in a (R212). -/
def atomicsOf (g : BitVec 4) (z : BitVec 2) (d a b : BitVec 6) : List Instr :=
  [.aadd g z d a b, .amin g z d a b, .amax g z d a b, .aminu g z d a b, .amaxu g z d a b, .aand g z d a b, .aor g z d a b, .axor g z d a b,
   .aswap g z d a b, .acas g z d a b, .aadds g z d a b]

/-- The reductions of a size at the address in a (R212). -/
def reductionsOf (g : BitVec 4) (z : BitVec 2) (a b : BitVec 6) : List Instr :=
  [.redadd g z a b, .redmin g z a b, .redmax g z a b, .redadds g z a b, .redor g z a b]

/-- How an access of an aligned address fails before it does anything: what the translation answers, the cause, and the status of its kind-4 record (R74, R235, R296). -/
def xlFailures : List (Xl × Cause × Option Status) :=
  [(.miss, .translation, none), (.refused, .protection, none), (.forbidden, .protection, some .protection), (.poisoned, .poison, some .poison)]

/-! ### Control -/

/-- A loop level has started: its registers, the stage predicates with when they may be read, and where the bundle leads (R81, R87). -/
def StartsLoop (s : State) (k : BitVec 2) (lb : VAddr) (len : BitVec 9) (lc : Nat) (r : Redirect) (p : File 4 Pred) (landP : File 4 Nat) (u : State) :
    Prop :=
  u = { s with core := { s.core with
    bundle := { s.core.bundle with redirect := r }
    t := { s.core.t with
      p, sb := { s.core.t.sb with landP }
      loop := { s.core.t.loop with
        lc := s.core.t.loop.lc.set (levelOf k) (BitVec.ofNat 32 lc), lb := s.core.t.loop.lb.set (levelOf k) lb,
        ln := s.core.t.loop.ln.set (levelOf k) len, valid := u.core.t.loop.valid } } } } ∧ SameMemory s u

/-! ### Vectors -/

/-- A vector result, and the bundle in issue as the instruction leaves it (its counts, census values and random words). -/
def ResultVB (g : BitVec 4) (w : Width) (d : BitVec 5) (f : Nat → Nat) (n : Nat) (b : Bundle) (s : State) (o : Out) : Prop :=
  Answers o fun t => t.core.bundle = b ∧ GivesV (s.rdP g) w d f n s { t with core := { t.core with bundle := s.core.bundle } }

/-- An instruction that changes nothing but the completion state's return queue. -/
def OnlyReturnQueue (s t : State) : Prop :=
  t = { s with core := { s.core with t := { s.core.t with comp := { s.core.t.comp with rq := t.core.t.comp.rq } } } } ∧ SameMemory s t

/-- The active lanes of a width under a guard. -/
def State.lanesOf (s : State) (g : BitVec 4) (w : Width) : List Nat := activeLanes w (s.rdP g)

/-- The place of a byte of the current core's local window. -/
def State.windowLoc (s : State) (off : Nat) : Loc := { pkg := none, pa := spAddr s.cur off, key := 0 }

/-- A vector load whose active elements all lie in the own window, at places of memory. -/
def VecLoad (i : Instr) (g : BitVec 4) (w : Width) (d : BitVec 5) (addr : Nat → Word) (s : State) : Prop :=
  ∀ loc : Nat → Loc, (∀ l ∈ s.lanesOf g w, OwnRead s (addr l) (Width.bytes w) (loc l)) →
    ResultV g w d (fun l => s.little (loc l).key (loc l).pa (Width.bytes w)) 6 s (exec i s)

/-- What a vector store to the local window leaves: each element's bytes, where no later element overlaps them (R128). -/
def ElemsStored (s : State) (on : List Nat) (e : Nat) (off val : Nat → Nat) (u : State) : Prop :=
  u = { s with mem := u.mem, xlat := { s.xlat with records := u.xlat.records } } ∧
  (∀ slot a, (∀ l ∈ on, ¬(spAddr s.cur (off l) ≤ a ∧ a < spAddr s.cur (off l) + e)) → u.readByte slot a = s.readByte slot a) ∧
  (s.mem.poison = [] → u.xlat.records = s.xlat.records ∧ ∀ l ∈ on, ∀ k < e,
    (∀ j ∈ on, l < j → ¬(off j ≤ off l + k ∧ off l + k < off j + e)) →
      u.readByte 0 (spAddr s.cur (off l) + k) = BitVec.ofNat 8 (val l / 256 ^ k))

/-- A vector store whose active elements all lie in the local window. -/
def VecStore (i : Instr) (g : BitVec 4) (w : Width) (addr : Nat → Word) (val : Nat → Nat) (s : State) : Prop :=
  ∀ off : Nat → Nat, (∀ l ∈ s.lanesOf g w, (addr l).toNat % Width.bytes w = 0 ∧ placeOf (vaOf (addr l)) = .window (off l)) →
    Answers (exec i s) (ElemsStored s (s.lanesOf g w) (Width.bytes w) off val)

/-! ### Engines and objects -/

/-- How a vector access at the addresses of its active elements, in ascending order, fails: the first element that is not fine is the one reported, with its address, and those below it are fine, which is said here of elements in the own window (R130). -/
def VecFaults (i : Instr) (on : List Nat) (n al : Nat) (addr : Nat → Word) (wr : Bool) (s : State) : Prop :=
  let need := if wr then needW else needR
  let exc (c : Cause) (f : BitVec 3) (l : Nat) (r : Option Status) : Exc :=
    { s.slotExc c f (vaOf (addr l)) with elem := BitVec.ofNat 16 l, wr, rec4 := r }
  let fine (l : Nat) : Prop := (addr l).toNat % al = 0 ∧ ∃ loc, s.xlate (some s.cur) s.core.t.id.asid (vaOf (addr l)) need = .ok loc ∧
    s.ownWindow (vaOf (addr l)) = true ∧ (wr = false → s.mem.poisoned loc.pa n = false)
  ∀ k l, on[k]? = some l → (∀ j ∈ on.take k, fine j) →
    ((addr l).toNat % al ≠ 0 → Traps (exc .misaligned 1 l none) s (exec i s)) ∧
    ((addr l).toNat % al = 0 →
      (∀ r ∈ xlFailures, s.xlate (some s.cur) s.core.t.id.asid (vaOf (addr l)) need = r.1 → Traps (exc r.2.1 1 l r.2.2) s (exec i s)) ∧
      (∀ loc, wr = false → s.xlate (some s.cur) s.core.t.id.asid (vaOf (addr l)) need = .ok loc → s.ownWindow (vaOf (addr l)) = true →
        s.mem.poisoned loc.pa n = true → Traps (exc .poison 0 l none) s (exec i s)))

/-- The ECC word that holds a lane of a register was poisoned as the bundle found it (R146). -/
def State.badLane (s : State) (w : Width) (r : BitVec 5) (l : Nat) : Prop :=
  32 * (physV s.core.old.vrb r).toNat + Width.bytes w * l / 8 ∈ s.core.undo.regPoison

/-- No word that holds an active lane of these registers is poisoned (R146). -/
def State.cleanLanes (s : State) (g : BitVec 4) (w : Width) (rs : List (BitVec 5)) : Prop := ∀ l ∈ s.lanesOf g w, ∀ r ∈ rs, ¬s.badLane w r l

/-- A routine instruction whose sources are given by operand number, field and name raises POISON: for the lowest active lane with a poisoned word, and in it for the first such source (R146). -/
def PoisonedSource (i : Instr) (g : BitVec 4) (w : Width) (srcs : List (Nat × BitVec 3 × BitVec 5)) (s : State) : Prop :=
  ∀ l ∈ s.lanesOf g w, ∀ o ∈ srcs, s.badLane w o.2.2 l → (∀ j ∈ s.lanesOf g w, j < l → ∀ q ∈ srcs, ¬s.badLane w q.2.2 j) →
    (∀ q ∈ srcs, s.badLane w q.2.2 l → o.1 ≤ q.1) →
    Traps { s.slotExc .poison o.2.1 (BitVec.ofNat 55 (2 ^ 54 + 1024 * o.1 + 32 * (physV s.core.old.vrb o.2.2).toNat + Width.bytes w * l / 8)) with
            elem := BitVec.ofNat 16 l } s (exec i s)

/-- The registers of the task are as before. -/
def KeepsRegs (s u : State) : Prop :=
  u.core.t.x = s.core.t.x ∧ u.core.t.v = s.core.t.v ∧ u.core.t.p = s.core.t.p ∧ u.core.t.sys = s.core.t.sys ∧ u.core.t.ts = s.core.t.ts ∧
  u.core.t.loop = s.core.t.loop

/-- The current core's task with one matrix engine replaced. -/
def State.withMe (s : State) (e : Bool) (m : MatEngine) : State := { s with core := { s.core with t := s.core.t.setMe e m } }

/-- A command has joined a matrix engine's queue with its snapshot (R154). -/
def QueuedMat (e : Bool) (k : MatKind) (a b : Word) (pair spec : Bool) (s u : State) : Prop :=
  let m := s.core.t.me e
  ∃ c : MatCmd, c.kind = k ∧ c.a = a ∧ c.b = b ∧ c.pair = pair ∧ c.seq = s.core.t.nextSeq ∧ c.mp = m.mp ∧ c.mfmt = m.mfmt ∧ c.srctr = s.rndCounter ∧
    c.bundle = s.core.bundle.header ∧ c.image = s.core.lit.image ∧
    u.core.t.me e = { m with queue := m.queue ++ [c], drained := false, mdrained := false, specIssue := spec } ∧
    u.core.t.me (!e) = (if pair then (s.core.t.me (!e)).push c else s.core.t.me (!e)) ∧
    u.core.t.nextSeq = s.core.t.nextSeq + 1 ∧ (∃ h, u.core.t.haz = s.core.t.haz ++ [h] ∧ h.seq = s.core.t.nextSeq ∧ h.eng = if e then 1 else 0) ∧
    u.core.t.ce0 = s.core.t.ce0 ∧ u.core.t.ce1 = s.core.t.ce1 ∧ KeepsRegs s u ∧ SameMemory s u

/-- The completion state after a command has taken its tag: held, its ctb and cte bits clear (R184). -/
def TookTag (t : Option (BitVec 6)) (s u : State) : Prop :=
  let a := s.core.t.comp; let b := u.core.t.comp
  b.rq = a.rq ∧ ∀ i : Fin 64, let mine := decide (t = some (BitVec.ofNat 6 i.val))
    b.held.getLsbD i = (a.held.getLsbD i || mine) ∧ b.ctb.getLsbD i = (a.ctb.getLsbD i && !mine) ∧ b.cte.getLsbD i = (a.cte.getLsbD i && !mine)

/-- A command has joined a copy engine's queue with its snapshot (R174). -/
def QueuedCopy (e : Bool) (k : CopyKind) (ctl opr : Word) (addS addD : Bool) (tag : Option (BitVec 6)) (s u : State) : Prop :=
  let q := s.core.t.ce e
  ∃ c : CopyCmd, c.kind = k ∧ c.ctl = ctl ∧ c.opr = opr ∧ c.addS = addS ∧ c.addD = addD ∧ c.seq = s.core.t.nextSeq ∧ c.geo = q.geo ∧
    c.slot = s.core.bundle.slot ∧ c.bundle = s.core.bundle.header ∧ c.image = s.core.lit.image ∧ c.srctr = s.rndCounter ∧
    u.core.t.ce e = { q with queue := q.queue ++ [c] } ∧ u.core.t.ce (!e) = s.core.t.ce (!e) ∧
    u.core.t.nextSeq = s.core.t.nextSeq + 1 ∧ (∃ h, u.core.t.haz = s.core.t.haz ++ [h] ∧ h.seq = s.core.t.nextSeq ∧ h.eng = if e then 3 else 2) ∧
    u.core.t.me0 = s.core.t.me0 ∧ u.core.t.me1 = s.core.t.me1 ∧ TookTag tag s u ∧ KeepsRegs s u ∧ SameMemory s u

/-- A far scalar is pending, and no register has changed yet (R59). -/
def FarX (d : BitVec 6) (v : Word) (s u : State) : Prop :=
  (∃ q, u.core.t.sb.far = s.core.t.sb.far ++ [q] ∧ q.val = .x d v ∧ q.ext = 0) ∧ KeepsRegs s u

/-- Memory changes only at n bytes of one line; other key slots' view of that line aside (R2, R361). -/
def ChangedOnly (s : State) (l : Loc) (n : Nat) (u : State) : Prop :=
  (∀ slot a, a / 64 ≠ l.pa / 64 → u.readByte slot a = s.readByte slot a) ∧
  ∀ a, ¬(l.pa ≤ a ∧ a < l.pa + n) → u.readByte l.key a = s.readByte l.key a

/-- A returning atomic on memory of this package that no reduction of the core still waits to reach: its new value there, its old one pending (R212, R215). -/
def LocalAtomic (i : Instr) (g : BitVec 4) (z : BitVec 2) (d a b : BitVec 6) (f : Nat → Nat → Nat → Nat → Nat) : Prop :=
  ∀ (s : State) (l : Loc), let k := amoBytes z
    let v := (if k = 16 then (s.rdPair b).toNat else (s.rdX b).toNat) % 2 ^ (8 * k)
    let c := (if k = 16 then (s.rdPair d).toNat else (s.rdX d).toNat) % 2 ^ (8 * k)
    s.guard g = true → (s.rdX a).toNat % k = 0 → s.redsTo (vaOf (s.rdX a)) k = false → s.xlate (some s.cur) s.core.t.id.asid (vaOf (s.rdX a)) needRW = .ok l → l.pkg = none →
    s.mem.poisoned l.pa k = false → l.pa % 64 + k ≤ 64 → let m := s.little l.key l.pa k
    Answers (exec i s) fun u => u.little l.key l.pa k = f (8 * k) m v c ∧ ChangedOnly s l k u ∧ KeepsRegs s u ∧
      ∃ q, u.core.t.sb.far = s.core.t.sb.far ++ [q] ∧
        if k = 16 then q.val = .pair d (BitVec.ofNat 128 m)
        else ∃ w, q.val = .x d w ∧ signFrom q.ext w = if k = 4 then BitVec.ofInt 64 (sgn 32 m) else BitVec.ofNat 64 m

/-- The home of a task record that a task-class instruction may use: in ring memory or DRAM of this package, without poison (R216). -/
def RecordHere (s : State) (x : Word) (l : Loc) : Prop :=
  x.toNat % 128 = 0 ∧ scratchpadVa (vaOf x) = false ∧ s.blockAt (vaOf x) = .ok l ∧ l.pkg = none ∧ l.pa < spBase ∧ s.mem.poisoned l.pa 128 = false

/-! ### Engines at work -/

/-- The running call of a matrix engine stands at a word of an operation that may execute (R161, R162). -/
def MicroAt (s : State) (e : Bool) (op : Nat) (r : MatRun) (w : BitVec 64) : Prop :=
  (s.core.t.me e).run = some r ∧ r.cmd.kind.isCall = true ∧ r.going = true ∧ r.pt.pos < 1024 ∧ w = s.core.lit.microAt r.pt.pos ∧ mwOp w = op ∧
  s.core.lit.poison.contains (microEcc r.pt.pos) = false ∧ r.badWord s.core.lit w = false ∧ s.core.eclipsing = false

/-- The call has moved to a point of its routine, and nothing outside the engine has changed. -/
def MovesTo (e : Bool) (r : MatRun) (pt : SeqPoint) (s u : State) : Prop :=
  (∃ q, (u.core.t.me e).run = some q ∧ q.pt = pt ∧ q.cmd = r.cmd ∧ q.ended = none) ∧ u.core.t.me (!e) = s.core.t.me (!e) ∧ KeepsRegs s u ∧
  SameMemory s u ∧ u.core.t.haz = s.core.t.haz ∧ u.core.t.comp = s.core.t.comp

/-- The call has ended with a status and waits for its completion. -/
def EndsWith (e : Bool) (r : MatRun) (st : Status) (s u : State) : Prop :=
  (∃ q, (u.core.t.me e).run = some q ∧ q.ended = some st ∧ q.cmd = r.cmd) ∧ KeepsRegs s u ∧ SameMemory s u

/-- An element lies in the C region of a call. -/
def InRegion (d : Dims) (row col : Nat) : Prop := d.crow ≤ row ∧ row < d.crow + d.m ∧ d.ccol ≤ col ∧ col < d.ccol + d.n

/-! ### Copies and collectives -/

/-- Byte k at a place as an engine of the core reads it: the core's own stored byte, else its home's (R192, R240). -/
def State.engByte (s : State) (l : Loc) (k : Nat) : Byte :=
  match l1Find s.core.l1 l with
  | none => s.readByte l.key (l.pa + k)
  | some o => if o.dirty.getLsbD (l.pa % 64 + k) then lineByte o.data (l.pa % 64 + k) else s.readByte l.key (l.pa + k)

/-- n bytes of one line of this package, without poison, that an access of the running task may use. -/
def LinePlace (s : State) (va : VAddr) (n : Nat) (need : Need) (l : Loc) : Prop :=
  s.xlate (some s.cur) s.core.t.id.asid va need = .ok l ∧ l.pkg = none ∧ s.mem.poisoned l.pa n = false ∧ va.toNat % 64 + n ≤ 64 ∧ l.pa % 64 + n ≤ 64

/-- A copy engine with nothing held up: no save, no eclipse, no miss. -/
def CopyGoes (s : State) (r : CopyRun) : Prop := s.core.saving = false ∧ s.core.eclipsing = false ∧ r.missing = none

/-- The running command of a copy engine is in flight with a status, and the engine is free; nothing else of the core has changed. -/
def InFlight (e : Bool) (q : CopyCmd) (st : Status) (s u : State) : Prop :=
  (u.core.t.ce e).run = none ∧ (∃ f, (u.core.t.ce e).flight = (s.core.t.ce e).flight ++ [f] ∧ f.run.cmd = q ∧ f.status = st) ∧
  u.core.t.ce (!e) = s.core.t.ce (!e) ∧ u.core.t.haz = s.core.t.haz ∧ u.core.t.comp = s.core.t.comp ∧ KeepsRegs s u

/-! ### Faults and the scheduler -/

/-- The core runs no task, is free of reservations and early choices, and has nothing in its L1. -/
def Core.free (c : Core) : Prop := c.mode = .idle ∧ c.reserved = none ∧ c.prefetch = none ∧ c.l1 = []

/-- The running cores of a task, as they were and as they are. -/
def OnTask (id : TaskId) (s u : State) (p : Core → Core → Prop) : Prop :=
  ∀ n ∈ s.liveCores, (s.getCore n).mode ≠ .idle → (s.getCore n).t.id = id → p (s.getCore n) (u.getCore n)

/-- The verdict event for a page of a context that gives a verdict. -/
def IsVerdict (a p : Nat) (i : Instr) (v : Verdict) : Prop :=
  (i = .verdictRetry a p ∧ v = .retry) ∨ (i = .verdictTranslation a p ∧ v = .deny .translation) ∨
  (i = .verdictProtection a p ∧ v = .deny .protection) ∨ (i = .verdictDrop a p ∧ v = .drop)

/-! ### Packets, records and the host -/

/-- A sound packet of a type for this package, from a package not lost, next in its flow, at a port that exists; nothing of its flow is held, and fewer than seven deliveries wait for their ACK (R323, R325). -/
def InOrder (s : State) (n type : Nat) (p : Packet) : Prop :=
  n < 148 ∧ p.sound = true ∧ p.type = type ∧ p.dst = s.pkgId ∧ s.fabric.lost.contains p.src = false ∧
  (let f := s.dstFlow p.eng p.src p.tc
   p.seq = f.next ∧ f.held = [] ∧ f.unacked < 7)

/-- The packet has been delivered: its flow expects the next sequence number and owes one more acknowledgement. -/
def Delivered (p : Packet) (s u : State) : Prop :=
  (u.dstFlow p.eng p.src p.tc).next = p.seq + 1 ∧ (u.dstFlow p.eng p.src p.tc).unacked = (s.dstFlow p.eng p.src p.tc).unacked + 1

/-- The place in memory that a packet names: n bytes of one line that exists, without poison. -/
def PacketPlace (s : State) (p : Packet) (n : Nat) : Prop := s.physOk p.pa = true ∧ s.mem.poisoned p.pa n = false ∧ p.pa % 64 + n ≤ 64

/-- The same place as a home. -/
def placeFor (p : Packet) : Loc := { pkg := none, pa := p.pa, key := p.key }

/-- A management write is counted as an error, and nothing else happens (R358, R360). -/
def OnlyError (s u : State) : Prop := u = { s with mgmt := { s.mgmt with errcnt := s.mgmt.errcnt + 1 } }

/-- A management event that is refused before the package is ready, and otherwise has an effect. -/
def WhenReady (s : State) (o : Out) (p : State → Prop) : Prop := Answers o fun u => if s.mgmtOpen then p u else OnlyError s u

/-- Afterglow of a die has recorded one more event (R352). -/
def Recorded (d type : Nat) (s u : State) : Prop :=
  (s.glowOf d).state = .recording → ∃ r, (u.glowOf d).records = mapPut (s.glowOf d).records ((s.glowOf d).seq.toNat % 4096) r ∧
    r.type.toNat = type ∧ r.seq = (s.glowOf d).seq ∧ r.time = s.mgmt.tsc ∧ (u.glowOf d).seq = (s.glowOf d).seq + 1

end Sys2Proof.Machine
end

