-- ==== Sys2Proof/Certificates/Slice0/Obligations.lean ====
section
/-! DEFINITION. The statements for the provers. -/

-- Elaborated in order: the package as one text then needs few threads.
set_option Elab.async false

open Sys2Proof Sys2Proof.Machine

/-- O1. Decoding the word of a well-formed instruction gives the instruction back (R25, R27, R35, R36, R37, R38, R39, R40, R41, R42, R44). For every well-formed instruction, with every operand at every value its encoding admits, the word that the encoder writes decodes to exactly that instruction. Only an event of the operation table has no word. -/
def Obligations.DecodeEncode : Prop :=
  ∀ i w, i.wellFormed = true → encode i = some w → decodeWord w = .ok i

/-- O2. A word that decodes is the word of the instruction it decodes to (R25, R27, R35, R36, R37, R38, R39, R40, R41, R42, R43, R44). Whenever a 32-bit word decodes, it decodes to a well-formed instruction whose encoding is that very word: no bit of a word is ignored, and no two words mean the same instruction. -/
def Obligations.EncodeDecode : Prop :=
  ∀ i w, decodeWord w = .ok i → encode i = some w ∧ i.wellFormed = true

/-- O3. Words and bundles that the manual spells out decode to the instructions it names (R14, R25, R26, R27, R29, R43, R68, R70, R77, R120, R129, R230). Words written out in the manual, at least one for each slot form, decode to the instructions that the manual gives beside them. When the word at the program counter is a header that announces one slot, the word after it decodes in that slot, no destination is named twice, the bundle does not cross a loop's end and no absent unit is needed, the bundle decodes to that one instruction, and the next position is the word after it. -/
def Obligations.DecodeWords : Prop :=
  (decodeWord 0x09021050#32 = .ok (.peq 0 2 4 5) ∧ decodeWord 0x10280000#32 = .ok (.addi 0 5 0 0) ∧
   decodeWord 0x1E2A4680#32 = .ok (.lih 0 5 0x2468) ∧ decodeWord 0x1E2D6780#32 = .ok (.lih 0 5 0x5678) ∧
   decodeWord 0x3203F000#32 = .ok (.jr 0 63) ∧ decodeWord 0xA5050000#32 = .ok (.rqpop 0 5) ∧
   decodeWord 0x53444260#32 = .ok (.vnarrow 0 .word 4 8 9 false) ∧
   decodeWord 0x664609C0#32 = .ok (.vspop 0 .word 6 1 7 false) ∧ decodeWord 0x664609D0#32 = .ok (.vspop 0 .word 6 1 7 true) ∧
   decodeWord 0x62244320#32 = .ok (.vopt 0 4 8 12) ∧ decodeWord 0xB1C01870#32 = .ok (.tdec 0 0 6 7) ∧
   decodeWord 0xB2402000#32 = .ok (.tend 0 8) ∧ decodeWord 0xB2001000#32 = .ok (.tcont 0 4 0) ∧
   decodeWord 0xB2800010#32 = .ok (.tyield 0 1) ∧ decodeWord 0xB5000050#32 = .ok (.trap 0 5) ∧
   decodeWord 0xB5400000#32 = .ok (.eret 0) ∧ decodeWord 0xC2C01050#32 = .ok (.redadd 0 0 4 5)) ∧
  (∀ (c : Core) (hw w : Code) (h : Header) (k : Nat) (i : Instr),
     decodeHeader hw = .ok h → slotsOf h.mask = [k] → c.fetchWord (c.t.pc + 4) = .ok w → decodeInSlot k w = .ok i →
     conflicts h [(k, i)] = false → c.t.loop.crossed c.t.pc (c.t.pc + 8) = false → absentUnit c.feat [(k, i)] = none →
     c.decodeBundle hw = .ok { head := h, words := [hw, w], slots := [(k, i)], next := c.t.pc + 8 })

/-- O4. A step runs the instruction that the bundle at the program counter decodes to, or the event at the head of the agenda (R6, R31, R43, R59, R60, R90, R226, R350, R365). When the head of the agenda gives the current core its turn, and that core runs a task with no trap, saturation test or forced save due and no bundle whose last slot waits, and the word at its program counter is a header whose bundle decodes to one slot, is not reclaimed, does not overrun its segment and is not interlocked, a step is the meaning of that instruction in the begun bundle, followed by the completion of the bundle unless the instruction waits or has faulted, and by the end of a bounded wait; an empty bundle is its NOP. With nothing on the agenda, and no event due first, the step is the same, and the turn then passes on. When the head of the agenda is an event of the operation table, a step is that event's meaning on the state without it, after time has passed; after a thermal trip, one that a core's clock drives does not happen and the step faults by name. The agenda, and what else moves next, is the model's own schedule [log 5]. -/
def Obligations.StepRunsDecoded : Prop :=
  (∀ (s : State) (e : Instr) (r : List Move), s.agenda = .event e :: r → Instr.isEvent e = true →
    step s = if s.power.tripped = true ∧ Instr.onCore e = true then .fault .coreClocksStopped else exec e { s.pass with agenda := r }) ∧
  (∀ (s : State) (hw : Code) (d : Decoded),
    s.power.tripped = false → s.core.mode = .running → s.core.pendTrap = none → s.core.t.satPend = [] → s.core.bundle.tail = false →
    s.core.t.sys.preq.getLsbD 1 = false → s.core.fetchWord s.core.t.pc = .ok hw → Code.cls hw ≠ 0xE#4 → s.core.decodeBundle hw = .ok d →
    (s.core.t.sys.ecl && d.reclaims) = false → s.core.t.seg.overrun d.head.wait = false →
    s.core.t.interlocked d = false →
    (∀ r, s.agenda = .core s.cur :: r → s.cur < 576 → let u := { s.pass with agenda := r }
      (∀ k i, d.slots = [(k, i)] → step s =
        match exec i ((u.beginBundle d).atSlot k) with
        | .next t => .next (if t.settled then t else t.endBundle).endWait
        | .fault f => .fault f
        | .refused f => .refused f) ∧
      (d.slots = [] → step s =
        match exec (nopOf d.head) (u.beginBundle d) with
        | .next t => .next t.endWait
        | .fault f => .fault f
        | .refused f => .refused f)) ∧
    (s.agenda = [] → s.pass.eventDue = none →
      (∀ k i, d.slots = [(k, i)] → step s =
        match exec i ((s.pass.beginBundle d).atSlot k) with
        | .next t => .next (if t.settled then t else t.endBundle).afterTurn
        | .fault f => .fault f
        | .refused f => .refused f) ∧
      (d.slots = [] → step s =
        match exec (nopOf d.head) (s.pass.beginBundle d) with
        | .next t => .next t.afterTurn
        | .fault f => .fault f
        | .refused f => .refused f)))

/-- O5. A bundle with a faulting slot is nullified, one with a waiting slot does nothing, and an empty one does its predicate logic (R27, R28, R31, R34, R43, R77, R88). Of two slots of a bundle the second is tried after what the first does, unless the first ends the bundle's running or did not go through. When one of them raises a precise fault and the other goes through, the bundle has the effect of taking that fault and nothing else; when both fault, the earlier slot's fault is taken; when one would wait without a request to send, the bundle waits and does nothing that the trial of that slot alone does not do, or, where that slot alone would not wait, nothing but wait. Outside loops, the empty bundle moves to the next word, takes one issue cycle plus W, counts 1 + W in its segment up to 4,095, writes the predicate of its header logic lane by lane, visible from the next bundle, and changes no scalar or vector register, no other predicate, no system register and no byte of memory. -/
def Obligations.BundleEffects : Prop :=
  (∀ (s : State) (d : Decoded) (k j : Nat) (a b : Instr) (t u w : State), d.slots = [(k, a), (j, b)] →
    exec a (s.atSlot k) = .next t → exec b ((if a.last || t.settled then s else t).atSlot j) = .next u → exec b (s.atSlot j) = .next w →
    (∀ e, t.core.bundle.held = false → u.core.bundle.held = false → t.core.bundle.exc = some e → s.runSlots d = .next (s.raise e)) ∧
    (∀ e, t.core.bundle.held = false → u.core.bundle.held = false → t.core.bundle.exc = none → u.core.bundle.exc = some e →
      s.runSlots d = .next (s.raise e)) ∧
    (t.core.bundle.held = true → t.core.asks = s.core.asks → s.runSlots d = .next t) ∧
    (t.core.bundle.held = false → u.core.bundle.held = true → u.core.asks = s.core.asks →
      s.runSlots d = .next (if w.core.bundle.held then w else s.hold))) ∧
  (∀ (s : State) (plop : BitVec 3) (pd pa pb : BitVec 4) (wait : BitVec 3) (rp : Bool), (plop ≠ 0 → pd ≠ 0) →
    s.core.bundle.redirect = .none → s.core.t.loop.innermost = none → s.core.bundle.sats = [] → s.core.bundle.census = [] →
    Answers (exec (.nop plop pd pa pb wait rp) s) fun t =>
      t.core.t.pc = s.core.bundle.next ∧ t.core.t.sb.cyc = s.core.t.sb.cyc + 1 + wait.toNat ∧
      t.core.t.seg.count.toNat = min 4095 (s.core.t.seg.count.toNat + 1 + wait.toNat) ∧
      (plop ≠ 0 → fileGet t.core.t.sb.landP pd = s.core.t.sb.cyc + 1 ∧ ∀ l < 256, (t.pNow pd).getLsbD l =
        let x := (s.rdP pa).getLsbD l; let y := (s.rdP pb).getLsbD l
        match plop.toNat with
        | 1 => x && y | 2 => x || y | 3 => xor x y | 4 => x && !y | 5 => x || !y | 6 => !(x && y) | _ => !(xor x y)) ∧
      (∀ r, r ≠ pd ∨ plop = 0 → t.pNow r = s.pNow r) ∧ t.core.t.x = s.core.t.x ∧ t.core.t.v = s.core.t.v ∧ t.core.t.sys = s.core.t.sys ∧
      t.core.t.ts = s.core.t.ts ∧ t.core.t.loop = s.core.t.loop ∧ SameMemory s t)

/-- O6. Every step keeps memory in canonical form (R2, R235, R307). Wherever a step starts with memory in canonical form and answers a next state, memory is in canonical form there: every store of every instruction and event keeps the order of the cells and lists no byte that an unlisted address reads as. -/
def Obligations.MemoryCanonicalKept : Prop := Kept State.memWf

/-- O7. Two-operand and immediate scalar instructions write their results (R10, R30, R36, R58, R62, R69, R70). ADD, SUB, AND, OR, XOR, ANDN, ORN, MIN, MAX, MINU, MAXU, ADDS, SUBS, SLT, SLTU and SEQ always answer a next state. With lane 0 of the guard set, xd holds the value of R62 after one cycle, x0 keeps zero, and no other register, flag, special register or byte of memory changes; with it clear, nothing changes. ADDI, ANDI, ORI, XORI, SLLI, SRLI and SRAI compute the operation of the same name with the sign-extended imm9 as second operand; a shift amount outside 0 to 63 is refused at decode with field 2. LIH shifts xd left by 15 and or's in imm15, and changes nothing for x0. Nothing but xd changes. -/
def Obligations.ScalarResults : Prop :=
  (∀ (s : State) (g : BitVec 4) (d a b : BitVec 6), let x := s.rdX a; let y := s.rdX b
     ResultX g d (x + y) 1 s (exec (.add g d a b) s) ∧
     ResultX g d (x - y) 1 s (exec (.sub g d a b) s) ∧
     ResultX g d (x &&& y) 1 s (exec (.and g d a b) s) ∧
     ResultX g d (x ||| y) 1 s (exec (.or g d a b) s) ∧
     ResultX g d (x ^^^ y) 1 s (exec (.xor g d a b) s) ∧
     ResultX g d (x &&& ~~~y) 1 s (exec (.andn g d a b) s) ∧
     ResultX g d (x ||| ~~~y) 1 s (exec (.orn g d a b) s) ∧
     ResultX g d (if x.toInt ≤ y.toInt then x else y) 1 s (exec (.min g d a b) s) ∧
     ResultX g d (if x.toInt ≤ y.toInt then y else x) 1 s (exec (.max g d a b) s) ∧
     ResultX g d (if x.toNat ≤ y.toNat then x else y) 1 s (exec (.minu g d a b) s) ∧
     ResultX g d (if x.toNat ≤ y.toNat then y else x) 1 s (exec (.maxu g d a b) s) ∧
     ResultX g d (BitVec.ofInt 64 (satS 64 (x.toInt + y.toInt))) 1 s (exec (.adds g d a b) s) ∧
     ResultX g d (BitVec.ofInt 64 (satS 64 (x.toInt - y.toInt))) 1 s (exec (.subs g d a b) s) ∧
     ResultX g d (if x.toInt < y.toInt then 1 else 0) 1 s (exec (.slt g d a b) s) ∧
     ResultX g d (if x.toNat < y.toNat then 1 else 0) 1 s (exec (.sltu g d a b) s) ∧
     ResultX g d (if x = y then 1 else 0) 1 s (exec (.seq g d a b) s)) ∧
  (∀ (s : State) (g : BitVec 4) (d a : BitVec 6) (m : BitVec 9) (n : BitVec 15), let x := s.rdX a; let y := BitVec.ofInt 64 m.toInt
     ResultX g d (x + y) 1 s (exec (.addi g d a m) s) ∧ ResultX g d (x &&& y) 1 s (exec (.andi g d a m) s) ∧
     ResultX g d (x ||| y) 1 s (exec (.ori g d a m) s) ∧ ResultX g d (x ^^^ y) 1 s (exec (.xori g d a m) s) ∧
     (m.toNat < 64 → ResultX g d (x <<< m.toNat) 1 s (exec (.slli g d a m) s) ∧ ResultX g d (x >>> m.toNat) 1 s (exec (.srli g d a m) s) ∧
       ResultX g d (x.sshiftRight m.toNat) 1 s (exec (.srai g d a m) s)) ∧
     (64 ≤ m.toNat → ∀ i ∈ [Instr.slli g d a m, .srli g d a m, .srai g d a m], i.operandFault = some 2) ∧
     ResultX g d (s.rdX d <<< 15 ||| n.setWidth 64) 1 s (exec (.lih g d n) s) ∧
     exec (.lih g 0 n) s = .next s)

/-- O8. The scalar shifts and rotates, whatever the count (R63). SLL and SRL give 0 for a count of 64 or more, SRA shifts by at most 63 and keeps the sign, ROL and ROR turn by the count modulo 64. xd holds the value after one cycle and nothing else changes; with the guard clear nothing changes. -/
def Obligations.ShiftResults : Prop :=
  ∀ (s : State) (g : BitVec 4) (d a b : BitVec 6), let x := s.rdX a; let k := (s.rdX b).toNat
    ResultX g d (if k < 64 then x <<< k else 0) 1 s (exec (.sll g d a b) s) ∧
    ResultX g d (if k < 64 then x >>> k else 0) 1 s (exec (.srl g d a b) s) ∧
    ResultX g d (BitVec.ofInt 64 (x.toInt.fdiv (2 ^ min k 63 : Int))) 1 s (exec (.sra g d a b) s) ∧
    ResultX g d (x.rotateLeft (k % 64)) 1 s (exec (.rol g d a b) s) ∧
    ResultX g d (x.rotateRight (k % 64)) 1 s (exec (.ror g d a b) s)

/-- O9. The halves of the 128-bit product (R64). MUL writes bits 63:0 of the product, the same for signed and unsigned operands; MULH writes bits 127:64 of the signed product and MULHU those of the unsigned product. Results land after 3 cycles and nothing else changes. -/
def Obligations.ProductResults : Prop :=
  ∀ (s : State) (g : BitVec 4) (d a b : BitVec 6), let x := s.rdX a; let y := s.rdX b
    let p : BitVec 128 := BitVec.ofInt 128 (x.toInt * y.toInt); let q : BitVec 128 := BitVec.ofNat 128 (x.toNat * y.toNat)
    ResultX g d (p.extractLsb' 0 64) 3 s (exec (.mul g d a b) s) ∧
    p.extractLsb' 0 64 = q.extractLsb' 0 64 ∧
    ResultX g d (p.extractLsb' 64 64) 3 s (exec (.mulh g d a b) s) ∧
    ResultX g d (q.extractLsb' 64 64) 3 s (exec (.mulhu g d a b) s)

/-- O10. Quotients and remainders, the corners included (R65). DIV and REM read both operands as signed, DIVU and REMU as unsigned. For a divisor other than 0 the quotient is truncated toward zero and xs1 = q x xs2 + rem with a remainder smaller than the divisor and of the dividend's sign; division by 0 gives all ones and leaves the dividend as remainder; -2^63 by -1 gives -2^63 and 0. No case traps, and nothing but xd changes, sys.vflags included. -/
def Obligations.DivisionResults : Prop :=
  ∀ (s : State) (g : BitVec 4) (d a b : BitVec 6), let x := s.rdX a; let y := s.rdX b
    ∃ q r qu ru : Word,
      ResultX g d q 20 s (exec (.div g d a b) s) ∧ ResultX g d r 20 s (exec (.rem g d a b) s) ∧
      ResultX g d qu 20 s (exec (.divu g d a b) s) ∧ ResultX g d ru 20 s (exec (.remu g d a b) s) ∧
      (y = 0 → q = BitVec.allOnes 64 ∧ qu = BitVec.allOnes 64 ∧ r = x ∧ ru = x) ∧
      (y ≠ 0 → x.toNat = qu.toNat * y.toNat + ru.toNat ∧ ru.toNat < y.toNat) ∧
      (y ≠ 0 → ¬(x.toInt = -2 ^ 63 ∧ y.toInt = -1) →
        x.toInt = q.toInt * y.toInt + r.toInt ∧ r.toInt.natAbs < y.toInt.natAbs ∧ (r.toInt ≠ 0 → (r.toInt < 0 ↔ x.toInt < 0))) ∧
      (x.toInt = -2 ^ 63 ∧ y.toInt = -1 → q.toInt = -2 ^ 63 ∧ r = 0)

/-- O11. Counting bits, reversing them, and extending the sign (R66). CLZ and CTZ give the number of zero bits above the highest and below the lowest one bit, 64 for 0; POPC the number of one bits; BREV and BSWAP move bit i to bit 63 - i and byte j to byte 7 - j; SEXTB, SEXTH and SEXTW extend the sign of the low 8, 16 and 32 bits. -/
def Obligations.UnaryResults : Prop :=
  ∀ (s : State) (g : BitVec 4) (d a : BitVec 6), let x := s.rdX a
    (∃ n, ResultX g d (BitVec.ofNat 64 n) 1 s (exec (.clz g d a) s) ∧ n ≤ 64 ∧ (∀ i < n, x.getLsbD (63 - i) = false) ∧
      (n < 64 → x.getLsbD (63 - n) = true)) ∧
    (∃ n, ResultX g d (BitVec.ofNat 64 n) 1 s (exec (.ctz g d a) s) ∧ n ≤ 64 ∧ (∀ i < n, x.getLsbD i = false) ∧ (n < 64 → x.getLsbD n = true)) ∧
    ResultX g d (BitVec.ofNat 64 ((List.range 64).filter fun i => x.getLsbD i).length) 1 s (exec (.popc g d a) s) ∧
    (∃ v : Word, ResultX g d v 1 s (exec (.brev g d a) s) ∧ ∀ i < 64, v.getLsbD (63 - i) = x.getLsbD i) ∧
    (∃ v : Word, ResultX g d v 1 s (exec (.bswap g d a) s) ∧ ∀ j < 8, v.extractLsb' (8 * (7 - j)) 8 = x.extractLsb' (8 * j) 8) ∧
    ResultX g d (BitVec.ofInt 64 (BitVec.ofNat 8 x.toNat).toInt) 1 s (exec (.sextb g d a) s) ∧
    ResultX g d (BitVec.ofInt 64 (BitVec.ofNat 16 x.toNat).toInt) 1 s (exec (.sexth g d a) s) ∧
    ResultX g d (BitVec.ofInt 64 (BitVec.ofNat 32 x.toNat).toInt) 1 s (exec (.sextw g d a) s)

/-- O12. Scalar compares, and moves between predicates and scalar registers (R12, R30, R58, R67, R68). PTOX copies lanes 64k to 64k + 63 to a register, XTOP replaces those lanes and keeps the other 192, PCNT counts the lanes set in both predicates; k above 3 and a destination p0 are refused at decode, and nothing else changes. PEQ, PNE, PLT, PGE, PLTU and PGEU set all 256 lanes of pd if their relation holds and clear them otherwise, visible from the next bundle, and change nothing else; pd = p0 is refused at decode with field 0. -/
def Obligations.PredicateResults : Prop :=
  (∀ (s : State) (g p q : BitVec 4) (d a k : BitVec 6),
     (k.toNat < 4 → ∃ v : Word, ResultX g d v 1 s (exec (.ptox g d p k) s) ∧ ∀ i < 64, v.getLsbD i = (s.rdP p).getLsbD (64 * k.toNat + i)) ∧
     (k.toNat < 4 → ∃ v : Pred, ResultP g p v s (exec (.xtop g p a k) s) ∧ ∀ i < 256, v.getLsbD i =
       if i / 64 = k.toNat then (s.rdX a).getLsbD (i % 64) else (s.rdP p).getLsbD i) ∧
     ResultX g d (BitVec.ofNat 64 ((List.range 256).filter fun i => (s.rdP p).getLsbD i && (s.rdP q).getLsbD i).length) 1 s (exec (.pcnt g d p q) s) ∧
     (4 ≤ k.toNat → (Instr.ptox g d p k).operandFault = some 2 ∧ (p ≠ 0 → (Instr.xtop g p a k).operandFault = some 2)) ∧
     (Instr.xtop g 0 a k).operandFault = some 0) ∧
  (∀ (s : State) (g p : BitVec 4) (a b : BitVec 6), let x := s.rdX a; let y := s.rdX b
     let all (c : Prop) [Decidable c] : Pred := if c then BitVec.allOnes 256 else 0
     (ResultP g p (all (x = y)) s (exec (.peq g p a b) s) ∧ ResultP g p (all (x ≠ y)) s (exec (.pne g p a b) s) ∧
      ResultP g p (all (x.toInt < y.toInt)) s (exec (.plt g p a b) s) ∧ ResultP g p (all (y.toInt ≤ x.toInt)) s (exec (.pge g p a b) s) ∧
      ResultP g p (all (x.toNat < y.toNat)) s (exec (.pltu g p a b) s) ∧ ResultP g p (all (y.toNat ≤ x.toNat)) s (exec (.pgeu g p a b) s)) ∧
     ∀ i ∈ [Instr.peq g 0 a b, .pne g 0 a b, .plt g 0 a b, .pge g 0 a b, .pltu g 0 a b, .pgeu g 0 a b], i.operandFault = some 0)

/-- O13. Loads and stores in the own scratchpad window (R58, R71, R72, R234, R73, R307). An aligned load whose address lies in the core's own window and whose bytes are not poisoned answers a next state in which the register holds the little-endian bytes, sign- or zero-extended, after 4 cycles; LDQ fills the pair; x0 keeps zero; nothing else changes and no byte of memory does. With the guard clear nothing changes. An aligned store whose address lies in the core's own window answers a next state that differs only in memory, and in the fault record of a store that meets poison. Every byte outside the stored ones, whatever key slot it is read under, reads as before; the stored bytes read as the low bytes of the register, the pair, or zeros for ZLN, unless the store covers a poisoned ECC word in part, in which case one record is added. The address is the one the meaning computes, base plus scaled offset, translated as the core translates it. With the guard clear nothing changes. -/
def Obligations.OwnAccesses : Prop :=
  (∀ (g : BitVec 4) (t b : BitVec 6) (o : BitVec 8),
     OwnLoad (.ldb g t b o) g t b o 1 (fun v => (BitVec.ofNat 8 v).signExtend 64) ∧ OwnLoad (.ldbu g t b o) g t b o 1 (BitVec.ofNat 64) ∧
     OwnLoad (.ldh g t b o) g t b o 2 (fun v => (BitVec.ofNat 16 v).signExtend 64) ∧ OwnLoad (.ldhu g t b o) g t b o 2 (BitVec.ofNat 64) ∧
     OwnLoad (.ldw g t b o) g t b o 4 (fun v => (BitVec.ofNat 32 v).signExtend 64) ∧ OwnLoad (.ldwu g t b o) g t b o 4 (BitVec.ofNat 64) ∧
     OwnLoad (.ldd g t b o) g t b o 8 (BitVec.ofNat 64) ∧
     (t.getLsbD 0 = false → ∀ s l, OwnRead s (s.ea b o 16) 16 l → s.guard g = true →
       Answers (exec (.ldq g t b o) s) fun u =>
         u.xNow t = (if t = 0 then 0 else BitVec.ofNat 64 (s.little l.key l.pa 8)) ∧
         u.xNow (t + 1) = BitVec.ofNat 64 (s.little l.key (l.pa + 8) 8) ∧ OnlyX [t, t + 1] s u)) ∧
  (∀ (g : BitVec 4) (t b : BitVec 6) (o : BitVec 8),
     OwnStore (.stb g t b o) g b o 1 (fun s => (s.rdX t).toNat) ∧ OwnStore (.sth g t b o) g b o 2 (fun s => (s.rdX t).toNat) ∧
     OwnStore (.stw g t b o) g b o 4 (fun s => (s.rdX t).toNat) ∧ OwnStore (.std g t b o) g b o 8 (fun s => (s.rdX t).toNat) ∧
     OwnStore (.stq g t b o) g b o 16 (fun s => (s.rdX t).toNat + 2 ^ 64 * (s.rdX (t + 1)).toNat) ∧
     OwnStore (.zln g b o) g b o 64 (fun _ => 0))

/-- O14. Loads and stores anywhere else in the package, prefetch, and write-back (R59, R71, R72, R73, R75, R240, R242, R323, R324). An aligned load whose address is far and whose home is in this package, for whose line the L1 has a place or can make one at once, answers a next state in which its result is pending: the L1 line's bytes where the line holds them all or the core stored them, the home's bytes elsewhere, read when the load issues [log 9]; LDQ's is the pair. Until it lands no register changes, and no byte of memory does, but those of a line that leaves the full L1, the line longest unused [log 62]. An aligned load whose home is in another package that is not lost, of a line of which the L1 holds nothing and which is not on its way, while its flow has room and the bundle need not wait for it [log 31], sends one READ of the line on the core's flow and leaves its result pending on that READ's answer; no register and no byte of memory changes. An aligned store whose address is far answers, with a place in the L1 as well, a next state in which no register changes, nor any byte of memory but those of a line that leaves the full L1; the L1 line holds the stored bytes as dirty, and a load of the same bytes by the same core brings them back. PRF asks for a translation of its line outside the own window, has no effect inside it, and changes nothing else. When the L1 holds no line twice and no word is poisoned, writing back the lines that a test selects brings each of their dirty bytes of this package to its home; memory outside the selected lines is unchanged; and where no selected line holds dirty bytes of another package, the lines that were not selected stay and those selected are dropped or kept clean. Writing back a line of another package that is not lost puts WRITE packets for that package on the core's flow, which between them carry each dirty byte to its address, and no byte that is not dirty. -/
def Obligations.FarAccesses : Prop :=
  ((∀ (g : BitVec 4) (t b : BitVec 6) (o : BitVec 8),
     FarLoad (.ldb g t b o) g t b o 1 (fun v => (BitVec.ofNat 8 v).signExtend 64) ∧ FarLoad (.ldbu g t b o) g t b o 1 (BitVec.ofNat 64) ∧
     FarLoad (.ldh g t b o) g t b o 2 (fun v => (BitVec.ofNat 16 v).signExtend 64) ∧ FarLoad (.ldhu g t b o) g t b o 2 (BitVec.ofNat 64) ∧
     FarLoad (.ldw g t b o) g t b o 4 (fun v => (BitVec.ofNat 32 v).signExtend 64) ∧ FarLoad (.ldwu g t b o) g t b o 4 (BitVec.ofNat 64) ∧
     FarLoad (.ldd g t b o) g t b o 8 (BitVec.ofNat 64) ∧
     (t.getLsbD 0 = false → ∀ (s : State) (l : Loc), FarPlace s (s.ea b o 16) 16 needR l → CleanLine s l → s.l1Stuck l = false →
       if s.guard g then
         Answers (exec (.ldq g t b o) s) fun u =>
           (∃ q, u.core.t.sb.far = s.core.t.sb.far ++ [q] ∧ q.val = .pair t (BitVec.ofNat 128 (leNat ((List.range 16).map (s.seenByte l 16))))) ∧
           u.core.t = { s.core.t with sb := { s.core.t.sb with far := u.core.t.sb.far } } ∧ OnlyVictim s l u
       else exec (.ldq g t b o) s = .next s) ∧
     (∀ q ∈ (loadsOf g t b o).take 7, RemoteLoad q.1 g (.x t 0) b o q.2) ∧ (t.getLsbD 0 = false → RemoteLoad (.ldq g t b o) g (.pair t 0) b o 16)) ∧
  (∀ (g : BitVec 4) (t b : BitVec 6) (o : BitVec 8),
     FarStore (.stb g t b o) g b o 1 (fun s => (s.rdX t).toNat) ∧ FarStore (.sth g t b o) g b o 2 (fun s => (s.rdX t).toNat) ∧
     FarStore (.stw g t b o) g b o 4 (fun s => (s.rdX t).toNat) ∧ FarStore (.std g t b o) g b o 8 (fun s => (s.rdX t).toNat) ∧
     FarStore (.stq g t b o) g b o 16 (fun s => (s.rdX t).toNat + 2 ^ 64 * (s.rdX (t + 1)).toNat) ∧
     FarStore (.zln g b o) g b o 64 (fun _ => 0) ∧
     ∀ s, exec (.prf g b o) s = .next (
       if s.guard g = true ∧ s.ownWindow (vaOf (s.ea b o 64)) = false then
         { s with xlat := { s.xlat with walks := s.xlat.walks ++ [{ asid := s.core.t.id.asid, va := vaOf (s.ea b o 64), core := s.cur }] } }
       else s))) ∧
  (∀ (s : State) (sel : L1Line → Bool) (drop : Bool), s.mem.poison = [] → s.core.l1.Pairwise (fun a b => a.pkg ≠ b.pkg ∨ a.line ≠ b.line) →
    let u := s.writeBack sel drop
    (∀ l ∈ s.core.l1, sel l = true → l.pkg = none → ∀ i < 64, l.dirty.getLsbD i = true → u.readByte l.key (64 * l.line + i) = lineByte l.data i) ∧
    (∀ slot a, (∀ l ∈ s.core.l1, sel l = true → l.pkg = none → a / 64 ≠ l.line) → u.readByte slot a = s.readByte slot a) ∧
    ((∀ l ∈ s.core.l1, sel l = true → l.pkg = none ∨ l.dirty = 0) →
      u.core.l1 = (if drop then s.core.l1.filter fun l => !sel l else s.core.l1.map fun l => if sel l then { l with dirty := 0 } else l))) ∧
  (∀ (s : State) (l : L1Line) (p : Nat), l.pkg = some p → s.fabric.lost.contains p = false →
    let f := s.srcFlow s.netEng p 0
    ∃ new, ((s.writeBackLine l).srcFlow s.netEng p 0).descs = f.descs ++ new ∧
      (∀ q ∈ new, ∃ sp seq order dirs, q.packet = mkPacket s.pkgId sp seq f.rseq order dirs false ∧ sp.type = 0 ∧ sp.dst = p ∧ sp.key = l.key ∧
        ∀ k < sp.len, k ∉ sp.skip → l.dirty.getLsbD (sp.pa + k - 64 * l.line) = true) ∧
      (∀ i < 64, l.dirty.getLsbD i = true → ∃ q ∈ new, ∃ sp seq order dirs k, q.packet = mkPacket s.pkgId sp seq f.rseq order dirs false ∧
        sp.type = 0 ∧ sp.dst = p ∧ k < sp.len ∧ sp.pa + k = 64 * l.line + i ∧ k ∉ sp.skip ∧ sp.payload[k]? = some (lineByte l.data i)))

/-- O15. Accesses that cannot complete raise their precise fault (R31, R71, R72, R73, R74, R203, R213, R215, R235, R296). A scalar load or store, a returning atomic or a reduction of any size, LDACQ or STREL, with its guard set and an address that is not a multiple of its size, raises MISALIGNED with field 1 and that address. An aligned load, store or atomic of an address without a translation raises TRANSLATION, one that is refused PROTECTION, with a kind-4 record's status where the walk found a malformed entry, and one whose walk meets poison POISON [log 57], each with field 1 and the address; loads ask to read, stores to write, atomics for both, unless an earlier reduction to the bytes makes the atomic wait. A load of poisoned bytes of the own window, or of a line of this package that the L1 does not hold, raises POISON with field 0; an atomic on poisoned bytes of this package raises it with field 1. Stores and atomics say that they write. The fault is taken from the state before the access: the bundle is nullified. -/
def Obligations.AccessFaults : Prop :=
  ∀ (s : State) (g : BitVec 4) (t b : BitVec 6) (o : BitVec 8) (z : BitVec 2) (d : BitVec 6), s.guard g = true →
    (∀ q ∈ loadsOf g t b o ++ storesOf g t b o,
      (s.ea b o q.2).toNat % q.2 ≠ 0 → Traps (s.slotExc .misaligned 1 (vaOf (s.ea b o q.2))) s (exec q.1 s)) ∧
    (∀ i ∈ atomicsOf g z d b t ++ reductionsOf g z b t,
      (s.rdX b).toNat % amoBytes z ≠ 0 → Traps (s.slotExc .misaligned 1 (vaOf (s.rdX b))) s (exec i s)) ∧
    (∀ k, ∀ i ∈ [Instr.ldacq g t b k, .strel g t b k],
      (s.rdX b).toNat % 8 ≠ 0 → Traps (s.slotExc .misaligned 1 (vaOf (s.rdX b))) s (exec i s)) ∧
    (∀ r ∈ xlFailures,
      (∀ q ∈ loadsOf g t b o, let va := vaOf (s.ea b o q.2)
        (s.ea b o q.2).toNat % q.2 = 0 → s.xlate (some s.cur) s.core.t.id.asid va needR = r.1 →
          Traps { s.slotExc r.2.1 1 va with rec4 := r.2.2 } s (exec q.1 s)) ∧
      (∀ q ∈ storesOf g t b o, let va := vaOf (s.ea b o q.2)
        (s.ea b o q.2).toNat % q.2 = 0 → s.xlate (some s.cur) s.core.t.id.asid va needW = r.1 →
          Traps { s.slotExc r.2.1 1 va with wr := true, rec4 := r.2.2 } s (exec q.1 s)) ∧
      (∀ i ∈ atomicsOf g z d b t, let va := vaOf (s.rdX b)
        (s.rdX b).toNat % amoBytes z = 0 → s.redsTo va (amoBytes z) = false → s.xlate (some s.cur) s.core.t.id.asid va needRW = r.1 →
          Traps { s.slotExc r.2.1 1 va with wr := true, rec4 := r.2.2 } s (exec i s))) ∧
    (∀ q ∈ loadsOf g t b o, ∀ l, let va := vaOf (s.ea b o q.2)
      (s.ea b o q.2).toNat % q.2 = 0 → s.xlate (some s.cur) s.core.t.id.asid va needR = .ok l →
        (s.ownWindow va = true → s.mem.poisoned l.pa q.2 = true → Traps (s.slotExc .poison 0 va) s (exec q.1 s)) ∧
        (s.ownWindow va = false → l.pkg = none → l1Find s.core.l1 l = none → l.pa % 64 + q.2 ≤ 64 → (∃ k < q.2, s.mem.poisoned (l.pa + k) 1 = true) →
          Traps (s.slotExc .poison 0 va) s (exec q.1 s))) ∧
    (∀ i ∈ atomicsOf g z d b t, ∀ l, let va := vaOf (s.rdX b)
      (s.rdX b).toNat % amoBytes z = 0 → s.redsTo va (amoBytes z) = false → s.xlate (some s.cur) s.core.t.id.asid va needRW = .ok l →
        l.pkg = none → s.mem.poisoned l.pa (amoBytes z) = true → Traps { s.slotExc .poison 1 va with wr := true } s (exec i s))

/-- O16. Taking an exception, software traps, and returning (R20, R31, R60, R91, R105, R231, R232). A precise fault other than a miss, FEATURE_ABSENT or MIRROR, outside a handler, with no result due and a reachable handler, leaves the header's address, the cause code, the faulting address, slot, field, element and image in the fault registers, the Mirror state in sys.segstate, th set, no open segment, and the program counter at the handler. No general, vector or predicate register, no scale slot, no loop register, no other system register and no byte of memory changes. TRAP, outside a handler and loops with no result due and a reachable handler, saves the address after its bundle, cause TRAP and its number as element, sets th and goes to the handler. ERET in a handler whose segment checks, with sys.epc at a header or segment control word, clears th and goes on at sys.epc with the Mirror state that sys.segstate describes; outside a handler it raises PROTECTION, whose field the manual leaves open [log 3]. With the guard clear neither does anything. No general, vector or predicate register and no byte of memory changes. -/
def Obligations.Exceptions : Prop :=
  (∀ (s : State) (e : Exc) (a : VAddr), e.cause ≠ .translation → e.cause ≠ .featureAbsent → e.cause ≠ .mirror → e.rec4 = none →
    s.core.t.sys.th = false → s.core.t.sb.far = [] → s.core.t.sb.nxt = [] → s.handler = some a →
    let u := s.raise e
    u.core.t.sys = { s.core.t.sys with
      th := true, segstate := s.core.t.seg.pack
      faults := { epc := s.core.bundle.header, fcause := BitVec.ofNat 8 e.cause.code, faddr := e.addr, fslot := e.slot, fopnd := e.opnd,
                  felem := e.elem, fimg := s.core.lit.image } } ∧
    u.core.t.pc = a ∧ u.core.t.seg.isOpen = false ∧ u.core.bundle.exc = some e ∧ u.core.mode = s.core.mode ∧
    u.core.t.x = s.core.t.x ∧ u.core.t.v = s.core.t.v ∧ u.core.t.p = s.core.t.p ∧ u.core.t.ts = s.core.t.ts ∧ u.core.t.loop = s.core.t.loop ∧
    u.core.t.comp = s.core.t.comp ∧ SameMemory s u) ∧
  (∀ (s : State) (g : BitVec 4) (k : BitVec 12),
    (s.guard g = false → exec (.trap g k) s = .next s ∧ exec (.eret g) s = .next s) ∧
    (∀ a, s.guard g = true → s.core.t.sys.th = false → s.core.t.sb.far = [] → s.core.t.sb.nxt = [] → s.handler = some a →
      s.core.bundle.redirect = .none → s.core.t.loop.innermost = none → s.core.bundle.head.plop = 0 →
      Answers (exec (.trap g k) s) fun u =>
        u.core.t.sys.faults.epc = s.core.bundle.next ∧ u.core.t.sys.faults.fcause = 18 ∧ u.core.t.sys.faults.felem = k.setWidth 16 ∧
        u.core.t.sys.th = true ∧ u.core.t.pc = a ∧ u.core.t.x = s.core.t.x ∧ u.core.t.v = s.core.t.v ∧ u.core.t.p = s.core.t.p ∧ SameMemory s u) ∧
    (s.guard g = true → s.core.old.sys.th = true → s.closing.fails = false → s.core.resumable s.core.old.sys.faults.epc = true →
      s.core.bundle.head.plop = 0 →
      Answers (exec (.eret g) s) fun u =>
        u.core.t.sys = { s.core.t.sys with th := false } ∧ u.core.t.pc = s.core.t.sys.faults.epc ∧
        u.core.t.seg = unpackSegment s.core.t.sys.segstate s.core.t.kept ∧ u.core.stallc = s.core.stallc + 1 ∧
        u.core.t.x = s.core.t.x ∧ u.core.t.v = s.core.t.v ∧ u.core.t.p = s.core.t.p ∧ u.core.t.loop = s.core.t.loop ∧ SameMemory s u) ∧
    (s.guard g = true → s.core.old.sys.th = false → ∃ f, Traps (s.slotExc .protection f 0) s (exec (.eret g) s)))

/-- O17. Branches, calls and jumps (R30, R77, R78, R83). With the guard set and the target a segment control word of the lit plane, BR and CALL lead to header + 4 x off20 and JR and JALR to the register's address; CALL and JALR write the address after the bundle to x63 or xd; nothing else changes until the bundle completes, when the program counter is the target and one stall cycle is counted. A target that is not a multiple of 4 raises MISALIGNED, any other word BAD_TARGET, with the target's address and the field of R78. With the guard clear nothing changes. -/
def Obligations.Branches : Prop :=
  ∀ (s : State) (g : BitVec 4) (o : BitVec 20) (d a : BitVec 6),
    let near := s.core.bundle.header + BitVec.ofInt 55 (4 * o.toInt); let reg := (s.rdX a).extractLsb' 0 55
    let led (x : VAddr) : State := { s with core := { s.core with bundle := { s.core.bundle with redirect := .branch x } } }
    (s.guard g = false → ∀ i ∈ [Instr.br g o, .call g o, .jr g a, .jalr g d a], exec i s = .next s) ∧
    (s.guard g = true →
      (s.core.isScw near = true → exec (.br g o) s = .next (led near) ∧
        (s.core.bundle.exc = none → Answers (exec (.call g o) s) (GivesX 63 (s.core.bundle.next.setWidth 64) 1 (led near)))) ∧
      (s.core.isScw near = false → ∀ i ∈ [Instr.br g o, .call g o], Traps (s.slotExc .badTarget 4 near) s (exec i s)) ∧
      ((s.rdX a).toNat % 4 = 0 → s.core.isScw reg = true → exec (.jr g a) s = .next (led reg) ∧
        (s.core.bundle.exc = none → Answers (exec (.jalr g d a) s) (GivesX d (s.core.bundle.next.setWidth 64) 1 (led reg)))) ∧
      (∀ i ∈ [Instr.jr g a, .jalr g d a], ((s.rdX a).toNat % 4 ≠ 0 → Traps (s.slotExc .misaligned 1 reg) s (exec i s)) ∧
        ((s.rdX a).toNat % 4 = 0 → s.core.isScw reg = false → Traps (s.slotExc .badTarget 1 reg) s (exec i s)))) ∧
    ((led near).completeBundle.core.t.pc = near ∧ (led near).completeBundle.core.stallc = s.core.stallc + 1)

/-- O18. Hardware loops start, skip and end (R81, R82, R83, R84). With the guard set, no level k or deeper and no LOOPP level active, the body inside the innermost level's, the count in range and a segment control word at the body, LOOP, LOOPI and LOOPP write lb, ln and lc of their level and lead to the body; LOOPP marks its level, keeps S - 1 above the iterations and sets p8 and clears p9 to p15, to be read from the next bundle on; a count of 0 leaves lc 0 and leads past the body. LEXIT clears level k and the deeper ones and leads past the body of an active level; of an inactive one it changes nothing. With the guard clear nothing changes. With the guard set, a level k or deeper or a LOOPP level that is active raises ILLEGAL_OPERAND field 0, a body not inside the innermost level's ILLEGAL_OPERAND field 2, a count out of range ILLEGAL_OPERAND field 0, and a word at the body, or past it for a count of 0, that is no segment control word BAD_TARGET field 4 with its address; where several apply the first named is raised, an order that the manual leaves open [log 40]. At the body end of the innermost active level, with more than one iteration left the count falls by one and execution continues at the body; with one left the level ends and, where no outer level ends there, execution continues past the body. A LOOPP level that loops back turns the rotation by one, moves each stage predicate whose value has landed up by one, and sets p8 while more than S - 1 iterations remain. A taken branch, from anywhere, ends every active level whose body does not hold its target, keeps the others and leads to its target. -/
def Obligations.HardwareLoops : Prop :=
  (∀ (s : State) (g : BitVec 4) (k : BitVec 2) (c : BitVec 6) (n : BitVec 9) (st : BitVec 3) (len : BitVec 9), k ≠ 3 →
    let nx := s.core.bundle.next; let past := nx + BitVec.ofNat 55 (4 * len.toNat)
    let count := (s.rdX c).toNat; let total := if count = 0 then 0 else count + st.toNat
    (s.guard g = false → ∀ i ∈ [Instr.loop g k c len, .loopi g k n len, .loopp g k c st len, .lexit g k], exec i s = .next s) ∧
    (s.guard g = true → s.core.t.loop.blocked k = false → s.core.t.loop.holds nx len.toNat = true → s.core.isScw nx = true →
      (count ≤ 0xFFFFFFFF → (count = 0 → s.core.isScw past = true) →
        Answers (exec (.loop g k c len) s) (StartsLoop s k nx len count (if count = 0 then .skip past else .enter nx) s.core.t.p s.core.t.sb.landP)) ∧
      ((n = 0 → s.core.isScw past = true) →
        Answers (exec (.loopi g k n len) s) (StartsLoop s k nx len n.toNat (if n = 0 then .skip past else .enter nx) s.core.t.p s.core.t.sb.landP)) ∧
      (total ≤ 0x1FFFFFFF → (total = 0 → s.core.isScw past = true) →
        Answers (exec (.loopp g k c st len) s)
          (StartsLoop s k (nx ||| 1) len (if total = 0 then 0 else st.toNat * 2 ^ 29 + total) (if total = 0 then .skip past else .enter nx)
            (if total = 0 then s.core.t.p else s.core.t.p.mapIdx fun i v => if i < 8 then v else if i = 8 then BitVec.allOnes 256 else 0)
            (if total = 0 then s.core.t.sb.landP else s.core.t.sb.landP.mapIdx fun i v => if i < 8 then v else 0)))) ∧
    (s.guard g = true → ∀ q ∈ [(Instr.loop g k c len, count, 0xFFFFFFFF), (.loopi g k n len, n.toNat, 0xFFFFFFFF), (.loopp g k c st len, total, 0x1FFFFFFF)],
      (s.core.t.loop.blocked k = true → Traps (s.slotExc .illegalOperand 0 0) s (exec q.1 s)) ∧
      (s.core.t.loop.blocked k = false →
        (s.core.t.loop.holds nx len.toNat = false → Traps (s.slotExc .illegalOperand 2 0) s (exec q.1 s)) ∧
        (s.core.t.loop.holds nx len.toNat = true →
          (q.2.2 < q.2.1 → Traps (s.slotExc .illegalOperand 0 0) s (exec q.1 s)) ∧
          (q.2.1 ≤ q.2.2 →
            (s.core.isScw nx = false → Traps (s.slotExc .badTarget 4 nx) s (exec q.1 s)) ∧
            (s.core.isScw nx = true → q.2.1 = 0 → s.core.isScw past = false → Traps (s.slotExc .badTarget 4 past) s (exec q.1 s)))))) ∧
    (s.guard g = true → s.core.t.loop.lc[levelOf k] = 0 → exec (.lexit g k) s = .next s) ∧
    (s.guard g = true → s.core.t.loop.lc[levelOf k] ≠ 0 → Answers (exec (.lexit g k) s) fun u =>
      (∀ i : Fin 3, u.core.t.loop.lc[i] = if i.val < k.toNat then s.core.t.loop.lc[i] else 0) ∧ u.core.t.loop.valid = false ∧
      u.core.t.loop.vrb = s.core.t.loop.vrb ∧ u.core.t.p = s.core.t.p ∧ u.core.t.x = s.core.t.x ∧
      u.core.bundle.redirect = .skip (s.core.t.loop.bodyEnd (levelOf k)) ∧ SameMemory s u)) ∧
  (∀ (t : TaskState) (i : Fin 3) (pos : VAddr) (fresh n : Nat), t.loop.innermost = some i → t.loop.bodyEnd i = pos →
    (1 < t.loop.remaining i → let u := t.loopEnd fresh (n + 1) pos
      u.pc = t.loop.body i ∧ u.loop.remaining i = t.loop.remaining i - 1 ∧ u.loop.lb = t.loop.lb ∧ u.loop.ln = t.loop.ln ∧
      u.loop.vrb = (if t.loop.isP i then t.loop.vrb + 1 else t.loop.vrb) ∧ u.x = t.x ∧
      (t.loop.isP i = true → ∀ j : Fin 16, 8 < j.val → t.sb.landP[j.val - 1]'(by omega) ≤ t.sb.cyc + 1 → u.p[j] = t.p[j.val - 1]'(by omega)) ∧
      (t.loop.isP i = true → u.p[8] = if t.loop.lc[i].toNat / 2 ^ 29 < t.loop.remaining i - 1 then BitVec.allOnes 256 else 0) ∧
      (t.loop.isP i = false → u.p = t.p)) ∧
    (t.loop.remaining i = 1 → (∀ j : Fin 3, j ≠ i → t.loop.lc[j] = 0) → let u := t.loopEnd fresh (n + 1) pos
      u.pc = pos ∧ u.loop.lc[i] = 0 ∧ u.loop.innermost = none ∧ u.p = t.p ∧ u.x = t.x)) ∧
  (∀ (t : TaskState) (fresh : Nat) (pos a : VAddr), let u := t.redirect fresh (.branch a) pos
    u.pc = a ∧ u.x = t.x ∧ u.p = t.p ∧ ∀ j : Fin 3, u.loop.lb[j] = t.loop.lb[j] ∧ u.loop.ln[j] = t.loop.ln[j] ∧
      u.loop.lc[j] = if t.loop.inside j a then t.loop.lc[j] else 0)

/-- O19. Lane arithmetic, minima, maxima and bitwise operations (R11, R30, R58, R112, R113, R114, R116). In every active lane VADD, VSUB, VADDS, VSUBS, VADDSU, VSUBSU, VMUL, VMULH, VMULHU, VMULQ, VMIN, VMAX, VMINU, VMAXU, VAND, VOR, VXOR, VANDN, VABS, VNEG, VAVG, VMOV, VCLS and VPOPC leave the value of R116's table, with vb a vector or a scalar's low bits; VCLS leaves the count of leading bits equal to the sign less one. Inactive lanes keep theirs, no saturation is counted, and nothing else changes. -/
def Obligations.LaneArithmetic : Prop :=
  ∀ (s : State) (g : BitVec 4) (w : Width) (d a : BitVec 5) (b : VOpnd),
    let n := Width.bits w; let x l := lane n (s.rdV a) l; let y l := s.opLane n b l; let X l := laneS n (s.rdV a) l; let Y l := sgn n (y l)
    ResultV g w d (fun l => x l + y l) 2 s (exec (.vadd g w d a b) s) ∧
    ResultV g w d (fun l => x l + 2 ^ n - y l) 2 s (exec (.vsub g w d a b) s) ∧
    ResultV g w d (fun l => pat n (satS n (X l + Y l))) 2 s (exec (.vadds g w d a b) s) ∧
    ResultV g w d (fun l => pat n (satS n (X l - Y l))) 2 s (exec (.vsubs g w d a b) s) ∧
    ResultV g w d (fun l => min (2 ^ n - 1) (x l + y l)) 2 s (exec (.vaddsu g w d a b) s) ∧
    ResultV g w d (fun l => x l - y l) 2 s (exec (.vsubsu g w d a b) s) ∧
    ResultV g w d (fun l => x l * y l) 4 s (exec (.vmul g w d a b) s) ∧
    ResultV g w d (fun l => pat (2 * n) (X l * Y l) / 2 ^ n) 4 s (exec (.vmulh g w d a b) s) ∧
    ResultV g w d (fun l => x l * y l / 2 ^ n) 4 s (exec (.vmulhu g w d a b) s) ∧
    (∀ m, ResultV g w d (fun l => pat n (satS n (sd (X l * Y l) (n - 1) (if m then 2 else 1) 0))) 4 s (exec (.vmulq g w d a b m) s)) ∧
    ResultV g w d (fun l => pat n (min (X l) (Y l))) 2 s (exec (.vmin g w d a b) s) ∧
    ResultV g w d (fun l => pat n (max (X l) (Y l))) 2 s (exec (.vmax g w d a b) s) ∧
    ResultV g w d (fun l => min (x l) (y l)) 2 s (exec (.vminu g w d a b) s) ∧
    ResultV g w d (fun l => max (x l) (y l)) 2 s (exec (.vmaxu g w d a b) s) ∧
    ResultV g w d (fun l => x l &&& y l) 2 s (exec (.vand g w d a b) s) ∧
    ResultV g w d (fun l => x l ||| y l) 2 s (exec (.vor g w d a b) s) ∧
    ResultV g w d (fun l => x l ^^^ y l) 2 s (exec (.vxor g w d a b) s) ∧
    ResultV g w d (fun l => x l &&& (x l ^^^ y l)) 2 s (exec (.vandn g w d a b) s) ∧
    ResultV g w d (fun l => min (2 ^ (n - 1) - 1) (X l).natAbs) 2 s (exec (.vabs g w d a) s) ∧
    ResultV g w d (fun l => pat n (min (2 ^ (n - 1) - 1) (-X l))) 2 s (exec (.vneg g w d a) s) ∧
    ResultV g w d (fun l => pat n ((X l + Y l + 1) / 2)) 2 s (exec (.vavg g w d a b false) s) ∧
    ResultV g w d (fun l => (x l + y l + 1) / 2) 2 s (exec (.vavg g w d a b true) s) ∧
    ResultV g w d x 2 s (exec (.vmov g w d a) s) ∧
    (∃ c : Nat → Nat, ResultV g w d c 2 s (exec (.vcls g w d a) s) ∧ ∀ l < Width.lanes w, c l < n ∧
      (∀ k ≤ c l, (x l).testBit (n - 1 - k) = decide (X l < 0)) ∧ (c l + 1 < n → (x l).testBit (n - 2 - c l) ≠ decide (X l < 0))) ∧
    ResultV g w d (fun l => ((List.range n).filter fun k => (x l).testBit k).length) 2 s (exec (.vpopc g w d a) s)

/-- O20. The lane shifts, whatever the count (R117). VSLL and VSRL give 0 for a count of n or more; VSRA shifts by at most n - 1, so that a large count gives 0 or all ones. Inactive lanes keep their value and nothing else changes. -/
def Obligations.LaneShifts : Prop :=
  ∀ (s : State) (g : BitVec 4) (w : Width) (d a : BitVec 5) (b : VOpnd),
    let n := Width.bits w; let x l := lane n (s.rdV a) l; let k l := s.opLane n b l; let X l := laneS n (s.rdV a) l
    ResultV g w d (fun l => if k l < n then x l <<< k l else 0) 2 s (exec (.vsll g w d a b) s) ∧
    ResultV g w d (fun l => if k l < n then x l >>> k l else 0) 2 s (exec (.vsrl g w d a b) s) ∧
    ResultV g w d (fun l => pat n (X l / 2 ^ (if k l < n then k l else n - 1))) 2 s (exec (.vsra g w d a b) s)

/-- O21. Lane selection, comparison and bit logic (R12, R58, R113, R118, R119, R132, R133, R134, R135). VSEL writes every lane: va's where the guard is active, vb's elsewhere. VCMPEQ, VCMPNE, VCMPLT, VCMPLE, VCMPLTU and VCMPLEU give every byte lane of each active element its relation, and leave the byte lanes of inactive elements; the predicate is visible from the next bundle. A destination p0 is refused at decode with field 0. Nothing else changes. VBMM multiplies 8 by 8 bit matrices, over GF(2) or with OR; VPEXT moves the bits that the mask selects to the bottom, VPDEP spreads the low bits to the places that the mask selects; VBPERM gathers eight chosen bits and gives 0 for an index of 64 or more. Inactive lanes keep their value and nothing else changes. -/
def Obligations.SelectCompareAndLogic : Prop :=
  (∀ (s : State) (g : BitVec 4) (w : Width) (d a : BitVec 5) (b : VOpnd),
    let n := Width.bits w; let x l := lane n (s.rdV a) l; let y l := s.opLane n b l; let X l := laneS n (s.rdV a) l; let Y l := sgn n (y l)
    Answers (exec (.vsel g w d a b) s) (fun t => OnlyV d s t ∧ fileGet t.core.t.sb.landV (physV s.core.old.vrb d) = s.core.t.sb.cyc + 2 ∧
      ∀ l < Width.lanes w, lane n (t.curV d) l = if active w (s.rdP g) l then x l else y l) ∧
    ∀ p : BitVec 4, (p ≠ 0 →
      ∀ q ∈ [(Instr.vcmpeq g w p a b, fun l => decide (x l = y l)), (.vcmpne g w p a b, fun l => decide (x l ≠ y l)),
          (.vcmplt g w p a b, fun l => decide (X l < Y l)), (.vcmple g w p a b, fun l => decide (X l ≤ Y l)),
          (.vcmpltu g w p a b, fun l => decide (x l < y l)), (.vcmpleu g w p a b, fun l => decide (x l ≤ y l))],
        Answers (exec q.1 s) fun t => OnlyP p s t ∧
          ((∃ l < Width.lanes w, active w (s.rdP g) l = true) → fileGet t.core.t.sb.landP p = s.core.t.sb.cyc + 1) ∧
          ∀ i < 256, (t.pNow p).getLsbD i = let l := i / Width.bytes w; if active w (s.rdP g) l then q.2 l else (s.pNow p).getLsbD i) ∧
      ∀ i ∈ [Instr.vcmpeq g w 0 a b, .vcmpne g w 0 a b, .vcmplt g w 0 a b, .vcmple g w 0 a b, .vcmpltu g w 0 a b, .vcmpleu g w 0 a b],
        i.operandFault = some 0) ∧
  (∀ (s : State) (g : BitVec 4) (w : Width) (d a : BitVec 5) (b : VOpnd), let n := Width.bits w
    let x k l := lane k (s.rdV a) l; let y k l := s.opLane k b l; let rank (m j : Nat) : Nat := ((List.range j).filter m.testBit).length
    let column l i j := (List.range 8).filter fun k => (x 64 l).testBit (8 * i + k) && (y 64 l).testBit (8 * k + j)
    ∃ xr or ext dep per : Nat → Nat,
      ResultV g .dword d xr 3 s (exec (.vbmm g d a b false) s) ∧ ResultV g .dword d or 3 s (exec (.vbmm g d a b true) s) ∧
      ResultV g w d ext 3 s (exec (.vpext g w d a b) s) ∧ ResultV g w d dep 3 s (exec (.vpdep g w d a b) s) ∧
      ResultV g .dword d per 3 s (exec (.vbperm g d a b) s) ∧
      (∀ l < 32, ∀ i < 8, ∀ j < 8, (xr l).testBit (8 * i + j) = decide ((column l i j).length % 2 = 1) ∧
        (or l).testBit (8 * i + j) = decide (column l i j ≠ [])) ∧
      (∀ l < Width.lanes w, ext l < 2 ^ rank (y n l) n ∧ ∀ j < n, ((y n l).testBit j = true → (ext l).testBit (rank (y n l) j) = (x n l).testBit j) ∧
        (dep l).testBit j = ((y n l).testBit j && (x n l).testBit (rank (y n l) j))) ∧
      (∀ l < 32, per l < 256 ∧ ∀ j < 8, let i := y 64 l / 256 ^ j % 256; (per l).testBit j = (decide (i < 64) && (x 64 l).testBit i)))

/-- O22. Narrowing, widening and rounding shifts (R98, R99, R101, R102, R104, R107, R120, R121, R122). VNARROW takes the lanes of va and then of va + 1, shifts each down by k with its rounding mode and clamps it; the clamped lanes are counted against scale slot t and the least headroom is reported for its census; mode 3 uses up one random word of the core. VWIDEN extends the lanes of one half and shifts them up by k, counting nothing. VSHRR shifts down at one width, VSSHR either way, clamping upward. With no active lane nothing changes, and reserved parameter bits, VWIDEN's k above n and VSSHR's shift -64 raise ILLEGAL_OPERAND with field 2. -/
def Obligations.NarrowAndWiden : Prop :=
  ∀ (s : State) (g : BitVec 4) (w : Width) (d a b : BitVec 5) (m : Bool),
    let n := Width.bits w; let p := s.rdS b; let k := p.toNat % 64; let X l := laneS n (s.rdV a) l
    let reject := Traps (s.slotExc .illegalOperand 2 0) s
    (w ≠ .byte → p.toNat < 2 ^ 14 → (m = true → w = .word) →
      let mode := p.toNat / 64 % 4; let t := BitVec.ofNat 6 (p.toNat / 256); let h := Width.narrower w
      let y l := sd (if l < Width.lanes w then X l else laneS n (s.rdV (a + 1)) (l - Width.lanes w)) k mode (s.rndLane l)
      let q l := if m then satU 16 (y l) else satS (n / 2) (y l)
      let on := s.lanesOf g h; let count := (on.filter fun l => decide (q l ≠ y l)).length
      ∃ least : Nat, (on ≠ [] → (∃ l ∈ on, headroom (n / 2) m (q l) = least) ∧ ∀ l ∈ on, least ≤ headroom (n / 2) m (q l)) ∧
        ResultVB g h d (fun l => pat (n / 2) (q l)) 2
          (if on = [] then s.core.bundle
           else { s.core.bundle with
             sats := s.core.bundle.sats ++ (if count = 0 then [] else [(t, count)])
             satSlots := s.core.bundle.satSlots ++ (if count = 0 then [] else [(BitVec.ofNat 3 s.core.bundle.slot, t)])
             census := s.core.bundle.census ++ [(t, least)]
             random := s.core.bundle.random + (if mode = 3 then 1 else 0) }) s (exec (.vnarrow g w d a b m) s)) ∧
    (w ≠ .dword → p.toNat < 2 ^ 7 → k ≤ n →
      ResultV g (Width.wider w) d (fun l =>
        let e := Width.lanes w / 2 * (if m then 1 else 0) + l
        (if p.getLsbD 6 then lane n (s.rdV a) e else pat (2 * n) (X e)) <<< k) 2 s (exec (.vwiden g w d a b m) s)) ∧
    (let used (mode : Nat) : Bundle := { s.core.bundle with
        random := s.core.bundle.random + (if mode = 3 ∧ s.lanesOf g w ≠ [] then 1 else 0) }
     (p.toNat < 2 ^ 8 → let mode := p.toNat / 64 % 4
       ResultVB g w d (fun l => pat n (sd (X l) k mode (s.rndLane l))) 2 (used mode) s (exec (.vshrr g w d a b) s)) ∧
     (p.toNat < 2 ^ 9 → ∀ j : Int, j = sgn 7 p.toNat → j ≠ -64 → let mode := p.toNat / 128 % 4
       ResultVB g w d (fun l => pat n (if 0 ≤ j then satS n (X l * 2 ^ j.toNat) else sd (X l) j.natAbs mode (s.rndLane l))) 2 (used mode) s
         (exec (.vsshr g w d a b) s))) ∧
    (2 ^ 14 ≤ p.toNat → reject (exec (.vnarrow g w d a b m) s)) ∧ (2 ^ 7 ≤ p.toNat ∨ n < k → reject (exec (.vwiden g w d a b m) s)) ∧
    (2 ^ 8 ≤ p.toNat → reject (exec (.vshrr g w d a b) s)) ∧ (2 ^ 9 ≤ p.toNat ∨ p.toNat % 128 = 64 → reject (exec (.vsshr g w d a b) s))

/-- O23. Moves of elements between scalars and lanes (R124). VSPLAT copies a scalar's low bits to every active lane and VIOTA counts up from it, by lane number or by active lanes below. VEXTR reads one element, extended to 64 bits, under lane 0 of its guard; VINSR writes one element if it is active. An index of L or more raises ILLEGAL_OPERAND with field 2. Nothing else changes. -/
def Obligations.ElementMoves : Prop :=
  ∀ (s : State) (g : BitVec 4) (w : Width) (d a b : BitVec 5) (m : Bool), let n := Width.bits w; let x := (s.rdS b).toNat
    ResultV g w d (fun _ => x % 2 ^ n) 2 s (exec (.vsplat g w d b) s) ∧
    ResultV g w d (fun l => x + l) 2 s (exec (.viota g w d b false) s) ∧
    ResultV g w d (fun l => x + ((List.range l).filter fun j => active w (s.rdP g) j).length) 2 s (exec (.viota g w d b true) s) ∧
    (x < Width.lanes w →
      ResultX g (d.zeroExtend 6) (if m then BitVec.ofNat 64 (lane n (s.rdV a) x) else BitVec.ofInt 64 (laneS n (s.rdV a) x)) 2 s
        (exec (.vextr g w d a b m) s) ∧
      Answers (exec (.vinsr g w d a b) s) fun t => OnlyV d s t ∧
        (active w (s.rdP g) x = true → fileGet t.core.t.sb.landV (physV s.core.old.vrb d) = s.core.t.sb.cyc + 2) ∧
        ∀ l < Width.lanes w, lane n (t.curV d) l =
          if l = x ∧ active w (s.rdP g) l = true then (s.rdS a).toNat % 2 ^ n else lane n (s.curV d) l) ∧
    (Width.lanes w ≤ x → (s.guard g = true → Traps (s.slotExc .illegalOperand 2 0) s (exec (.vextr g w d a b m) s)) ∧
      (s.guard g = false → exec (.vextr g w d a b m) s = .next s) ∧ Traps (s.slotExc .illegalOperand 2 0) s (exec (.vinsr g w d a b) s))

/-- O24. Four-bit codes, and elements chosen from a register or a pair (R11, R95, R96, R113, R123, R136, R137). VCB4 replaces each code of one half of va by its entry of the codebook of the scale slot that xb names, as it stood before the bundle; VQ4P packs the bytes of va and va + 1 into clamped 4-bit elements, a byte of the result only under its guard lane; VQ4U extends the sign of the elements of one half. Reserved bits of VCB4's parameter raise ILLEGAL_OPERAND with field 2, and nothing else changes. VPERM gives each active element the table element that its index names, 0 beyond the table; VSLIDE the element xk places up, 0 outside the table. The table is va, or va and va + 1 with m. Nothing else changes. -/
def Obligations.CodesAndPermutes : Prop :=
  (∀ (s : State) (g : BitVec 4) (d a b : BitVec 5) (m : Bool), let half := if m then 256 else 0; let p := s.rdS b
     (p.toNat < 64 → ResultV g .byte d (fun l =>
       lane 8 ((fileGet s.core.old.ts (BitVec.ofNat 6 p.toNat)).cb.setWidth 2048) (lane 4 (s.rdV a) (half + l))) 2 s (exec (.vcb4 g d a b m) s)) ∧
     (64 ≤ p.toNat → Traps (s.slotExc .illegalOperand 2 0) s (exec (.vcb4 g d a b m) s)) ∧
     (let src i := if i < 256 then laneS 8 (s.rdV a) i else laneS 8 (s.rdV (a + 1)) (i - 256)
      ResultV g .byte d (fun j => pat 4 (satS 4 (src (2 * j))) + 16 * pat 4 (satS 4 (src (2 * j + 1)))) 2 s (exec (.vq4p g d a) s)) ∧
     ResultV g .byte d (fun l => pat 8 (laneS 4 (s.rdV a) (half + l))) 2 s (exec (.vq4u g d a m) s)) ∧
  (∀ (s : State) (g : BitVec 4) (w : Width) (d a b : BitVec 5) (m : Bool), let n := Width.bits w; let len : Int := Width.lanes w
     let pick (x : Int) : Nat := if x < 0 then 0 else if x < len then lane n (s.rdV a) x.toNat
       else if m = true ∧ x < 2 * len then lane n (s.rdV (a + 1)) (x.toNat - Width.lanes w) else 0
     ResultV g w d (fun l => pick (lane n (s.rdV b) l)) 3 s (exec (.vperm g w d a b m) s) ∧
     ResultV g w d (fun l => pick (l + (s.rdS b).toInt)) 2 s (exec (.vslide g w d a b m) s))

/-- O25. Reductions of the active elements, return-queue pushes and headroom (R30, R92, R105, R107, R114, R125, R126, R127). VREDADD, VREDMAX, VREDMIN and VREDOR write bits 63:0 of vd and keep the rest: the sum modulo 2^64, the greatest, the least or the OR of the initial value and the active elements, extended as m says. The initial value is xb where it is named, else the identity; with no active element it is the result. Nothing else changes. VTORQ, under lane 0 of its guard, appends one entry with the extended element, due two cycles later; an index of L or more raises ILLEGAL_OPERAND with field 2, sixteen reserved entries raise it with field 4. VCENS reports the least headroom of the active elements to the census of its slot and with m counts the elements at an end of their range; with no active element it changes nothing, and reserved parameter bits raise ILLEGAL_OPERAND with field 2. -/
def Obligations.ReductionsAndCensus : Prop :=
  (∀ (s : State) (g : BitVec 4) (w : Width) (d a : BitVec 5) (b : Option (BitVec 5)) (m : Bool), let n := Width.bits w
     let word l : Word := if m then BitVec.ofNat 64 (lane n (s.rdV a) l) else BitVec.ofInt 64 (laneS n (s.rdV a) l)
     let init (z : Word) : Word := (b.map s.rdS).getD z; let on := s.lanesOf g w
     let low (i : Instr) (r : Word → Prop) : Prop := Answers (exec i s) fun t => OnlyV d s t ∧ r ((t.curV d).extractLsb' 0 64) ∧
       (t.curV d).extractLsb' 64 1984 = (s.curV d).extractLsb' 64 1984 ∧
       fileGet t.core.t.sb.landV (physV s.core.old.vrb d) = s.core.t.sb.cyc + 4
     let key (v : Word) : Int := if m then v.toNat else v.toInt
     low (.vredadd g w d a b m) (fun r => r.toNat = ((init 0).toNat + (on.map fun l => (word l).toNat).sum) % 2 ^ 64) ∧
     low (.vredmax g w d a b m) (fun r => let z := init (if m then 0 else BitVec.ofInt 64 (-2 ^ 63))
       r ∈ z :: on.map word ∧ ∀ v ∈ z :: on.map word, key v ≤ key r) ∧
     low (.vredmin g w d a b m) (fun r => let z := init (BitVec.ofNat 64 (if m then 2 ^ 64 - 1 else 2 ^ 63 - 1))
       r ∈ z :: on.map word ∧ ∀ v ∈ z :: on.map word, key r ≤ key v) ∧
     (m = false → low (.vredor g w d a b) (fun r => ∀ k < 64, r.getLsbD k = ((init 0).getLsbD k || on.any fun l => (word l).getLsbD k)))) ∧
  (∀ (s : State) (g : BitVec 4) (w : Width) (a : BitVec 5) (o : Option (BitVec 5)) (b : BitVec 5) (m : Bool), let n := Width.bits w
     let i := ((o.map s.rdS).getD 0).toNat; let X l := laneS n (s.rdV a) l
     (s.guard g = false → exec (.vtorq g w a o m) s = .next s) ∧
     (s.guard g = true → i < Width.lanes w → s.core.t.comp.rq.length < 16 → Answers (exec (.vtorq g w a o m) s) fun t => OnlyReturnQueue s t ∧
       t.core.t.comp.rq = s.core.t.comp.rq ++ [{ value := some (if m then BitVec.ofNat 64 (lane n (s.rdV a) i) else BitVec.ofInt 64 (X i)),
                                                 due := s.core.clock + 2, tag := 0 }]) ∧
     (s.guard g = true → Width.lanes w ≤ i → Traps (s.slotExc .illegalOperand 2 0) s (exec (.vtorq g w a o m) s)) ∧
     (s.guard g = true → i < Width.lanes w → 16 ≤ s.core.t.comp.rq.length → Traps (s.slotExc .illegalOperand 4 0) s (exec (.vtorq g w a o m) s)) ∧
     (let p := (s.rdS b).toNat; let t := BitVec.ofNat 6 p; let on := s.lanesOf g w
      let count := if m then (on.filter fun l => X l = -(2 ^ (n - 1) : Int) ∨ X l = 2 ^ (n - 1) - 1).length else 0
      (64 ≤ p → Traps (s.slotExc .illegalOperand 2 0) s (exec (.vcens g w a b m) s)) ∧
      (p < 64 → on = [] → exec (.vcens g w a b m) s = .next s) ∧
      (p < 64 → on ≠ [] → ∃ least, (∃ l ∈ on, clsInt n (X l) = least) ∧ (∀ l ∈ on, least ≤ clsInt n (X l)) ∧
        exec (.vcens g w a b m) s = .next { s with core := { s.core with bundle := { s.core.bundle with
          census := s.core.bundle.census ++ [(t, least)]
          sats := s.core.bundle.sats ++ (if count = 0 then [] else [(t, count)])
          satSlots := s.core.bundle.satSlots ++ (if count = 0 then [] else [(BitVec.ofNat 3 s.core.bundle.slot, t)]) } } })))

/-- O26. A completing bundle adds its saturations, lowers its census and may trap (R14, R15, R31, R102, R104, R105, R106, R107). When a bundle completes outside loops, with no jump, each scale slot's satc has grown by the saturations that the bundle counted against it, stopping at 2^32 - 1, its census is the least of what it held and what the bundle reported, and its other fields are as they were; srctr has moved by the slots that used random words. Outside a handler, if a slot that counted then exceeds its threshold, SATURATION is taken with the bundle complete: the lowest such slot as element, field 4, and the earliest instruction that counted against it. In a handler the slots that counted wait for the test after its ERET, and nothing is taken. -/
def Obligations.CountsAtCompletion : Prop :=
  ∀ (s : State), let b := s.core.bundle; b.redirect = .none → s.core.t.loop.innermost = none →
    (∀ t : BitVec 6, let x := fileGet s.core.t.ts t; let y := fileGet s.completeBundle.core.t.ts t
      y.satc.toNat = min 0xFFFFFFFF (x.satc.toNat + ((b.sats.filter fun e => e.1 = t).map (·.2)).sum) ∧
      y.census.toNat = ((b.census.filter fun e => e.1 = t).map (·.2)).foldl min x.census.toNat ∧
      y = { x with satc := y.satc, census := y.census }) ∧
    s.completeBundle.core.srctr = s.core.srctr + BitVec.ofNat 64 b.random ∧
    (s.core.t.sys.th = true → b.complete = false →
      s.endBundle = s.completeBundle.modT fun t => { t with satPend := t.satPend ++ b.satSlots }) ∧
    ∀ (t : BitVec 6) (k : BitVec 3), s.core.t.sys.th = false → b.complete = false → (k, t) ∈ b.satSlots →
      (fileGet s.completeBundle.core.t.ts t).exceeds = true → k.toNat < 6 →
      (∀ e ∈ b.satSlots, (fileGet s.completeBundle.core.t.ts e.2).exceeds = true → t ≤ e.2 ∧ (e.2 = t → k ≤ e.1)) →
      s.endBundle = s.completeBundle.trapOrWait { cause := .saturation, slot := k, opnd := 4, elem := t.setWidth 16 } s.completeBundle.core.t.pc

/-- O27. Pushing active elements onto a stream buffer and popping them (R12, R138, R139, R140). VSPUSH appends the active elements in lane order; past 4,096 bytes it raises ILLEGAL_OPERAND with field 4 and the first element that does not fit. VSPOP fills the lowest active elements from the front, as many as there are, clears or keeps the other active ones as m says, and tells in pf which were filled. VSLEN and VSFLUSH report the length in elements and VSFLUSH empties the buffer. No other buffer, register or byte of memory changes. -/
def Obligations.StreamBuffers : Prop :=
  ∀ (s : State) (g : BitVec 4) (w : Width) (d a : BitVec 5) (n : BitVec 2) (p : BitVec 4) (m : Bool), let e := Width.bytes w
    let st := fileGet s.core.t.streams n; let on := s.lanesOf g w; let k := min on.length (st.length / e)
    let alter (u : State) : State := { u with core := { u.core with t := { u.core.t with streams := s.core.t.streams } } }
    let others (u : State) : Prop := ∀ j, j ≠ n → fileGet u.core.t.streams j = fileGet s.core.t.streams j
    (st.length + e * on.length ≤ 4096 → Answers (exec (.vspush g w n a) s) fun u => others u ∧ alter u = s ∧
      fileGet u.core.t.streams n = st ++ (on.map fun l => leBytes e (lane (8 * e) (s.rdV a) l)).flatten) ∧
    (st.length ≤ 4096 → 4096 < st.length + e * on.length → ∃ l, nth? on ((4096 - st.length) / e) = some l ∧
      Traps { s.slotExc .illegalOperand 4 0 with elem := BitVec.ofNat 16 l } s (exec (.vspush g w n a) s)) ∧
    (on = [] → exec (.vspop g w d n p m) s = .next s) ∧
    (on ≠ [] → Answers (exec (.vspop g w d n p m) s) fun u => others u ∧ fileGet u.core.t.streams n = st.drop (e * k) ∧
      (∀ l < Width.lanes w, lane (8 * e) (u.curV d) l =
        let r := ((List.range l).filter fun j => active w (s.rdP g) j).length
        if active w (s.rdP g) l = true then
          if r < k then leNat ((st.drop (e * r)).take e) else if m then 0 else lane (8 * e) (s.curV d) l
        else lane (8 * e) (s.curV d) l) ∧
      (p ≠ 0 → fileGet u.core.t.sb.landP p = s.core.t.sb.cyc + 1 ∧ ∀ i < 256, (u.pNow p).getLsbD i =
        (active w (s.rdP g) (i / e) && decide (((List.range (i / e)).filter fun j => active w (s.rdP g) j).length < k))) ∧
      (∀ r, r ≠ d → u.curV r = s.curV r) ∧ (∀ r, r ≠ p → u.pNow r = s.pNow r) ∧ u.core.t.x = s.core.t.x ∧ u.core.t.sys = s.core.t.sys ∧
      u.core.t.ts = s.core.t.ts ∧ SameMemory s u) ∧
    ResultX g (d.zeroExtend 6) (BitVec.ofNat 64 (st.length / e)) 2 s (exec (.vslen g w d n) s) ∧
    (if s.guard g then Answers (exec (.vsflush g w d n) s) fun u => others u ∧ fileGet u.core.t.streams n = [] ∧
        GivesX (d.zeroExtend 6) (BitVec.ofNat 64 (st.length / e)) 2 s (alter u)
     else exec (.vsflush g w d n) s = .next s)

/-- O28. Exponential, reciprocal, square root and division, lane by lane (R143, R144, R145, R146, R147, R148, R149). With legal parameters and no poisoned word in an active lane of a source, VEXP gives e^x in Q1.15 through its table of rounded powers, VRCP the reciprocal and VRSQ the reciprocal root scaled by 2^s and rounded down, VDIV the truncated quotient, with the bounds of R148 and R149 at zero; VRCP and VDIV set sticky flag 0 and VRSQ flag 1 exactly when an active lane has a zero divisor or operand, and no other system register changes. A poisoned word of an active lane raises POISON for the lowest such lane, its first such source, with the register's place as address. Reserved parameter bits raise ILLEGAL_OPERAND with field 2, whatever is poisoned: which comes first the manual leaves open [log 65]. -/
def Obligations.RoutineResults : Prop :=
  ∀ (s : State) (g : BitVec 4) (d a b : BitVec 5) (o : VOpnd),
    let p := (s.rdS b).toNat; let X k l := laneS k (s.rdV a) l; let x l := lane 32 (s.rdV a) l; let top := 2 ^ 32 - 1
    let flagged (w : Width) (f : BitVec 2) (zero : Nat → Bool) (y : Nat → Nat) (n : Nat) (i : Instr) : Prop := Answers (exec i s) fun u =>
      u.core.t.sys = { s.core.t.sys with vflags := s.core.t.sys.vflags ||| if (s.lanesOf g w).any zero then f else 0 } ∧
      GivesV (s.rdP g) w d y n s { u with core := { u.core with t := { u.core.t with sys := s.core.t.sys } } }
    let other : List (BitVec 5) := match o with | .v r => [r] | .x _ => []
    (p < 16 → s.cleanLanes g .half [a] → ∃ T : Nat → Nat, (∀ i < 256, (2 * T i - 1) ^ 256 * 2 ^ i ≤ 2 ^ 4096 ∧ 2 ^ 4096 < (2 * T i + 1) ^ 256 * 2 ^ i) ∧
      ResultV g .half d (fun l => let t := (-(min (X 16 l) 0)).toNat * 23637; let n := t >>> (p + 14)
        if n < 16 then T ((t >>> (p + 6)) % 256) >>> n else 0) 8 s (exec (.vexp g d a b) s)) ∧
    (p < 64 → s.cleanLanes g .word [a] → flagged .word 1 (fun l => x l = 0) (fun l => if x l = 0 then top else min top (2 ^ p / x l)) 10 (.vrcp g d a b)) ∧
    (p < 64 → s.cleanLanes g .word [a] → ∃ y : Nat → Nat, flagged .word 2 (fun l => x l = 0) y 12 (.vrsq g d a b) ∧
      ∀ l < 64, (x l = 0 → y l = top) ∧ (x l ≠ 0 → y l ≤ top ∧ y l * y l * x l ≤ 2 ^ p ∧ 2 ^ p < (y l + 1) * (y l + 1) * x l)) ∧
    (s.cleanLanes g .word (a :: other) → flagged .word 1 (fun l => s.opLane 32 o l = 0) (fun l => pat 32 (
      let q := sgn 32 (s.opLane 32 o l)
      if q = 0 then (if 0 ≤ X 32 l then 2 ^ 31 - 1 else -2 ^ 31) else min (2 ^ 31 - 1) ((X 32 l).tdiv q))) 24 (.vdiv g d a o)) ∧
    (p < 16 → PoisonedSource (.vexp g d a b) g .half [(3, 1, a)] s) ∧
    (p < 64 → PoisonedSource (.vrcp g d a b) g .word [(3, 1, a)] s ∧ PoisonedSource (.vrsq g d a b) g .word [(3, 1, a)] s) ∧
    PoisonedSource (.vdiv g d a o) g .word ((3, 1, a) :: other.map fun r => (4, 2, r)) s ∧
    (16 ≤ p → Traps (s.slotExc .illegalOperand 2 0) s (exec (.vexp g d a b) s)) ∧
    (64 ≤ p → Traps (s.slotExc .illegalOperand 2 0) s (exec (.vrcp g d a b) s) ∧ Traps (s.slotExc .illegalOperand 2 0) s (exec (.vrsq g d a b) s))

/-- O29. VOPT updates weight, momentum and variance of every active lane (R144, R145, R146, R150, R151). With a legal parameter and no poisoned word in an active lane of a source, on a group of three distinct names, VOPT leaves the lanes of R150 in the three registers, counts the clamped weights, moments and variances against the slots that sys.optp names, and sets sticky flag 1 exactly when an active lane takes the root of zero. Inactive lanes, the scalar registers, the predicates and memory are unchanged. A poisoned word of an active lane of the group or of va raises POISON for the lowest such lane, its first such source; reserved parameter bits raise ILLEGAL_OPERAND with field 2, whatever is poisoned [log 65]. -/
def Obligations.OptimiserStep : Prop :=
  ∀ (s : State) (g : BitVec 4) (d a b : BitVec 5), d.toNat ≤ 29 →
    let p := (s.rdS b).toNat; let f (hi lo : Nat) : Nat := bitsOf p hi lo
    let w l := laneS 16 (s.rdV d) l; let m l := laneS 16 (s.rdV (d + 1)) l; let v l : Int := lane 16 (s.rdV (d + 2)) l
    let g' l := laneS 16 (s.rdV a) l
    let m1 l := m l - m l / 2 ^ f 3 0 + g' l / 2 ^ f 3 0; let m2 l := satS 16 (m1 l)
    let v1 l := v l - v l / 2 ^ f 7 4 + g' l * g' l / 2 ^ (f 7 4 + f 19 16); let v2 l := satU 16 (v1 l)
    let root l := rsqLane 30 (v2 l + f 31 25).toNat
    let w1 l := w l - (f 15 8 : Int) * m2 l * root l / 2 ^ f 24 20; let w2 l := satS 16 (w1 l)
    let on := s.lanesOf g .half
    let clamped (x y : Nat → Int) : Nat := (on.filter fun l => decide (x l ≠ y l)).length
    let note (t : BitVec 6) (c : Nat) : List (BitVec 6 × Nat) := if c = 0 then [] else [(t, c)]
    let optp := s.core.old.sys.optp
    (p < 2 ^ 32 → PoisonedSource (.vopt g d a b) g .half [(0, 0, d), (1, 4, d + 1), (2, 4, d + 2), (3, 1, a)] s) ∧
    (p < 2 ^ 32 → s.cleanLanes g .half [d, d + 1, d + 2, a] → Answers (exec (.vopt g d a b) s) fun u =>
      (∀ l < 128, let keep (r : BitVec 5) (x : Nat) : Prop := lane 16 (u.curV r) l = if active .half (s.rdP g) l then x else lane 16 (s.curV r) l
        keep d (pat 16 (w2 l)) ∧ keep (d + 1) (pat 16 (m2 l)) ∧ keep (d + 2) (pat 16 (v2 l))) ∧
      (∀ r, r ≠ d → r ≠ d + 1 → r ≠ d + 2 → u.curV r = s.curV r) ∧
      u.core.bundle.sats = s.core.bundle.sats ++ note (optp.extractLsb' 0 6) (clamped w1 w2) ++ note (optp.extractLsb' 6 6) (clamped m1 m2) ++
        note (optp.extractLsb' 12 6) (clamped v1 v2) ∧
      u.core.t.sys = { s.core.t.sys with
        vflags := s.core.t.sys.vflags ||| if on.any fun l => decide (v2 l + f 31 25 = 0) then 2 else 0 } ∧
      u.core.bundle.census = s.core.bundle.census ∧ u.core.bundle.random = s.core.bundle.random ∧
      u.core.t.x = s.core.t.x ∧ u.core.t.p = s.core.t.p ∧ u.core.t.ts = s.core.t.ts ∧ SameMemory s u) ∧
    (2 ^ 32 ≤ p → Traps (s.slotExc .illegalOperand 2 0) s (exec (.vopt g d a b) s))

/-- O30. Vector loads and stores in the own window, and their faults (R31, R58, R114, R128, R129, R130). With the active elements aligned, mapped, inside the own window and unpoisoned, VLD, VLDS, VLDX and VLDT load each active element little-endian from its address of R128 and R129, VLDB one element into every active lane, and VLDP, under lane 0 of its guard, 32 bytes into a predicate; results land after 6 cycles. Inactive lanes keep their value, and nothing else changes, no byte of memory included. With the active elements aligned and inside the local window, VST, VSTS, VSTX and VSTT store each active element little-endian at its address, in ascending order, and VSTP the 32 bytes of a predicate; the bytes that no later element overlaps read as stored, every other byte and every register is unchanged. Of the active elements in ascending order, the first that is not aligned raises MISALIGNED, that has no translation TRANSLATION, that is refused PROTECTION, that is loaded poisoned POISON, with its number and address, where those below it are fine and in the own window; VLDB has one element, the lowest active lane's, and VLDP and VSTP one of 32 bytes under lane 0 of their guard. VLDT and VSTT, whatever their guard, raise ILLEGAL_OPERAND field 2 for a parameter out of range and OPERAND_FORMAT field 1 with the base for a shape that R129 forbids. -/
def Obligations.VectorAccesses : Prop :=
  (∀ (s : State) (g : BitVec 4) (w : Width) (d a b : BitVec 5) (o : Option (BitVec 5)) (m : Bool) (p : BitVec 4),
    let e := Width.bytes w; let base := s.rdS a + (o.map s.rdS).getD 0
    VecLoad (.vld g w d a o) g w d (fun l => base + BitVec.ofNat 64 (l * e)) s ∧
    VecLoad (.vlds g w d a b) g w d (fun l => s.rdS a + BitVec.ofNat 64 l * s.rdS b) s ∧
    VecLoad (.vldx g w d a b m) g w d
      (fun l => s.rdS a + BitVec.ofInt 64 (laneS (8 * e) (s.rdV b) l * if m then (e : Int) else 1)) s ∧
    (tileParamBad (s.rdS b) = false → s.tileShapeBad (s.rdS a) (s.rdS b) w = false →
      VecLoad (.vldt g w d a b) g w d (tileAddr (s.rdS a) (s.rdS b) e) s) ∧
    VecLoad (.vldb g w d a o) g w d (fun _ => base) s ∧
    (∀ loc, p ≠ 0 → OwnRead s base 32 loc →
      if s.guard g then Answers (exec (.vldp g p a o) s) fun t => OnlyP p s t ∧ t.pNow p = BitVec.ofNat 256 (s.little loc.key loc.pa 32) ∧
        fileGet t.core.t.sb.landP p = s.core.t.sb.cyc + 6
      else exec (.vldp g p a o) s = .next s)) ∧
  (∀ (s : State) (g : BitVec 4) (w : Width) (d a b : BitVec 5) (o : Option (BitVec 5)) (m : Bool) (p : BitVec 4),
    let e := Width.bytes w; let base := s.rdS a + (o.map s.rdS).getD 0; let val l := lane (8 * e) (s.rdV d) l
    VecStore (.vst g w d a o) g w (fun l => base + BitVec.ofNat 64 (l * e)) val s ∧
    VecStore (.vsts g w d a b) g w (fun l => s.rdS a + BitVec.ofNat 64 l * s.rdS b) val s ∧
    VecStore (.vstx g w d a b m) g w
      (fun l => s.rdS a + BitVec.ofInt 64 (laneS (8 * e) (s.rdV b) l * if m then (e : Int) else 1)) val s ∧
    (tileParamBad (s.rdS b) = false → s.tileShapeBad (s.rdS a) (s.rdS b) w = false →
      VecStore (.vstt g w d a b) g w (tileAddr (s.rdS a) (s.rdS b) e) val s) ∧
    (∀ off, base.toNat % 32 = 0 → placeOf (vaOf base) = .window off →
      if s.guard g then Answers (exec (.vstp g p a o) s) (ElemsStored s [0] 32 (fun _ => off) fun _ => (s.rdP p).toNat)
      else exec (.vstp g p a o) s = .next s)) ∧
  (∀ (s : State) (g : BitVec 4) (w : Width) (d a b : BitVec 5) (o : Option (BitVec 5)) (m : Bool) (p : BitVec 4),
    let e := Width.bytes w; let base := s.rdS a + (o.map s.rdS).getD 0; let on := s.lanesOf g w
    let line (l : Nat) := base + BitVec.ofNat 64 (l * e); let row (l : Nat) := s.rdS a + BitVec.ofNat 64 l * s.rdS b
    let at' (l : Nat) := s.rdS a + BitVec.ofInt 64 (laneS (8 * e) (s.rdV b) l * if m then (e : Int) else 1)
    (VecFaults (.vld g w d a o) on e e line false s ∧ VecFaults (.vlds g w d a b) on e e row false s ∧ VecFaults (.vldx g w d a b m) on e e at' false s ∧
     VecFaults (.vst g w d a o) on e e line true s ∧ VecFaults (.vsts g w d a b) on e e row true s ∧ VecFaults (.vstx g w d a b m) on e e at' true s ∧
     VecFaults (.vldb g w d a o) (on.take 1) e e (fun _ => base) false s) ∧
    (s.guard g = true → VecFaults (.vldp g p a o) [0] 32 32 (fun _ => base) false s ∧ VecFaults (.vstp g p a o) [0] 32 32 (fun _ => base) true s) ∧
    (let x := (s.rdS b).toNat; let tile := tileAddr (s.rdS a) (s.rdS b) e; let col := bitsOf x 31 16; let lines := 2 ^ bitsOf x 34 32
     let rl := bitsOf x 41 36; let column := (s.rdS b).getLsbD 35
     let range : Prop := x < 2 ^ 42 ∧ bitsOf x 34 32 ≤ 5 ∧ 1 ≤ rl ∧ rl ≤ 32
     let shape : Prop := rl ≤ lines ∧ (column = false → (col + Width.lanes w) * e ≤ 64 * rl) ∧ (column = true → rl = lines ∧ col * e < 64 * rl) ∧
       (s.rdS a).toNat % 64 = 0 ∧ ∀ l < Width.lanes w, s.ownWindow (vaOf (tile l)) = true
     ∀ i ∈ [Instr.vldt g w d a b, .vstt g w d a b],
       (¬range → Traps (s.slotExc .illegalOperand 2 0) s (exec i s)) ∧
       (range → ¬shape → Traps (s.slotExc .operandFormat 1 (vaOf (s.rdS a))) s (exec i s)) ∧
       (range → shape → VecFaults i on e e tile (decide (i = .vstt g w d a b)) s)))

/-- O31. Matrix parameter and status registers, and the microprogram store (R16, R24, R154, R156, R158, R163, R170). MPW replaces one parameter register of its engine and MPR reads one; MRPG reads the engine's miss register. MCFG sets the formats of a drained engine, and otherwise raises ILLEGAL_OPERAND: field 1 for reserved bits or codes, field 4 while the engine is not drained. MDRAIN waits, as a bounded wait, while a command is in the engine, and then reads the summary, clears it and marks the engine drained; of a pair call of which one half has ended, the engine of that half waits for nothing more [log 45]. Nothing else changes. MUCW writes a word of the shadow store when no load of the plane is under way, or of the lit store when MDRAIN has drained each engine present since its last command; MUCR reads one. The other words of both stores keep their values. An index of 1,024 or more raises ILLEGAL_OPERAND with the field of the index, a store that may not be written raises it with field 4. -/
def Obligations.MatrixRegisters : Prop :=
  (∀ (s : State) (g : BitVec 4) (a d : BitVec 6) (k : BitVec 3) (e : Bool), let m := s.core.t.me e; let x := s.rdX a
    (s.guard g = false → ∀ i ∈ [Instr.mpw g a k e, .mcfg g a e, .mdrain g d e], exec i s = .next s) ∧
    ResultX g d (fileGet m.mp k) 1 s (exec (.mpr g d k e) s) ∧ ResultX g d m.mrp 1 s (exec (.mrpg g d e) s) ∧
    (s.guard g = true →
      Answers (exec (.mpw g a k e) s) (fun u => ∃ f : File 3 Word, u = s.withMe e { m with mp := f } ∧
        fileGet f k = x ∧ ∀ j, j ≠ k → fileGet f j = fileGet m.mp j) ∧
      (let legal := x.toNat < 256 ∧ x.toNat % 16 ≤ 4 ∧ x.toNat / 16 ≤ 4
       (legal → m.drained = true → exec (.mcfg g a e) s = .next (s.withMe e { m with mfmt := BitVec.ofNat 8 x.toNat })) ∧
       (¬legal → Traps (s.slotExc .illegalOperand 1 0) s (exec (.mcfg g a e) s)) ∧
       (legal → m.drained = false → Traps (s.slotExc .illegalOperand 4 0) s (exec (.mcfg g a e) s))) ∧
      (let idle := m.queue = [] ∧ m.run = none ∧ ∀ h ∈ s.core.t.haz, (h.half = none → h.eng ≠ if e then 1 else 0) ∧ ∀ q, h.half = some q → q.1 = e
       (idle → Answers (exec (.mdrain g d e) s)
         (GivesX d (BitVec.ofNat 64 (m.firstBad.toNat + m.firstOp.toNat * 2 ^ 8 + m.bad.toNat * 2 ^ 16)) 1
           (s.withMe e { m with firstBad := 0, firstOp := 0, bad := 0, drained := true, mdrained := true }))) ∧
       (¬idle → exec (.mdrain g d e) s = .next s.waitHere)))) ∧
  (∀ (s : State) (g : BitVec 4) (d x a : BitVec 6) (e : Bool), let i := (s.rdX x).toNat; s.guard g = true →
    (i < 1024 →
      (s.core.loading = none → Answers (exec (.mucw g x a true e) s) fun u => u.core.lit = s.core.lit ∧ u.core.t = s.core.t ∧
        u.core.shadow.microAt i = s.rdX a ∧ (∀ j, j ≠ i → u.core.shadow.microAt j = s.core.shadow.microAt j) ∧ SameMemory s u) ∧
      (s.core.loading ≠ none → Traps (s.slotExc .illegalOperand 4 0) s (exec (.mucw g x a true e) s)) ∧
      (s.core.enginesDrained = true → Answers (exec (.mucw g x a false e) s) fun u => u.core.shadow = s.core.shadow ∧ u.core.t = s.core.t ∧
        u.core.lit.microAt i = s.rdX a ∧ (∀ j, j ≠ i → u.core.lit.microAt j = s.core.lit.microAt j) ∧ SameMemory s u) ∧
      (s.core.enginesDrained = false → Traps (s.slotExc .illegalOperand 4 0) s (exec (.mucw g x a false e) s)) ∧
      ResultX g d (s.core.shadow.microAt i) 2 s (exec (.mucr g d x true e) s) ∧
      ResultX g d (s.core.lit.microAt i) 2 s (exec (.mucr g d x false e) s)) ∧
    (1024 ≤ i → ∀ h, Traps (s.slotExc .illegalOperand 0 0) s (exec (.mucw g x a h e) s) ∧
      Traps (s.slotExc .illegalOperand 1 0) s (exec (.mucr g d x h e) s)))

/-- O32. Speculation, accumulator transfers and status reads join their engine's queue (R92, R154, R155, R165, R167, R170, R278). With room for a command, MSPEC, MCOMMIT, MDISCARD, MZERO, MACCLD, MACCST and MSTAT append a command with the engine's parameters and formats as they stand to the queue of their engine and to the hazard unit; MSTAT reserves a return-queue entry. Speculation may be opened only when none is and closed only when one is; illegal transfer words, misaligned addresses and a full return queue raise ILLEGAL_OPERAND with their field. No register and no byte of memory changes. A full engine queue holds the bundle before anything is checked. -/
def Obligations.MatrixCommandsQueue : Prop :=
  ∀ (s : State) (g : BitVec 4) (x a : BitVec 6) (k : BitVec 2) (z e : Bool), s.guard g = true →
    let m := s.core.t.me e; let w := s.rdX a; let f := xferOf w; let bad (n : BitVec 3) : State → Out → Prop := Traps (s.slotExc .illegalOperand n 0)
    (m.room = true →
      (m.specIssue = false → Answers (exec (.mspec g z e) s) fun u => QueuedMat e (.mspec z) 0 0 false true s u ∧ u.core.t.comp = s.core.t.comp) ∧
      (m.specIssue = true →
        (Answers (exec (.mcommit g e) s) fun u => QueuedMat e .mcommit 0 0 false false s u ∧ u.core.t.comp = s.core.t.comp) ∧
        Answers (exec (.mdiscard g e) s) fun u => QueuedMat e .mdiscard 0 0 false false s u ∧ u.core.t.comp = s.core.t.comp) ∧
      ((z = false → f.badRect = false ∧ w.toNat < 2 ^ 33) → Answers (exec (.mzero g a z e) s) fun u =>
        QueuedMat e (.mzero z) w 0 false m.specIssue s u ∧ u.core.t.comp = s.core.t.comp) ∧
      ((s.rdX x).toNat % f.esize = 0 →
        (f.badMove true = false → Answers (exec (.maccld g x a e) s) fun u =>
          QueuedMat e .maccld (s.rdX x) w false m.specIssue s u ∧ u.core.t.comp = s.core.t.comp ∧ u.core.bundle = s.core.bundle) ∧
        (f.badMove false = false → Answers (exec (.maccst g x a e) s) fun u =>
          QueuedMat e .maccst (s.rdX x) w false m.specIssue s u ∧ u.core.t.comp = s.core.t.comp ∧
          u.core.bundle = { s.core.bundle with random := s.core.bundle.random + if f.mode = 3 then 1 else 0 })) ∧
      (s.core.t.comp.rq.length < 16 → Answers (exec (.mstat g k e) s) fun u => QueuedMat e (.mstat k) 0 0 false m.specIssue s u ∧
        u.core.t.comp = { s.core.t.comp with rq := s.core.t.comp.rq ++ [{ value := none, due := 0, tag := s.core.t.nextSeq }] }) ∧
      (16 ≤ s.core.t.comp.rq.length → bad 4 s (exec (.mstat g k e) s)) ∧
      (m.specIssue = true → bad 4 s (exec (.mspec g z e) s)) ∧
      (m.specIssue = false → bad 4 s (exec (.mcommit g e) s) ∧ bad 4 s (exec (.mdiscard g e) s)) ∧
      (f.badRect = true ∨ 2 ^ 33 ≤ w.toNat → bad 1 s (exec (.mzero g a false e) s)) ∧
      (f.badMove true = true → bad 1 s (exec (.maccld g x a e) s)) ∧ (f.badMove false = true → bad 1 s (exec (.maccst g x a e) s)) ∧
      ((s.rdX x).toNat % f.esize ≠ 0 → (f.badMove true = false → bad 0 s (exec (.maccld g x a e) s)) ∧
        (f.badMove false = false → bad 0 s (exec (.maccst g x a e) s)))) ∧
    (m.room = false →
      ∀ i ∈ [Instr.mspec g z e, .mcommit g e, .mdiscard g e, .mzero g a z e, .maccld g x a e, .maccst g x a e, .mstat g k e],
        exec i s = .next s.hold)

/-- O33. Calls of matrix routines join their engine's queue, or both for a pair (R154, R159, R161, R166, R184). A call with legal call words, a completion block that is a multiple of 8, a free tag, parameters that pass the checks of R161 and room in each engine it needs appends its command with the engine's snapshot, takes its tag, and changes no register and no byte of memory; a pair call joins both queues. A failed check raises OPERAND_FORMAT with the parameter register as element; reserved bits, a held tag, a misaligned block and unequal formats of a pair raise ILLEGAL_OPERAND with their field. A full queue of an engine it needs holds the bundle before anything is checked. -/
def Obligations.MatrixCallsQueue : Prop :=
  ∀ (s : State) (g : BitVec 4) (r c : BitVec 6) (pair e gang : Bool), s.guard g = true →
    let call := if gang then Instr.mcallg g r c pair e else .mcall g r c pair e; let m := s.core.t.me e
    let xr := (s.rdX r).toNat; let tag : Option (BitVec 6) := if xr / 2 ^ 12 % 2 = 1 then some (BitVec.ofNat 6 (xr / 2 ^ 6)) else none
    let entry := s.core.lit.microAt (16 * (xr % 64)); let uses := s.callUses (xr % 64); let d := dimsOf m.mp[4]
    let check := if mwE entry then callFault m.mp m.mfmt uses (wholeM d gang uses.aY (domSize s.core.t.sys.dom[0])) (wholeN d pair) else none
    let bad (n : BitVec 3) : Prop := Traps (s.slotExc .illegalOperand n 0) s (exec call s)
    let ready := m.room = true ∧ (pair = true → (s.core.t.me (!e)).room = true)
    (¬ready → exec call s = .next s.hold) ∧ (ready →
    (xr < 2 ^ 13 → (s.rdX c).toNat % 8 = 0 → (pair = true → s.core.t.me0.mfmt = s.core.t.me1.mfmt) →
      (∀ t, tag = some t → s.tagHeld t = false) →
      (check = none →
        Answers (exec call s) fun u => QueuedMat e (if gang then .mcallg else .mcall) (s.rdX r) (s.rdX c) pair m.specIssue s u ∧ TookTag tag s u) ∧
      (∀ n a, check = some (n, a) → Traps { s.slotExc .operandFormat 4 a with elem := BitVec.ofNat 16 n } s (exec call s))) ∧
    (2 ^ 13 ≤ xr → bad 0) ∧ (xr < 2 ^ 13 → (s.rdX c).toNat % 8 ≠ 0 → bad 1) ∧
    (xr < 2 ^ 13 → (s.rdX c).toNat % 8 = 0 → pair = true → s.core.t.me0.mfmt ≠ s.core.t.me1.mfmt → bad 4) ∧
    (xr < 2 ^ 13 → (s.rdX c).toNat % 8 = 0 → (pair = true → s.core.t.me0.mfmt = s.core.t.me1.mfmt) →
      (∃ t, tag = some t ∧ s.tagHeld t = true) → bad 0))

/-- O34. Geometry registers, copies and collectives join their engine's queue (R173, R174, R175, R180, R183, R184, R185, R186, R194, R196). ERW and ERD write and read the geometry registers of the slot's engine and the two arbitration words; a weight of 0 or reserved bits raise ILLEGAL_OPERAND with field 1. With legal control words, aligned blocks, a free tag and room, CPY, CPYM, CPYX, CPYW and COLL append a command with the geometry as it stands and take their tag, and CSIG appends its signal, whatever cwa and sba hold [log 48]; no register but xd and no byte of memory changes. Reserved control bits, misaligned blocks, a misaligned index table or handle, a held tag and a signal above 63 raise ILLEGAL_OPERAND with their field, the first in the model's order where several apply [log 65]. A full queue holds the bundle before anything is checked. CPYC removes every copy that its mask names from the engine, leaves each to end CANCELLED, and counts them. -/
def Obligations.CopyCommandsQueue : Prop :=
  ∀ (s : State) (g : BitVec 4) (c o d : BitVec 6) (y z : Bool), let e := s.slotCe; let q := s.core.t.ce e; let ctl := s.rdX c; let opr := s.rdX o
    let tag (w : Word) : Option (BitVec 6) := if w.toNat / 64 % 2 = 1 then some (BitVec.ofNat 6 w.toNat) else none
    let legal (w : Word) : Prop := bitsOf w.toNat 15 7 = 0 ∧ w.toNat < 2 ^ 48 ∧ ∀ t, tag w = some t → s.tagHeld t = false
    let blocks := q.geo[13].toNat % 8 = 0 ∧ q.geo[14].toNat % 16 = 0
    let anyBundle (u : State) : State := { u with core := { u.core with bundle := s.core.bundle } }
    (s.guard g = false → ∀ i ∈ [Instr.cpy g c o y z, .cpym g c o y z, .cpyx g c o z, .cpyw g c o y z, .cpyc g d c, .coll g c o, .csig g c o, .erw g c o],
      exec i s = .next s) ∧
    (s.guard g = true → (blocks → legal ctl → q.queue.length < 16 →
        Answers (exec (.cpy g c o y z) s) (fun u => QueuedCopy e .cpy ctl opr z y (tag ctl) s (anyBundle u)) ∧
        Answers (exec (.cpym g c o y z) s) (fun u => QueuedCopy e .cpym ctl opr z y (tag ctl) s (anyBundle u)) ∧
        (opr.toNat % 4 = 0 → Answers (exec (.cpyx g c o z) s) fun u => QueuedCopy e (.cpyx z) ctl opr false false (tag ctl) s (anyBundle u)) ∧
        Answers (exec (.cpyw g c o y z) s) (fun u => QueuedCopy e .cpyw ctl opr z y (tag ctl) s (anyBundle u)) ∧
        (opr.toNat % 64 = 0 → Answers (exec (.coll g o c) s) fun u => QueuedCopy e .coll ctl opr false false (tag ctl) s u)) ∧
      (q.queue.length < 16 → opr.toNat % 64 = 0 → ctl.toNat < 64 → Answers (exec (.csig g o c) s) fun u =>
        QueuedCopy e .csig ctl opr false false none s u) ∧
      (16 ≤ q.queue.length → ∀ i ∈ [Instr.cpy g c o y z, .cpym g c o y z, .cpyx g c o z, .cpyw g c o y z, .coll g o c, .csig g o c],
        exec i s = .next s.hold) ∧
      (q.queue.length < 16 → let bad (n : BitVec 3) (i : Instr) : Prop := Traps (s.slotExc .illegalOperand n 0) s (exec i s)
        let sound : Prop := bitsOf ctl.toNat 15 7 = 0 ∧ ctl.toNat < 2 ^ 48; let held : Prop := ∃ t, tag ctl = some t ∧ s.tagHeld t = true
        (∀ i ∈ [Instr.cpy g c o y z, .cpym g c o y z, .cpyx g c o z, .cpyw g c o y z], (¬sound → bad 0 i) ∧ (sound → ¬blocks → bad 4 i)) ∧
        (sound → blocks → held → (∀ i ∈ [Instr.cpy g c o y z, .cpym g c o y z, .cpyw g c o y z], bad 0 i) ∧ (opr.toNat % 4 = 0 → bad 0 (.cpyx g c o z))) ∧
        (sound → blocks → opr.toNat % 4 ≠ 0 → bad 1 (.cpyx g c o z)) ∧
        (opr.toNat % 64 ≠ 0 → bad 0 (.coll g o c) ∧ bad 0 (.csig g o c)) ∧
        (opr.toNat % 64 = 0 → (¬sound → bad 1 (.coll g o c)) ∧ (sound → ¬blocks → bad 4 (.coll g o c)) ∧ (sound → blocks → held → bad 1 (.coll g o c)) ∧
          (64 ≤ ctl.toNat → bad 1 (.csig g o c)))) ∧
      (∀ n : BitVec 6, n.toNat < 16 → Answers (exec (.erw g c n) s) fun u => (∃ f : File 4 Word,
          u = { s with core := { s.core with t := s.core.t.setCe e { q with geo := f } } } ∧ fileGet f (n.extractLsb' 0 4) = ctl ∧
          ∀ j, j ≠ n.extractLsb' 0 4 → fileGet f j = fileGet q.geo j)) ∧
      (let weights := (∀ i < 3, ctl.toNat / 256 ^ i % 256 ≠ 0) ∧ ctl.toNat < 2 ^ 24
       (weights → exec (.erw g c 16) s = .next { s with core := { s.core with t := { s.core.t with niarb := ctl } } } ∧
         exec (.erw g c 17) s = .next { s with mgmt := { s.mgmt with fparb := ctl } }) ∧
       (¬weights → ∀ n ∈ [16, 17], Traps (s.slotExc .illegalOperand 1 0) s (exec (.erw g c n) s))) ∧
      Answers (exec (.cpyc g d c) s) fun u =>
        let named (k : CopyCmd) : Bool := k.kind.isCopy && ctl.getLsbD (k.ctl.toNat % 64)
        let w := u.core.t.ce e
        let n := (q.queue.filter named).length + (match q.run with
          | some r => if named r.cmd then 1 else 0
          | none => 0)
        u.xNow d = (if d = 0 then 0 else BitVec.ofNat 64 n) ∧ w.queue = q.queue.filter (fun k => !named k) ∧
        (∀ r, w.run = some r ↔ q.run = some r ∧ named r.cmd = false) ∧ w.flight.length = q.flight.length + n ∧
        (∀ f ∈ w.flight, f ∈ q.flight ∨ f.status = .cancelled) ∧ w.geo = q.geo ∧ (∀ r, r ≠ d → u.xNow r = s.xNow r) ∧ SameMemory s u) ∧
    (∀ n : BitVec 6, ResultX g d (if n.toNat < 16 then fileGet q.geo (n.extractLsb' 0 4) else if n = 16 then s.core.old.niarb else s.core.old.fparb) 1 s
      (exec (.erd g d n) s))

/-- O35. Returning atomics here and in another package, and reductions that retire at issue (R212, R213, R215, R308, R323, R324). With its guard set and an aligned address that may be read and written, whose home is in this package and unpoisoned, and no reduction to the same bytes still waiting, each atomic replaces the 4, 8 or 16 bytes by the value of R212's table and brings the old value back, sign-extended from 4 bytes; ACAS stores only where the old value equals the register that receives it. No other byte changes, and no register until the result lands. One whose home is in another package that is not lost sends its ATOMIC packet, a comparand in the payload [log 20], once its flow has room, and holds the bundle, with no register and no byte of memory changed, until its answer is there [log 28]. With its guard set and an aligned address, each reduction answers a next state in which it waits at the network interface with its operation, address and operand, and no register and no byte of memory changes yet; while the oldest one that waits there cannot leave, the bundle is held. -/
def Obligations.AtomicsAndReductions : Prop :=
  (∀ (g : BitVec 4) (z : BitVec 2) (d a b : BitVec 6),
     LocalAtomic (.aadd g z d a b) g z d a b (fun n m v _ => (m + v) % 2 ^ n) ∧
     LocalAtomic (.amin g z d a b) g z d a b (fun n m v _ => if sgn n v < sgn n m then v else m) ∧
     LocalAtomic (.amax g z d a b) g z d a b (fun n m v _ => if sgn n m < sgn n v then v else m) ∧
     LocalAtomic (.aminu g z d a b) g z d a b (fun _ m v _ => min m v) ∧ LocalAtomic (.amaxu g z d a b) g z d a b (fun _ m v _ => max m v) ∧
     LocalAtomic (.aand g z d a b) g z d a b (fun _ m v _ => m &&& v) ∧ LocalAtomic (.aor g z d a b) g z d a b (fun _ m v _ => m ||| v) ∧
     LocalAtomic (.axor g z d a b) g z d a b (fun _ m v _ => m ^^^ v) ∧ LocalAtomic (.aswap g z d a b) g z d a b (fun _ _ v _ => v) ∧
     LocalAtomic (.acas g z d a b) g z d a b (fun _ m v c => if m = c then v else m) ∧
     LocalAtomic (.aadds g z d a b) g z d a b (fun n m v _ => pat n (satS n (sgn n m + sgn n v)))) ∧
  (∀ (s : State) (g : BitVec 4) (z : BitVec 2) (d a b : BitVec 6) (l : Loc) (p op : Nat) (i : Instr), let n := amoBytes z; let va := vaOf (s.rdX a)
     s.guard g = true → RemotePlace s (s.rdX a) n needRW l p → s.redsTo va n = false → (∀ q ∈ s.core.asks, q.live = false) →
     s.flowFull s.netEng p 1 = false → (atomicsOf g z d a b)[op]? = some i →
     Answers (exec i s) fun u => u.core.bundle.held = true ∧ u.core.t = s.core.t ∧ SameMemory s u ∧
       Sends s { type := 3, tc := 1, eng := s.netEng, dst := p, asid := s.core.t.id.asid, key := l.key, pa := l.pa, len := if op = 9 then 16 else 0
                 op := op + 16 * z.toNat, opnd := if n = 16 then (s.rdPair b).toNat else (s.rdX b).toNat
                 payload := if op = 9 then leBytes 16 (if n = 16 then (s.rdPair d).toNat else (s.rdX d).toNat) else [] } u) ∧
  (∀ (s : State) (g : BitVec 4) (z : BitVec 2) (a b : BitVec 6), s.guard g = true → (s.rdX a).toNat % amoBytes z = 0 →
     ∀ q ∈ [(Instr.redadd g z a b, 11), (.redmin g z a b, 12), (.redmax g z a b, 13), (.redadds g z a b, 14), (.redor g z a b, 15)],
       (s.redsStuck = true → exec q.1 s = .next s.hold) ∧
       (s.redsStuck = false → Answers (exec q.1 s) fun u => (∃ r, u.core.reds = s.core.reds ++ [r] ∧ r.op = q.2 ∧ r.size = amoBytes z ∧ r.va = vaOf (s.rdX a) ∧
         r.operand = s.rdX b) ∧ u.core.t = s.core.t ∧ SameMemory s u))

/-- O36. Fences, synchronising loads and stores, and cache ranges (R74, R200, R201, R203, R240, R242, R307). FENCE of core scope changes nothing, and of a wider scope leaves no line in the L1; either is held while accesses of the core are on their way, or lines that it writes back wait for their flow. With no dirty line of another package in the L1: LDACQ from the own window brings the 8 bytes back and drops the L1; ACQ of an object in the own window, or elsewhere in this package, brings its generation back; REL, once no store of the core is unacknowledged, raises it by 1 and brings the new one back, and holds its bundle until then. A reserved bit of an object raises ILLEGAL_OPERAND with field 1, a misaligned one MISALIGNED, one that cannot be reached its translation's fault. INVR and WBR write back the lines that meet the range outside the scratchpad windows, INVR dropping them. STREL to the own window stores the 8 bytes after what it writes back, which for a scope above 0 is the whole L1 and for an address that a memory object can have is that object's regions [log 25]; poison at the address discards the store with a record. For INVR and WBR a length of 0 changes nothing, one above 2^40 raises ILLEGAL_OPERAND with field 2. With the guard clear nothing changes. -/
def Obligations.Synchronisation : Prop :=
  ∀ (s : State) (g : BitVec 4) (d a b k : BitVec 6) (l : Loc), let x := s.rdX a; let va := vaOf x
    let meets (n : Nat) (l : L1Line) : Bool := decide (64 * l.va < va.toNat + n ∧ va.toNat < 64 * l.va + 64) && !scratchpadVa (BitVec.ofNat 55 (64 * l.va))
    (s.guard g = false → ∀ i ∈ [Instr.fence g k, .ldacq g d a k, .strel g d a k, .acq g d a, .rel g d a, .invr g a b, .wbr g a b], exec i s = .next s) ∧
    (s.guard g = true →
      (s.accessesDue = false → exec (.fence g 0) s = .next s) ∧ (s.accessesDue = true → exec (.fence g 0) s = .next s.hold) ∧
      (k ≠ 0 → s.flushL1.accessesDue = true ∨ s.flushL1.writesStuck = true → exec (.fence g k) s = .next s.flushL1.hold) ∧
      (k ≠ 0 → L1Here s → s.flushL1.accessesDue = false → Answers (exec (.fence g k) s) fun u => u.core.l1 = [] ∧ u = s.flushL1) ∧
      (OwnRead s x 8 l → L1Here s →
        (Answers (exec (.ldacq g d a k) s) fun u => FarX d (BitVec.ofNat 64 (s.little l.key l.pa 8)) s u ∧ u.core.l1 = [] ∧ u.mem = s.flushL1.mem) ∧
        (x.toNat % 16 = 0 → x.toNat < 2 ^ 55 → Answers (exec (.acq g d a) s) fun u =>
          FarX d (BitVec.ofNat 64 (s.little l.key l.pa 8)) s u ∧ u.mem = (s.acquire (objRef 0 va.toNat)).mem)) ∧
      (∀ off, placeOf va = .window off → x.toNat % 16 = 0 → x.toNat < 2 ^ 55 → Performed s → s.mem.poisoned (spAddr s.cur off) 8 = false →
        (s.release (objRef 0 va.toNat)).mem.poisoned (spAddr s.cur off) 8 = false →
        let r := s.release (objRef 0 va.toNat); let m := r.little 0 (spAddr s.cur off) 8
        Answers (exec (.rel g d a) s) fun u => (∃ q, u.core.t.sb.far = s.core.t.sb.far ++ [q] ∧ q.val = .x d (BitVec.ofNat 64 (m + 1))) ∧
          KeepsRegs s u ∧ u.little 0 (spAddr s.cur off) 8 = (m + 1) % 2 ^ 64) ∧
      (∀ i ∈ [Instr.acq g d a, .rel g d a], (2 ^ 55 ≤ x.toNat → Traps (s.slotExc .illegalOperand 1 0) s (exec i s)) ∧
        (x.toNat < 2 ^ 55 → x.toNat % 16 ≠ 0 → Traps (s.slotExc .misaligned 1 va) s (exec i s))) ∧
      (x.toNat < 2 ^ 55 → x.toNat % 16 = 0 →
        (∀ r ∈ xlFailures,
          (s.xlate (some s.cur) s.core.t.id.asid va needR = r.1 → Traps { s.slotExc r.2.1 1 va with rec4 := r.2.2 } s (exec (.acq g d a) s)) ∧
          (s.xlate (some s.cur) s.core.t.id.asid va needRW = r.1 →
            Traps { s.slotExc r.2.1 1 va with wr := true, rec4 := r.2.2 } s (exec (.rel g d a) s))) ∧
        (s.xlate (some s.cur) s.core.t.id.asid va needR = .ok l → s.ownWindow va = false → l.pkg = none → l.pa % 64 + 8 ≤ 64 → CleanLine s l → L1Here s →
          Answers (exec (.acq g d a) s) fun u => FarX d (BitVec.ofNat 64 (leNat ((List.range 8).map (s.engByte l)))) s u ∧
            u.mem = (s.acquire (objRef 0 va.toNat)).mem) ∧
        (s.xlate (some s.cur) s.core.t.id.asid va needRW = .ok l → l.pkg = none → l.pa % 64 + 8 ≤ 64 → s.mem.poisoned l.pa 8 = false →
          let r := s.release (objRef 0 va.toNat); let m := r.little l.key l.pa 8
          (s.writesDue = true → exec (.rel g d a) s = .next r.hold) ∧
          (Performed s → r.xlate (some s.cur) s.core.t.id.asid va needRW = .ok l → r.mem.poisoned l.pa 8 = false →
            Answers (exec (.rel g d a) s) fun u => (∃ q, u.core.t.sb.far = s.core.t.sb.far ++ [q] ∧ q.val = .x d (BitVec.ofNat 64 (m + 1))) ∧
              KeepsRegs s u ∧ u.little l.key l.pa 8 = (m + 1) % 2 ^ 64))) ∧
      (∀ off, placeOf va = .window off → x.toNat % 8 = 0 → L1Here s → (∀ o ∈ s.core.l1, o.va ≠ va.toNat / 64) → s.accessesDue = false →
        let w := if k = 0 then s else s.writeBack (fun _ => true) false
        Answers (exec (.strel g d a k) s)
          (StoredAt (if x.toNat % 16 = 0 then w.release (objRef 0 va.toNat) else w) (s.windowLoc off) 8 (s.rdX d).toNat)) ∧
      (let n := (s.rdX b).toNat
       (n = 0 → exec (.invr g a b) s = .next s ∧ exec (.wbr g a b) s = .next s) ∧
       (n ≤ 2 ^ 40 → n ≠ 0 → L1Here s → exec (.invr g a b) s = .next (s.writeBack (meets n) true) ∧
         exec (.wbr g a b) s = .next (s.writeBack (meets n) false)) ∧
       (2 ^ 40 < n → ∀ i ∈ [Instr.invr g a b, .wbr g a b], Traps (s.slotExc .illegalOperand 2 0) s (exec i s))))

/-- O37. Bindings, tags and the return queue (R18, R92, R200, R202, R204, R257). BIND of a legal object and a free region adds one binding with the lowest free index of the context and returns it, which index and which identifiers are legal being the model's reading [log 49]; UNBIND of an index in use removes that binding and one not in use raises ILLEGAL_OPERAND with field 1; either writes the 16 bytes of the context's region table at that index, whose layout the manual leaves open [log 14], and nothing else. With no dirty line of another package in the L1, WAITANY and WAITALL return the completed tags of their mask or the failed ones once any or all have completed, and wait until then; FFR returns the lowest completed tag of its mask, 64 for none; TAGCLR clears the completion bits of its mask. RQPOP takes the oldest entry once it is there, waits for one that has not landed, and raises ILLEGAL_OPERAND with field 4 on an empty queue. -/
def Obligations.BindingsAndTags : Prop :=
  ∀ (s : State) (g : BitVec 4) (d a b : BitVec 6), let c := s.core.t.comp; let m := s.rdX a; let known := c.held ||| c.ctb
    let mine := s.sched.bindings.filter fun q => decide (q.asid = s.core.t.id.asid)
    let base := (s.rdX b).toNat % 2 ^ 55; let w := (s.rdX (b + 1)).toNat; let len := w % 2 ^ 40
    (∀ i, let entry := s.desc s.core.t.id.asid 16 8 % 2 ^ 52 + 16 * i; let r := s.regionEntry i
      r.core = s.core ∧ r.sched = s.sched ∧ (∀ slot a, (∀ k < 16, a / 64 ≠ (entry + k) / 64) → r.readByte slot a = s.readByte slot a) ∧
      ∀ a, ¬(entry ≤ a ∧ a < entry + 16) → let key := bitsOf (s.desc s.core.t.id.asid 0 8) 19 13; r.readByte key a = s.readByte key a) ∧
    (s.guard g = false → ∀ i ∈ [Instr.bind g d a b, .unbind g a, .waitany g d a, .waitall g d a, .ffr g d a, .tagclr g a, .rqpop g d], exec i s = .next s) ∧
    (s.guard g = true →
      (∀ i < 4096, badObject m = false → base % 64 = 0 → len % 64 = 0 → len ≠ 0 → w < 2 ^ 42 →
        (∀ q ∈ mine, ¬(q.base < base + len ∧ base < q.base + q.len)) → (∀ q ∈ mine, q.index ≠ i) → (∀ j < i, ∃ q ∈ mine, q.index = j) →
        Answers (exec (.bind g d a b) s) fun u => u.sched.bindings = s.sched.bindings ++
            [{ asid := s.core.t.id.asid, index := i, obj := objectOf m, base, len, scope := w / 2 ^ 40 % 4 }] ∧
          GivesX d (BitVec.ofNat 64 i) 1 { s.regionEntry i with sched := u.sched } u) ∧
      (let used := ∃ q ∈ mine, q.index = m.toNat
       (used → Answers (exec (.unbind g a) s) fun u => u = { s.regionEntry m.toNat with sched := u.sched } ∧ u.sched = { s.sched with bindings := u.sched.bindings } ∧
         (∀ q, q ∈ u.sched.bindings ↔ q ∈ s.sched.bindings ∧ ¬(q.asid = s.core.t.id.asid ∧ q.index = m.toNat))) ∧
       (¬used → Traps (s.slotExc .illegalOperand 1 0) s (exec (.unbind g a) s))) ∧
      (c.ctb &&& m ≠ 0 → L1Here s → Answers (exec (.waitany g d a) s) (GivesX d (c.ctb &&& m) 1 (s.acquireTags (c.ctb &&& m)))) ∧
      (c.ctb &&& m = 0 → known &&& m ≠ 0 → exec (.waitany g d a) s = .next s.waitHere) ∧
      (known &&& m = 0 → Traps (s.slotExc .illegalOperand 1 0) s (exec (.waitany g d a) s)) ∧
      (m ≠ 0 → c.ctb &&& m = m → L1Here s → Answers (exec (.waitall g d a) s) (GivesX d (c.cte &&& m) 1 (s.acquireTags m))) ∧
      (m &&& ~~~known = 0 → c.ctb &&& m ≠ m → exec (.waitall g d a) s = .next s.waitHere) ∧
      (m = 0 ∨ m &&& ~~~known ≠ 0 → Traps (s.slotExc .illegalOperand 1 0) s (exec (.waitall g d a) s)) ∧
      (c.ctb &&& m = 0 → Answers (exec (.ffr g d a) s) (GivesX d 64 1 s)) ∧
      (∀ i < 64, (c.ctb &&& m).getLsbD i = true → (∀ j < i, (c.ctb &&& m).getLsbD j = false) → L1Here s →
        Answers (exec (.ffr g d a) s) (GivesX d (BitVec.ofNat 64 i) 1 (s.acquireTag i))) ∧
      exec (.tagclr g a) s = .next { s with core := { s.core with t := { s.core.t with comp := { c with ctb := c.ctb &&& ~~~m, cte := c.cte &&& ~~~m } } } } ∧
      (∀ q r v, c.rq = q :: r → q.value = some v → q.due ≤ s.core.clock → Answers (exec (.rqpop g d) s)
        (GivesX d v 1 { s with core := { s.core with t := { s.core.t with comp := { c with rq := r } } } })) ∧
      (∀ q r, c.rq = q :: r → q.value = none ∨ s.core.clock < q.due → Answers (exec (.rqpop g d) s) fun u =>
        u.core.bundle.held = true ∧ u.core.t = s.core.t ∧ u.core.lodc = s.core.lodc + if s.core.bundle.again then 0 else 1) ∧
      (c.rq = [] → Traps (s.slotExc .illegalOperand 4 0) s (exec (.rqpop g d) s)))

/-- O38. Stage barriers: announcing, waiting and testing (R205, R206, R207). SBARM of an aligned barrier in the own window adds what it announces, closes the phase when the arrivals have reached it (with OVERRUN when they have passed it) or when the commands have all completed short of it (UNDERRUN), and writes the 16 bytes; an announcement out of range raises ILLEGAL_OPERAND with field 2. SBWAIT waits while the phase is the one named, and then, as SBTST does at once, acquires the barrier and reads bytes 8 to 15, with no dirty line of another package in the L1. An address outside the window or misaligned raises ILLEGAL_OPERAND with field 1. -/
def Obligations.StageBarriers : Prop :=
  ∀ (s : State) (g : BitVec 4) (d a b : BitVec 6), s.guard g = true → let x := s.rdX a; let w := (s.rdX b).toNat
    (∀ off, s.ownOffset (vaOf x) = some off → x.toNat % 16 = 0 →
      let q := s.barrierAt s.cur off; let expb := q.expb + w % 2 ^ 32; let expc := q.expc + w / 2 ^ 32 % 2 ^ 8
      let after : StageBarrier :=
        if expb ≠ 0 ∧ expb ≤ q.arrb then { expb := 0, arrb := 0, phase := (q.phase + 1) % 2 ^ 16, expc := 0, donec := 0, error := if expb < q.arrb then 5 else 0 }
        else if expc ≠ 0 ∧ expc ≤ q.donec ∧ q.arrb < expb then
          { expb := 0, arrb := 0, phase := (q.phase + 1) % 2 ^ 16, expc := 0, donec := 0, error := 6 }
        else { q with expb, expc }
      let sound := w < 2 ^ 40 ∧ expb < 2 ^ 32 ∧ expc < 2 ^ 8
      (sound → s.mem.poison = [] → Answers (exec (.sbarm g a b) s) fun u => u.barrierAt s.cur off = after ∧
        ChangedOnly s (s.windowLoc off) 16 u ∧ u.core = s.core) ∧
      (¬sound → Traps (s.slotExc .illegalOperand 2 0) s (exec (.sbarm g a b) s)) ∧
      (q.phase = w % 2 ^ 16 → exec (.sbwait g d a b) s = .next s.waitHere) ∧
      (s.mem.poisoned (spAddr s.cur (off + 8)) 8 = false → L1Here s → let z := s.acquireBarrier off
        (q.phase ≠ w % 2 ^ 16 → Answers (exec (.sbwait g d a b) s) (GivesX d (BitVec.ofNat 64 (z.little 0 (spAddr s.cur (off + 8)) 8)) 2 z)) ∧
        Answers (exec (.sbtst g d a) s) (GivesX d (BitVec.ofNat 64 (z.little 0 (spAddr s.cur (off + 8)) 8)) 2 z))) ∧
    (s.ownOffset (vaOf x) = none ∨ x.toNat % 16 ≠ 0 →
      ∀ i ∈ [Instr.sbarm g a b, .sbwait g d a b, .sbtst g d a], Traps (s.slotExc .illegalOperand 1 0) s (exec i s))

/-- O39. The values that the manual gives to reset (R14, R20, R21, R23, R180, R240, R343, R348, R353, R358, R365). After reset every core is idle with an empty L1, its faults, loops, completion bitmaps, stall counter and scale slots at their reset values and the loader's formats in place; sys.status reads 8 and the dimmer 15; no context, record, queue, binding or translation exists; the mode register, the thresholds, the arbitration words and the management registers hold the values of their tables. Memory lists no byte, which is its canonical form; what an unlisted byte reads as, and the registers to which the manual gives no value, are the model's own choice [log 1, log 2]. -/
def Obligations.ResetValues : Prop :=
  let s := State.reset; let t := s.core.t
  s.memWf ∧ s.mem.cells = [] ∧ s.others = [] ∧ s.core.mode = .idle ∧ s.core.l1 = [] ∧ s.core.stallc = 0 ∧ s.core.lodc = 0 ∧ s.core.srctr = 0 ∧
  (∀ n : BitVec 6, fileGet t.ts n = { exp := 0, census := 63, satc := 0, satth := 0, cb := 0, bsa := 0 }) ∧
  t.sys.th = false ∧ t.sys.faults = { epc := 0, fcause := 0, faddr := 0, fslot := 7, fopnd := 7, felem := 0xFFFF, fimg := 0 } ∧
  t.sys.segstate = 0 ∧ t.sys.tslice = 0 ∧ t.sys.preq = 0 ∧ t.sys.optp = 0 ∧ t.sys.vflags = 0 ∧ (∀ k : Fin 4, t.sys.dom[k] = 0x0001_0000_0000#48) ∧
  (∀ k : Fin 3, t.loop.lc[k] = 0 ∧ t.loop.lb[k] = 0 ∧ t.loop.ln[k] = 0) ∧ t.loop.vrb = 0 ∧ t.comp.ctb = 0 ∧ t.comp.cte = 0 ∧
  s.sysRead 0 = 8 ∧ s.sysRead 0x00C = 15 ∧ t.me0.mfmt = 0x11 ∧ t.me1.mfmt = 0x11 ∧ t.me0.lit.cells = [] ∧ t.me0.spec = false ∧ t.niarb = 0x404040 ∧
  s.mgmt.fparb = 0x404040 ∧ s.mgmt.aging = 16 ∧ s.mgmt.retx = 20 ∧ s.mgmt.sotx = 200 ∧ s.mgmt.rmth = 1024 ∧ s.mgmt.errcnt = 0 ∧ s.mgmt.tsc = 0 ∧
  s.mgmt.pod = 0 ∧ s.mgmt.udp = 0 ∧ s.mgmt.haltst = 0 ∧
  s.power.modes.power = .peak ∧ s.power.modes.mirror = .full ∧ s.power.modes.ring = 0 ∧ s.power.modes.careful = false ∧ s.power.tm = 4 ∧ s.power.tp = 64 ∧
  (∀ d : Fin 6, s.glow[d].seq = 0 ∧ s.glow[d].state = .recording ∧ s.glow[d].post = 256) ∧
  s.sched.contexts = [] ∧ s.sched.recs = [] ∧ s.sched.queues = [] ∧ s.sched.bindings = [] ∧ s.xlat.tlb = [] ∧ s.xlat.pending = []

/-- O40. Domain barriers and queues (R23, R184, R200, R208, R209, R210). With no store of the core on its way to another package and no dirty line of one in the L1: DBAR of a free tag completes it at once in a domain of one member, and otherwise adds one arrival of the member at the barrier of the domain. QMAKE of a legal block in memory of this package, unpoisoned and uncached, makes a live queue of its fields and returns the handle, changing no byte outside the block. QPUSH to a queue whose agent the task is releases the queue, stores header and payload in the next slot, performs the push at once if no package has still to acknowledge it, and returns the sequence number; QPOP returns the address of the next performed entry's payload, takes its token and moves the cursor, or all ones where there is none; QFREE gives the oldest token back, in the queue's scope or out of it. QPUSH looks at bits 5:3 of the handle and not at its cursor [log 49]. A handle that names no live queue, reserved bits and a cursor out of range raise ILLEGAL_OPERAND with field 1; a push or pop by a task that is not an agent of the queue raises SCOPE, whose field the manual leaves open [log 3]. -/
def Obligations.QueuesAndBarriers : Prop :=
  ∀ (s : State) (g : BitVec 4) (d a b k t : BitVec 6), s.guard g = true → let asid := s.core.t.id.asid; let h := (s.rdX a).toNat; let va := vaOf (s.rdX a)
    let dom := s.core.t.domOf k.toNat
    let others (q : Queue) (u : State) : Prop := ∀ c blk, (c, blk) ≠ (asid, q.block) → u.heldQueue c blk = s.heldQueue c blk
    (s.tagHeld t = true → Traps (s.slotExc .illegalOperand 2 0) s (exec (.dbar g k t) s)) ∧
    (s.tagHeld t = false → Performed s → domSize dom = 1 → Answers (exec (.dbar g k t) s) fun u => KeepsRegs s u ∧
      u.core.t.comp.ctb.getLsbD t.toNat = true ∧ u.core.t.comp.cte.getLsbD t.toNat = false ∧ u.core.t.comp.held.getLsbD t.toNat = false) ∧
    (s.tagHeld t = false → Performed s → domSize dom ≠ 1 → s.lostMember k.toNat = false →
      let here (q : DomBarrier) : Bool := decide (q.asid = asid ∧ q.level = k.toNat ∧ q.domain = s.domainOf k.toNat)
      let old := ((s.sched.barriers.find? here).map (·.counts)).getD []
      Answers (exec (.dbar g k t) s) fun u => KeepsRegs s u ∧
        ∃ q ∈ u.sched.barriers, here q = true ∧ mapGet 0 q.counts (domIndex dom) = mapGet 0 old (domIndex dom) + 1) ∧
    (∀ l q, h % 64 = 0 → scratchpadVa va = false → s.blockAt va = .ok l → l.pkg = none → l.pa % 64 = 0 → l.pa < spBase → CleanLine s l → s.core.l1 = [] →
      s.creation va (s.little l.key l.pa 8) (s.little l.key (l.pa + 8) 8) = some q → (∀ x ∈ s.sched.queues, x.is asid va = false) →
      Answers (exec (.qmake g d a) s) fun u => FarX d (s.rdX a) s u ∧ u.sched = { s.sched with queues := s.sched.queues ++ [q] } ∧ ChangedOnly s l 64 u) ∧
    (∀ q, s.liveQueue asid (queueBlock (s.rdX a)) = some q → h / 8 % 8 = 0 → s.serves q = true →
      (∀ z s1 e s2, s.pushInto q (s.rdX b) = .ok z → Performed s → (s.release (objRef 1 q.block.toNat)).reserve q = some (s1, e) →
        s1.wrSpan (spanFuel q.slotBytes) s.netEng (some (.push asid q.block q.next)) none (BitVec.ofNat 55 e.slot)
          (slotHeader q.next 8 ++ leBytes 8 (s.rdX b).toNat ++ List.replicate (q.slotBytes - 16) 0) = .ok s2 → 16 ≤ q.slotBytes →
        Answers (exec (.qpush g d a b) s) fun u => FarX d (BitVec.ofNat 64 q.next) s2 u ∧ u.mem = s2.mem ∧
          u.sched = (if s2.fabric.sources.any fun f => f.descs.any fun d => decide (d.owner = some (.push asid q.block q.next)) then s2
            else s2.perform q q.next).sched) ∧
      (h % 8 < q.ncons →
        let j := h % 8; let n := q.cursors.getD j 0
        (s.core.t.tokens.length < 16 →
          (∀ e, (q.entries.find? fun e => decide (e.seq = n) && e.pushed) = some e → L1Here s → Answers (exec (.qpop g d a) s) fun u =>
            FarX d (BitVec.ofNat 64 (e.slot + 8)) s u ∧ u.core.t.tokens = s.core.t.tokens ++ [{ queue := q.block, cursor := j, seq := n }] ∧
            u.liveQueue asid q.block = some { q with cursors := q.cursors.set j (n + 1) } ∧ others q u) ∧
          ((q.entries.find? fun e => decide (e.seq = n) && e.pushed) = none → Answers (exec (.qpop g d a) s) fun u =>
            FarX d (BitVec.allOnes 64) s u ∧ u.core.t.tokens = s.core.t.tokens ∧ u.sched = s.sched ∧ SameMemory s u)) ∧
        (16 ≤ s.core.t.tokens.length → Traps (s.slotExc .illegalOperand 4 0) s (exec (.qpop g d a) s)))) ∧
    (∀ q, s.liveQueue asid (queueBlock (s.rdX a)) = some q → h / 8 % 8 = 0 → h % 8 < q.ncons → let j := h % 8
      (∀ m, (s.core.t.tokens.find? fun m => decide (m.queue = q.block ∧ m.cursor = j)) = some m → Answers (exec (.qfree g a) s) fun u =>
        u.core.t.tokens = dropFirst (fun m => decide (m.queue = q.block ∧ m.cursor = j)) s.core.t.tokens ∧ KeepsRegs s u ∧ SameMemory s u ∧
        u.liveQueue asid q.block = some (q.giveBack j m.seq) ∧ others q u) ∧
      ((∀ m ∈ s.core.t.tokens, ¬(m.queue = q.block ∧ m.cursor = j)) → Traps (s.slotExc .illegalOperand 1 0) s (exec (.qfree g a) s))) ∧
    (s.liveQueue asid (queueBlock (s.rdX a)) = none → ∀ i ∈ [Instr.qpush g d a b, .qpop g d a, .qfree g a],
      Traps (s.slotExc .illegalOperand 1 0) s (exec i s)) ∧
    (∀ q, s.liveQueue asid (queueBlock (s.rdX a)) = some q →
      (h / 8 % 8 ≠ 0 ∨ q.ncons ≤ h % 8 → ∀ i ∈ [Instr.qpop g d a, .qfree g a], Traps (s.slotExc .illegalOperand 1 0) s (exec i s)) ∧
      (h / 8 % 8 ≠ 0 → Traps (s.slotExc .illegalOperand 1 0) s (exec (.qpush g d a b) s)) ∧
      (h / 8 % 8 = 0 → s.serves q = false →
        (∃ f, Traps (s.slotExc .scope f 0) s (exec (.qpush g d a b) s)) ∧ (h % 8 < q.ncons → ∃ f, Traps (s.slotExc .scope f 0) s (exec (.qpop g d a) s))))

/-- O41. Mailboxes: sending, receiving and binding (R211). MBSEND answers 3 for a core that does not serve the context, 2 for an unbound box, 1 for a full one, with no other effect, and 0 when, with no store of the core on its way to another package and no dirty line of one in the L1, it appends the message to the box. MBRECV of an owned box moves the oldest entry to the pair and sets pf, or clears pf when the box is empty; MBBIND binds a free or owned box, whose entries stay, or unbinds it for address 0, whose entries go: what becomes of them the manual leaves open [log 49]. A box bound by another context answers 2 [log 49]. Reserved bits of the number raise ILLEGAL_OPERAND with field 1, a box of another task with field 2. The bound record of MBBIND is a multiple of 128, and another value raises ILLEGAL_OPERAND with field 1 [log 49]. -/
def Obligations.Mailboxes : Prop :=
  ∀ (s : State) (g p : BitVec 4) (d a b k : BitVec 6), s.guard g = true → k.toNat < 8 → let x := (s.rdX a).toNat; let id := s.core.t.id
    let col := x / 8 % 16; let row := x / 128 % 16; let n := 144 * (x / 2048 % 4) + 12 * row + col; let box := (s.getCore n).box (x % 8)
    let code (v : Word) : Prop := Answers (exec (.mbsend g d a b) s) fun u => FarX d v s u ∧ SameMemory s u ∧ u.sched = s.sched ∧ u.others = s.others ∧
      u.core.mail = s.core.mail
    (2 ^ 13 ≤ x → Traps (s.slotExc .illegalOperand 1 0) s (exec (.mbsend g d a b) s)) ∧
    (x < 2 ^ 13 →
      (12 ≤ col ∨ 12 ≤ row ∨ s.coreAllowed id.asid n = false → code 3) ∧
      (col < 12 → row < 12 → s.coreAllowed id.asid n = true →
        (box.owner.map (·.asid) ≠ some id.asid → code 2) ∧
        (box.owner.map (·.asid) = some id.asid →
          (16 ≤ box.entries.length → code 1) ∧
          (box.entries.length < 16 → Performed s → Answers (exec (.mbsend g d a b) s) fun u => FarX d 0 s u ∧
            ((u.getCore n).box (x % 8)).entries = box.entries ++ [s.rdX (b + 1) ++ s.rdX b] ∧ ((u.getCore n).box (x % 8)).owner = box.owner)))) ∧
    (let mine := s.core.box k.toNat
     let owned := ∃ o, mine.owner = some o ∧ o.asid = id.asid ∧ o.record = id.record
     (¬owned → Traps (s.slotExc .illegalOperand 2 0) s (exec (.mbrecv g d p k) s)) ∧
     (p ≠ 0 → owned → mine.entries = [] → Answers (exec (.mbrecv g d p k) s) fun u => OnlyP p s u ∧ u.pNow p = 0) ∧
     (∀ v r, p ≠ 0 → owned → L1Here s → mine.entries = v :: r → Answers (exec (.mbrecv g d p k) s) fun u =>
       u.xNow d = (if d = 0 then 0 else v.extractLsb' 0 64) ∧ u.xNow (d + 1) = (if d + 1 = 0 then 0 else v.extractLsb' 64 64) ∧
       u.pNow p = BitVec.allOnes 256 ∧ (u.core.box k.toNat).entries = r ∧ (u.core.box k.toNat).owner = mine.owner ∧
       (∀ j, j ≠ d → j ≠ d + 1 → u.xNow j = s.xNow j) ∧ (∀ j, j ≠ p → u.pNow j = s.pNow j) ∧ u.core.t.v = s.core.t.v) ∧
     (x % 128 ≠ 0 → Traps (s.slotExc .illegalOperand 1 0) s (exec (.mbbind g a k) s)) ∧
     (x % 128 = 0 → mine.owner.isSome = true → ¬owned → Traps (s.slotExc .illegalOperand 2 0) s (exec (.mbbind g a k) s)) ∧
     (x % 128 = 0 → mine.owner = none ∨ owned → Answers (exec (.mbbind g a k) s) fun u => u.core.t = s.core.t ∧ SameMemory s u ∧
       (x = 0 → (u.core.box k.toNat).owner = none ∧ (u.core.box k.toNat).entries = []) ∧
       (x ≠ 0 → (u.core.box k.toNat).entries = mine.entries ∧ ∃ o, (u.core.box k.toNat).owner = some o ∧ o.asid = id.asid ∧ o.record = vaOf (s.rdX a)) ∧
       ∀ j < 8, j ≠ k.toNat → u.core.box j = s.core.box j))

/-- O42. Spawning, dependence counters, futures and range tasks (R59, R93, R216, R217, R218, R219, R222, R224, R225, R241, R242). Of a record in memory of this package, with no store of the core on its way to another package and no dirty line of one in the L1, TSPAWN, TSPAWNR, TSPAWNG and FSPAWN of a spawnable record give it to the scheduler as a task of the issuing context on the issuing core's die, FSPAWN holding a reference; TDEC brings back the counter less xk, or 0; FREF of a future with consumers adds a reference and a consumer, FDROP drops one. FGET sends for the record: pending are the result of a DONE future with pf set, or the state with pf clear. RNEXT claims the next chunk of a range task. NXTREQ sends its request, whose answer is due eight issue cycles on. General and vector registers do not change until results land. Spawning a record that is not spawnable raises ILLEGAL_OPERAND with field 1; that fault and those of FREF and FDROP come after the record has been read at its home, which drops the core's cached copy of it. -/
def Obligations.TasksAndFutures : Prop :=
  ∀ (s : State) (g p : BitVec 4) (d a b : BitVec 6) (l : Loc), s.guard g = true → let va := vaOf (s.rdX a); let asid := s.core.t.id.asid
    let spawned (kind : Nat) (fut : Bool) (i : Instr) : Prop :=
      (spawnable kind fut (s.recordWord va) = true → Performed s → (fut = true → s.core.t.refs.length < 16) → Answers (exec i s) fun u =>
        KeepsRegs s u ∧ u.core.t.refs = s.core.t.refs ++ (if fut then [va] else []) ∧
        ∃ r ∈ u.sched.recs, r.task = { asid, record := va, member := 0 } ∧ r.die = coreDie s.cur ∧ r.finish = none) ∧
      (spawnable kind fut (s.recordWord va) = false → Traps (s.slotExc .illegalOperand 1 va) (s.seenRecord va) (exec i s))
    (RecordHere s (s.rdX a) l →
      spawned 0 false (.tspawn g a) ∧ spawned 1 false (.tspawnr g a) ∧ spawned 2 false (.tspawng g a) ∧ spawned 0 true (.fspawn g a) ∧
      ((s.rdX b).toNat < 2 ^ 32 → Performed s → let old := s.releaseAll.recGet asid va 24 4
        Answers (exec (.tdec g d a b) s) (FarX d (BitVec.ofNat 64 (old - (s.rdX b).toNat)) s)) ∧
      (bitsOf (s.recGet asid va 0 8) 10 10 = 1 →
        (s.recGet asid va 28 4 ≠ 0 → s.core.t.refs.length < 16 → Answers (exec (.fref g a) s) fun u => u.core.t.refs = s.core.t.refs ++ [va] ∧
          KeepsRegs s u ∧ u.mem = (s.recSet asid va 28 4 (s.recGet asid va 28 4 + 1)).mem) ∧
        (va ∈ s.core.t.refs → Answers (exec (.fdrop g a) s) fun u => u.core.t.refs = s.core.t.refs.erase va ∧ u.core.t.x = s.core.t.x ∧
          u.core.t.v = s.core.t.v ∧ u.core.t.p = s.core.t.p)) ∧
      (bitsOf (s.recGet asid va 0 8) 10 10 = 0 → ∀ i ∈ [Instr.fref g a, .fdrop g a], Traps (s.slotExc .illegalOperand 1 0) (s.seenRecord va) (exec i s)) ∧
      (s.recGet asid va 28 4 = 0 → bitsOf (s.recGet asid va 0 8) 10 10 = 1 → ∃ f, Traps (s.slotExc .eclipsedRef f 0) (s.seenRecord va) (exec (.fref g a) s))) ∧
    ((s.rdX a).toNat % 128 = 0 → s.xlate (some s.cur) asid va needR = .ok l → l.pkg = none → s.mem.poisoned l.pa 96 = false → L1Here s →
      let w := s.recordWord va
      Answers (exec (.fget g d a p) s) fun u => KeepsRegs s u ∧ (w % 256 ≠ 5 → SameMemory s u) ∧
        ∃ q, u.core.t.sb.far = s.core.t.sb.far ++ [q] ∧ q.parts = [] ∧ q.val =
          if w % 256 = 5 then .fget d (BitVec.ofNat 128 (w / 2 ^ 640)) p true else .fget d (BitVec.ofNat 128 (w % 256)) p false) ∧
    (RecordHere s (s.rdX 61) l → s.recKind asid s.tk = 1 →
      (let lo := s.recGet asid s.tk 32 6; let hi := s.recGet asid s.tk 40 6; let e := min (lo + s.recGet asid s.tk 48 2) hi
       Answers (exec (.rnext g d) s) fun u => KeepsRegs s u ∧ (∃ q, u.core.t.sb.far = s.core.t.sb.far ++ [q] ∧
         q.val = .pair d (if lo < hi then BitVec.ofNat 64 e ++ BitVec.ofNat 64 lo else BitVec.allOnes 128)) ∧
         u.mem = (if lo < hi then s.recSet asid s.tk 32 6 e else s).mem) ∧
      Answers (exec (.nxtreq g d 0) s) fun u => KeepsRegs s u ∧ SameMemory s u ∧
        u.core.t.sb.nxt = s.core.t.sb.nxt ++ [{ d, q := s.rdX 61, range := true, due := s.core.t.sb.cyc + 8 }]) ∧
    (∀ q, a ≠ 0 → s.liveQueue asid (queueBlock (s.rdX a)) = some q → (s.rdX a).toNat / 8 % 8 = 0 → (s.rdX a).toNat % 8 < q.ncons → s.serves q = true →
      Answers (exec (.nxtreq g d a) s) fun u => KeepsRegs s u ∧ SameMemory s u ∧
        u.core.t.sb.nxt = s.core.t.sb.nxt ++ [{ d, q := s.rdX a, range := false, due := s.core.t.sb.cyc + 8 }])

/-- O43. Ending and continuing a task (R88, R90, R139, R220, R242). With its engines idle, nothing due, every store performed and a segment that closes, TEND and TCONT complete their bundle, leave the core idle, free the task's tags, queue tokens, references and stream buffers, and leave every L1 line clean. TEND ends the record of a task without references whose last member this is; the references of a task that continues stay with its record, of which no member is left running and which is READY where the new counter is 0. While engines or results are due they wait, and, by the model's reading of the release they make, while stores are [log 51]; a segment that does not close raises MIRROR. Operand faults have the fields of R220. -/
def Obligations.TasksEnd : Prop :=
  ∀ (s : State) (g : BitVec 4) (a b : BitVec 6), s.guard g = true → let bad (n : BitVec 3) (i : Instr) : Prop := Traps (s.slotExc .illegalOperand n 0) s (exec i s)
    let freed (u : State) : Prop := u.core.bundle.complete = true ∧ u.core.mode = .idle ∧ u.core.t.tokens = [] ∧ u.core.t.refs = [] ∧ u.core.t.comp = { ctb := 0, cte := 0, held := 0, rq := [] } ∧
      (∀ n : BitVec 2, fileGet u.core.t.streams n = []) ∧ ∀ l ∈ u.core.l1, l.dirty = 0
    let free := (s.rdX a).toNat % 4 = 0 ∧ (s.rdX a).toNat < 2 ^ 32 ∧ (s.rdX b).toNat < 2 ^ 32 ∧ s.recKind s.core.t.id.asid s.tk ≠ 2
    let asid := s.core.t.id.asid
    (s.quiet = true → s.closing.fails = false → Performed s →
      Answers (exec (.tend g a) s) (fun u => freed u ∧ ∀ q, s.schedRec asid s.tk = some q → q.live = [s.core.t.id.member] → s.core.t.refs = [] →
        ∀ r, u.schedRec asid s.tk = some r → r.finish = some .done) ∧
      (free → Answers (exec (.tcont g a b) s) fun u => freed u ∧ ∀ q, s.schedRec asid s.tk = some q →
        ∃ r, u.schedRec asid s.tk = some r ∧ r.refs = s.core.t.refs ∧ r.live = [] ∧ (s.rdX b = 0 → r.ready = true))) ∧
    (s.quiet = true → s.closing.fails = false → s.core.bundle.checked = false → s.releaseAll.writesDue = true →
      exec (.tend g a) s = .next s.releaseAll.waitHere ∧ (free → exec (.tcont g a b) s = .next s.releaseAll.waitHere)) ∧
    (s.quiet = false → s.core.bundle.checked = false → exec (.tend g a) s = .next s.waitHere ∧ exec (.tcont g a b) s = .next s.waitHere) ∧
    (s.quiet = true → s.closing.fails = true → Traps s.mirrorExc s (exec (.tend g a) s) ∧ (free → Traps s.mirrorExc s (exec (.tcont g a b) s))) ∧
    (s.quiet = true →
      ((s.rdX a).toNat % 4 ≠ 0 ∨ 2 ^ 32 ≤ (s.rdX a).toNat → bad 1 (.tcont g a b)) ∧
      ((s.rdX a).toNat % 4 = 0 → (s.rdX a).toNat < 2 ^ 32 → (2 ^ 32 ≤ (s.rdX b).toNat → bad 2 (.tcont g a b)) ∧
        ((s.rdX b).toNat < 2 ^ 32 → s.recKind s.core.t.id.asid s.tk = 2 → bad 4 (.tcont g a b))))

/-- O44. Yielding a task, and loading and exchanging a plane (R221, R227, R228). TYIELD completes its bundle and starts the task's save, its conditional form only under a preemption request; PSWAP with a loaded shadow plane does so with the exchange of planes pending. PLOAD completes its tag at once if the shadow plane holds the image, and otherwise starts the load. Operand faults have the fields of R227 and R228. -/
def Obligations.YieldsAndPlanes : Prop :=
  ∀ (s : State) (g : BitVec 4) (a k : BitVec 6), s.guard g = true → let bad (n : BitVec 3) (i : Instr) : Prop := Traps (s.slotExc .illegalOperand n 0) s (exec i s)
    (s.core.old.sys.preq.getLsbD 0 = false → exec (.tyield g 1) s = .next s) ∧
    (k ≠ 1 ∨ s.core.old.sys.preq.getLsbD 0 = true → Answers (exec (.tyield g k) s) fun u => u.core.mode = .saving .preempt none none ∧
      u.core.bundle.complete = true ∧ ((∀ f ∈ s.core.t.sb.far, f.parts = []) → u.core.t.sb.far = []) ∧ u.core.swap = s.core.swap) ∧
    (s.core.shadow.state = .loaded → Answers (exec (.pswap g) s) fun u => u.core.mode = .saving .preempt none none ∧
      u.core.bundle.complete = true ∧ u.core.swap = true) ∧
    (s.core.shadow.state ≠ .loaded → bad 4 (.pswap g)) ∧
    ((s.rdX a).toNat < 2 ^ 32 → s.tagHeld k = false →
      (s.core.shadow.state = .loaded ∧ s.core.shadow.image.toNat = (s.rdX a).toNat → Answers (exec (.pload g a k) s) fun u =>
        u.core.t.comp.ctb.getLsbD k.toNat = true ∧ u.core.t.comp.cte.getLsbD k.toNat = false ∧ u.core.t.comp.held.getLsbD k.toNat = false ∧
        u.core.shadow = s.core.shadow ∧ KeepsRegs s u ∧ SameMemory s u) ∧
      (¬(s.core.shadow.state = .loaded ∧ s.core.shadow.image.toNat = (s.rdX a).toNat) → Answers (exec (.pload g a k) s) fun u =>
        u.core.loading = some { image := BitVec.ofNat 32 (s.rdX a).toNat, tag := some (s.core.t.id, k), asid := s.core.t.id.asid } ∧
        u.core.shadow = { s.core.shadow with state := .loading } ∧ u.core.lit = s.core.lit ∧ KeepsRegs s u ∧ SameMemory s u)) ∧
    (2 ^ 32 ≤ (s.rdX a).toNat → bad 1 (.pload g a k)) ∧ ((s.rdX a).toNat < 2 ^ 32 → s.tagHeld k = true → bad 2 (.pload g a k))

/-- O45. Scale slots, system registers and the units present (R14, R15, R20, R21, R22, R229, R230, R270). SRD reads every register of R20's table; sys.preq, while a request waits and is not forced, with the microseconds of grace that remain in bits 31:16. SWR writes the register's own bits where its class allows it, and no other register: RW always, TH in a handler; a TH register outside a handler and a SYS register raise PROTECTION, a read-only one ILLEGAL_OPERAND, each with field 4; a write of sys.status changes nothing. TSRD, TSWR and TSCLR read and write the fields of one scale slot, and a value that a field cannot hold raises ILLEGAL_OPERAND with field 1. FEAT tells the units, the images and the core's place, with 4 as the count of dies [log 27]. Nothing else changes. -/
def Obligations.SystemRegisters : Prop :=
  ∀ (s : State) (g : BitVec 4) (d a n f : BitVec 6) (r : BitVec 12), let y := s.core.old.sys; let q := y.faults; let l := s.core.t.loop; let v := s.rdX a
    (∀ z ∈ [(0x001, q.epc.toNat), (0x002, q.fcause.toNat), (0x003, q.faddr.toNat), (0x004, q.fslot.toNat), (0x005, q.fopnd.toNat), (0x006, q.felem.toNat),
        (0x007, q.fimg.toNat), (0x008, y.segstate.toNat), (0x009, s.core.stallc.toNat), (0x00A, s.core.lodc.toNat), (0x00B, s.core.feat.toNat),
        (0x00C, (s.clusterOf (coreCluster s.cur)).d.toNat), (0x00D, y.tslice.toNat), (0x00E, s.preqNow), (0x00F, y.optp.toNat), (0x010, y.vflags.toNat),
        (0x011, y.srseed.toNat), (0x012, s.core.srctr.toNat), (0x013, y.dom[0].toNat), (0x014, y.dom[1].toNat), (0x015, y.dom[2].toNat), (0x016, y.dom[3].toNat)] ++
        [(0x020, l.lc[0].toNat), (0x021, l.lc[1].toNat), (0x022, l.lc[2].toNat), (0x023, l.lb[0].toNat), (0x024, l.lb[1].toNat), (0x025, l.lb[2].toNat),
        (0x026, l.ln[0].toNat), (0x027, l.ln[1].toNat), (0x028, l.ln[2].toNat), (0x029, l.vrb.toNat), (0x02A, s.core.t.comp.ctb.toNat),
        (0x02B, s.core.t.comp.cte.toNat)], ResultX g d (BitVec.ofNat 64 z.2) 1 s (exec (.srd g d (BitVec.ofNat 12 z.1)) s)) ∧
    (s.preqNow = if y.preq.getLsbD 0 = true ∧ y.preq.getLsbD 1 = false then
      y.preq.toNat % 2 ^ 16 + max 1 (10 - (s.mgmt.tsc - y.graceAt).toNat / 1000) * 2 ^ 16 else y.preq.toNat) ∧
    ResultX g d (BitVec.ofNat 64 s.status) 1 s (exec (.srd g d 0) s) ∧ s.status % 8 = (if y.th then 1 else 0) + (if y.preq.getLsbD 0 then 2 else 0) + (if y.ecl then 4 else 0) ∧
    (s.guard g = false → exec (.swr g a r) s = .next s) ∧
    (s.guard g = true →
      (∀ z ∈ [(0x008, 30), (0x001, 55), (0x002, 8), (0x003, 55), (0x004, 3), (0x005, 3), (0x006, 16), (0x007, 32), (0x020, 32), (0x021, 32), (0x022, 32), (0x023, 55),
          (0x024, 55), (0x025, 55), (0x026, 9), (0x027, 9), (0x028, 9), (0x029, 4), (0x00F, 18), (0x010, 2), (0x011, 64), (0x012, 64)],
        let reads (u : State) (k : BitVec 12) : Nat := State.sysRead { u with core := { u.core with old := { u.core.old with sys := u.core.t.sys } } } k
        (y.th = true ∨ 0x00F ≤ z.1 ∧ z.1 ≤ 0x012 → Answers (exec (.swr g a (BitVec.ofNat 12 z.1)) s) fun u =>
          reads u (BitVec.ofNat 12 z.1) = v.toNat % 2 ^ z.2 ∧ (∀ k, k ≠ BitVec.ofNat 12 z.1 → reads u k = reads s k) ∧
          u.core.t.x = s.core.t.x ∧ u.core.t.v = s.core.t.v ∧ u.core.t.p = s.core.t.p ∧ u.core.t.ts = s.core.t.ts ∧ SameMemory s u) ∧
        (y.th = false → ¬(0x00F ≤ z.1 ∧ z.1 ≤ 0x012) → Traps (s.slotExc .protection 4 0) s (exec (.swr g a (BitVec.ofNat 12 z.1)) s))) ∧
      (y.th = true → exec (.swr g a 0) s = .next s) ∧ Traps (s.slotExc .protection 4 0) s (exec (.swr g a 0x00D) s) ∧
      (∀ k ∈ [0x009, 0x00A, 0x00B, 0x00C, 0x00E, 0x013, 0x014, 0x015, 0x016, 0x02A, 0x02B],
        Traps (s.slotExc .illegalOperand 4 0) s (exec (.swr g a k) s))) ∧
    (f.toNat < 7 → ResultX g d ((fileGet s.core.old.ts n).field f) 1 s (exec (.tsrd g d n f) s) ∧
      (s.guard g = true → fieldHolds f v = true → Answers (exec (.tswr g n a f) s) fun u => ∃ ts, u = { s with core := { s.core with t := { s.core.t with ts } } } ∧
        (fileGet ts n).field f = v ∧ (∀ k : BitVec 6, k.toNat < 7 → k ≠ f → (fileGet ts n).field k = (fileGet s.core.t.ts n).field k) ∧
        ∀ m, m ≠ n → fileGet ts m = fileGet s.core.t.ts m) ∧
      (s.guard g = true → fieldHolds f v = false → Traps (s.slotExc .illegalOperand 1 0) s (exec (.tswr g n a f) s))) ∧
    (s.guard g = true → Answers (exec (.tsclr g n) s) fun u => ∃ ts, u = { s with core := { s.core with t := { s.core.t with ts } } } ∧
      fileGet ts n = { fileGet s.core.t.ts n with census := 63, satc := 0 } ∧ ∀ m, m ≠ n → fileGet ts m = fileGet s.core.t.ts m) ∧
    (s.guard g = false → ∀ i ∈ [Instr.tswr g n a f, .tsclr g n], exec i s = .next s) ∧
    ResultX g d (BitVec.ofNat 64 s.core.feat.toNat) 1 s (exec (.feat g d 0) s) ∧ ResultX g d (BitVec.ofNat 64 s.core.lit.image.toNat) 1 s (exec (.feat g d 1) s) ∧
    (∀ c, (s.core.shadow.state = .empty ∧ c = 0) ∨ (s.core.shadow.state = .loading ∧ c = 1) ∨ (s.core.shadow.state = .loaded ∧ c = 2) →
      ResultX g d (BitVec.ofNat 64 (s.core.shadow.image.toNat + c * 2 ^ 32)) 1 s (exec (.feat g d 2) s)) ∧
    ResultX g d (BitVec.ofNat 64 (coreCode s.cur + 4 * 2 ^ 12)) 1 s (exec (.feat g d 3) s)

/-- O46. Matrix engines take, run and complete their commands (R109, R154, R158, R162, R165, R166, R168, R169, R170, R185, R279, R284). An engine with nothing running takes the head of its queue when no earlier command blocks it and no save or eclipse is under way: calls begin at their entry word with counters 0; MSPEC, MCOMMIT and MDISCARD open, exchange and close the shadow bank; MZERO clears its region and nothing else; MSTAT fills its reservation with the word it selects; transfers start. A staging load whose rows can be read lands; a completed MAC step has added its exact chunk sums, clamped to 32 bits, to the C region and to nothing else; where a half was loaded again before its MAC, the manual does not say what the step adds, but it adds it nowhere else [log 3]. A command that has ended, none of whose packets is unacknowledged, leaves the engine free, with its status, its opcode and one more command counted. The half of a pair call that ends first stops there, with its status kept for the other [log 45]; any other command completes: its tag completes, with the first status of a pair that is not OK as the call's, its hazard entry goes, and the completion word that a call names is written at its address, with that status, the opcode, done and the count, and nothing else of memory changes. -/
def Obligations.MatrixEngineWork : Prop :=
  ∀ (s : State) (c : Nat) (e : Bool), let S := s.switchTo c; let m := S.core.t.me e
    (∀ q rest, m.run = none → m.queue = q :: rest → S.core.t.blocked S.cur q.seq = false → S.core.saving = false → S.core.eclipsing = false →
      Occurs c s (exec (.matrixCommandAccept c e) s) fun u => let n := u.core.t.me e
        n.queue = rest ∧ (∃ r, n.run = some r ∧ r.cmd = q) ∧ u.core.t.me (!e) = S.core.t.me (!e) ∧
        (q.kind.isCall = true → ∃ r, n.run = some r ∧ r.ended = none ∧ r.pt.pos = 16 * (q.a.toNat % 64) ∧ (∀ k : Fin 4, r.pt.mq[k] = 0) ∧ n.lit = m.lit) ∧
        (∀ z, q.kind = .mspec z → n.shadow.cells = (if z then [] else m.lit.cells) ∧ n.spec = true ∧ n.lit = m.lit) ∧
        (q.kind = .mcommit → n.lit = m.shadow ∧ n.shadow = m.lit ∧ n.spec = false) ∧
        (q.kind = .mdiscard → n.lit = m.lit ∧ n.shadow = m.shadow ∧ n.spec = false) ∧
        (q.kind = .mzero true → (n.bank false).cells = [] ∧ n.bank true = m.bank true) ∧
        (let x := xferOf q.a
         q.kind = .mzero false → x.badRect = false → ∀ row < 128, ∀ col < 320, (n.bank false).get row col =
          if x.row0 ≤ row ∧ row < x.row0 + x.rows ∧ x.col0 ≤ col ∧ col < x.col0 + x.cols then 0 else (m.bank false).get row col) ∧
        (∀ k, q.kind = .mstat k → u.core.t.comp.rq = S.core.t.comp.rq.map fun f =>
          if f.value = none ∧ f.tag = q.seq then
            { f with due := 0, value := some (match k.toNat with
                | 0 => m.completed.setWidth 64
                | 1 => m.mrp
                | _ => BitVec.ofNat 64 (m.lastStatus.toNat + m.lastOp.toNat * 256)) }
          else f) ∧
        (q.kind ≠ .maccst → q.kind ≠ .maccld → SameMemory S u) ∧ KeepsRegs S u) ∧
    (∀ r isB h k w q b, m.run = some r → r.pt.loading isB = some (h, k, w, q, b) → r.going = true → (r.step.map (·.half)) ≠ some h →
      (S.loadRows (r.loadCount isB w k.toNat - q.elems.length) e r isB w k.toNat q).2 = none →
      Occurs c s (exec (.stagingLoadComplete c e isB) s) fun u => SameMemory S u ∧ KeepsRegs S u ∧
        ∃ r', (u.core.t.me e).run = some r' ∧
          r'.pt = r.pt.setHalf isB h (.landed k w (S.loadRows (r.loadCount isB w k.toNat - q.elems.length) e r isB w k.toNat q).1 b)) ∧
    (∀ r p, m.run = some r → r.step = some p → let d := r.cmd.dims
      (m.bank false).poisonIn d.crow d.m d.ccol d.n = false → d.crow + d.m ≤ 128 → d.ccol + d.n ≤ 320 → S.core.eclipsing = false → S.core.saving = false →
      Occurs c s (exec (.macStepComplete c e) s) fun u => SameMemory S u ∧ KeepsRegs S u ∧
        (∃ r', (u.core.t.me e).run = some r' ∧ r'.step = none ∧ r'.ended = r.ended ∧ r'.pt = r.pt) ∧
        ∀ row < 128, ∀ col < 320,
          (InRegion d row col → p.replaced = false → ((u.core.t.me e).bank false).get row col =
            satS 32 ((m.bank false).get row col + p.sum (row - d.crow) (col - d.ccol))) ∧
          (¬InRegion d row col → ((u.core.t.me e).bank false).get row col = (m.bank false).get row col)) ∧
    (∀ r st, m.run = some r → r.ended = some st → S.owns (.engine S.core.t.id (if e then 1 else 0) r.cmd.seq) = false →
      let mine (h : Hazard) : Bool := decide (h.seq = r.cmd.seq); let half := (S.core.t.haz.find? mine).bind (·.half)
      let free (u : State) : Prop := let n := u.core.t.me e
        n.run = none ∧ n.completed = m.completed + 1 ∧ n.lastStatus = BitVec.ofNat 8 st.code ∧ n.lastOp = r.cmd.kind.op ∧ n.queue = m.queue ∧
        u.core.t.x = S.core.t.x ∧ u.core.t.v = S.core.t.v ∧ u.core.t.p = S.core.t.p
      (r.cmd.pair = true → half = none → Occurs c s (exec (.matrixCommandComplete c e) s) fun u => free u ∧ u.core.t.comp = S.core.t.comp ∧
        u.core.t.haz = modFirst mine (fun h => { h with half := some (e, st) }) S.core.t.haz ∧ SameMemory S u) ∧
      (∀ l, (r.cmd.pair = true → half ≠ none) →
        let all : Status := match half with | none => st | some q => if q.2 = Status.ok then st else q.2
        let count := if r.cmd.pair ∧ e then S.core.t.me0.completed else m.completed + 1
        let word := r.cmd.kind.isCall = true ∧ r.cmd.b ≠ 0
        (word → LinePlace S (vaOf r.cmd.b) 8 needW l) →
        Occurs c s (exec (.matrixCommandComplete c e) s) fun u => free u ∧ u.core.t.haz = S.core.t.haz.filter (fun h => !mine h) ∧
          (∀ t, r.cmd.tag = some t → u.core.t.comp.ctb.getLsbD t.toNat = true ∧ u.core.t.comp.held.getLsbD t.toNat = false ∧
            (all ≠ .ok → u.core.t.comp.cte.getLsbD t.toNat = true)) ∧
          (¬word → SameMemory S u) ∧
          (word → ChangedOnly S l 8 u ∧
            u.little l.key l.pa 8 = all.code + r.cmd.kind.op.toNat * 2 ^ 8 + 2 ^ 15 + count.toNat * 2 ^ 32)))

/-- O47. The micro-words of a routine (R104, R109, R160, R161, R162, R166, R283, R284). Of a running call whose word may execute, NOP, SETI, ADDI, SETM, CHK, BNZ and JMP do to the sequencer's counters and place what R162 states and nothing else, SETM of a field wider than a counter keeping its low 32 bits [log 45]; LDA and LDB start the load of a chunk into the half of its parity; MAC takes two landed halves of one chunk and starts the chunk step; ZERO clears the C region; SCAT and ADDV go on to the next word when all their rows succeed: ADDV has then added the vector to each row of the C region that was left, clamped to 32 bits, and changed no other element and no byte of memory; SCAT to rows of the own window that do not overlap, those of one row where a table names them, has added each row of the C region to its 4-byte elements there, clamped, and changed no other byte and no element, and a row whose table entry is 0xFFFF nothing; each counts its clamped elements against the slot of C; END ends the call with OK, and a reserved operation or a step past word 1,023 with FORMAT, once no step runs. -/
def Obligations.SequencerWords : Prop :=
  ∀ (s : State) (c : Nat) (e : Bool) (r : MatRun) (w : BitVec 64), let S := s.switchTo c; let p := r.pt; let d := mwD w; let imm := mwImm w
    let next (u : SeqPoint) : Prop := u.pos = p.pos + 1 ∧ u.a0 = p.a0 ∧ u.a1 = p.a1 ∧ u.b0 = p.b0 ∧ u.b1 = p.b1
    let counts (i : Instr) (v : BitVec 32) : Prop := Occurs c s (exec i s) fun u => ∃ q, MovesTo e r q S u ∧ next q ∧ ∀ k : Fin 4, q.mq[k] = if k = d then v else p.mq[k]
    (MicroAt S e 2 r w → Occurs c s (exec (.microNop c e) s) (MovesTo e r { p with pos := p.pos + 1 } S)) ∧
    (MicroAt S e 3 r w → counts (.microSetm c e)
      (BitVec.ofNat 32 ((fileGet r.cmd.mp (imm.extractLsb' 0 3)).toNat / 2 ^ (imm.toNat / 8 % 64) % 2 ^ (imm.toNat / 512 % 64)))) ∧
    (MicroAt S e 4 r w → counts (.microSeti c e) imm) ∧ (MicroAt S e 5 r w → counts (.microAddi c e) (p.mq[d] + imm)) ∧
    (MicroAt S e 0xE r w → counts (.microChk c e) (BitVec.ofNat 32 ((r.cmd.dims.k + 63) / 64))) ∧
    (MicroAt S e 6 r w → Occurs c s (exec (.microBnz c e) s) fun u => ∃ q, MovesTo e r q S u ∧
      q.pos = (if p.mq[d] = 1 then p.pos + 1 else w.toNat % 1024) ∧ ∀ k : Fin 4, q.mq[k] = if k = d then p.mq[k] - 1 else p.mq[k]) ∧
    (MicroAt S e 7 r w → Occurs c s (exec (.microJmp c e) s) (MovesTo e r { p with pos := w.toNat % 1024 } S)) ∧
    (∀ isB, MicroAt S e (if isB then 9 else 8) r w → p.loading isB = none → let k := p.mq[mwA w]
      Occurs c s (exec (if isB then .microLdb c e else .microLda c e) s)
        (MovesTo e r { p.setHalf isB (k.getLsbD 0) (.loading k w { elems := [], exps := [] } (p.half isB (k.getLsbD 0)).received) with pos := p.pos + 1 } S)) ∧
    (∀ wa qa ba wb qb bb, MicroAt S e 0xA r w → r.step = none → let k := p.mq[mwA w]; let h := k.getLsbD 0
      p.half false h = .landed k wa qa ba → p.half true h = .landed k wb qb bb →
      Occurs c s (exec (.microMac c e) s) fun u => ∃ q, (u.core.t.me e).run = some q ∧
        q.pt = { (p.setHalf false h .empty).setHalf true h .empty with pos := p.pos + 1 } ∧ q.cmd = r.cmd ∧
        q.step = some { half := h, pausable := mwI w, a := qa.turn (mwT wa) r.cmd.dims.m, b := qb.turn (mwT wb) (r.cmd.dims.chunk k.toNat),
                        replaced := false } ∧
        KeepsRegs S u ∧ SameMemory S u) ∧
    (MicroAt S e 0xB r w → r.step = none → r.cmd.dims.badM = false → r.cmd.dims.badN = false → r.cmd.dims.badC = false →
      Occurs c s (exec (.microZero c e) s) fun u => (∃ q, (u.core.t.me e).run = some q ∧ q.pt = { p with pos := p.pos + 1 }) ∧
        (∀ row < 128, ∀ col < 320,
          (InRegion r.cmd.dims row col ∧ (mwZ w = false ∨ r.cmd.dims.zf = true) → ((u.core.t.me e).bank false).get row col = 0) ∧
          (¬InRegion r.cmd.dims row col ∨ (mwZ w = true ∧ r.cmd.dims.zf = false) →
            ((u.core.t.me e).bank false).get row col = ((S.core.t.me e).bank false).get row col)) ∧ KeepsRegs S u ∧ SameMemory S u) ∧
    (∀ op ∈ [0xC, 0xD], MicroAt S e op r w → r.step = none → ((S.mrpClear e).regionRows (r.cmd.dims.m - r.row) e r w).2 = none →
      Occurs c s (exec (if op = 0xC then .microScat c e else .microAddv c e) s) fun u => KeepsRegs S u ∧
        ∃ q, (u.core.t.me e).run = some q ∧ q.pt.pos = p.pos + 1 ∧ q.row = 0) ∧
    (let dm := r.cmd.dims; let old (i j : Nat) := ((S.core.t.me e).bank false).get (dm.crow + i) (dm.ccol + j); let rows := (List.range dm.m).drop r.row
     let counted (q : MatRun) (sum : Nat → Nat → Int) : Prop := ∃ z, q.sats = r.sats ++ z ∧ (∀ y ∈ z, y.1 = r.cmd.cSlot) ∧
       (z.map (·.2)).sum = (rows.map fun i => ((List.range dm.n).filter fun j => decide (satS 32 (sum i j) ≠ sum i j)).length).sum
     (∀ bs, MicroAt S e 0xD r w → r.step = none → ((S.mrpClear e).regionRows (dm.m - r.row) e r w).2 = none → dm.crow + dm.m ≤ 128 → dm.ccol + dm.n ≤ 320 →
       S.rdSpan (spanFuel (4 * dm.n)) r.fetched (vaOf (r.cmd.mp[2] + BitVec.ofNat 64 (4 * r.cmd.colBase e))) (4 * dm.n) = .ok bs →
       let sum (i j : Nat) : Int := old i j + sgn 32 (leNat bs / 2 ^ (32 * j))
       Occurs c s (exec (.microAddv c e) s) fun u => SameMemory S u ∧ (∃ q, (u.core.t.me e).run = some q ∧ counted q sum) ∧
         (∀ i j, r.row ≤ i → i < dm.m → j < dm.n → ((u.core.t.me e).bank false).get (dm.crow + i) (dm.ccol + j) = satS 32 (sum i j)) ∧
         ∀ row < 128, ∀ col < 320, ¬(dm.crow + r.row ≤ row ∧ InRegion dm row col) →
           ((u.core.t.me e).bank false).get row col = ((S.core.t.me e).bank false).get row col) ∧
     (∀ (entry : Nat) (off : Nat → Nat → Nat), MicroAt S e 0xC r w → r.step = none → ((S.mrpClear e).regionRows (dm.m - r.row) e r w).2 = none →
       mwG w = false ∨ (r.row + 1 = dm.m ∧ S.tableEntry r (r.cmd.rowBase (mwY w) + r.row) = .ok entry) →
       let dest (i : Nat) : Nat := if mwG w then entry / 65536 else r.cmd.rowBase (mwY w) + i
       let here (i j : Nat) : Prop := r.row ≤ i ∧ i < dm.m ∧ j < dm.n ∧ (mwG w = true → dest i ≠ 0xFFFF)
       (∀ i j, here i j → off i j % 4 = 0 ∧
         placeOf (vaOf (r.cmd.mp[7] + BitVec.ofNat 64 (dest i * cPitch r.cmd.mp[5] + 4 * r.cmd.colBase e)) + BitVec.ofNat 55 (4 * j)) = .window (off i j)) →
       (∀ i j a b, here i j → here a b → (i, j) ≠ (a, b) → off i j ≠ off a b) →
       let before (i j : Nat) : Nat := leNat ((List.range 4).map (S.engByte (S.windowLoc (off i j))))
       let sum (i j : Nat) : Int := sgn 32 (before i j) + old i j
       Occurs c s (exec (.microScat c e) s) fun u =>
         ((∀ i j, r.row ≤ i → i < dm.m → j < dm.n → here i j) → ∃ q, (u.core.t.me e).run = some q ∧ counted q sum) ∧
         (u.core.t.me e).bank false = (S.core.t.me e).bank false ∧
         (∀ i j, here i j → u.little 0 (spAddr S.cur (off i j)) 4 = pat 32 (satS 32 (sum i j))) ∧
         ∀ slot a, (∀ i j, here i j → ¬(spAddr S.cur (off i j) ≤ a ∧ a < spAddr S.cur (off i j) + 4)) → u.readByte slot a = S.readByte slot a)) ∧
    (MicroAt S e 1 r w → r.step = none → Occurs c s (exec (.microEnd c e) s) (EndsWith e r .ok S)) ∧
    ((S.core.t.me e).run = some r → r.cmd.kind.isCall = true → r.going = true → r.step = none →
      1024 ≤ p.pos ∨ mwOp (S.core.lit.microAt p.pos) = 0 ∨ mwOp (S.core.lit.microAt p.pos) = 15 →
      Occurs c s (exec (.microReserved c e) s) (EndsWith e r .format S))

/-- O48. Far results, queue values, tile coordinates and reductions arrive (R59, R73, R92, R93, R212, R213, R215, R222, R240, R274, R296, R308). A far result whose bytes are there, read without error from a bank not held back, lands in its registers, a future's pair and predicate together, and is pending no more. A return-queue value pushed two cycles ago lands. The oldest next-tile request of a range task brings its chunk's start and length, or all ones, into its register; that of a queue the first 8 payload bytes of the cursor's next entry, which is taken and its token returned, or all ones where there is none; where the payload cannot be read the register's value is open and the entry is taken all the same [log 61]. With no parked reduction to replay, and none of this core's parked on the same bytes, the oldest retired reduction is performed on unpoisoned memory of this package, or sent as a RED packet to a package that is not lost. A line that need not wait for its flow leaves the L1, and no other line does: each of its dirty bytes stands at its home in this package if no word is poisoned, or is in the WRITE packets of its write-back, and no other byte of memory changes. A page walk that finds a translation for a prefetch puts it into the TLBs, and a clean line of this package into the L1 of the core that asked and still runs the context, where there is a place; one that finds none changes nothing else. -/
def Obligations.CoreResultsArrive : Prop :=
  ∀ (s : State) (c k : Nat), let S := s.switchTo c; let f := S.core.t.sb.far
    (∀ q, nth? f k = some q → q.parts = [] → S.bankHeld q = false → Occurs c s (exec (.loadLand c k .clean) s) fun u =>
      u.core.t.sb.far = landAtPlace k q f ∧
      (∀ d w, q.val = .x d w → u.xNow d = (if d = 0 then 0 else signFrom q.ext w) ∧ ∀ r, r ≠ d → u.xNow r = S.xNow r) ∧
      (∀ d w, q.val = .pair d w → (d ≠ 0 → u.xNow d = w.extractLsb' 0 64) ∧ (d + 1 ≠ 0 → u.xNow (d + 1) = w.extractLsb' 64 64) ∧
        ∀ r, r ≠ d → r ≠ d + 1 → u.xNow r = S.xNow r) ∧
      (∀ ph w p, q.val = .vec ph w p → u.core.t.x = S.core.t.x ∧ (∀ i < 256, lane 8 (fileGet u.core.t.v ph) i =
        if p.getLsbD i then lane 8 w i else lane 8 (fileGet S.core.t.v ph) i) ∧ ∀ r, r ≠ ph → fileGet u.core.t.v r = fileGet S.core.t.v r) ∧
      (∀ d w p, q.val = .pred d w p → d ≠ 0 → ∀ i < 256, (u.pNow d).getLsbD i = if p.getLsbD i then w.getLsbD i else (fileGet S.core.t.p d).getLsbD i) ∧
      (∀ d w p ok, q.val = .fget d w p ok → (d ≠ 0 → u.xNow d = w.extractLsb' 0 64) ∧
        (ok = true → d + 1 ≠ 0 → u.xNow (d + 1) = w.extractLsb' 64 64) ∧ (∀ r, r ≠ d → (ok = true → r ≠ d + 1) → u.xNow r = S.xNow r) ∧
        (p ≠ 0 → u.pNow p = if ok then BitVec.allOnes 256 else 0) ∧ ∀ r, r ≠ p → u.pNow r = S.pNow r) ∧
      SameMemory S u) ∧
    (∀ q v, nth? S.core.t.comp.rq k = some q → q.value = some v → q.due ≠ 0 → q.due ≤ S.core.clock →
      Occurs c s (exec (.returnQueueLand c k) s) fun u => u.core.t.comp = { S.core.t.comp with rq := S.core.t.comp.rq.set k { q with due := 0 } } ∧
        KeepsRegs S u ∧ SameMemory S u) ∧
    (∀ q rest, S.core.t.sb.nxt = q :: rest → q.range = true → let asid := S.core.t.id.asid; let own := vaOf q.q
      let lo := S.recGet asid own 32 6; let hi := S.recGet asid own 40 6; let upto := min (lo + S.recGet asid own 48 2) hi
      Occurs c s (exec (.nxtreqAnswer c) s) fun u => u.core.t.sb.nxt = rest ∧ (∀ r, r ≠ q.d → u.xNow r = S.xNow r) ∧
        (q.d ≠ 0 → u.xNow q.d = if lo < hi then BitVec.ofNat 64 (lo + (upto - lo) * 2 ^ 48) else BitVec.allOnes 64) ∧
        u.mem = (if lo < hi then S.recSet asid own 32 6 upto else S).mem) ∧
    (∀ q rest, S.core.t.sb.nxt = q :: rest → q.range = false → let asid := S.core.t.id.asid; let live := S.liveQueue asid (queueBlock q.q); let j := q.q.toNat % 8
      let brings (v : Word) (u : State) : Prop := u.core.t.sb.nxt = rest ∧ (∀ r, r ≠ q.d → u.xNow r = S.xNow r) ∧ (q.d ≠ 0 → u.xNow q.d = v) ∧ SameMemory S u
      (live = none → Occurs c s (exec (.nxtreqAnswer c) s) fun u => brings (BitVec.allOnes 64) u ∧ u.sched = S.sched) ∧
      (∀ z, live = some z → let n := z.cursors.getD j 0; let next := z.entries.find? fun x => decide (x.seq = n) && x.pushed
        (next = none → Occurs c s (exec (.nxtreqAnswer c) s) fun u => brings (BitVec.allOnes 64) u ∧ u.sched = S.sched) ∧
        (∀ x, next = some x → Occurs c s (exec (.nxtreqAnswer c) s) fun u => ∃ v, brings v u ∧
          (∀ l, S.xlate (some S.cur) asid (BitVec.ofNat 55 (x.slot + 8)) needR = .ok l → l.pkg = none → S.mem.poisoned l.pa 8 = false →
            v = BitVec.ofNat 64 (S.little l.key l.pa 8)) ∧
          u.liveQueue asid z.block = some (({ z with cursors := z.cursors.set j (n + 1) } : Queue).giveBack j n) ∧
          ∀ a blk, (a, blk) ≠ (asid, z.block) → u.heldQueue a blk = S.heldQueue a blk))) ∧
    (∀ r rest l p, (∀ q ∈ S.xlat.parked, q.go = false) → S.core.reds = r :: rest → S.redBehind r = false →
      S.xlate (some S.cur) r.task.asid r.va needRW = .ok l → l.pkg = some p → S.fabric.lost.contains p = false → S.flowFull S.netEng p 1 = false →
      Occurs c s (exec (.redTranslate c) s) fun u => u.core.reds = rest ∧ u.core.t = S.core.t ∧ SameMemory S u ∧
        Sends S { type := 5, tc := 1, eng := S.netEng, dst := p, asid := r.task.asid, key := l.key, pa := l.pa, op := r.op + if r.size = 4 then 0 else 16
                  opnd := r.operand.toNat % 2 ^ (8 * r.size) } u) ∧
    (∀ r rest l, (∀ q ∈ S.xlat.parked, q.go = false) → S.core.reds = r :: rest → S.redBehind r = false →
      S.xlate (some S.cur) r.task.asid r.va needRW = .ok l → l.pkg = none → S.mem.poisoned l.pa r.size = false →
      l.pa % 64 + r.size ≤ 64 → r.size ∈ [4, 8] →
      Occurs c s (exec (.redTranslate c) s) fun u => u.core.reds = rest ∧ ChangedOnly S l r.size u ∧ u.core.t = S.core.t ∧
        let m := S.little l.key l.pa r.size; let v := r.operand.toNat % 2 ^ (8 * r.size); let n := 8 * r.size
        (r.op = 11 → u.little l.key l.pa r.size = (m + v) % 2 ^ n) ∧ (r.op = 12 → u.little l.key l.pa r.size = if sgn n v < sgn n m then v else m) ∧
        (r.op = 13 → u.little l.key l.pa r.size = if sgn n m < sgn n v then v else m) ∧
        (r.op = 14 → u.little l.key l.pa r.size = pat n (satS n (sgn n m + sgn n v))) ∧ (r.op = 15 → u.little l.key l.pa r.size = m ||| v)) ∧
    (∀ l, nth? S.core.l1 k = some l → S.lineStuck l = false → S.core.l1.Pairwise (fun a b => a.pkg ≠ b.pkg ∨ a.line ≠ b.line) → Occurs c s (exec (.l1Eviction c k) s) fun u => u.core.t = S.core.t ∧
      (u.core.l1 = S.core.l1.filter fun o => !decide (o.pkg = l.pkg ∧ o.line = l.line)) ∧
      (l.pkg = none → S.mem.poison = [] → ∀ i < 64, l.dirty.getLsbD i = true → u.readByte l.key (64 * l.line + i) = lineByte l.data i) ∧
      (∀ slot a, l.pkg ≠ none ∨ a / 64 ≠ l.line → u.readByte slot a = S.readByte slot a) ∧
      (∀ i < 64, l.dirty.getLsbD i = false → u.readByte l.key (64 * l.line + i) = S.readByte l.key (64 * l.line + i)) ∧
      ∀ p, l.pkg = some p → u.srcFlow S.netEng p 0 = (S.writeBackLine l).srcFlow S.netEng p 0) ∧
    (∀ w, nth? s.xlat.walks k = some w → Answers (exec (.pageWalkComplete k) s) fun u =>
      let ended := s.xlat.inval.map fun i => if k < i.older then { i with older := i.older - 1 } else i
      let view := { s with xlat := { s.xlat with walks := dropNth s.xlat.walks k, inval := ended } }.switchTo w.core
      (∀ x ∈ [Xl.miss, .refused], view.xlate (some view.cur) w.asid w.va needR = x → u = view.switchTo s.cur) ∧
      ∀ l, view.xlate (some view.cur) w.asid w.va needR = .ok l →
        (placeOf w.va = .mapped → ∃ e ∈ u.xlat.tlb, e.asid = w.asid ∧ e.page = w.va.toNat / 2 ^ 16) ∧
        (view.core.l1.length < 1024 → SameMemory s u) ∧
        (view.core.mode = .running → view.core.t.id.asid = w.asid → l.pkg = none → CleanLine view l → view.l1Stuck l = false →
          ∃ (v : State) (q : L1Line), u = v.switchTo s.cur ∧ l1Find v.core.l1 l = some q ∧ q.present = BitVec.allOnes 64))

/-- O49. Copy engines start, write and complete their commands, and permits are granted (R174, R176, R181, R185, R187, R188, R191, R192, R193, R279, R280, R281). The copy command at the head of a free copy engine that no earlier command blocks starts: bad geometry ends it with FORMAT, and a CPY with an extent of 0 with OK, with a misplaced barrier with FORMAT, with an overlap of its footprints with OVERLAP unless it is a plain one-dimensional move, whose source is then read first, and otherwise with its walk begun; no byte of memory changes. The first waiting request of a counter-mode CPYW takes one permit from a local counter that is not zero, and is parked, with nothing else changed, while it is zero. A plain CPY of one element moves its bytes as the engine reads them and is in flight; any granule of a CPY with no barrier that is one run of bytes in a local line is written there and nowhere else, and the walk goes on or the command is in flight. A copy command in flight with no barrier, no shift-down, no permit and no packet outstanding completes: it leaves the hazard unit, its tag completes with its error bit, and its completion word, where it has one in this package, is written. That an engine reads the bytes its own core's L1 holds dirty, where the manual orders the two only by FENCE and the like, is the model's reading [log 24]. -/
def Obligations.CopyEngineWork : Prop :=
  ∀ (s : State) (c : Nat) (e : Bool), let S := s.switchTo c; let q := S.core.t.ce e
    (∀ k rest, q.run = none → q.queue = k :: rest → S.core.t.blocked S.cur k.seq = false → S.core.t.inFlight e < 64 → S.core.saving = false →
      S.core.eclipsing = false → k.kind.isCopy = true → Occurs c s (exec (.copyCommandStart c e) s) fun u =>
        (u.core.t.ce e).queue = rest ∧ SameMemory S u ∧
        (k.badGeo = true → InFlight e k .format S u) ∧
        (k.kind = .cpy → k.badGeo = false → k.tile.empty = true → InFlight e k .ok S u) ∧
        (k.kind = .cpy → k.badGeo = false → k.tile.empty = false → S.badBarrier k = true → InFlight e k .format S u) ∧
        (k.kind = .cpy → k.badGeo = false → k.tile.empty = false → S.badBarrier k = false → let foot := S.copyFoot k; let overlap := meetAny (flatAll S.cur foot.1) (flatAll S.cur foot.2)
          (overlap = true → k.memmove = false → InFlight e k .overlap S u) ∧
          (overlap = true → k.memmove = true → ∃ r, (u.core.t.ce e).run = some r ∧ r.cmd = k ∧ r.held = some [] ∧ r.pos = 0) ∧
          (overlap = false → (u.core.t.ce e).run = some k.begin))) ∧
    (∀ r l, q.run = some r → r.cmd.counted = true → r.permit = false → r.asked = none → CopyGoes S r → let a := permAddr r.cmd.geo[15]
      LinePlace S a 4 needRW l → let mine : PermitReq := { who := .command S.core.t.id (ceNum e) r.cmd.seq, pa := l.pa, key := l.key }
      let live := S.sched.permits.filter S.wants
      (0 < S.little l.key l.pa 4 → (live.find? fun q => decide (q.pa = l.pa)).getD mine = mine → Occurs c s (exec (.permitGrant c e) s) fun u =>
        u.little l.key l.pa 4 = S.little l.key l.pa 4 - 1 ∧ ChangedOnly S l 4 u ∧ (u.core.t.ce e).run = some { r with permit := true } ∧
        u.sched.permits = live.filter (fun q => !decide (q = mine)) ∧ u.core.t.ce (!e) = S.core.t.ce (!e) ∧ KeepsRegs S u) ∧
      (S.little l.key l.pa 4 = 0 → mine ∉ live → Occurs c s (exec (.permitGrant c e) s) fun u =>
        u.sched.permits = live ++ [mine] ∧ u.core = S.core ∧ SameMemory S u)) ∧
    (∀ r from' to', q.run = some r → r.cmd.kind = .cpy → CopyGoes S r → r.headed = false → r.held = none → r.overrun = false → r.cmd.geo[14] = 0 → let x := r.cmd.tile
      r.pos = 0 → r.skipped = 0 → x.xf = 0 → x.e0 = 1 → x.e1 = 1 → x.e2 = 1 → x.e3 = 1 →
      LinePlace S x.sb x.z needR from' → LinePlace S x.db x.z needW to' → Occurs c s (exec (.copyGranuleWrite c e) s) fun u =>
        (∀ i < x.z, u.readByte to'.key (to'.pa + i) = S.engByte from' i) ∧ ChangedOnly S to' x.z u ∧ InFlight e r.cmd .ok S u) ∧
    (∀ r g a bs l, q.run = some r → r.cmd.kind = .cpy → CopyGoes S r → r.headed = false → r.held ≠ some [] → r.cmd.geo[14] = 0 →
      S.granule r = .ok g → joinPieces g.pieces = [(a, bs)] → bs ≠ [] → LinePlace S a bs.length needW l →
      Occurs c s (exec (.copyGranuleWrite c e) s) fun u => ChangedOnly S l bs.length u ∧ (∀ i < bs.length, u.readByte l.key (l.pa + i) = bs.getD i 0) ∧
        (g.pos < r.cmd.tile.total → ∃ r', (u.core.t.ce e).run = some r' ∧ r'.cmd = r.cmd ∧ r'.pos = g.pos ∧ r'.sats = r.sats + g.sats) ∧
        (r.cmd.tile.total ≤ g.pos → InFlight e r.cmd (if r.overrun then .overrun else .ok) S u)) ∧
    (∀ k f, nth? q.flight k = some f → f.run.cmd.kind.isCopy = true → f.run.missing = none → f.run.permit = false → S.owns (.engine S.core.t.id (ceNum e) f.run.cmd.seq) = false →
      f.run.cmd.geo[14] = 0 → f.run.cmd.tile.xf ≠ 3 → let c1 := f.run.cmd
      let closed (u : State) : Prop := (u.core.t.ce e).flight = dropNth q.flight k ∧ u.core.t.haz = S.core.t.haz.filter (fun h => !decide (h.seq = c1.seq)) ∧
        (∀ t, ctlTag c1.ctl = some t → u.core.t.comp.ctb.getLsbD t.toNat = true ∧ u.core.t.comp.held.getLsbD t.toNat = false ∧
          (f.status ≠ .ok → u.core.t.comp.cte.getLsbD t.toNat = true)) ∧ (ctlTag c1.ctl = none → u.core.t.comp = S.core.t.comp) ∧ KeepsRegs S u
      (c1.geo[13] = 0 → Occurs c s (exec (.copyCommandComplete c e k) s) fun u => closed u ∧ SameMemory S u) ∧
      (∀ l, c1.geo[13] ≠ 0 → LinePlace S (vaOf c1.geo[13]) 8 needW l → Occurs c s (exec (.copyCommandComplete c e k) s) fun u =>
        closed u ∧ ChangedOnly S l 8 u ∧ BitVec.ofNat 64 (u.little l.key l.pa 8) = completionWord f.status c1.kind.op (c1.ctl.extractLsb' 16 32)))

/-- O50. Collectives and CSIGs are handed on, collectives start and complete, and ready bits are set (R174, R184, R196, R197, R198, R288, R331, R333, R339, R340). A free collective engine takes its oldest queued collective, whose handle and member table it can read here: a reserved value or a torus group that is no complete box ends it with FORMAT, with no ordinal used [log 33]; otherwise it has begun under the engine's next ordinal, with the buckets, the members and the buffer that the handle gives. A COLL or a CSIG at the head of a free copy engine that no earlier command blocks, with its handle readable here, is handed to the collective engine that the handle names, a COLL while that engine's queue has room, and the copy engine is free for its next command. The CSIG that came first of those a collective engine holds for that copy engine, with no collective running, its core holding no store, and no earlier command in the hazard unit that writes its bucket and is not a COLL of the handle, sets its bit of the ready word, here, and completes with no completion word [log 48]. A collective that has ended, or whose chunks are all done with no member absent and no packet outstanding, leaves its engine free and completes its command, if it has no completion word, in the issuing task, where that task has not been saved. -/
def Obligations.CollectiveEngineWork : Prop :=
  ∀ s : State,
    (∀ n q rest bs, n < 32 → let k := s.collOf n
      k.run = none → k.queue = q :: rest → s.netRead 2 [] q.task.asid (vaOf q.cmd.opr) 64 = .ok bs → let h := handleOf bs
      (h.bad = true → Answers (exec (.collectiveStart n) s) fun u => (u.collOf n).queue = rest ∧ (u.collOf n).ordinal = k.ordinal ∧ SameMemory s u ∧
        ∃ r, (u.collOf n).run = some r ∧ r.cmd = q ∧ r.ended = some .format) ∧
      (∀ t, h.bad = false → let nm := bitsOf h.w4 12 0; let g := memberIds nm t
        s.netRead (2 * nm / 64 + 2) [] q.task.asid (BitVec.ofNat 55 h.grp) (2 * nm) = .ok t →
        (bitsOf h.w0 6 6 = 1 → s.completeBox g = false → Answers (exec (.collectiveStart n) s) fun u =>
          (u.collOf n).ordinal = k.ordinal ∧ SameMemory s u ∧ ∃ r, (u.collOf n).run = some r ∧ r.cmd = q ∧ r.ended = some .format) ∧
        (¬(bitsOf h.w0 6 6 = 1 ∧ s.completeBox g = false) → Answers (exec (.collectiveStart n) s) fun u =>
          (u.collOf n).queue = rest ∧ (u.collOf n).ordinal = (k.ordinal + 1) % 2 ^ 32 ∧ (∀ i, (u.getCore i).t = (s.getCore i).t) ∧
          ∃ r, (u.collOf n).run = some r ∧ r.cmd = q ∧ r.begun = true ∧ r.ordinal = k.ordinal ∧ r.op = bitsOf h.w0 1 0 ∧ r.red = bitsOf h.w0 3 2 ∧
            r.ew = 2 * bitsOf h.w0 5 4 ∧ r.buf = BitVec.ofNat 55 h.buf ∧ r.bbytes = bitsOf h.w2 31 0 ∧ r.nb = bitsOf h.w2 38 32 ∧
            r.self = bitsOf h.w4 28 16 ∧ r.group = g))) ∧
    (∀ c e k rest bs, let S := s.switchTo c; let q := S.core.t.ce e
      q.run = none → q.queue = k :: rest → k.kind.isCopy = false → S.core.t.blocked S.cur k.seq = false → S.core.t.inFlight e < 64 → S.core.saving = false →
      S.core.eclipsing = false → S.rdSpan 2 [] (vaOf k.opr) 24 = .ok bs → let n := bitsOf (leNat (bs.take 8)) 11 7; let bb := bitsOf (leNat (bs.drop 16)) 31 0
      let cmd : CollCmd := { task := S.core.t.id, core := S.cur, eng := ceNum e, cmd := k }
      (k.kind = .coll → (s.collOf n).queue.length < 16) →
      Occurs c s (exec (.copyCommandStart c e) s) fun u =>
        (u.core.t.ce e).queue = rest ∧ (u.core.t.ce e).run = none ∧ u.core.t.haz = S.core.t.haz ∧ u.core.t.comp = S.core.t.comp ∧ KeepsRegs S u ∧
        SameMemory S u ∧ (u.collOf n).run = (s.collOf n).run ∧ (k.kind = .coll → (u.collOf n).queue = (s.collOf n).queue ++ [cmd]) ∧
        (k.kind = .csig → (u.collOf n).signals = (s.collOf n).signals ++
          [{ cmd, lo := (leNat ((bs.drop 8).take 8) + k.ctl.toNat * bb) % 2 ^ 55, len := bb, missing := none }])) ∧
    (∀ c e n g more l, let S := s.switchTo c; let k := g.cmd.cmd; let h := vaOf k.opr
      S.signalsOf c (ceNum e) = (n, g) :: more →
      (s.liveCores.find? fun i => decide ((s.getCore i).mode ≠ .idle) && decide ((s.getCore i).t.id = g.cmd.task)) = some c →
      g.missing = none → S.core.l1 = [] → S.writesDue = false → (∀ i < 32, (s.collOf i).run = none) →
      (∀ x ∈ S.core.t.haz, x.seq < k.seq → (S.collSeqs h).contains x.seq = false →
        meetAny (flatAll S.cur x.writes) (flatAll S.cur (foot (BitVec.ofNat 55 g.lo) g.len)) = false) →
      LinePlace S (h + 40) 8 needRW l →
      Occurs c s (exec (.readyBitSet c e) s) fun u =>
        u.little l.key l.pa 8 = S.little l.key l.pa 8 ||| 2 ^ k.ctl.toNat % 2 ^ 64 ∧ ChangedOnly S l 8 u ∧ u.core.t.ce e = S.core.t.ce e ∧
        (u.collOf n).signals = (s.collOf n).signals.filter (fun x => !decide (x.cmd.task = g.cmd.task ∧ x.cmd.cmd.seq = k.seq)) ∧
        u.core.t.haz = S.core.t.haz.filter (fun x => !decide (x.seq = k.seq)) ∧ u.core.t.comp = S.core.t.comp ∧ KeepsRegs S u) ∧
    (∀ n r st, n < 32 → (s.collOf n).run = some r → r.cmd.cmd.geo[13] = 0 → (∀ v ∈ s.sched.saved, v.task ≠ r.cmd.task) →
      r.ended = some st ∨ (st = .ok ∧ r.ended = none ∧ r.begun = true ∧ r.missing = none ∧ r.done = true ∧ r.absent = 0 ∧ s.owns (.collective n) = false) →
      Answers (exec (.collectiveComplete n) s) fun u => (u.collOf n).run = none ∧ (u.collOf n).queue = (s.collOf n).queue ∧ SameMemory s u ∧
        ∀ i ∈ s.liveCores, (s.getCore i).mode ≠ .idle → (s.getCore i).t.id = r.cmd.task →
          let a := (s.getCore i).t; let b := (u.getCore i).t
          b.haz = a.haz.filter (fun x => !decide (x.seq = r.cmd.cmd.seq)) ∧ b.x = a.x ∧ b.v = a.v ∧ b.p = a.p ∧
          ∀ t, ctlTag r.cmd.cmd.ctl = some t → b.comp.ctb.getLsbD t.toNat = true ∧ b.comp.held.getLsbD t.toNat = false ∧
            (st ≠ .ok → b.comp.cte.getLsbD t.toNat = true))

/-- O51. Fault records are written or lost, and verdicts release what waits on a page (R170, R193, R300, R301, R303, R304, R305). A record that finds no queue is lost and counted. One that finds room stands in its slot, byte for byte, and head is one more. A full queue keeps records of kinds 0 to 2 waiting. A verdict before the package is ready, or for a page without an entry, is counted as an error and does nothing. Otherwise its entry is gone; the saved task that alone waits there may be tried again or, on a denial, has its trap due, and the command that alone waits there goes on from its progress, or ends with the verdict's status and, where the context has no fault queue to count in, with nothing else changed but one kind-4 record. -/
def Obligations.FaultQueuesAndVerdicts : Prop :=
  ∀ (s : State) (a : Nat),
    (∀ r, s.xlat.records.find? (fun r => decide (r.asid = a)) = some r →
      let gone (u : State) : Prop := u.xlat.records = dropFirst (fun r => decide (r.asid = a)) s.xlat.records
      (s.faultQueue a = none → Answers (exec (.faultRecordWrite a) s) fun u => gone u ∧ u.mgmt.errcnt = s.mgmt.errcnt + 1 ∧ u.core = s.core) ∧
      (∀ base lg head tail l m, s.faultQueue a = some (base, lg, head, tail) → head - tail < 2 ^ lg →
        s.xlate none a (base + BitVec.ofNat 55 (64 * (head % 2 ^ lg))) needW = .ok l → l.pkg = none → l.pa % 64 = 0 → s.mem.poison = [] →
        let s1 := { s with mem := s.mem.store l.key l.pa (r.bytes head s.now) }
        s1.xlate none a (BitVec.ofNat 55 (s.desc a 32 7) + 16) needW = .ok m → m.pkg = none → m.pa / 64 ≠ l.pa / 64 → m.pa % 64 + 8 ≤ 64 →
        Answers (exec (.faultRecordWrite a) s) fun u => gone u ∧ (∀ i < 64, u.readByte l.key (l.pa + i) = (r.bytes head s.now).getD i 0) ∧
          u.little m.key m.pa 8 = (head + 1) % 2 ^ 64 ∧ (∀ slot b, b / 64 ≠ l.pa / 64 → b / 64 ≠ m.pa / 64 → u.readByte slot b = s.readByte slot b) ∧ u.core = s.core) ∧
      (∀ base lg head tail, s.faultQueue a = some (base, lg, head, tail) → 2 ^ lg ≤ head - tail → s.xlat.records.all (fun r => decide (r.asid ≠ a ∨ r.kind < 3)) = true →
        exec (.faultRecordWrite a) s = .refused (.eventNotEnabled "FAULT_RECORD_WRITE"))) ∧
    ∀ p i v, IsVerdict a p i v →
      (s.mgmtOpen = false ∨ s.xlat.pending.any (fun q => q.is a p) = false → Answers (exec i s) fun u =>
        u = { s with mgmt := { s.mgmt with errcnt := s.mgmt.errcnt + 1 } }) ∧
      (∀ q id, s.mgmtOpen = true → s.xlat.pending.find? (fun q => q.is a p) = some q → v ≠ .drop →
        q.waiters = [.task id] → s.savingCore id = none → Answers (exec i s) fun u =>
          u.xlat.pending = s.xlat.pending.filter (fun q => !(q.is a p)) ∧ u.core = s.core ∧
          u.sched.saved = s.sched.saved.map fun z => if z.task = id then { z with waits := none, deliver := match v.status with
            | none => none
            | some st => z.fault.map fun f => { f with cause := st.cause } } else z) ∧
      (∀ q id eng seq t m bundle img, s.mgmtOpen = true → s.xlat.pending.find? (fun q => q.is a p) = some q →
        q.waiters = [.engine id eng seq] → s.taskOf id = some t → t.missOf eng seq = some (m, bundle, img) → Answers (exec i s) fun u =>
          u.xlat.pending = s.xlat.pending.filter (fun q => !(q.is a p)) ∧ OnTask id s u (fun k n => n.t = k.t.engVerdict eng seq v.status) ∧
          (s.desc a 32 7 = 0 → SameMemory s u) ∧ (s.desc a 32 7 = 0 → match v.status with
          | none => u.xlat.records = s.xlat.records
          | some st => ∃ r, u.xlat.records = s.xlat.records ++ [r] ∧ r.kind = 4 ∧ r.status = st.code ∧ r.va = m.va ∧ r.opnd = m.opnd ∧ r.elem = m.elem ∧ r.task = id.record))

/-- O52. Selection, image loads and slices (R9, R259, R263, R265, R270). Selection at an idle core dispatches the task it picks for the first time: the core runs it from its entry word with the state of R9, and the record has left the run queue. While a task is saved, or waits at its TEND or TCONT, selection only chooses the next one. An image that an allowed core of the die has neither held nor loaded for a quantum is loaded into a shadow plane, and one that cannot be placed stops its task. A slice that expires with somebody waiting sets a request with 10 microseconds of grace, else nothing; grace that expires forces the save. -/
def Obligations.SchedulerWork : Prop :=
  ∀ (s : State) (c : Nat), c < 576 → let k := s.getCore c
    (∀ r, k.free → s.migrate (coreDie c) = s → s.pick c (sortBy s.before (s.runQueue (coreDie c))) = .run r → s.isGang r = false → r.live = [] →
      s.sched.saved.any (fun v => decide (v.task.asid = r.task.asid ∧ v.task.record = r.task.record)) = false → s.entryOk r c = true →
      let s1 := s.recSet r.task.asid r.task.record 0 1 stRunning; let id : TaskId := { r.task with member := 0 }
      Answers (exec (.select c) s) fun u => let n := u.getCore c
        n.mode = .running ∧ n.t.id = id ∧ n.t.pc = n.lit.base + s1.recEntry id ∧ n.t.refs = r.refs ∧ n.t.loop = LoopRegs.reset ∧ n.t.comp = TaskState.reset.comp ∧
        (∀ x : BitVec 6, fileGet n.t.x x = if x = 61 then id.record.zeroExtend 64 else if x = 1 then BitVec.ofNat 64 (s1.recGet id.asid id.record 16 8) else 0) ∧
        (∀ v, fileGet n.t.v v = 0) ∧ n.t.sys.th = false ∧ n.t.sys.preq = 0 ∧ n.t.sys.srseed = BitVec.ofNat 64 (s1.desc id.asid 40 8) ^^^ id.record.zeroExtend 64 ∧
        u.mem = s1.mem ∧ ∀ q, u.schedRec id.asid id.record = some q → q.ready = false ∧ q.live = [0]) ∧
    (∀ r, k.saving = true ∨ k.endingHeld = true → k.prefetch = none → k.reserved = none → s.migrate (coreDie c) = s → s.pick c (sortBy s.before (s.runQueue (coreDie c))) = .run r →
      Answers (exec (.select c) s) fun u => u.getCore c = { k with prefetch := some r.task } ∧ SameMemory s u ∧ u.sched = s.sched) ∧
    (∀ a t r, s.schedRec a (BitVec.ofNat 55 t) = some r → r.ready = true → s.imageHeld r = false → s.imageComing r = false → s.contextRuns a = true →
      (∃ t, r.lackAt = some t ∧ 1000 * s.mgmt.aging.toNat ≤ s.since t) →
      (s.unplaceable r = true → Answers (exec (.imageLoadStart a t) s) fun u =>
        ∃ q ∈ u.xlat.records, q.kind = 3 ∧ q.cause = Cause.badTarget.code ∧ q.task = r.task.record ∧ q.va = s.entryVa r.task) ∧
      (s.unplaceable r = false → s.loadCore r = some c → k.loading = none → Answers (exec (.imageLoadStart a t) s) fun u => SameMemory s u ∧ u.sched.saved = s.sched.saved ∧
        u.sched.recs.map (fun q => { q with lackAt := none }) = s.sched.recs.map (fun q => { q with lackAt := none }) ∧
        u.getCore c = { k with loading := some { image := s.recImage r.task, tag := none, asid := a }, shadow := { k.shadow with state := .loading } })) ∧
    (let y := k.t.sys; k.mode = .running → bitsOf y.tslice.toNat (8 * y.prio.toNat + 7) (8 * y.prio.toNat) ≠ 0 → y.preq.getLsbD 0 = false →
      let wanted := (s.runQueue (coreDie c)).any (fun r => decide (y.prio.toNat ≤ s.effPrio r) && s.fits r c) || s.claimedFrom (coreDie c) (coreCluster c) none
      (wanted = false → exec (.timeSliceExpiry c) s = .next s) ∧
      (wanted = true → Answers (exec (.timeSliceExpiry c) s) fun u => (u.getCore c).t = { k.t with sys := { y with preq := y.preq ||| 1, graceAt := s.mgmt.tsc } } ∧ SameMemory s u ∧
        (y.preq.getLsbD 1 = false → ∀ v : State, v.core.old.sys = (u.getCore c).t.sys → v.mgmt.tsc = s.mgmt.tsc → bitsOf v.preqNow 31 16 = 10))) ∧
    (k.mode = .running → k.t.sys.preq.getLsbD 0 = true → k.t.sys.preq.getLsbD 1 = false →
      Answers (exec (.graceExpiry c) s) fun u => (u.getCore c).t = { k.t with sys := { k.t.sys with preq := k.t.sys.preq ||| 3 } } ∧ SameMemory s u)

/-- O53. Plane loads, saves, eclipse and the end of a record (R225, R226, R227, R287, R309, R311, R313). A plane load that ends well leaves the image in the plane, any other leaves it empty, and its tag completes. A save of a task that is not eclipsed, once everything has paused and no line waits for its flow, keeps the task's whole state and leaves the core idle if its writes succeed; if one misses it waits on the page. An eclipsed task at a reclamation point, in a bounded wait or in its save issues nothing more; once its commands have ended it holds nothing and its core is idle. A record that notifies none and whose task has ended, with no reduction, member, core or engine command left, leaves the scheduler and is counted at its launch port. -/
def Obligations.SavesAndEnds : Prop :=
  ∀ (s : State) (c : Nat), c < 576 → let k := s.getCore c; let S := s.switchTo c
    (∀ l, k.loading = some l → Answers (exec (.planeLoadComplete c) s) fun u => let n := u.getCore c
      n.loading = none ∧ n.lit = k.lit ∧ SameMemory s u ∧ (∀ p, s.loadImage l.asid l.image = .ok p → n.shadow = p) ∧
      (∀ st, s.loadImage l.asid l.image = .error st → n.shadow = { k.shadow with state := .empty }) ∧
      ∀ id t, l.tag = some (id, t) → OnTask id s u fun _ n => n.t.comp.ctb.getLsbD t.toNat = true ∧ n.t.comp.held.getLsbD t.toNat = false ∧
        (∀ st, s.loadImage l.asid l.image = .error st → n.t.comp.cte.getLsbD t.toNat = true)) ∧
    (∀ reason fault v, S.core.mode = .saving reason fault v → S.core.pausedAll = true → S.saveHalted S.core.t.id = false → S.core.t.sys.ecl = false →
      let s1 := (S.modCore fun c => c.forgetAsks).flushL1; s1.writesStuck = false → let w := s1.writeSave reason
      (w.2 = none → Occurs c s (exec (.saveComplete c) s) fun u => u.core.mode = .idle ∧
        ∃ z, u.sched.saved = S.sched.saved ++ [z] ∧ z.task = S.core.t.id ∧ z.t = S.core.t ∧ z.reason = reason ∧ z.fault = fault ∧ z.core = c) ∧
      (∀ va, w.2 = some (.miss, va) → w.1.pendingFull S.core.t.id.asid va = false → Occurs c s (exec (.saveComplete c) s) fun u =>
        u.core.mode = S.core.mode ∧ u.core.t = S.core.t ∧ ∃ q ∈ u.xlat.pending, q.is S.core.t.id.asid (pageNo va) = true ∧ q.waiters.contains (.save S.core.t.id) = true)) ∧
    (S.core.t.sys.ecl = true → S.core.saving = true ∨ (S.core.mode = .running ∧ S.core.pendTrap = none ∧
        ((S.core.bundle.held = true ∧ S.core.bundle.bounded = true) ∨ S.core.atReclaim = true)) →
      S.core.t.commandsGone = false → Occurs c s (exec (.eclipseReclaim c) s) fun u =>
        u.core = { S.core.forgetAsks with pendTrap := none, swap := false, mode := .eclipsing } ∧ SameMemory S u) ∧
    (S.core.t.commandsGone = true → S.core.mode = .eclipsing ∨ (S.core.t.sys.ecl = true ∧ (S.core.saving = true ∨ (S.core.mode = .running ∧
        S.core.pendTrap = none ∧ ((S.core.bundle.held = true ∧ S.core.bundle.bounded = true) ∨ S.core.atReclaim = true)))) →
      Occurs c s (exec (.eclipseReclaim c) s) fun u => u.core.mode = .idle ∧ u.core.t.tokens = [] ∧ u.core.t.refs = [] ∧ u.core.t.comp.held = 0 ∧
        u.core.t.comp.rq = [] ∧ u.core.t.x = S.core.t.x) ∧
    (∀ a t q e, let own : VAddr := BitVec.ofNat 55 t
      s.schedRec a own = some q → q.finish = some e → q.reds = 0 → q.live = [] → s.coresOf a own = [] → s.commandsOf a own = false →
      let s1 := match e with
        | .done => s.recSet a own 0 1 stDone
        | .eclipsed => s.recSet a own 0 1 stEclipsed
        | .stopped => s
      s1.recGet a own 64 8 = 0 → Answers (exec (.taskFinish a t) s) fun u => u.mem = s1.mem ∧ u.core = s.core ∧
        u.sched.recs = s.sched.recs.filter (fun r => !(r.is a own)) ∧ ∀ d, q.port = some d → d < 4 → (u.portOf d).done = (s.portOf d).done + 1)

/-- O54. Power intervals, windows, scrubs, row refresh and freeze signals (R239, R307, R343, R344, R345, R346, R347, R348, R349, R350, R352, R354). At a power interval the limit of the mode in force moves G by R349, every cluster's dimmer level is the least of its temperature bound, G and its cap, and a cluster at 110 degrees or more trips the package; unless it is tripped, each gang that holds reserved cores, admission being possible again, is then considered as at a reservation. At a window's end every unlocked rail outside Peak whose arrays stayed below Tm takes its step as safe and goes one step down, counts begin again and a threshold write takes effect. A scrub that finds nothing, or a word already poisoned, changes nothing; a corrected error counts against its array, and with a count of Tm in an array outside the clusters writes its CORR record, such an array standing at its nominal voltage [log 30]; an uncorrectable one poisons its word and writes an Afterglow record, with no fault record. An uncorrectable error that a read of a vector or a scalar register file finds poisons its word and writes an Afterglow record; which reads find one is an input of the model [log 44]. A row's refresh zeroes its count, and the end of a hold-back frees its bank. A freeze signal at a die that records writes one PROPAGATE record and starts its post-window, the trigger's number staying that of the trigger [log 53]; at any other it changes nothing. -/
def Obligations.PowerAndErrorMonitoring : Prop :=
  ∀ s : State,
    (∀ (p : Nat) (t : List Nat), t.length = 48 → p < 2 ^ 16 → (∀ x ∈ t, x < 4096) → let m := s.power.modes.power; let l := m.limit
      let g := if l < p then s.power.g - 2 else if 20 * p < 19 * l then min 15 (s.power.g + 1) else s.power.g
      Answers (exec (.dimmerUpdate p t) s) fun v => ∃ u, u.power.power = m ∧ u.power.g = g ∧ u.power.pm.toNat = p ∧ SameMemory s u ∧ u.core = s.core ∧
        u.sched = s.sched ∧ u.power.high = decide (21 * l < 20 * p) ∧
        (∀ k < 48, (u.clusterOf k).tj.toNat = t.getD k 0 ∧
          (u.clusterOf k).d = BitVec.ofNat 4 (min (min (min 15 ((400 - t.getD k 0) / 4)) g) (s.clusterOf k).cap.toNat) ∧
          (u.clusterOf k).step = (if m = .peak then 0 else (s.clusterOf k).step) ∧ (400 ≤ t.getD k 0 → (u.clusterOf k).thr = true)) ∧
        (u.power.tripped = true ↔ s.power.tripped = true ∨ ∃ k < 48, 440 ≤ t.getD k 0) ∧
        v = if u.power.tripped then u
          else forEach (u.sched.recs.filter fun r => r.ready && u.contextRuns r.task.asid && u.isGang r && !(u.reservedFor r).isEmpty) (fun r s => s.tryGang r) u) ∧
    (Answers (exec .governorWindowEnd s) fun u => u.power.counts = [] ∧ u.power.pending = none ∧ u.core = s.core ∧ SameMemory s u ∧
      u.power.tm = (match s.power.pending with | none => s.power.tm | some q => q.1) ∧ u.power.tp = (match s.power.pending with | none => s.power.tp | some q => q.2) ∧
      ∀ k < 48, let c := s.clusterOf k
        u.clusterOf k = if s.power.power ≠ .peak ∧ c.lock = false ∧ (∀ q ∈ s.power.counts, clusterOfArray q.1 = some k → q.2 < max 1 s.power.tm.toNat)
          then { c with safe := c.step, step := min (c.step + 1) 10 } else c) ∧
    (∀ x a, s.scrubExists x a = true →
      (exec (.scrub x a .clean) s = .next s) ∧ (∀ r, s.scrubPoisoned x a = true → exec (.scrub x a r) s = .next s) ∧
      (s.scrubPoisoned x a = false → let p := placeOfScrub x a
        (Answers (exec (.scrub x a .corrected) s) fun u => mapGet 0 u.power.counts p.array = mapGet 0 s.power.counts p.array + 1 ∧ SameMemory s u ∧
          u.xlat = s.xlat ∧ u.core = s.core ∧ (let n := mapGet 0 s.power.counts p.array + 1
            n = max 1 s.power.tm.toNat → n ≠ max 1 s.power.tp.toNat → clusterOfArray p.array = none → Recorded p.die 5 s u)) ∧
        (Answers (exec (.scrub x a .uncorrectable) s) fun u => u.xlat = s.xlat ∧ SameMemory s u ∧
          (x ≠ .afterglow p.die → u.scrubPoisoned x a = true ∧ Recorded p.die 1 s u)))) ∧
    (∀ r, (Answers (exec (.regularRefresh r) s) fun u => u = { s with mgmt := { s.mgmt with rowCounts := u.mgmt.rowCounts } } ∧ mapGet 0 u.mgmt.rowCounts r = 0) ∧
      (s.mgmt.heldBanks.contains r = true → Answers (exec (.holdbackEnd r) s) fun u =>
        u = { s with mgmt := { s.mgmt with heldBanks := s.mgmt.heldBanks.filter (fun q => decide (q ≠ r)) } })) ∧
    (∀ n w k r, s.agenda = .regError n w k :: r → n < 576 → w < 1024 → k < 5 → Answers (step s) fun u =>
      (u.getCore n).t.regPoison.contains w = true ∧ (u.getCore n).t.v = (s.getCore n).t.v ∧ u.mem = s.mem ∧ Recorded (coreDie n) 1 s.pass u) ∧
    (∀ n w r, s.agenda = .readError (.scalar n w) .uncorrectable :: r → n < 576 → 0 < w → w < 64 → Answers (step s) fun u =>
      (u.getCore n).t.regPoison.contains (1024 + w) = true ∧ (u.getCore n).t.x = (s.getCore n).t.x ∧ u.mem = s.mem ∧ Recorded (coreDie n) 1 s.pass u) ∧
    (∀ d o q, d < 6 → o < 6 → Answers (exec (.freezeSignal d o q) s) fun u => ((s.glowOf d).state ≠ .recording → u = s) ∧ Recorded d 11 s u ∧
      ((s.glowOf d).state = .recording → (u.glowOf d).state = (if (s.glowOf d).post = 0 then .frozen else .post (s.glowOf d).post.toNat) ∧
        (u.glowOf d).trigSeq = (s.glowOf d).trigSeq) ∧ ∀ i < 6, i ≠ d → u.glowOf i = s.glowOf i)

/-- O55. Packets that are next in their flow are delivered (R213, R323, R324, R325, R326, R331). A sound packet for this package that is next in its flow is delivered: WRITE stores its bytes, but for those it masks [log 58], at its home, and poisons there the words that came poisoned [log 34]; RED and ATOMIC perform their operation there, with no collective running and room in the result cache, ACAS with the comparand that the model puts into its payload [log 20], and an ATOMIC's old value is kept for its answer; a copy engine's ATOMIC that finds no permit is parked behind those that came before [log 20]; READ is answered with the bytes of its home where its flow has room; RDATA, with the mark of its poisoned words that the model gives it [log 34], fills the bundle's request, or the copy engine's line, that waits for it; CHUNK waits at its idle collective engine while the pending store has room, or is discarded as late. -/
def Obligations.PacketsDelivered : Prop :=
  ∀ (s : State) (n : Nat) (p : Packet),
    (InOrder s n 0 p → PacketPlace s p p.len → p.len ≤ p.payload.length → Answers (exec (.writePacket n p) s) fun u =>
      Delivered p s u ∧ ChangedOnly s (placeFor p) p.len u ∧ u.core = s.core ∧
      (∀ k ∈ p.bad, u.mem.poisoned (p.pa + 8 * k) 8 = true) ∧
      ∀ i < p.len, u.readByte p.key (p.pa + i) = if p.skip.contains i = true then s.readByte p.key (p.pa + i) else p.payload.getD i 0) ∧
    (let w := p.op / 16 % 4; let k := if w = 0 then 4 else if w = 1 then 8 else 16; let old := s.little p.key p.pa k
      (InOrder s n 5 p → p.bad = [] → PacketPlace s p k → (∀ i < 32, (s.collOf i).run = none) → Answers (exec (.redPacket n p) s) fun u => Delivered p s u ∧ ChangedOnly s (placeFor p) k u ∧
        u.little p.key p.pa k = amoResult (p.op % 16) (8 * k) old (p.opnd.toNat % 2 ^ (8 * k)) 0 % 2 ^ (8 * k) ∧ u.core = s.core) ∧
      (InOrder s n 3 p → p.bad = [] → PacketPlace s p k → s.resultsHeld (fabricDie (some n)) < 131072 → s.noPermit p = false → Answers (exec (.atomicPacket n p) s) fun u =>
        Delivered p s u ∧ ChangedOnly s (placeFor p) k u ∧
        u.little p.key p.pa k = amoResult (p.op % 16) (8 * k) old (p.opnd.toNat % 2 ^ (8 * k)) (leNat (p.payload.take 16) % 2 ^ (8 * k)) % 2 ^ (8 * k) ∧
        { seq := p.seq, old := BitVec.ofNat 128 old, bad := false, die := fabricDie (some n) } ∈ (u.dstFlow p.eng p.src p.tc).results ∧ u.core = s.core) ∧
      (InOrder s n 3 p → p.bad = [] → s.resultsHeld (fabricDie (some n)) < 131072 → s.noPermit p = true → Answers (exec (.atomicPacket n p) s) fun u =>
        Delivered p s u ∧ SameMemory s u ∧ u.core = s.core ∧
        u.sched.permits = s.sched.permits ++ [{ who := .packet p.eng p.src p.tc p.seq (fabricDie (some n)), pa := p.pa, key := p.key }])) ∧
    (InOrder s n 1 p → p.bad = [] → s.flowFull p.eng p.src p.tc = false → Answers (exec (.readPacket n p) s) fun u => Delivered p s u ∧ SameMemory s u ∧ u.core = s.core ∧
      ∃ d, (u.srcFlow p.eng p.src p.tc).descs = (s.srcFlow p.eng p.src p.tc).descs ++ [d] ∧ d.packet.payload.take p.len = s.mem.bytes p.key p.pa p.len) ∧
    (InOrder s n 2 p → p.len ≤ p.payload.length → let c := engCore p.eng; let k := s.getCore c; let e := decide (p.eng % 2 = 1)
      s.ghosts c = [] →
      (∀ q rest, 1152 ≤ p.eng → p.eng < 1728 → k.asks = q :: rest → q.pkg = p.src → q.atomic = false → q.live = true → q.val = none →
        firstSeq (k.netReads p.src p.pa p.len) = some q.seq → k.fills.all (fun f => !decide (f.pkg = p.src ∧ f.seq = q.seq)) = true →
        Answers (exec (.rdataPacket n p) s) fun u => Delivered p s u ∧ SameMemory s u ∧ (∀ i, i ≠ c → u.getCore i = s.getCore i) ∧
          (u.getCore c).asks = { q with val := some (p.payload.take p.len), bad := !p.bad.isEmpty } :: rest ∧ (u.getCore c).t.x = k.t.x) ∧
      (∀ r f, p.eng < 1152 → s.rereaders p.eng = [] → (k.t.ce e).run = some r → r.cmd.kind.readClass = p.tc → r.fetched = [f] → f.pkg = p.src → f.pa = p.pa → f.data = none → p.len = 64 →
        Answers (exec (.rdataPacket n p) s) fun u => Delivered p s u ∧ SameMemory s u ∧ (∀ i, i ≠ c → u.getCore i = s.getCore i) ∧
          ((u.getCore c).t.ce e).run = some { r with fetched := [{ f with data := some (p.payload.take 64), bad := p.bad }] } ∧
          (u.getCore c).t.ce (!e) = k.t.ce (!e) ∧ (u.getCore c).t.x = k.t.x)) ∧
    (InOrder s n 6 p → let e := s.collOf (Packet.collEngine p)
      e.run = none → (ordBefore (Packet.ordinal p) e.ordinal = true → Answers (exec (.chunkPacket n p) s) fun u => Delivered p s u ∧ u.colls = s.colls ∧ SameMemory s u) ∧
      (ordBefore (Packet.ordinal p) e.ordinal = false → s.earlyBytes (Packet.collEngine p) + p.len ≤ 0x10_0000 → Answers (exec (.chunkPacket n p) s) fun u =>
        Delivered p s u ∧ (u.collOf (Packet.collEngine p)).early = e.early ++ [p] ∧ SameMemory s u))

/-- O56. Acknowledgements, answers, beacons, probes, discards and forwarding (R323, R325, R326, R328, R329). ACK and ARESULT for packets that no command owns free the descriptors they cover, an ACK not those of an ATOMIC, which its ARESULT frees [log 64], and clear a suspicion; ARESULT brings its value to the bundle that asked, or its permit to the copy engine that asked; a BEACON ends a port's silence; a PROBE that is an answer, which its sequence number tells [log 35], clears the suspicion of its sender, any other may be answered. An unsound packet is discarded and counted at its port. A packet for another package goes on with one more hop and nothing else changed but its hop count, or is discarded at 64. -/
def Obligations.AnswersAndForwarding : Prop :=
  ∀ (s : State) (n : Nat) (p : Packet),
    (n < 148 → p.sound = true → p.dst = s.pkgId → s.fabric.lost.contains p.src = false → let f := s.srcFlow p.eng p.src p.tc
      let cleared (u : State) : Prop := u.fabric.suspects = s.fabric.suspects.filter (fun v => !decide (v.pkg = p.src))
      (p.type = 7 → f.descs.all (fun d => d.owner = none) = true → s.xlat.words = [] → Answers (exec (.ackPacket n p) s) fun u =>
        cleared u ∧ SameMemory s u ∧ u.core = s.core ∧
        (u.srcFlow p.eng p.src p.tc).descs = f.descs.filter fun d => !(decide (d.packet.type ≠ 3) && ackCovers p.seq p.opnd d.seq)) ∧
      (p.type = 4 → f.descs.all (fun d => d.owner = none) = true → s.xlat.words = [] → let c := engCore p.eng; let k := s.getCore c
        let freed (u : State) : Prop := cleared u ∧ SameMemory s u ∧ (u.srcFlow p.eng p.src p.tc).descs = f.descs.filter (fun d => !decide (d.seq = p.seq))
        (1152 ≤ p.eng → Answers (exec (.aresultPacket n p) s) fun u => freed u ∧
          ∀ q rest, k.asks = q :: rest → q.pkg = p.src → q.seq = p.seq → q.atomic = true → q.live = true → q.val = none →
            (u.getCore c).asks = { q with val := some (leBytes 16 p.opnd.toNat), bad := !p.bad.isEmpty } :: rest) ∧
        (∀ r, p.eng < 1152 → let e := decide (p.eng % 2 = 1); (k.t.ce e).run = some r → r.asked = some (p.src, p.seq) → p.bad = [] →
          Answers (exec (.aresultPacket n p) s) fun u => freed u ∧ ((u.getCore c).t.ce e).run = some { r with permit := true, asked := none })) ∧
      (p.type = 8 → Answers (exec (.beaconPacket n p) s) fun u => SameMemory s u ∧
        u.fabric = { s.fabric with silent := s.fabric.silent.filter fun q => !decide (q = n) } ∧
        (s.sched.barriers = [] → u = { s with fabric := u.fabric })) ∧
      (p.type = 9 → Answers (exec (.probePacket n p) s) fun u => u.core = s.core ∧ SameMemory s u ∧
        (p.seq ≠ 0 → cleared u ∧ u.fabric.sent = s.fabric.sent) ∧ (p.seq = 0 → u.fabric.suspects = s.fabric.suspects ∧ s.fabric.sent <+: u.fabric.sent))) ∧
    (n < 148 → p.sound = false → ∀ i ∈ [Instr.writePacket n p, .readPacket n p, .rdataPacket n p, .atomicPacket n p, .aresultPacket n p, .redPacket n p,
        .chunkPacket n p, .ackPacket n p, .beaconPacket n p, .probePacket n p, .packetForward n p],
      Answers (exec i s) fun u => u = { s with fabric := { s.fabric with portErr := u.fabric.portErr } } ∧
        mapGet 0 u.fabric.portErr n = mapGet 0 s.fabric.portErr n + 1) ∧
    (n < 148 → p.sound = true → p.dst ≠ s.pkgId →
      (64 ≤ p.hops + 1 → exec (.packetForward n p) s = .next s) ∧
      (∀ q, p.hops + 1 < 64 → s.firstPort p.dst p.order p.dirs p.eng p.tc = some q → Answers (exec (.packetForward n p) s) fun u =>
        ∃ z, u = { s with fabric := { s.fabric with sent := s.fabric.sent ++ [(q, z)] } } ∧ z = p.setField 19 6 (p.hops + 1) ∧ z.hops = p.hops + 1 ∧ z.payload = p.payload ∧
          z.dst = p.dst ∧ z.src = p.src ∧ z.seq = p.seq ∧ z.crc = p.crc))

/-- O57. Timeouts, ports, beacons, probes and lost packages (R323, R325, R327, R328, R329, R330, R335). An aged packet leaves its queue. A flow that owes an acknowledgement, and holds nothing it can deliver, sends it. A timeout puts the failover mode into effect for its flow, and so on the core whose engine sends it [log 63], and sends its descriptor's packet again, with retx set and one more try, and with the payload it had unless a copy or a collective reads it again [log 64]; a failed or silent port is no longer up; beacons go out on every port that has not failed, silent ones among them [log 35], and none after a thermal trip; a probe leaves the next one for the next route; a silent suspect is declared lost and the pod's other packages are told, by a way the manual leaves open [log 35]; with no collective running nothing more is kept for a package that a declaration names. -/
def Obligations.LinksAndPeers : Prop :=
  ∀ (s : State) (n : Nat),
    (∀ p : Packet, (n, p) ∈ s.fabric.sent → Answers (exec (.packetAgeDiscard n p) s) fun u =>
      u = { s with fabric := { s.fabric with sent := dropFirst (fun q => decide (q = (n, p))) s.fabric.sent } }) ∧
    (∀ f, nth? s.fabric.dests n = some f → f.unacked ≠ 0 → f.held.all (fun h => !decide (h.2.seq = f.next)) = true → Answers (exec (.ackSend n) s) fun u =>
      u.dstFlow f.eng f.src f.tc = { f with unacked := 0 } ∧ u.core = s.core ∧ SameMemory s u ∧ s.fabric.sent <+: u.fabric.sent) ∧
    (∀ f d, descAt n s.fabric.sources = some (f, d) → f = s.srcFlow f.eng f.dst f.tc → Answers (exec (.retxTimeout n) s) fun u =>
      u.core = { s.core with failover := u.core.failover } ∧ (∀ i, ¬(f.eng < 1728 ∧ i = engCore f.eng) → u.getCore i = s.getCore i) ∧ SameMemory s u ∧
      (f.eng < 1728 → (u.getCore (engCore f.eng)).failover = s.power.modes.careful) ∧ s.fabric.sent <+: u.fabric.sent ∧ ∃ z, z ∈ (u.srcFlow f.eng f.dst f.tc).descs ∧ z.seq = d.seq ∧ z.tries = min 3 (d.tries + 1) ∧ z.packet.field 12 1 = 1 ∧
        z.owner = d.owner ∧
        (d.source = none → (∀ k, d.owner ≠ some (.collective k)) → z.packet.payload = d.packet.payload)) ∧
    (n < 148 → s.fabric.down.contains n = false → Answers (exec (.portDown n) s) fun u => u.fabric.down = s.fabric.down ++ [n] ∧ u.portUp n = false ∧ u.core = s.core ∧ SameMemory s u) ∧
    (n < 144 → s.portUp n = true → Answers (exec (.beaconMiss n) s) fun u => u.fabric.silent = s.fabric.silent ++ [n] ∧ u.portUp n = false ∧ u.core = s.core ∧ SameMemory s u) ∧
    (Answers (exec .beaconSend s) fun u => u.core = s.core ∧ SameMemory s u ∧ (s.power.tripped = true → u = s) ∧
      (s.power.tripped = false → ∀ i < 144, s.extent (i / 48) > 1 → s.fabric.down.contains i = false → ∃ z, (i, z) ∈ u.fabric.sent ∧ z.type = 8)) ∧
    (∀ v, s.fabric.suspects.find? (fun v => decide (v.pkg = n)) = some v → Answers (exec (.probeSend n) s) fun u => u.core = s.core ∧ SameMemory s u ∧
      u.fabric.suspects = modFirst (fun v => decide (v.pkg = n)) (fun v => { v with route := (v.route + 1) % 48, probes := v.probes + 1 }) s.fabric.suspects) ∧
    (let declared (u : State) : Prop := u.fabric.lost.contains n = true ∧ (∀ v ∈ u.fabric.suspects, v.pkg ≠ n);
      (∀ v, s.fabric.suspects.find? (fun v => decide (v.pkg = n)) = some v → (if n / 4096 = s.pkgId / 4096 then 10 else 100) ≤ v.probes →
        Answers (exec (.peerLostDeclare n) s) fun u => declared u ∧
          u.fabric.told = s.fabric.told ++ (s.podMates.filter (fun m => m ≠ n)).map fun m => (m, n)) ∧
      (n ≠ s.pkgId → Answers (exec (.lostDeclaration n) s) fun u => declared u ∧
        ((∀ i < 32, (s.collOf i).run = none) → ∀ f ∈ u.fabric.sources, f.dst = n → f.descs = [])))

/-- O58. Host accesses, launches, contexts, halts and resumes (R257, R258, R314, R315, R356, R358, R359, R360). Before the package is ready every launch, registration, removal and halt is counted as an error and does nothing else; once it is, a descriptor that is misaligned or lies nowhere, and the removal or halt of a context that is not registered, are counted too, which the manual leaves open [log 36]. Once it is ready, a host write stores its aligned bytes at their home and a host read is answered its bytes and changes no byte of memory, no task and no core; a launch word that is refused is latched, and one that is accepted is counted and its record has entered the scheduler; a reference that the host holds falls by one when it drops it, and a drop of one it does not hold changes nothing [log 37]; contexts are registered, replaced and removed, and a halt outlasts registering again [log 54]; a halt stops dispatch and forces the saves, and when nothing is left of a context without queues its list is written, cut at its room; a resume makes the records of a list READY, each named once, with their saves holding no references or one SAVED record alone: a SAVED record resumes with the save that this package made of it, its missing pages looked up afresh, or, where it made none, with what another package wrote to its save area. -/
def Obligations.HostAccessesAndContexts : Prop :=
  ∀ s : State,
    (∀ a k v, k ∈ [1, 2, 4, 8, 16, 32, 64] → a % k = 0 → s.physOk a = true → s.mgmtOpen = true → s.mem.poisoned a k = false →
      ∀ i ∈ (if a < spBase then [fun x => Instr.hostMemoryAccess x a k v] else if k = 8 ∨ k = 16 then [fun x => .hostScratchpadAccess x a k v] else []),
        (Answers (exec (i true) s) fun u => ChangedOnly s { pkg := none, pa := a, key := 0 } k u ∧ u.little 0 a k = v % 256 ^ k ∧ u.core = s.core) ∧
        (Answers (exec (i false) s) fun u => u.mem = s.mem ∧ u.core = s.core ∧ u.sched = s.sched ∧ u.mgmt.answer = s.mem.bytes 0 a k)) ∧
    (∀ d w, d < 4 → let asid := (s.portOf d).ctx.toNat; let va : VAddr := BitVec.ofNat 55 (bitsOf w.toNat 54 7 * 128); let k := bitsOf w.toNat 1 0; let kind := if k = 3 then 0 else k
      let bad := bitsOf w.toNat 6 2 ≠ 0 ∨ bitsOf w.toNat 63 55 ≠ 0 ∨ s.descOf asid = none ∨ s.launchable asid va kind (decide (k = 3)) = false
      WhenReady s (exec (.launch d w) s) fun u => (bad → u = s.modPort d fun p => { p with errors := p.errors + 1, latched := w }) ∧
        (¬bad → (u.portOf d).accepted = (s.portOf d).accepted + 1 ∧ (u.portOf d).errors = (s.portOf d).errors ∧ u.core = s.core ∧
          (k = 3 → (asid, va) ∈ u.sched.hostRefs) ∧ ∃ q, u.schedRec asid va = some q ∧ q.port = some d ∧ q.die = d)) ∧
    (∀ d w l, d < 4 → let asid := (s.portOf d).ctx.toNat; let va : VAddr := BitVec.ofNat 55 w.toNat
      s.mgmtOpen = true → w.toNat % 128 = 0 → w.toNat < 2 ^ 55 → s.xlate none asid va needRW = .ok l → l.pkg = none →
      let cons := s.recGet asid va 28 4; let held := s.sched.hostRefs.contains (asid, va)
      (held = false → exec (.launchDrop d w) s = .next s) ∧ (held = true → bitsOf (s.recGet asid va 0 8) 10 10 = 1 → 1 < cons →
        Answers (exec (.launchDrop d w) s) fun u =>
          u = ({ s with sched := { s.sched with hostRefs := s.sched.hostRefs.erase (asid, va) } } : State).recSet asid va 28 4 (cons - 1))) ∧
    (∀ w, WhenReady s (exec (.contextRegister w) s) fun u => let a := w.toNat; let asid := s.phys a 8 % 2 ^ 13
      (a % 128 = 0 → a < 2 ^ 52 → s.physOk a = true → u.descOf asid = some a ∧ u.contextRuns asid = !(s.haltedContext asid) ∧ (∀ b, b ≠ asid → u.descOf b = s.descOf b) ∧ SameMemory s u) ∧
      (a % 128 ≠ 0 ∨ 2 ^ 52 ≤ a ∨ s.physOk a = false → OnlyError s u)) ∧
    (∀ w, WhenReady s (exec (.contextDelete w) s) fun u => let asid := w.toNat
      (s.descOf asid = none ∨ s.holdsRecords asid = true → OnlyError s u) ∧
      (s.descOf asid ≠ none → s.holdsRecords asid = false → u.descOf asid = none ∧ (∀ b, b ≠ asid → u.descOf b = s.descOf b) ∧ u.core = s.core ∧ SameMemory s u)) ∧
    (∀ w, WhenReady s (exec (.halt w) s) fun u => let asid := w.toNat
      (s.descOf asid = none → OnlyError s u) ∧ (s.descOf asid ≠ none → u.contextRuns asid = false ∧ asid ∈ u.mgmt.halting ∧ SameMemory s u ∧
        ∀ c ∈ s.liveCores, (s.getCore c).mode = .running → (s.getCore c).t.id.asid = asid → (u.getCore c).t.sys.preq.getLsbD 1 = true ∧ (u.getCore c).t.x = (s.getCore c).t.x)) ∧
    (∀ asid, s.mgmt.halting.find? s.drained = some asid → s.sched.queues = [] → s.mgmt.hlist.toNat % 8 = 0 → s.mem.poison = [] → Answers (exec .haltDrainDone s) fun u =>
      u.mgmt.halting = s.mgmt.halting.filter (fun q => decide (q ≠ asid)) ∧ u.core = s.core ∧ let rs := s.haltRecords asid
      u.mgmt.haltst = (if s.mgmt.hlen.toNat < rs.length then BitVec.ofNat 64 (1 + 2 ^ 36) else 1) ∧ u.phys s.mgmt.hlist.toNat 8 = rs.length % 2 ^ 64 ∧
      ∀ i < min rs.length s.mgmt.hlen.toNat, u.phys (s.mgmt.hlist.toNat + 8 + 8 * i) 8 = (rs.getD i 0).toNat) ∧
    (∀ d w, d < 4 → s.mgmtOpen = true → let asid := (s.portOf d).ctx.toNat; let rs := s.haltList (s.phys w.toNat 8) (w.toNat + 8)
      let old := (s.knownAs rs).getD asid
      s.descOf asid ≠ none → s.xlat.pending = [] → rs.Nodup →
      let one := ∃ r, rs = [r] ∧ s.recGet asid r 0 1 = stSaved
      (∀ v ∈ s.sched.saved, v.ended = false → v.task.record ∈ rs → v.t.refs = []) ∨ one → Answers (exec (.resume d w) s) fun u =>
        u.contextRuns asid = true ∧ (rs = [] → SameMemory s u) ∧ ((∀ v ∈ s.sched.saved, v.task.record ∉ rs) ∨ one → u.core = s.core) ∧
        (∀ r ∈ rs, ∃ q, u.schedRec asid r = some q ∧ q.ready = true ∧ q.die = d) ∧
        ∀ r, rs = [r] → old = asid → s.recGet asid r 0 1 = stSaved → let mine (v : Saved) : Bool := decide (v.task.asid = asid ∧ v.task.record = r)
          let id : TaskId := { asid, record := r, member := 0 }
          (s.sched.saved.any mine = true → (∀ v ∈ s.sched.saved, mine v = true → s.madeHere v = true) →
            u.sched.saved = s.sched.saved.map fun v => if mine v then { v with waits := none, t := v.t.retryMisses } else v) ∧
          (s.sched.saved.any mine = false → s.ownArea id = true → ∃ z, u.sched.saved = s.sched.saved ++ [z] ∧ z.task = id ∧ z.t.id = id ∧ z.waits = none ∧
            z.t.spbase = BitVec.ofNat 20 (s.extentOf id).1 ∧ z.t.splen = BitVec.ofNat 21 (s.extentOf id).2))

/-- O59. Invalidations, modes, thresholds, keys, attestation, and management registers written and read (R239, R298, R330, R343, R348, R351, R353, R356, R358, R360, R362, R363). Before the package is ready every management write here is counted as an error and does nothing else. Once it is ready, an invalidation begins unless one is running, and ends, once every walk that started before it has ended, with no matching entry in a TLB; admitting a package forgets its loss and its flows; mode, threshold, row threshold and Afterglow control take their values, reserved modes are refused as a whole, and a new ring split while a task runs is ignored and counted while the other fields of the word take their values [log 54]; an aging quantum out of range is ignored and counted, which the manual leaves open [log 36]; a key that does not unwrap is an error; an attestation report holds its nonce, the firmware digest, the mode register, the package identifier and the number of loaded keys, in the model's order and widths [log 21]; offsets that name no register are ignored and counted. A host read is answered what the register holds, boot state and a cluster's telemetry among them; one of a write-only or unlisted offset, or of another size or alignment, is answered zeros and counted. -/
def Obligations.ManagementWrites : Prop :=
  ∀ s : State,
    (∀ w : Word, let q : Nat × Option Nat := (bitsOf w.toNat 12 0, if w.getLsbD 13 then none else some (bitsOf w.toNat 52 14))
      WhenReady s (exec (if w.getLsbD 13 then .tlbinvAsid w else .tlbinvPage w) s) fun u =>
        (s.xlat.inval = none → u = { s with xlat := { s.xlat with inval := some { asid := q.1, page := q.2, older := s.xlat.walks.length } } }) ∧ (s.xlat.inval ≠ none → OnlyError s u)) ∧
    (∀ q, s.xlat.inval = some q → (q.older ≠ 0 → exec .tlbinvDone s = .refused (.eventNotEnabled "TLBINV_DONE")) ∧ (q.older = 0 → Answers (exec .tlbinvDone s) fun u =>
      u = { s with xlat := { s.xlat with tlb := s.xlat.tlb.filter (fun e => !(invalidates q e.asid e.page)), inval := none } })) ∧
    (∀ w, WhenReady s (exec (.packageAdmit w) s) fun u => let q := w.toNat % 2 ^ 16
      u.fabric.lost.contains q = false ∧ (∀ f ∈ u.fabric.sources, f.dst ≠ q) ∧ (∀ f ∈ u.fabric.dests, f.src ≠ q) ∧ u.core = s.core ∧ SameMemory s u) ∧
    (∀ w : Word, let n := w.toNat
      WhenReady s (exec (.modeWrite w) s) fun u =>
        (n % 4 = 3 ∨ n / 4 % 4 = 3 ∨ 5 ≤ n / 16 % 8 ∨ 256 ≤ n → OnlyError s u) ∧
        (n % 4 < 3 → n / 4 % 4 < 3 → n / 16 % 8 < 5 → n < 256 → u.power.power = s.power.power ∧ u.core = s.core ∧ u.mem.cells = s.mem.cells ∧
          (n / 16 % 8 = s.power.modes.ring.toNat ∨ s.anyRunning = false → u.power.modes.word = n ∧ u.mgmt = s.mgmt) ∧
          (n / 16 % 8 = s.power.modes.ring.toNat → u.mem = s.mem) ∧
          (n / 16 % 8 ≠ s.power.modes.ring.toNat → s.anyRunning = true → u.power.modes.ring = s.power.modes.ring ∧ u.mgmt.errcnt = s.mgmt.errcnt + 1 ∧ u.mem = s.mem))) ∧
    (∀ w, WhenReady s (exec (.thresholdWrite w) s) fun u => u = { s with power := { s.power with pending := some (w.extractLsb' 0 16, w.extractLsb' 16 16) } }) ∧
    (∀ w, WhenReady s (exec (.rowThresholdWrite w) s) fun u =>
      u = if 256 ≤ w.toNat ∧ w.toNat ≤ 16384 ∧ w.toNat % 64 = 0 then { s with mgmt := { s.mgmt with rmth := w.setWidth 15 } } else s) ∧
    (∀ d w, d < 6 → WhenReady s (exec (.afterglowRun d w) s) fun u => let g := s.glowOf d
      (∀ i < 6, u.glowOf i = if i = d then { g with post := w.extractLsb' 3 12, state := if g.state = .frozen ∧ w.getLsbD 2 = true then .recording else g.state } else s.glowOf i) ∧
      u.core = s.core ∧ u.mem = s.mem) ∧
    (∀ w, WhenReady s (exec (.keyLoad w) s) fun u => let slot := bitsOf w.toNat 6 0
      match Config.unwrapKey (s.mem.bytes 0 (bitsOf w.toNat 58 7 * 64) 72) with
      | none => OnlyError s u
      | some k => mapGet 0 u.mem.slotKey slot = unwrappedId k ∧ slot ∈ u.mgmt.loadedKeys ∧ u.core = s.core ∧ ∀ i, i ≠ slot → mapGet 0 u.mem.slotKey i = mapGet 0 s.mem.slotKey i) ∧
    (∀ w, WhenReady s (exec (.attest w) s) fun u => (s.mgmt.bootst.getLsbD 21 = true → OnlyError s u) ∧
      (s.mgmt.bootst.getLsbD 21 = false → u.mgmt.attestBuf = some (w.toNat % 2 ^ 52) ∧ u.mgmt.bootst.getLsbD 21 = true ∧ u.mgmt.bootst.getLsbD 20 = false ∧ u.mem = s.mem ∧ u.core = s.core)) ∧
    (∀ b, s.mgmt.attestBuf = some b → b % 64 = 0 → s.mem.poison = [] → Answers (exec .attestDone s) fun u => u.core = s.core ∧
      u.mgmt.bootst.getLsbD 21 = false ∧ u.mgmt.bootst.getLsbD 20 = true ∧
      (∀ i < 64, u.readByte 0 (b + 64 + i) = s.readByte 0 (b + i) ∧ u.readByte 0 (b + 128 + i) = s.mgmt.digest.extractLsb' (8 * i) 8) ∧ u.little 0 (b + 192) 8 = s.power.modes.word % 2 ^ 64 ∧
      u.little 0 (b + 200) 8 = s.pkgId % 2 ^ 64 ∧ u.little 0 (b + 208) 8 = s.mgmt.loadedKeys.length % 2 ^ 64 ∧ ∀ a < b + 64, u.readByte 0 a = s.readByte 0 a) ∧
    (∀ o w, o % 8 = 0 → o ≠ 0x10 →
      (o = 0x40050 → WhenReady s (exec (.mgmtWrite o w) s) fun u => if 1 ≤ w.toNat ∧ w.toNat ≤ 255 then u = { s with mgmt := { s.mgmt with aging := w.setWidth 8 } } else OnlyError s u) ∧
      (o = 0x50000 → WhenReady s (exec (.mgmtWrite o w) s) fun u => u = { s with mgmt := { s.mgmt with pod := w.setWidth 28 } }) ∧
      (0x80000 ≤ o → WhenReady s (exec (.mgmtWrite o w) s) fun u => OnlyError s u)) ∧
    (∀ o n r, s.agenda = .mgmtRead o n :: r → Answers (step s) fun u => u.core = s.core ∧ u.mem = s.mem ∧ u.sched = s.sched ∧
      (n ≠ 8 ∨ o % 8 ≠ 0 ∨ 0x80000 ≤ o ∨ o ∈ [0x10, 0x40000, 0x40008, 0x40010, 0x40020, 0x40028, 0x40030, 0x40038, 0x40048, 0x50018, 0x70000, 0x70040] →
        u.mgmt.answer = List.replicate n 0 ∧ u.mgmt.errcnt = s.mgmt.errcnt + 1) ∧
      (n = 8 → o = 0 → u.mgmt.answer = leBytes 8 s.mgmt.bootst.toNat ∧ u.mgmt.errcnt = s.mgmt.errcnt) ∧
      (n = 8 → ∀ k < 48, o = 0x10100 + 8 * k → let c := s.clusterOf k
        u.mgmt.answer = leBytes 8 (c.tj.toNat + c.d.toNat * 2 ^ 12 + c.load % 256 * 2 ^ 16 + c.step % 16 * 2 ^ 24 + (if c.lock then 2 ^ 28 else 0) +
          (if c.thr then 2 ^ 29 else 0) + c.cap.toNat * 2 ^ 32)))

/-- O60. Start-up, its steps, and resets (R354, R360, R365). A cold reset leaves the package in step 1 with every core idle, no context, no flow, and rings of Afterglow that hold at most a RESET record; a warm one in step 2, with the image in the boot store and the timestamp counter kept and a frozen Afterglow as it was; a supply loss empties Afterglow, gives every slot a key that no other key equals, and leaves the package waiting; no byte of memory changes but by what the keys make of it. Each further step is a move of the model's agenda: step 1 leads to 2; step 2 gives every slot a fresh key and ends at a training that fails, with the DRAM's cause where both fail [log 68], or leads a cold reset to step 3 and a warm one to step 4; step 4 records the digest of an image whose signature verifies and goes on to 5, and stops at one whose signature does not; step 5 leaves the ports down that fail their training, and zeros without poison in ring memory and the scratchpads; step 6 ends with the package ready; elsewhere no step follows. BOOT_GO in step 3 keeps the image of the boot area for step 4, a length of 0 or above the area stops the sequence, and elsewhere BOOT_GO is counted as an error. What an unlisted byte reads as is the model's choice [log 2], and so is what the registers hold after a reset where the manual gives no value [log 1]. -/
def Obligations.StartUpAndResets : Prop :=
  ∀ s : State,
    let cleared (u : State) : Prop := (∀ n, (u.getCore n).mode = .idle) ∧ u.sched.contexts = [] ∧ u.sched.recs = [] ∧ u.xlat.tlb = [] ∧ u.fabric.sources = []
    let freshKeys (k : Nat) (u : State) : Prop := u.mem = { s.mem with slotKey := u.mem.slotKey } ∧ ∀ i < 128, mapGet 0 u.mem.slotKey i = 2 * (128 * (k + 1) + i) + 1
    (Answers (exec .coldReset s) fun u => cleared u ∧ u.mem = s.mem ∧ u.mgmt.tsc = 0 ∧ u.mgmt.bootst = 1 ∧ u.mgmt.warm = false ∧
      ∀ d < 6, (u.glowOf d).state = .recording ∧ (u.glowOf d).records.length ≤ 1 ∧ (u.glowOf d).lost = 0) ∧
    (Answers (exec .warmReset s) fun u => cleared u ∧ u.mem = s.mem ∧ u.mgmt.tsc = s.mgmt.tsc ∧ u.mgmt.bootst = 2 ∧ u.mgmt.warm = true ∧
      u.mgmt.bootStore = s.mgmt.bootStore ∧ ∀ d < 6, (s.glowOf d).state = .frozen → u.glowOf d = s.glowOf d) ∧
    (Answers (exec .supplyLoss s) fun u => cleared u ∧ freshKeys s.fresh u ∧ u.mgmt.tsc = 0 ∧ u.mgmt.bootst = 0 ∧ ∀ d < 6, u.glowOf d = Afterglow.reset) ∧
    (∀ w : Word, let n := w.toNat % 2 ^ 23; let image := s.mem.bytes 0 0 n
      Answers (exec (.bootGo w) s) fun u => u.core = s.core ∧ u.mem = s.mem ∧ u.mgmt.digest = s.mgmt.digest ∧
        (s.mgmt.bootst ≠ 3 → OnlyError s u) ∧
        (s.mgmt.bootst = 3 → n = 0 ∨ 0x40_0000 < n → u.mgmt.bootst = 0x1044) ∧
        (s.mgmt.bootst = 3 → 1 ≤ n → n ≤ 0x40_0000 → u.mgmt.bootStore = image ∧ u.mgmt.bootst = 4)) ∧
    (∀ r, s.agenda = .boot :: r → let b := s.mgmt.bootst; let seed := s.pass.fresh
      (b = 1 → Answers (step s) fun u => u.mgmt.bootst = 2 ∧ u.mem = s.mem ∧ u.core = s.core) ∧
      (b = 2 → Answers (step s) fun u => freshKeys seed u ∧ u.core = s.core ∧
        u.mgmt.bootst = if Config.trains seed 0 = false then 0x2022 else if Config.trains seed 1 = false then 0x3022 else if s.mgmt.warm then 4 else 3) ∧
      (b = 4 → Answers (step s) fun u => u.mem = s.mem ∧ u.core = s.core ∧
        (Config.signatureOk s.mgmt.bootStore = true → u.mgmt.bootst = 5 ∧ u.mgmt.digest = Config.digest s.mgmt.bootStore) ∧
        (Config.signatureOk s.mgmt.bootStore = false → u.mgmt.bootst = 0x1044 ∧ u.mgmt.digest = s.mgmt.digest)) ∧
      (b = 5 → Answers (step s) fun u => u.mgmt.bootst = 6 ∧ u.core = s.core ∧ (∀ w ∈ u.mem.poison, w < ringBase) ∧
        (∀ slot a, ringBase ≤ a → u.readByte slot a = 0) ∧ ∀ i < 148, u.fabric.down.contains i = !(Config.trains seed (2 + i))) ∧
      (b = 6 → Answers (step s) fun u => u.mgmt.bootst = 0xF ∧ u.mem = s.mem ∧ u.core = s.core) ∧
      (b ≠ 1 → b ≠ 2 → b ≠ 4 → b ≠ 5 → b ≠ 6 → step s = .refused .badAgenda))
end

