-- ==== Sys2Proof/Laws/Fields.lean ====
section
/-! SUPPORT. The fields of an encoded word: each is where the forms of R35 to R41 put it. -/

-- Elaborated in order: the package as one text then needs few threads.
set_option Elab.async false

namespace Sys2Proof

/-! ### Fields of an appended word -/

theorem extract_hi {m n : Nat} (a : BitVec m) (b : BitVec n) (st len : Nat) (h : n ≤ st) :
    (a ++ b).extractLsb' st len = a.extractLsb' (st - n) len := by
  apply BitVec.eq_of_getLsbD_eq
  intro i hi
  have h1 : ¬ st + i < n := by omega
  have h2 : st + i - n = st - n + i := by omega
  simp [BitVec.getLsbD_append, hi, h1, h2]

theorem extract_lo {m n : Nat} (a : BitVec m) (b : BitVec n) (st len : Nat) (h : st + len ≤ n) :
    (a ++ b).extractLsb' st len = b.extractLsb' st len := by
  apply BitVec.eq_of_getLsbD_eq
  intro i hi
  have h1 : st + i < n := by omega
  simp [BitVec.getLsbD_append, hi, h1]

theorem general_cls (cls : BitVec 4) (op : BitVec 6) (a : BitVec 6) (b : BitVec 6) (c : BitVec 6) (g : BitVec 4) : Code.cls (generalWord cls op a b c g) = cls :=
  (extract_hi _ g 28 4 (by decide)).trans ((extract_hi _ c 24 4 (by decide)).trans ((extract_hi _ b 18 4 (by decide)).trans ((extract_hi _ a 12 4 (by decide)).trans ((extract_hi _ op 6 4 (by decide)).trans (by simp)))))
theorem general_op (cls : BitVec 4) (op : BitVec 6) (a : BitVec 6) (b : BitVec 6) (c : BitVec 6) (g : BitVec 4) : (generalWord cls op a b c g).extractLsb' 22 6 = op :=
  (extract_hi _ g 22 6 (by decide)).trans ((extract_hi _ c 18 6 (by decide)).trans ((extract_hi _ b 12 6 (by decide)).trans ((extract_hi _ a 6 6 (by decide)).trans ((extract_lo _ op 0 6 (by decide)).trans (by simp)))))
theorem general_a (cls : BitVec 4) (op : BitVec 6) (a : BitVec 6) (b : BitVec 6) (c : BitVec 6) (g : BitVec 4) : (generalWord cls op a b c g).extractLsb' 16 6 = a :=
  (extract_hi _ g 16 6 (by decide)).trans ((extract_hi _ c 12 6 (by decide)).trans ((extract_hi _ b 6 6 (by decide)).trans ((extract_lo _ a 0 6 (by decide)).trans (by simp))))
theorem general_b (cls : BitVec 4) (op : BitVec 6) (a : BitVec 6) (b : BitVec 6) (c : BitVec 6) (g : BitVec 4) : (generalWord cls op a b c g).extractLsb' 10 6 = b :=
  (extract_hi _ g 10 6 (by decide)).trans ((extract_hi _ c 6 6 (by decide)).trans ((extract_lo _ b 0 6 (by decide)).trans (by simp)))
theorem general_c (cls : BitVec 4) (op : BitVec 6) (a : BitVec 6) (b : BitVec 6) (c : BitVec 6) (g : BitVec 4) : (generalWord cls op a b c g).extractLsb' 4 6 = c :=
  (extract_hi _ g 4 6 (by decide)).trans ((extract_lo _ c 0 6 (by decide)).trans (by simp))
theorem general_g (cls : BitVec 4) (op : BitVec 6) (a : BitVec 6) (b : BitVec 6) (c : BitVec 6) (g : BitVec 4) : (generalWord cls op a b c g).extractLsb' 0 4 = g :=
  (extract_lo _ g 0 4 (by decide)).trans (by simp)

theorem imm_cls (op : BitVec 3) (d : BitVec 6) (a : BitVec 6) (m : BitVec 9) (g : BitVec 4) : Code.cls (immWord op d a m g) = 0x1#4 :=
  (extract_hi _ g 28 4 (by decide)).trans ((extract_hi _ m 24 4 (by decide)).trans ((extract_hi _ a 15 4 (by decide)).trans ((extract_hi _ d 9 4 (by decide)).trans ((extract_hi _ op 3 4 (by decide)).trans (by simp)))))
theorem imm_op (op : BitVec 3) (d : BitVec 6) (a : BitVec 6) (m : BitVec 9) (g : BitVec 4) : (immWord op d a m g).extractLsb' 25 3 = op :=
  (extract_hi _ g 25 3 (by decide)).trans ((extract_hi _ m 21 3 (by decide)).trans ((extract_hi _ a 12 3 (by decide)).trans ((extract_hi _ d 6 3 (by decide)).trans ((extract_lo _ op 0 3 (by decide)).trans (by simp)))))
theorem imm_d (op : BitVec 3) (d : BitVec 6) (a : BitVec 6) (m : BitVec 9) (g : BitVec 4) : (immWord op d a m g).extractLsb' 19 6 = d :=
  (extract_hi _ g 19 6 (by decide)).trans ((extract_hi _ m 15 6 (by decide)).trans ((extract_hi _ a 6 6 (by decide)).trans ((extract_lo _ d 0 6 (by decide)).trans (by simp))))
theorem imm_a (op : BitVec 3) (d : BitVec 6) (a : BitVec 6) (m : BitVec 9) (g : BitVec 4) : (immWord op d a m g).extractLsb' 13 6 = a :=
  (extract_hi _ g 13 6 (by decide)).trans ((extract_hi _ m 9 6 (by decide)).trans ((extract_lo _ a 0 6 (by decide)).trans (by simp)))
theorem imm_m (op : BitVec 3) (d : BitVec 6) (a : BitVec 6) (m : BitVec 9) (g : BitVec 4) : (immWord op d a m g).extractLsb' 4 9 = m :=
  (extract_hi _ g 4 9 (by decide)).trans ((extract_lo _ m 0 9 (by decide)).trans (by simp))
theorem imm_g (op : BitVec 3) (d : BitVec 6) (a : BitVec 6) (m : BitVec 9) (g : BitVec 4) : (immWord op d a m g).extractLsb' 0 4 = g :=
  (extract_lo _ g 0 4 (by decide)).trans (by simp)

theorem mem_cls (op : BitVec 4) (t : BitVec 6) (b : BitVec 6) (o : BitVec 8) (g : BitVec 4) : Code.cls (memWord op t b o g) = 0x2#4 :=
  (extract_hi _ g 28 4 (by decide)).trans ((extract_hi _ o 24 4 (by decide)).trans ((extract_hi _ b 16 4 (by decide)).trans ((extract_hi _ t 10 4 (by decide)).trans ((extract_hi _ op 4 4 (by decide)).trans (by simp)))))
theorem mem_op (op : BitVec 4) (t : BitVec 6) (b : BitVec 6) (o : BitVec 8) (g : BitVec 4) : (memWord op t b o g).extractLsb' 24 4 = op :=
  (extract_hi _ g 24 4 (by decide)).trans ((extract_hi _ o 20 4 (by decide)).trans ((extract_hi _ b 12 4 (by decide)).trans ((extract_hi _ t 6 4 (by decide)).trans ((extract_lo _ op 0 4 (by decide)).trans (by simp)))))
theorem mem_t (op : BitVec 4) (t : BitVec 6) (b : BitVec 6) (o : BitVec 8) (g : BitVec 4) : (memWord op t b o g).extractLsb' 18 6 = t :=
  (extract_hi _ g 18 6 (by decide)).trans ((extract_hi _ o 14 6 (by decide)).trans ((extract_hi _ b 6 6 (by decide)).trans ((extract_lo _ t 0 6 (by decide)).trans (by simp))))
theorem mem_b (op : BitVec 4) (t : BitVec 6) (b : BitVec 6) (o : BitVec 8) (g : BitVec 4) : (memWord op t b o g).extractLsb' 12 6 = b :=
  (extract_hi _ g 12 6 (by decide)).trans ((extract_hi _ o 8 6 (by decide)).trans ((extract_lo _ b 0 6 (by decide)).trans (by simp)))
theorem mem_o (op : BitVec 4) (t : BitVec 6) (b : BitVec 6) (o : BitVec 8) (g : BitVec 4) : (memWord op t b o g).extractLsb' 4 8 = o :=
  (extract_hi _ g 4 8 (by decide)).trans ((extract_lo _ o 0 8 (by decide)).trans (by simp))
theorem mem_g (op : BitVec 4) (t : BitVec 6) (b : BitVec 6) (o : BitVec 8) (g : BitVec 4) : (memWord op t b o g).extractLsb' 0 4 = g :=
  (extract_lo _ g 0 4 (by decide)).trans (by simp)

theorem control_cls (op : BitVec 4) (f : BitVec 20) (g : BitVec 4) : Code.cls (controlWord op f g) = 0x3#4 :=
  (extract_hi _ g 28 4 (by decide)).trans ((extract_hi _ f 24 4 (by decide)).trans ((extract_hi _ op 4 4 (by decide)).trans (by simp)))
theorem control_op (op : BitVec 4) (f : BitVec 20) (g : BitVec 4) : (controlWord op f g).extractLsb' 24 4 = op :=
  (extract_hi _ g 24 4 (by decide)).trans ((extract_hi _ f 20 4 (by decide)).trans ((extract_lo _ op 0 4 (by decide)).trans (by simp)))
theorem control_f (op : BitVec 4) (f : BitVec 20) (g : BitVec 4) : (controlWord op f g).extractLsb' 4 20 = f :=
  (extract_hi _ g 4 20 (by decide)).trans ((extract_lo _ f 0 20 (by decide)).trans (by simp))
theorem control_g (op : BitVec 4) (f : BitVec 20) (g : BitVec 4) : (controlWord op f g).extractLsb' 0 4 = g :=
  (extract_lo _ g 0 4 (by decide)).trans (by simp)

theorem vector_cls (cls : BitVec 4) (op : BitVec 5) (w : BitVec 2) (d : BitVec 5) (a : BitVec 5) (b : BitVec 5) (s : BitVec 1) (m : BitVec 1) (g : BitVec 4) : Code.cls (vectorWord cls op w d a b s m g) = cls :=
  (extract_hi _ g 28 4 (by decide)).trans ((extract_hi _ m 24 4 (by decide)).trans ((extract_hi _ s 23 4 (by decide)).trans ((extract_hi _ b 22 4 (by decide)).trans ((extract_hi _ a 17 4 (by decide)).trans ((extract_hi _ d 12 4 (by decide)).trans ((extract_hi _ w 7 4 (by decide)).trans ((extract_hi _ op 5 4 (by decide)).trans (by simp))))))))
theorem vector_op (cls : BitVec 4) (op : BitVec 5) (w : BitVec 2) (d : BitVec 5) (a : BitVec 5) (b : BitVec 5) (s : BitVec 1) (m : BitVec 1) (g : BitVec 4) : (vectorWord cls op w d a b s m g).extractLsb' 23 5 = op :=
  (extract_hi _ g 23 5 (by decide)).trans ((extract_hi _ m 19 5 (by decide)).trans ((extract_hi _ s 18 5 (by decide)).trans ((extract_hi _ b 17 5 (by decide)).trans ((extract_hi _ a 12 5 (by decide)).trans ((extract_hi _ d 7 5 (by decide)).trans ((extract_hi _ w 2 5 (by decide)).trans ((extract_lo _ op 0 5 (by decide)).trans (by simp))))))))
theorem vector_w (cls : BitVec 4) (op : BitVec 5) (w : BitVec 2) (d : BitVec 5) (a : BitVec 5) (b : BitVec 5) (s : BitVec 1) (m : BitVec 1) (g : BitVec 4) : (vectorWord cls op w d a b s m g).extractLsb' 21 2 = w :=
  (extract_hi _ g 21 2 (by decide)).trans ((extract_hi _ m 17 2 (by decide)).trans ((extract_hi _ s 16 2 (by decide)).trans ((extract_hi _ b 15 2 (by decide)).trans ((extract_hi _ a 10 2 (by decide)).trans ((extract_hi _ d 5 2 (by decide)).trans ((extract_lo _ w 0 2 (by decide)).trans (by simp)))))))
theorem vector_d (cls : BitVec 4) (op : BitVec 5) (w : BitVec 2) (d : BitVec 5) (a : BitVec 5) (b : BitVec 5) (s : BitVec 1) (m : BitVec 1) (g : BitVec 4) : (vectorWord cls op w d a b s m g).extractLsb' 16 5 = d :=
  (extract_hi _ g 16 5 (by decide)).trans ((extract_hi _ m 12 5 (by decide)).trans ((extract_hi _ s 11 5 (by decide)).trans ((extract_hi _ b 10 5 (by decide)).trans ((extract_hi _ a 5 5 (by decide)).trans ((extract_lo _ d 0 5 (by decide)).trans (by simp))))))
theorem vector_a (cls : BitVec 4) (op : BitVec 5) (w : BitVec 2) (d : BitVec 5) (a : BitVec 5) (b : BitVec 5) (s : BitVec 1) (m : BitVec 1) (g : BitVec 4) : (vectorWord cls op w d a b s m g).extractLsb' 11 5 = a :=
  (extract_hi _ g 11 5 (by decide)).trans ((extract_hi _ m 7 5 (by decide)).trans ((extract_hi _ s 6 5 (by decide)).trans ((extract_hi _ b 5 5 (by decide)).trans ((extract_lo _ a 0 5 (by decide)).trans (by simp)))))
theorem vector_b (cls : BitVec 4) (op : BitVec 5) (w : BitVec 2) (d : BitVec 5) (a : BitVec 5) (b : BitVec 5) (s : BitVec 1) (m : BitVec 1) (g : BitVec 4) : (vectorWord cls op w d a b s m g).extractLsb' 6 5 = b :=
  (extract_hi _ g 6 5 (by decide)).trans ((extract_hi _ m 2 5 (by decide)).trans ((extract_hi _ s 1 5 (by decide)).trans ((extract_lo _ b 0 5 (by decide)).trans (by simp))))
theorem vector_s (cls : BitVec 4) (op : BitVec 5) (w : BitVec 2) (d : BitVec 5) (a : BitVec 5) (b : BitVec 5) (s : BitVec 1) (m : BitVec 1) (g : BitVec 4) : (vectorWord cls op w d a b s m g).extractLsb' 5 1 = s :=
  (extract_hi _ g 5 1 (by decide)).trans ((extract_hi _ m 1 1 (by decide)).trans ((extract_lo _ s 0 1 (by decide)).trans (by simp)))
theorem vector_m (cls : BitVec 4) (op : BitVec 5) (w : BitVec 2) (d : BitVec 5) (a : BitVec 5) (b : BitVec 5) (s : BitVec 1) (m : BitVec 1) (g : BitVec 4) : (vectorWord cls op w d a b s m g).extractLsb' 4 1 = m :=
  (extract_hi _ g 4 1 (by decide)).trans ((extract_lo _ m 0 1 (by decide)).trans (by simp))
theorem vector_g (cls : BitVec 4) (op : BitVec 5) (w : BitVec 2) (d : BitVec 5) (a : BitVec 5) (b : BitVec 5) (s : BitVec 1) (m : BitVec 1) (g : BitVec 4) : (vectorWord cls op w d a b s m g).extractLsb' 0 4 = g :=
  (extract_lo _ g 0 4 (by decide)).trans (by simp)

theorem atomic_cls (z : BitVec 2) (op : BitVec 4) (d : BitVec 6) (a : BitVec 6) (b : BitVec 6) (g : BitVec 4) : Code.cls (atomicWord z op d a b g) = 0xC#4 :=
  (extract_hi _ g 28 4 (by decide)).trans ((extract_hi _ b 24 4 (by decide)).trans ((extract_hi _ a 18 4 (by decide)).trans ((extract_hi _ d 12 4 (by decide)).trans ((extract_hi _ op 6 4 (by decide)).trans ((extract_hi _ z 2 4 (by decide)).trans (by simp))))))
theorem atomic_z (z : BitVec 2) (op : BitVec 4) (d : BitVec 6) (a : BitVec 6) (b : BitVec 6) (g : BitVec 4) : (atomicWord z op d a b g).extractLsb' 26 2 = z :=
  (extract_hi _ g 26 2 (by decide)).trans ((extract_hi _ b 22 2 (by decide)).trans ((extract_hi _ a 16 2 (by decide)).trans ((extract_hi _ d 10 2 (by decide)).trans ((extract_hi _ op 4 2 (by decide)).trans ((extract_lo _ z 0 2 (by decide)).trans (by simp))))))
theorem atomic_op (z : BitVec 2) (op : BitVec 4) (d : BitVec 6) (a : BitVec 6) (b : BitVec 6) (g : BitVec 4) : (atomicWord z op d a b g).extractLsb' 22 4 = op :=
  (extract_hi _ g 22 4 (by decide)).trans ((extract_hi _ b 18 4 (by decide)).trans ((extract_hi _ a 12 4 (by decide)).trans ((extract_hi _ d 6 4 (by decide)).trans ((extract_lo _ op 0 4 (by decide)).trans (by simp)))))
theorem atomic_d (z : BitVec 2) (op : BitVec 4) (d : BitVec 6) (a : BitVec 6) (b : BitVec 6) (g : BitVec 4) : (atomicWord z op d a b g).extractLsb' 16 6 = d :=
  (extract_hi _ g 16 6 (by decide)).trans ((extract_hi _ b 12 6 (by decide)).trans ((extract_hi _ a 6 6 (by decide)).trans ((extract_lo _ d 0 6 (by decide)).trans (by simp))))
theorem atomic_a (z : BitVec 2) (op : BitVec 4) (d : BitVec 6) (a : BitVec 6) (b : BitVec 6) (g : BitVec 4) : (atomicWord z op d a b g).extractLsb' 10 6 = a :=
  (extract_hi _ g 10 6 (by decide)).trans ((extract_hi _ b 6 6 (by decide)).trans ((extract_lo _ a 0 6 (by decide)).trans (by simp)))
theorem atomic_b (z : BitVec 2) (op : BitVec 4) (d : BitVec 6) (a : BitVec 6) (b : BitVec 6) (g : BitVec 4) : (atomicWord z op d a b g).extractLsb' 4 6 = b :=
  (extract_hi _ g 4 6 (by decide)).trans ((extract_lo _ b 0 6 (by decide)).trans (by simp))
theorem atomic_g (z : BitVec 2) (op : BitVec 4) (d : BitVec 6) (a : BitVec 6) (b : BitVec 6) (g : BitVec 4) : (atomicWord z op d a b g).extractLsb' 0 4 = g :=
  (extract_lo _ g 0 4 (by decide)).trans (by simp)

/-! ### A word of a form is read by its class -/

theorem readSlot_class0 (op : BitVec 6) (a : BitVec 6) (b : BitVec 6) (c : BitVec 6) (g : BitVec 4) : readSlot (generalWord 0x0#4 op a b c g) = readClass0 op a b c g := by
  simp only [readSlot, general_cls, general_op, general_a, general_b, general_c, general_g]; rfl

theorem readSlot_class8 (op : BitVec 6) (a : BitVec 6) (b : BitVec 6) (c : BitVec 6) (g : BitVec 4) : readSlot (generalWord 0x8#4 op a b c g) = readClass8 op a b c g := by
  simp only [readSlot, general_cls, general_op, general_a, general_b, general_c, general_g]; rfl

theorem readSlot_class9 (op : BitVec 6) (a : BitVec 6) (b : BitVec 6) (c : BitVec 6) (g : BitVec 4) : readSlot (generalWord 0x9#4 op a b c g) = readClass9 op a b c g := by
  simp only [readSlot, general_cls, general_op, general_a, general_b, general_c, general_g]; rfl

theorem readSlot_classA (op : BitVec 6) (a : BitVec 6) (b : BitVec 6) (c : BitVec 6) (g : BitVec 4) : readSlot (generalWord 0xA#4 op a b c g) = readClassA op a b c g := by
  simp only [readSlot, general_cls, general_op, general_a, general_b, general_c, general_g]; rfl

theorem readSlot_classB (op : BitVec 6) (a : BitVec 6) (b : BitVec 6) (c : BitVec 6) (g : BitVec 4) : readSlot (generalWord 0xB#4 op a b c g) = readClassB op a b c g := by
  simp only [readSlot, general_cls, general_op, general_a, general_b, general_c, general_g]; rfl

theorem readSlot_class1 (op : BitVec 3) (d : BitVec 6) (a : BitVec 6) (m : BitVec 9) (g : BitVec 4) : readSlot (immWord op d a m g) = readClass1 op d a m g := by
  simp only [readSlot, imm_cls, imm_op, imm_d, imm_a, imm_m, imm_g]; rfl

theorem readSlot_class2 (op : BitVec 4) (t : BitVec 6) (b : BitVec 6) (o : BitVec 8) (g : BitVec 4) : readSlot (memWord op t b o g) = readClass2 op t b o g := by
  simp only [readSlot, mem_cls, mem_op, mem_t, mem_b, mem_o, mem_g]; rfl

theorem readSlot_class3 (op : BitVec 4) (f : BitVec 20) (g : BitVec 4) : readSlot (controlWord op f g) = readClass3 op f g := by
  simp only [readSlot, control_cls, control_op, control_f, control_g]; rfl

theorem readSlot_class4 (op : BitVec 5) (w : BitVec 2) (d : BitVec 5) (a : BitVec 5) (b : BitVec 5) (s : BitVec 1) (m : BitVec 1) (g : BitVec 4) : readSlot (vectorWord 0x4#4 op w d a b s m g) = readClass4 op w d a b s m g := by
  simp only [readSlot, vector_cls, vector_op, vector_w, vector_d, vector_a, vector_b, vector_s, vector_m, vector_g]; rfl

theorem readSlot_class5 (op : BitVec 5) (w : BitVec 2) (d : BitVec 5) (a : BitVec 5) (b : BitVec 5) (s : BitVec 1) (m : BitVec 1) (g : BitVec 4) : readSlot (vectorWord 0x5#4 op w d a b s m g) = readClass5 op w d a b s m g := by
  simp only [readSlot, vector_cls, vector_op, vector_w, vector_d, vector_a, vector_b, vector_s, vector_m, vector_g]; rfl

theorem readSlot_class6 (op : BitVec 5) (w : BitVec 2) (d : BitVec 5) (a : BitVec 5) (b : BitVec 5) (s : BitVec 1) (m : BitVec 1) (g : BitVec 4) : readSlot (vectorWord 0x6#4 op w d a b s m g) = readClass6 op w d a b s m g := by
  simp only [readSlot, vector_cls, vector_op, vector_w, vector_d, vector_a, vector_b, vector_s, vector_m, vector_g]; rfl

theorem readSlot_class7 (op : BitVec 5) (w : BitVec 2) (d : BitVec 5) (a : BitVec 5) (b : BitVec 5) (s : BitVec 1) (m : BitVec 1) (g : BitVec 4) : readSlot (vectorWord 0x7#4 op w d a b s m g) = readClass7 op w d a b s m g := by
  simp only [readSlot, vector_cls, vector_op, vector_w, vector_d, vector_a, vector_b, vector_s, vector_m, vector_g]; rfl

theorem readSlot_classC (z : BitVec 2) (op : BitVec 4) (d : BitVec 6) (a : BitVec 6) (b : BitVec 6) (g : BitVec 4) : readSlot (atomicWord z op d a b g) = readClassC z op d a b g := by
  simp only [readSlot, atomic_cls, atomic_z, atomic_op, atomic_d, atomic_a, atomic_b, atomic_g]; rfl

theorem header_cls (mask : BitVec 6) (plop : BitVec 3) (pd pa pb : BitVec 4) (wait : BitVec 3) (rp : BitVec 1) : (0xF#4 ++ mask ++ plop ++ pd ++ pa ++ pb ++ wait ++ rp ++ 0#3 : BitVec 32).extractLsb' 28 4 = 0xF#4 :=
  (extract_hi _ 0x0#3 28 4 (by decide)).trans ((extract_hi _ rp 25 4 (by decide)).trans ((extract_hi _ wait 24 4 (by decide)).trans ((extract_hi _ pb 21 4 (by decide)).trans ((extract_hi _ pa 17 4 (by decide)).trans ((extract_hi _ pd 13 4 (by decide)).trans ((extract_hi _ plop 9 4 (by decide)).trans ((extract_hi _ mask 6 4 (by decide)).trans (by simp))))))))
theorem header_mask (mask : BitVec 6) (plop : BitVec 3) (pd pa pb : BitVec 4) (wait : BitVec 3) (rp : BitVec 1) : (0xF#4 ++ mask ++ plop ++ pd ++ pa ++ pb ++ wait ++ rp ++ 0#3 : BitVec 32).extractLsb' 22 6 = mask :=
  (extract_hi _ 0x0#3 22 6 (by decide)).trans ((extract_hi _ rp 19 6 (by decide)).trans ((extract_hi _ wait 18 6 (by decide)).trans ((extract_hi _ pb 15 6 (by decide)).trans ((extract_hi _ pa 11 6 (by decide)).trans ((extract_hi _ pd 7 6 (by decide)).trans ((extract_hi _ plop 3 6 (by decide)).trans ((extract_lo _ mask 0 6 (by decide)).trans (by simp))))))))
theorem header_plop (mask : BitVec 6) (plop : BitVec 3) (pd pa pb : BitVec 4) (wait : BitVec 3) (rp : BitVec 1) : (0xF#4 ++ mask ++ plop ++ pd ++ pa ++ pb ++ wait ++ rp ++ 0#3 : BitVec 32).extractLsb' 19 3 = plop :=
  (extract_hi _ 0x0#3 19 3 (by decide)).trans ((extract_hi _ rp 16 3 (by decide)).trans ((extract_hi _ wait 15 3 (by decide)).trans ((extract_hi _ pb 12 3 (by decide)).trans ((extract_hi _ pa 8 3 (by decide)).trans ((extract_hi _ pd 4 3 (by decide)).trans ((extract_lo _ plop 0 3 (by decide)).trans (by simp)))))))
theorem header_pd (mask : BitVec 6) (plop : BitVec 3) (pd pa pb : BitVec 4) (wait : BitVec 3) (rp : BitVec 1) : (0xF#4 ++ mask ++ plop ++ pd ++ pa ++ pb ++ wait ++ rp ++ 0#3 : BitVec 32).extractLsb' 15 4 = pd :=
  (extract_hi _ 0x0#3 15 4 (by decide)).trans ((extract_hi _ rp 12 4 (by decide)).trans ((extract_hi _ wait 11 4 (by decide)).trans ((extract_hi _ pb 8 4 (by decide)).trans ((extract_hi _ pa 4 4 (by decide)).trans ((extract_lo _ pd 0 4 (by decide)).trans (by simp))))))
theorem header_pa (mask : BitVec 6) (plop : BitVec 3) (pd pa pb : BitVec 4) (wait : BitVec 3) (rp : BitVec 1) : (0xF#4 ++ mask ++ plop ++ pd ++ pa ++ pb ++ wait ++ rp ++ 0#3 : BitVec 32).extractLsb' 11 4 = pa :=
  (extract_hi _ 0x0#3 11 4 (by decide)).trans ((extract_hi _ rp 8 4 (by decide)).trans ((extract_hi _ wait 7 4 (by decide)).trans ((extract_hi _ pb 4 4 (by decide)).trans ((extract_lo _ pa 0 4 (by decide)).trans (by simp)))))
theorem header_pb (mask : BitVec 6) (plop : BitVec 3) (pd pa pb : BitVec 4) (wait : BitVec 3) (rp : BitVec 1) : (0xF#4 ++ mask ++ plop ++ pd ++ pa ++ pb ++ wait ++ rp ++ 0#3 : BitVec 32).extractLsb' 7 4 = pb :=
  (extract_hi _ 0x0#3 7 4 (by decide)).trans ((extract_hi _ rp 4 4 (by decide)).trans ((extract_hi _ wait 3 4 (by decide)).trans ((extract_lo _ pb 0 4 (by decide)).trans (by simp))))
theorem header_wait (mask : BitVec 6) (plop : BitVec 3) (pd pa pb : BitVec 4) (wait : BitVec 3) (rp : BitVec 1) : (0xF#4 ++ mask ++ plop ++ pd ++ pa ++ pb ++ wait ++ rp ++ 0#3 : BitVec 32).extractLsb' 4 3 = wait :=
  (extract_hi _ 0x0#3 4 3 (by decide)).trans ((extract_hi _ rp 1 3 (by decide)).trans ((extract_lo _ wait 0 3 (by decide)).trans (by simp)))
theorem header_rp (mask : BitVec 6) (plop : BitVec 3) (pd pa pb : BitVec 4) (wait : BitVec 3) (rp : BitVec 1) : (0xF#4 ++ mask ++ plop ++ pd ++ pa ++ pb ++ wait ++ rp ++ 0#3 : BitVec 32).extractLsb' 3 1 = rp :=
  (extract_hi _ 0x0#3 3 1 (by decide)).trans ((extract_lo _ rp 0 1 (by decide)).trans (by simp))
/-! ### Packed fields -/

theorem pack_p2 (p : BitVec 4) : (0x0#2 ++ p : BitVec 6).extractLsb' 4 2 = 0x0#2 ∧ (0x0#2 ++ p : BitVec 6).extractLsb' 0 4 = p := by revert p; decide
theorem pack_p1 (p : BitVec 4) : (0x0#1 ++ p : BitVec 5).extractLsb' 4 1 = 0x0#1 ∧ (0x0#1 ++ p : BitVec 5).extractLsb' 0 4 = p := by revert p; decide
theorem pack_e (e : Bool) : (0x0#5 ++ flag e : BitVec 6).extractLsb' 1 5 = 0x0#5 ∧ (0x0#5 ++ flag e : BitVec 6).extractLsb' 0 1 = flag e := by revert e; decide
theorem pack_n (n : BitVec 2) : (0x0#3 ++ n : BitVec 5).extractLsb' 2 3 = 0x0#3 ∧ (0x0#3 ++ n : BitVec 5).extractLsb' 0 2 = n := by revert n; decide
theorem pack_yz (y z : Bool) : (0x0#4 ++ flag y ++ flag z : BitVec 6).extractLsb' 2 4 = 0x0#4 ∧ (0x0#4 ++ flag y ++ flag z : BitVec 6).extractLsb' 1 1 = flag y ∧
    (0x0#4 ++ flag y ++ flag z : BitVec 6).extractLsb' 0 1 = flag z := by revert y z; decide
theorem pack_k2 (k : BitVec 3) (e : Bool) : (0x0#2 ++ k ++ flag e : BitVec 6).extractLsb' 4 2 = 0x0#2 ∧ (0x0#2 ++ k ++ flag e : BitVec 6).extractLsb' 1 3 = k ∧
    (0x0#2 ++ k ++ flag e : BitVec 6).extractLsb' 0 1 = flag e := by revert k e; decide
theorem pack_k3 (k : BitVec 2) (e : Bool) : (0x0#3 ++ k ++ flag e : BitVec 6).extractLsb' 3 3 = 0x0#3 ∧ (0x0#3 ++ k ++ flag e : BitVec 6).extractLsb' 1 2 = k ∧
    (0x0#3 ++ k ++ flag e : BitVec 6).extractLsb' 0 1 = flag e := by revert k e; decide
@[simp] theorem flag_eq_one (b : Bool) : (flag b = 1#1) = (b = true) := by cases b <;> decide
theorem ofCode_code (w : Width) : Width.ofCode w.code = w := by cases w <;> rfl
theorem vopnd_reg (b : VOpnd) : vopnd b.reg b.sbit = b := by cases b <;> rfl
theorem optX_reg (b : Option (BitVec 5)) : optX (optReg b) (optSbit b) = b := by cases b <;> rfl
theorem optX_ok (b : Option (BitVec 5)) : optSbit b = 1#1 ∨ optReg b = 0#5 := by cases b with
  | none => exact .inr rfl
  | some x => exact .inl rfl
theorem vopnd_reg_x (a : BitVec 5) : vopnd a 1#1 = .x a := rfl
theorem split12 (r : BitVec 12) : (r.extractLsb' 6 6 ++ r.extractLsb' 0 6 : BitVec 12) = r := by
  apply BitVec.eq_of_getLsbD_eq
  intro i hi
  rw [BitVec.getLsbD_append]
  by_cases h : i < 6
  · simp [h]
  · have h2 : i - 6 < 6 := by omega
    have h3 : 6 + (i - 6) = i := by omega
    simp [h, h2, h3]
theorem split15 (m : BitVec 15) : (m.extractLsb' 9 6 ++ m.extractLsb' 0 9 : BitVec 15) = m := by
  apply BitVec.eq_of_getLsbD_eq
  intro i hi
  rw [BitVec.getLsbD_append]
  by_cases h : i < 9
  · simp [h]
  · have h2 : i - 9 < 6 := by omega
    have h3 : 9 + (i - 9) = i := by omega
    simp [h, h2, h3]

theorem pack_jr0 (a : BitVec 6) : (0x0#6 ++ a ++ 0x0#8 : BitVec 20).extractLsb' 14 6 = 0x0#6 :=
  (extract_hi _ 0x0#8 14 6 (by decide)).trans ((extract_hi _ a 6 6 (by decide)).trans (by simp))
theorem pack_jr1 (a : BitVec 6) : (0x0#6 ++ a ++ 0x0#8 : BitVec 20).extractLsb' 8 6 = a :=
  (extract_hi _ 0x0#8 8 6 (by decide)).trans ((extract_lo _ a 0 6 (by decide)).trans (by simp))
theorem pack_jr2 (a : BitVec 6) : (0x0#6 ++ a ++ 0x0#8 : BitVec 20).extractLsb' 0 8 = 0x0#8 :=
  (extract_lo _ 0x0#8 0 8 (by decide)).trans (by simp)
theorem pack_jalr0 (d a : BitVec 6) : (d ++ a ++ 0x0#8 : BitVec 20).extractLsb' 14 6 = d :=
  (extract_hi _ 0x0#8 14 6 (by decide)).trans ((extract_hi _ a 6 6 (by decide)).trans (by simp))
theorem pack_jalr1 (d a : BitVec 6) : (d ++ a ++ 0x0#8 : BitVec 20).extractLsb' 8 6 = a :=
  (extract_hi _ 0x0#8 8 6 (by decide)).trans ((extract_lo _ a 0 6 (by decide)).trans (by simp))
theorem pack_jalr2 (d a : BitVec 6) : (d ++ a ++ 0x0#8 : BitVec 20).extractLsb' 0 8 = 0x0#8 :=
  (extract_lo _ 0x0#8 0 8 (by decide)).trans (by simp)
theorem pack_loop0 (k : BitVec 2) (c : BitVec 6) (l : BitVec 9) : (k ++ c ++ 0x0#3 ++ l : BitVec 20).extractLsb' 18 2 = k :=
  (extract_hi _ l 18 2 (by decide)).trans ((extract_hi _ 0x0#3 9 2 (by decide)).trans ((extract_hi _ c 6 2 (by decide)).trans (by simp)))
theorem pack_loop1 (k : BitVec 2) (c : BitVec 6) (l : BitVec 9) : (k ++ c ++ 0x0#3 ++ l : BitVec 20).extractLsb' 12 6 = c :=
  (extract_hi _ l 12 6 (by decide)).trans ((extract_hi _ 0x0#3 3 6 (by decide)).trans ((extract_lo _ c 0 6 (by decide)).trans (by simp)))
theorem pack_loop2 (k : BitVec 2) (c : BitVec 6) (l : BitVec 9) : (k ++ c ++ 0x0#3 ++ l : BitVec 20).extractLsb' 9 3 = 0x0#3 :=
  (extract_hi _ l 9 3 (by decide)).trans ((extract_lo _ 0x0#3 0 3 (by decide)).trans (by simp))
theorem pack_loop3 (k : BitVec 2) (c : BitVec 6) (l : BitVec 9) : (k ++ c ++ 0x0#3 ++ l : BitVec 20).extractLsb' 0 9 = l :=
  (extract_lo _ l 0 9 (by decide)).trans (by simp)
theorem pack_loopi0 (k : BitVec 2) (n l : BitVec 9) : (k ++ n ++ l : BitVec 20).extractLsb' 18 2 = k :=
  (extract_hi _ l 18 2 (by decide)).trans ((extract_hi _ n 9 2 (by decide)).trans (by simp))
theorem pack_loopi1 (k : BitVec 2) (n l : BitVec 9) : (k ++ n ++ l : BitVec 20).extractLsb' 9 9 = n :=
  (extract_hi _ l 9 9 (by decide)).trans ((extract_lo _ n 0 9 (by decide)).trans (by simp))
theorem pack_loopi2 (k : BitVec 2) (n l : BitVec 9) : (k ++ n ++ l : BitVec 20).extractLsb' 0 9 = l :=
  (extract_lo _ l 0 9 (by decide)).trans (by simp)
theorem pack_loopp0 (k : BitVec 2) (c : BitVec 6) (n : BitVec 3) (l : BitVec 9) : (k ++ c ++ n ++ l : BitVec 20).extractLsb' 18 2 = k :=
  (extract_hi _ l 18 2 (by decide)).trans ((extract_hi _ n 9 2 (by decide)).trans ((extract_hi _ c 6 2 (by decide)).trans (by simp)))
theorem pack_loopp1 (k : BitVec 2) (c : BitVec 6) (n : BitVec 3) (l : BitVec 9) : (k ++ c ++ n ++ l : BitVec 20).extractLsb' 12 6 = c :=
  (extract_hi _ l 12 6 (by decide)).trans ((extract_hi _ n 3 6 (by decide)).trans ((extract_lo _ c 0 6 (by decide)).trans (by simp)))
theorem pack_loopp2 (k : BitVec 2) (c : BitVec 6) (n : BitVec 3) (l : BitVec 9) : (k ++ c ++ n ++ l : BitVec 20).extractLsb' 9 3 = n :=
  (extract_hi _ l 9 3 (by decide)).trans ((extract_lo _ n 0 3 (by decide)).trans (by simp))
theorem pack_loopp3 (k : BitVec 2) (c : BitVec 6) (n : BitVec 3) (l : BitVec 9) : (k ++ c ++ n ++ l : BitVec 20).extractLsb' 0 9 = l :=
  (extract_lo _ l 0 9 (by decide)).trans (by simp)
theorem pack_lexit0 (k : BitVec 2) : (k ++ 0x0#18 : BitVec 20).extractLsb' 18 2 = k :=
  (extract_hi _ 0x0#18 18 2 (by decide)).trans (by simp)
theorem pack_lexit1 (k : BitVec 2) : (k ++ 0x0#18 : BitVec 20).extractLsb' 0 18 = 0x0#18 :=
  (extract_lo _ 0x0#18 0 18 (by decide)).trans (by simp)

end Sys2Proof
end

