-- ==== Sys2Proof/Laws/State.lean ====
section
/-! SUPPORT. What each update of the state does to each field: true by definition, for simp. -/

-- Elaborated in order: the package as one text then needs few threads.
set_option Elab.async false

namespace Sys2Proof.Machine

/-! `modCore` changes the field `core` and no other. -/

@[simp] theorem State.modCore_core (s : State) (f : Core → Core) : (s.modCore f).core = f s.core := rfl
@[simp] theorem State.modCore_cur (s : State) (f : Core → Core) : (s.modCore f).cur = s.cur := rfl
@[simp] theorem State.modCore_others (s : State) (f : Core → Core) : (s.modCore f).others = s.others := rfl
@[simp] theorem State.modCore_mem (s : State) (f : Core → Core) : (s.modCore f).mem = s.mem := rfl
@[simp] theorem State.modCore_sched (s : State) (f : Core → Core) : (s.modCore f).sched = s.sched := rfl
@[simp] theorem State.modCore_xlat (s : State) (f : Core → Core) : (s.modCore f).xlat = s.xlat := rfl
@[simp] theorem State.modCore_fabric (s : State) (f : Core → Core) : (s.modCore f).fabric = s.fabric := rfl
@[simp] theorem State.modCore_colls (s : State) (f : Core → Core) : (s.modCore f).colls = s.colls := rfl
@[simp] theorem State.modCore_power (s : State) (f : Core → Core) : (s.modCore f).power = s.power := rfl
@[simp] theorem State.modCore_glow (s : State) (f : Core → Core) : (s.modCore f).glow = s.glow := rfl
@[simp] theorem State.modCore_mgmt (s : State) (f : Core → Core) : (s.modCore f).mgmt = s.mgmt := rfl
@[simp] theorem State.modCore_agenda (s : State) (f : Core → Core) : (s.modCore f).agenda = s.agenda := rfl
@[simp] theorem State.modCore_fresh (s : State) (f : Core → Core) : (s.modCore f).fresh = s.fresh := rfl

/-! `modMgmt` changes the field `mgmt` and no other. -/

@[simp] theorem State.modMgmt_core (s : State) (f : Mgmt → Mgmt) : (s.modMgmt f).core = s.core := rfl
@[simp] theorem State.modMgmt_cur (s : State) (f : Mgmt → Mgmt) : (s.modMgmt f).cur = s.cur := rfl
@[simp] theorem State.modMgmt_others (s : State) (f : Mgmt → Mgmt) : (s.modMgmt f).others = s.others := rfl
@[simp] theorem State.modMgmt_mem (s : State) (f : Mgmt → Mgmt) : (s.modMgmt f).mem = s.mem := rfl
@[simp] theorem State.modMgmt_sched (s : State) (f : Mgmt → Mgmt) : (s.modMgmt f).sched = s.sched := rfl
@[simp] theorem State.modMgmt_xlat (s : State) (f : Mgmt → Mgmt) : (s.modMgmt f).xlat = s.xlat := rfl
@[simp] theorem State.modMgmt_fabric (s : State) (f : Mgmt → Mgmt) : (s.modMgmt f).fabric = s.fabric := rfl
@[simp] theorem State.modMgmt_colls (s : State) (f : Mgmt → Mgmt) : (s.modMgmt f).colls = s.colls := rfl
@[simp] theorem State.modMgmt_power (s : State) (f : Mgmt → Mgmt) : (s.modMgmt f).power = s.power := rfl
@[simp] theorem State.modMgmt_glow (s : State) (f : Mgmt → Mgmt) : (s.modMgmt f).glow = s.glow := rfl
@[simp] theorem State.modMgmt_mgmt (s : State) (f : Mgmt → Mgmt) : (s.modMgmt f).mgmt = f s.mgmt := rfl
@[simp] theorem State.modMgmt_agenda (s : State) (f : Mgmt → Mgmt) : (s.modMgmt f).agenda = s.agenda := rfl
@[simp] theorem State.modMgmt_fresh (s : State) (f : Mgmt → Mgmt) : (s.modMgmt f).fresh = s.fresh := rfl

/-! `modSched` changes the field `sched` and no other. -/

@[simp] theorem State.modSched_core (s : State) (f : Sched → Sched) : (s.modSched f).core = s.core := rfl
@[simp] theorem State.modSched_cur (s : State) (f : Sched → Sched) : (s.modSched f).cur = s.cur := rfl
@[simp] theorem State.modSched_others (s : State) (f : Sched → Sched) : (s.modSched f).others = s.others := rfl
@[simp] theorem State.modSched_mem (s : State) (f : Sched → Sched) : (s.modSched f).mem = s.mem := rfl
@[simp] theorem State.modSched_sched (s : State) (f : Sched → Sched) : (s.modSched f).sched = f s.sched := rfl
@[simp] theorem State.modSched_xlat (s : State) (f : Sched → Sched) : (s.modSched f).xlat = s.xlat := rfl
@[simp] theorem State.modSched_fabric (s : State) (f : Sched → Sched) : (s.modSched f).fabric = s.fabric := rfl
@[simp] theorem State.modSched_colls (s : State) (f : Sched → Sched) : (s.modSched f).colls = s.colls := rfl
@[simp] theorem State.modSched_power (s : State) (f : Sched → Sched) : (s.modSched f).power = s.power := rfl
@[simp] theorem State.modSched_glow (s : State) (f : Sched → Sched) : (s.modSched f).glow = s.glow := rfl
@[simp] theorem State.modSched_mgmt (s : State) (f : Sched → Sched) : (s.modSched f).mgmt = s.mgmt := rfl
@[simp] theorem State.modSched_agenda (s : State) (f : Sched → Sched) : (s.modSched f).agenda = s.agenda := rfl
@[simp] theorem State.modSched_fresh (s : State) (f : Sched → Sched) : (s.modSched f).fresh = s.fresh := rfl

/-! `modXlat` changes the field `xlat` and no other. -/

@[simp] theorem State.modXlat_core (s : State) (f : Xlat → Xlat) : (s.modXlat f).core = s.core := rfl
@[simp] theorem State.modXlat_cur (s : State) (f : Xlat → Xlat) : (s.modXlat f).cur = s.cur := rfl
@[simp] theorem State.modXlat_others (s : State) (f : Xlat → Xlat) : (s.modXlat f).others = s.others := rfl
@[simp] theorem State.modXlat_mem (s : State) (f : Xlat → Xlat) : (s.modXlat f).mem = s.mem := rfl
@[simp] theorem State.modXlat_sched (s : State) (f : Xlat → Xlat) : (s.modXlat f).sched = s.sched := rfl
@[simp] theorem State.modXlat_xlat (s : State) (f : Xlat → Xlat) : (s.modXlat f).xlat = f s.xlat := rfl
@[simp] theorem State.modXlat_fabric (s : State) (f : Xlat → Xlat) : (s.modXlat f).fabric = s.fabric := rfl
@[simp] theorem State.modXlat_colls (s : State) (f : Xlat → Xlat) : (s.modXlat f).colls = s.colls := rfl
@[simp] theorem State.modXlat_power (s : State) (f : Xlat → Xlat) : (s.modXlat f).power = s.power := rfl
@[simp] theorem State.modXlat_glow (s : State) (f : Xlat → Xlat) : (s.modXlat f).glow = s.glow := rfl
@[simp] theorem State.modXlat_mgmt (s : State) (f : Xlat → Xlat) : (s.modXlat f).mgmt = s.mgmt := rfl
@[simp] theorem State.modXlat_agenda (s : State) (f : Xlat → Xlat) : (s.modXlat f).agenda = s.agenda := rfl
@[simp] theorem State.modXlat_fresh (s : State) (f : Xlat → Xlat) : (s.modXlat f).fresh = s.fresh := rfl

/-! `modFabric` changes the field `fabric` and no other. -/

@[simp] theorem State.modFabric_core (s : State) (f : Fabric → Fabric) : (s.modFabric f).core = s.core := rfl
@[simp] theorem State.modFabric_cur (s : State) (f : Fabric → Fabric) : (s.modFabric f).cur = s.cur := rfl
@[simp] theorem State.modFabric_others (s : State) (f : Fabric → Fabric) : (s.modFabric f).others = s.others := rfl
@[simp] theorem State.modFabric_mem (s : State) (f : Fabric → Fabric) : (s.modFabric f).mem = s.mem := rfl
@[simp] theorem State.modFabric_sched (s : State) (f : Fabric → Fabric) : (s.modFabric f).sched = s.sched := rfl
@[simp] theorem State.modFabric_xlat (s : State) (f : Fabric → Fabric) : (s.modFabric f).xlat = s.xlat := rfl
@[simp] theorem State.modFabric_fabric (s : State) (f : Fabric → Fabric) : (s.modFabric f).fabric = f s.fabric := rfl
@[simp] theorem State.modFabric_colls (s : State) (f : Fabric → Fabric) : (s.modFabric f).colls = s.colls := rfl
@[simp] theorem State.modFabric_power (s : State) (f : Fabric → Fabric) : (s.modFabric f).power = s.power := rfl
@[simp] theorem State.modFabric_glow (s : State) (f : Fabric → Fabric) : (s.modFabric f).glow = s.glow := rfl
@[simp] theorem State.modFabric_mgmt (s : State) (f : Fabric → Fabric) : (s.modFabric f).mgmt = s.mgmt := rfl
@[simp] theorem State.modFabric_agenda (s : State) (f : Fabric → Fabric) : (s.modFabric f).agenda = s.agenda := rfl
@[simp] theorem State.modFabric_fresh (s : State) (f : Fabric → Fabric) : (s.modFabric f).fresh = s.fresh := rfl

/-! `modPower` changes the field `power` and no other. -/

@[simp] theorem State.modPower_core (s : State) (f : Power → Power) : (s.modPower f).core = s.core := rfl
@[simp] theorem State.modPower_cur (s : State) (f : Power → Power) : (s.modPower f).cur = s.cur := rfl
@[simp] theorem State.modPower_others (s : State) (f : Power → Power) : (s.modPower f).others = s.others := rfl
@[simp] theorem State.modPower_mem (s : State) (f : Power → Power) : (s.modPower f).mem = s.mem := rfl
@[simp] theorem State.modPower_sched (s : State) (f : Power → Power) : (s.modPower f).sched = s.sched := rfl
@[simp] theorem State.modPower_xlat (s : State) (f : Power → Power) : (s.modPower f).xlat = s.xlat := rfl
@[simp] theorem State.modPower_fabric (s : State) (f : Power → Power) : (s.modPower f).fabric = s.fabric := rfl
@[simp] theorem State.modPower_colls (s : State) (f : Power → Power) : (s.modPower f).colls = s.colls := rfl
@[simp] theorem State.modPower_power (s : State) (f : Power → Power) : (s.modPower f).power = f s.power := rfl
@[simp] theorem State.modPower_glow (s : State) (f : Power → Power) : (s.modPower f).glow = s.glow := rfl
@[simp] theorem State.modPower_mgmt (s : State) (f : Power → Power) : (s.modPower f).mgmt = s.mgmt := rfl
@[simp] theorem State.modPower_agenda (s : State) (f : Power → Power) : (s.modPower f).agenda = s.agenda := rfl
@[simp] theorem State.modPower_fresh (s : State) (f : Power → Power) : (s.modPower f).fresh = s.fresh := rfl

/-! `modT` changes a part of the current core and nothing else. -/

@[simp] theorem State.modT_cur (s : State) (f : TaskState → TaskState) : (s.modT f).cur = s.cur := rfl
@[simp] theorem State.modT_others (s : State) (f : TaskState → TaskState) : (s.modT f).others = s.others := rfl
@[simp] theorem State.modT_mem (s : State) (f : TaskState → TaskState) : (s.modT f).mem = s.mem := rfl
@[simp] theorem State.modT_sched (s : State) (f : TaskState → TaskState) : (s.modT f).sched = s.sched := rfl
@[simp] theorem State.modT_xlat (s : State) (f : TaskState → TaskState) : (s.modT f).xlat = s.xlat := rfl
@[simp] theorem State.modT_fabric (s : State) (f : TaskState → TaskState) : (s.modT f).fabric = s.fabric := rfl
@[simp] theorem State.modT_colls (s : State) (f : TaskState → TaskState) : (s.modT f).colls = s.colls := rfl
@[simp] theorem State.modT_power (s : State) (f : TaskState → TaskState) : (s.modT f).power = s.power := rfl
@[simp] theorem State.modT_glow (s : State) (f : TaskState → TaskState) : (s.modT f).glow = s.glow := rfl
@[simp] theorem State.modT_mgmt (s : State) (f : TaskState → TaskState) : (s.modT f).mgmt = s.mgmt := rfl
@[simp] theorem State.modT_agenda (s : State) (f : TaskState → TaskState) : (s.modT f).agenda = s.agenda := rfl
@[simp] theorem State.modT_fresh (s : State) (f : TaskState → TaskState) : (s.modT f).fresh = s.fresh := rfl
@[simp] theorem State.modT_core_t (s : State) (f : TaskState → TaskState) : (s.modT f).core.t = f s.core.t := rfl
@[simp] theorem State.modT_core_mode (s : State) (f : TaskState → TaskState) : (s.modT f).core.mode = s.core.mode := rfl
@[simp] theorem State.modT_core_lit (s : State) (f : TaskState → TaskState) : (s.modT f).core.lit = s.core.lit := rfl
@[simp] theorem State.modT_core_shadow (s : State) (f : TaskState → TaskState) : (s.modT f).core.shadow = s.core.shadow := rfl
@[simp] theorem State.modT_core_loading (s : State) (f : TaskState → TaskState) : (s.modT f).core.loading = s.core.loading := rfl
@[simp] theorem State.modT_core_buf (s : State) (f : TaskState → TaskState) : (s.modT f).core.buf = s.core.buf := rfl
@[simp] theorem State.modT_core_l1 (s : State) (f : TaskState → TaskState) : (s.modT f).core.l1 = s.core.l1 := rfl
@[simp] theorem State.modT_core_fills (s : State) (f : TaskState → TaskState) : (s.modT f).core.fills = s.core.fills := rfl
@[simp] theorem State.modT_core_srctr (s : State) (f : TaskState → TaskState) : (s.modT f).core.srctr = s.core.srctr := rfl
@[simp] theorem State.modT_core_stallc (s : State) (f : TaskState → TaskState) : (s.modT f).core.stallc = s.core.stallc := rfl
@[simp] theorem State.modT_core_lodc (s : State) (f : TaskState → TaskState) : (s.modT f).core.lodc = s.core.lodc := rfl
@[simp] theorem State.modT_core_feat (s : State) (f : TaskState → TaskState) : (s.modT f).core.feat = s.core.feat := rfl
@[simp] theorem State.modT_core_mail (s : State) (f : TaskState → TaskState) : (s.modT f).core.mail = s.core.mail := rfl
@[simp] theorem State.modT_core_mirror (s : State) (f : TaskState → TaskState) : (s.modT f).core.mirror = s.core.mirror := rfl
@[simp] theorem State.modT_core_failover (s : State) (f : TaskState → TaskState) : (s.modT f).core.failover = s.core.failover := rfl
@[simp] theorem State.modT_core_prefetch (s : State) (f : TaskState → TaskState) : (s.modT f).core.prefetch = s.core.prefetch := rfl
@[simp] theorem State.modT_core_reserved (s : State) (f : TaskState → TaskState) : (s.modT f).core.reserved = s.core.reserved := rfl
@[simp] theorem State.modT_core_old (s : State) (f : TaskState → TaskState) : (s.modT f).core.old = s.core.old := rfl
@[simp] theorem State.modT_core_undo (s : State) (f : TaskState → TaskState) : (s.modT f).core.undo = s.core.undo := rfl
@[simp] theorem State.modT_core_bundle (s : State) (f : TaskState → TaskState) : (s.modT f).core.bundle = s.core.bundle := rfl
@[simp] theorem State.modT_core_pendTrap (s : State) (f : TaskState → TaskState) : (s.modT f).core.pendTrap = s.core.pendTrap := rfl
@[simp] theorem State.modT_core_asks (s : State) (f : TaskState → TaskState) : (s.modT f).core.asks = s.core.asks := rfl
@[simp] theorem State.modT_core_reds (s : State) (f : TaskState → TaskState) : (s.modT f).core.reds = s.core.reds := rfl
@[simp] theorem State.modT_core_swap (s : State) (f : TaskState → TaskState) : (s.modT f).core.swap = s.core.swap := rfl

/-! `modBundle` changes a part of the current core and nothing else. -/

@[simp] theorem State.modBundle_cur (s : State) (f : Bundle → Bundle) : (s.modBundle f).cur = s.cur := rfl
@[simp] theorem State.modBundle_others (s : State) (f : Bundle → Bundle) : (s.modBundle f).others = s.others := rfl
@[simp] theorem State.modBundle_mem (s : State) (f : Bundle → Bundle) : (s.modBundle f).mem = s.mem := rfl
@[simp] theorem State.modBundle_sched (s : State) (f : Bundle → Bundle) : (s.modBundle f).sched = s.sched := rfl
@[simp] theorem State.modBundle_xlat (s : State) (f : Bundle → Bundle) : (s.modBundle f).xlat = s.xlat := rfl
@[simp] theorem State.modBundle_fabric (s : State) (f : Bundle → Bundle) : (s.modBundle f).fabric = s.fabric := rfl
@[simp] theorem State.modBundle_colls (s : State) (f : Bundle → Bundle) : (s.modBundle f).colls = s.colls := rfl
@[simp] theorem State.modBundle_power (s : State) (f : Bundle → Bundle) : (s.modBundle f).power = s.power := rfl
@[simp] theorem State.modBundle_glow (s : State) (f : Bundle → Bundle) : (s.modBundle f).glow = s.glow := rfl
@[simp] theorem State.modBundle_mgmt (s : State) (f : Bundle → Bundle) : (s.modBundle f).mgmt = s.mgmt := rfl
@[simp] theorem State.modBundle_agenda (s : State) (f : Bundle → Bundle) : (s.modBundle f).agenda = s.agenda := rfl
@[simp] theorem State.modBundle_fresh (s : State) (f : Bundle → Bundle) : (s.modBundle f).fresh = s.fresh := rfl
@[simp] theorem State.modBundle_core_t (s : State) (f : Bundle → Bundle) : (s.modBundle f).core.t = s.core.t := rfl
@[simp] theorem State.modBundle_core_mode (s : State) (f : Bundle → Bundle) : (s.modBundle f).core.mode = s.core.mode := rfl
@[simp] theorem State.modBundle_core_lit (s : State) (f : Bundle → Bundle) : (s.modBundle f).core.lit = s.core.lit := rfl
@[simp] theorem State.modBundle_core_shadow (s : State) (f : Bundle → Bundle) : (s.modBundle f).core.shadow = s.core.shadow := rfl
@[simp] theorem State.modBundle_core_loading (s : State) (f : Bundle → Bundle) : (s.modBundle f).core.loading = s.core.loading := rfl
@[simp] theorem State.modBundle_core_buf (s : State) (f : Bundle → Bundle) : (s.modBundle f).core.buf = s.core.buf := rfl
@[simp] theorem State.modBundle_core_l1 (s : State) (f : Bundle → Bundle) : (s.modBundle f).core.l1 = s.core.l1 := rfl
@[simp] theorem State.modBundle_core_fills (s : State) (f : Bundle → Bundle) : (s.modBundle f).core.fills = s.core.fills := rfl
@[simp] theorem State.modBundle_core_srctr (s : State) (f : Bundle → Bundle) : (s.modBundle f).core.srctr = s.core.srctr := rfl
@[simp] theorem State.modBundle_core_stallc (s : State) (f : Bundle → Bundle) : (s.modBundle f).core.stallc = s.core.stallc := rfl
@[simp] theorem State.modBundle_core_lodc (s : State) (f : Bundle → Bundle) : (s.modBundle f).core.lodc = s.core.lodc := rfl
@[simp] theorem State.modBundle_core_feat (s : State) (f : Bundle → Bundle) : (s.modBundle f).core.feat = s.core.feat := rfl
@[simp] theorem State.modBundle_core_mail (s : State) (f : Bundle → Bundle) : (s.modBundle f).core.mail = s.core.mail := rfl
@[simp] theorem State.modBundle_core_mirror (s : State) (f : Bundle → Bundle) : (s.modBundle f).core.mirror = s.core.mirror := rfl
@[simp] theorem State.modBundle_core_failover (s : State) (f : Bundle → Bundle) : (s.modBundle f).core.failover = s.core.failover := rfl
@[simp] theorem State.modBundle_core_prefetch (s : State) (f : Bundle → Bundle) : (s.modBundle f).core.prefetch = s.core.prefetch := rfl
@[simp] theorem State.modBundle_core_reserved (s : State) (f : Bundle → Bundle) : (s.modBundle f).core.reserved = s.core.reserved := rfl
@[simp] theorem State.modBundle_core_old (s : State) (f : Bundle → Bundle) : (s.modBundle f).core.old = s.core.old := rfl
@[simp] theorem State.modBundle_core_undo (s : State) (f : Bundle → Bundle) : (s.modBundle f).core.undo = s.core.undo := rfl
@[simp] theorem State.modBundle_core_bundle (s : State) (f : Bundle → Bundle) : (s.modBundle f).core.bundle = f s.core.bundle := rfl
@[simp] theorem State.modBundle_core_pendTrap (s : State) (f : Bundle → Bundle) : (s.modBundle f).core.pendTrap = s.core.pendTrap := rfl
@[simp] theorem State.modBundle_core_asks (s : State) (f : Bundle → Bundle) : (s.modBundle f).core.asks = s.core.asks := rfl
@[simp] theorem State.modBundle_core_reds (s : State) (f : Bundle → Bundle) : (s.modBundle f).core.reds = s.core.reds := rfl
@[simp] theorem State.modBundle_core_swap (s : State) (f : Bundle → Bundle) : (s.modBundle f).core.swap = s.core.swap := rfl

/-! `modSb` changes a part of the current core and nothing else. -/

@[simp] theorem State.modSb_cur (s : State) (f : Scoreboard → Scoreboard) : (s.modSb f).cur = s.cur := rfl
@[simp] theorem State.modSb_others (s : State) (f : Scoreboard → Scoreboard) : (s.modSb f).others = s.others := rfl
@[simp] theorem State.modSb_mem (s : State) (f : Scoreboard → Scoreboard) : (s.modSb f).mem = s.mem := rfl
@[simp] theorem State.modSb_sched (s : State) (f : Scoreboard → Scoreboard) : (s.modSb f).sched = s.sched := rfl
@[simp] theorem State.modSb_xlat (s : State) (f : Scoreboard → Scoreboard) : (s.modSb f).xlat = s.xlat := rfl
@[simp] theorem State.modSb_fabric (s : State) (f : Scoreboard → Scoreboard) : (s.modSb f).fabric = s.fabric := rfl
@[simp] theorem State.modSb_colls (s : State) (f : Scoreboard → Scoreboard) : (s.modSb f).colls = s.colls := rfl
@[simp] theorem State.modSb_power (s : State) (f : Scoreboard → Scoreboard) : (s.modSb f).power = s.power := rfl
@[simp] theorem State.modSb_glow (s : State) (f : Scoreboard → Scoreboard) : (s.modSb f).glow = s.glow := rfl
@[simp] theorem State.modSb_mgmt (s : State) (f : Scoreboard → Scoreboard) : (s.modSb f).mgmt = s.mgmt := rfl
@[simp] theorem State.modSb_agenda (s : State) (f : Scoreboard → Scoreboard) : (s.modSb f).agenda = s.agenda := rfl
@[simp] theorem State.modSb_fresh (s : State) (f : Scoreboard → Scoreboard) : (s.modSb f).fresh = s.fresh := rfl
@[simp] theorem State.modSb_core_mode (s : State) (f : Scoreboard → Scoreboard) : (s.modSb f).core.mode = s.core.mode := rfl
@[simp] theorem State.modSb_core_lit (s : State) (f : Scoreboard → Scoreboard) : (s.modSb f).core.lit = s.core.lit := rfl
@[simp] theorem State.modSb_core_shadow (s : State) (f : Scoreboard → Scoreboard) : (s.modSb f).core.shadow = s.core.shadow := rfl
@[simp] theorem State.modSb_core_loading (s : State) (f : Scoreboard → Scoreboard) : (s.modSb f).core.loading = s.core.loading := rfl
@[simp] theorem State.modSb_core_buf (s : State) (f : Scoreboard → Scoreboard) : (s.modSb f).core.buf = s.core.buf := rfl
@[simp] theorem State.modSb_core_l1 (s : State) (f : Scoreboard → Scoreboard) : (s.modSb f).core.l1 = s.core.l1 := rfl
@[simp] theorem State.modSb_core_fills (s : State) (f : Scoreboard → Scoreboard) : (s.modSb f).core.fills = s.core.fills := rfl
@[simp] theorem State.modSb_core_srctr (s : State) (f : Scoreboard → Scoreboard) : (s.modSb f).core.srctr = s.core.srctr := rfl
@[simp] theorem State.modSb_core_stallc (s : State) (f : Scoreboard → Scoreboard) : (s.modSb f).core.stallc = s.core.stallc := rfl
@[simp] theorem State.modSb_core_lodc (s : State) (f : Scoreboard → Scoreboard) : (s.modSb f).core.lodc = s.core.lodc := rfl
@[simp] theorem State.modSb_core_feat (s : State) (f : Scoreboard → Scoreboard) : (s.modSb f).core.feat = s.core.feat := rfl
@[simp] theorem State.modSb_core_mail (s : State) (f : Scoreboard → Scoreboard) : (s.modSb f).core.mail = s.core.mail := rfl
@[simp] theorem State.modSb_core_mirror (s : State) (f : Scoreboard → Scoreboard) : (s.modSb f).core.mirror = s.core.mirror := rfl
@[simp] theorem State.modSb_core_failover (s : State) (f : Scoreboard → Scoreboard) : (s.modSb f).core.failover = s.core.failover := rfl
@[simp] theorem State.modSb_core_prefetch (s : State) (f : Scoreboard → Scoreboard) : (s.modSb f).core.prefetch = s.core.prefetch := rfl
@[simp] theorem State.modSb_core_reserved (s : State) (f : Scoreboard → Scoreboard) : (s.modSb f).core.reserved = s.core.reserved := rfl
@[simp] theorem State.modSb_core_old (s : State) (f : Scoreboard → Scoreboard) : (s.modSb f).core.old = s.core.old := rfl
@[simp] theorem State.modSb_core_undo (s : State) (f : Scoreboard → Scoreboard) : (s.modSb f).core.undo = s.core.undo := rfl
@[simp] theorem State.modSb_core_bundle (s : State) (f : Scoreboard → Scoreboard) : (s.modSb f).core.bundle = s.core.bundle := rfl
@[simp] theorem State.modSb_core_pendTrap (s : State) (f : Scoreboard → Scoreboard) : (s.modSb f).core.pendTrap = s.core.pendTrap := rfl
@[simp] theorem State.modSb_core_asks (s : State) (f : Scoreboard → Scoreboard) : (s.modSb f).core.asks = s.core.asks := rfl
@[simp] theorem State.modSb_core_reds (s : State) (f : Scoreboard → Scoreboard) : (s.modSb f).core.reds = s.core.reds := rfl
@[simp] theorem State.modSb_core_swap (s : State) (f : Scoreboard → Scoreboard) : (s.modSb f).core.swap = s.core.swap := rfl
@[simp] theorem State.modSb_core_t_id (s : State) (f : Scoreboard → Scoreboard) : (s.modSb f).core.t.id = s.core.t.id := rfl
@[simp] theorem State.modSb_core_t_x (s : State) (f : Scoreboard → Scoreboard) : (s.modSb f).core.t.x = s.core.t.x := rfl
@[simp] theorem State.modSb_core_t_v (s : State) (f : Scoreboard → Scoreboard) : (s.modSb f).core.t.v = s.core.t.v := rfl
@[simp] theorem State.modSb_core_t_p (s : State) (f : Scoreboard → Scoreboard) : (s.modSb f).core.t.p = s.core.t.p := rfl
@[simp] theorem State.modSb_core_t_pc (s : State) (f : Scoreboard → Scoreboard) : (s.modSb f).core.t.pc = s.core.t.pc := rfl
@[simp] theorem State.modSb_core_t_loop (s : State) (f : Scoreboard → Scoreboard) : (s.modSb f).core.t.loop = s.core.t.loop := rfl
@[simp] theorem State.modSb_core_t_ts (s : State) (f : Scoreboard → Scoreboard) : (s.modSb f).core.t.ts = s.core.t.ts := rfl
@[simp] theorem State.modSb_core_t_me0 (s : State) (f : Scoreboard → Scoreboard) : (s.modSb f).core.t.me0 = s.core.t.me0 := rfl
@[simp] theorem State.modSb_core_t_me1 (s : State) (f : Scoreboard → Scoreboard) : (s.modSb f).core.t.me1 = s.core.t.me1 := rfl
@[simp] theorem State.modSb_core_t_ce0 (s : State) (f : Scoreboard → Scoreboard) : (s.modSb f).core.t.ce0 = s.core.t.ce0 := rfl
@[simp] theorem State.modSb_core_t_ce1 (s : State) (f : Scoreboard → Scoreboard) : (s.modSb f).core.t.ce1 = s.core.t.ce1 := rfl
@[simp] theorem State.modSb_core_t_niarb (s : State) (f : Scoreboard → Scoreboard) : (s.modSb f).core.t.niarb = s.core.t.niarb := rfl
@[simp] theorem State.modSb_core_t_comp (s : State) (f : Scoreboard → Scoreboard) : (s.modSb f).core.t.comp = s.core.t.comp := rfl
@[simp] theorem State.modSb_core_t_sys (s : State) (f : Scoreboard → Scoreboard) : (s.modSb f).core.t.sys = s.core.t.sys := rfl
@[simp] theorem State.modSb_core_t_seg (s : State) (f : Scoreboard → Scoreboard) : (s.modSb f).core.t.seg = s.core.t.seg := rfl
@[simp] theorem State.modSb_core_t_kept (s : State) (f : Scoreboard → Scoreboard) : (s.modSb f).core.t.kept = s.core.t.kept := rfl
@[simp] theorem State.modSb_core_t_streams (s : State) (f : Scoreboard → Scoreboard) : (s.modSb f).core.t.streams = s.core.t.streams := rfl
@[simp] theorem State.modSb_core_t_tokens (s : State) (f : Scoreboard → Scoreboard) : (s.modSb f).core.t.tokens = s.core.t.tokens := rfl
@[simp] theorem State.modSb_core_t_refs (s : State) (f : Scoreboard → Scoreboard) : (s.modSb f).core.t.refs = s.core.t.refs := rfl
@[simp] theorem State.modSb_core_t_spbase (s : State) (f : Scoreboard → Scoreboard) : (s.modSb f).core.t.spbase = s.core.t.spbase := rfl
@[simp] theorem State.modSb_core_t_splen (s : State) (f : Scoreboard → Scoreboard) : (s.modSb f).core.t.splen = s.core.t.splen := rfl
@[simp] theorem State.modSb_core_t_haz (s : State) (f : Scoreboard → Scoreboard) : (s.modSb f).core.t.haz = s.core.t.haz := rfl
@[simp] theorem State.modSb_core_t_sb (s : State) (f : Scoreboard → Scoreboard) : (s.modSb f).core.t.sb = f s.core.t.sb := rfl
@[simp] theorem State.modSb_core_t_nextSeq (s : State) (f : Scoreboard → Scoreboard) : (s.modSb f).core.t.nextSeq = s.core.t.nextSeq := rfl
@[simp] theorem State.modSb_core_t_satPend (s : State) (f : Scoreboard → Scoreboard) : (s.modSb f).core.t.satPend = s.core.t.satPend := rfl
@[simp] theorem State.modSb_core_t_regPoison (s : State) (f : Scoreboard → Scoreboard) : (s.modSb f).core.t.regPoison = s.core.t.regPoison := rfl
@[simp] theorem State.modSb_core_t_streamPoison (s : State) (f : Scoreboard → Scoreboard) : (s.modSb f).core.t.streamPoison = s.core.t.streamPoison := rfl

/-! `modSys` changes a part of the current core and nothing else. -/

@[simp] theorem State.modSys_cur (s : State) (f : SysRegs → SysRegs) : (s.modSys f).cur = s.cur := rfl
@[simp] theorem State.modSys_others (s : State) (f : SysRegs → SysRegs) : (s.modSys f).others = s.others := rfl
@[simp] theorem State.modSys_mem (s : State) (f : SysRegs → SysRegs) : (s.modSys f).mem = s.mem := rfl
@[simp] theorem State.modSys_sched (s : State) (f : SysRegs → SysRegs) : (s.modSys f).sched = s.sched := rfl
@[simp] theorem State.modSys_xlat (s : State) (f : SysRegs → SysRegs) : (s.modSys f).xlat = s.xlat := rfl
@[simp] theorem State.modSys_fabric (s : State) (f : SysRegs → SysRegs) : (s.modSys f).fabric = s.fabric := rfl
@[simp] theorem State.modSys_colls (s : State) (f : SysRegs → SysRegs) : (s.modSys f).colls = s.colls := rfl
@[simp] theorem State.modSys_power (s : State) (f : SysRegs → SysRegs) : (s.modSys f).power = s.power := rfl
@[simp] theorem State.modSys_glow (s : State) (f : SysRegs → SysRegs) : (s.modSys f).glow = s.glow := rfl
@[simp] theorem State.modSys_mgmt (s : State) (f : SysRegs → SysRegs) : (s.modSys f).mgmt = s.mgmt := rfl
@[simp] theorem State.modSys_agenda (s : State) (f : SysRegs → SysRegs) : (s.modSys f).agenda = s.agenda := rfl
@[simp] theorem State.modSys_fresh (s : State) (f : SysRegs → SysRegs) : (s.modSys f).fresh = s.fresh := rfl
@[simp] theorem State.modSys_core_mode (s : State) (f : SysRegs → SysRegs) : (s.modSys f).core.mode = s.core.mode := rfl
@[simp] theorem State.modSys_core_lit (s : State) (f : SysRegs → SysRegs) : (s.modSys f).core.lit = s.core.lit := rfl
@[simp] theorem State.modSys_core_shadow (s : State) (f : SysRegs → SysRegs) : (s.modSys f).core.shadow = s.core.shadow := rfl
@[simp] theorem State.modSys_core_loading (s : State) (f : SysRegs → SysRegs) : (s.modSys f).core.loading = s.core.loading := rfl
@[simp] theorem State.modSys_core_buf (s : State) (f : SysRegs → SysRegs) : (s.modSys f).core.buf = s.core.buf := rfl
@[simp] theorem State.modSys_core_l1 (s : State) (f : SysRegs → SysRegs) : (s.modSys f).core.l1 = s.core.l1 := rfl
@[simp] theorem State.modSys_core_fills (s : State) (f : SysRegs → SysRegs) : (s.modSys f).core.fills = s.core.fills := rfl
@[simp] theorem State.modSys_core_srctr (s : State) (f : SysRegs → SysRegs) : (s.modSys f).core.srctr = s.core.srctr := rfl
@[simp] theorem State.modSys_core_stallc (s : State) (f : SysRegs → SysRegs) : (s.modSys f).core.stallc = s.core.stallc := rfl
@[simp] theorem State.modSys_core_lodc (s : State) (f : SysRegs → SysRegs) : (s.modSys f).core.lodc = s.core.lodc := rfl
@[simp] theorem State.modSys_core_feat (s : State) (f : SysRegs → SysRegs) : (s.modSys f).core.feat = s.core.feat := rfl
@[simp] theorem State.modSys_core_mail (s : State) (f : SysRegs → SysRegs) : (s.modSys f).core.mail = s.core.mail := rfl
@[simp] theorem State.modSys_core_mirror (s : State) (f : SysRegs → SysRegs) : (s.modSys f).core.mirror = s.core.mirror := rfl
@[simp] theorem State.modSys_core_failover (s : State) (f : SysRegs → SysRegs) : (s.modSys f).core.failover = s.core.failover := rfl
@[simp] theorem State.modSys_core_prefetch (s : State) (f : SysRegs → SysRegs) : (s.modSys f).core.prefetch = s.core.prefetch := rfl
@[simp] theorem State.modSys_core_reserved (s : State) (f : SysRegs → SysRegs) : (s.modSys f).core.reserved = s.core.reserved := rfl
@[simp] theorem State.modSys_core_old (s : State) (f : SysRegs → SysRegs) : (s.modSys f).core.old = s.core.old := rfl
@[simp] theorem State.modSys_core_undo (s : State) (f : SysRegs → SysRegs) : (s.modSys f).core.undo = s.core.undo := rfl
@[simp] theorem State.modSys_core_bundle (s : State) (f : SysRegs → SysRegs) : (s.modSys f).core.bundle = s.core.bundle := rfl
@[simp] theorem State.modSys_core_pendTrap (s : State) (f : SysRegs → SysRegs) : (s.modSys f).core.pendTrap = s.core.pendTrap := rfl
@[simp] theorem State.modSys_core_asks (s : State) (f : SysRegs → SysRegs) : (s.modSys f).core.asks = s.core.asks := rfl
@[simp] theorem State.modSys_core_reds (s : State) (f : SysRegs → SysRegs) : (s.modSys f).core.reds = s.core.reds := rfl
@[simp] theorem State.modSys_core_swap (s : State) (f : SysRegs → SysRegs) : (s.modSys f).core.swap = s.core.swap := rfl
@[simp] theorem State.modSys_core_t_id (s : State) (f : SysRegs → SysRegs) : (s.modSys f).core.t.id = s.core.t.id := rfl
@[simp] theorem State.modSys_core_t_x (s : State) (f : SysRegs → SysRegs) : (s.modSys f).core.t.x = s.core.t.x := rfl
@[simp] theorem State.modSys_core_t_v (s : State) (f : SysRegs → SysRegs) : (s.modSys f).core.t.v = s.core.t.v := rfl
@[simp] theorem State.modSys_core_t_p (s : State) (f : SysRegs → SysRegs) : (s.modSys f).core.t.p = s.core.t.p := rfl
@[simp] theorem State.modSys_core_t_pc (s : State) (f : SysRegs → SysRegs) : (s.modSys f).core.t.pc = s.core.t.pc := rfl
@[simp] theorem State.modSys_core_t_loop (s : State) (f : SysRegs → SysRegs) : (s.modSys f).core.t.loop = s.core.t.loop := rfl
@[simp] theorem State.modSys_core_t_ts (s : State) (f : SysRegs → SysRegs) : (s.modSys f).core.t.ts = s.core.t.ts := rfl
@[simp] theorem State.modSys_core_t_me0 (s : State) (f : SysRegs → SysRegs) : (s.modSys f).core.t.me0 = s.core.t.me0 := rfl
@[simp] theorem State.modSys_core_t_me1 (s : State) (f : SysRegs → SysRegs) : (s.modSys f).core.t.me1 = s.core.t.me1 := rfl
@[simp] theorem State.modSys_core_t_ce0 (s : State) (f : SysRegs → SysRegs) : (s.modSys f).core.t.ce0 = s.core.t.ce0 := rfl
@[simp] theorem State.modSys_core_t_ce1 (s : State) (f : SysRegs → SysRegs) : (s.modSys f).core.t.ce1 = s.core.t.ce1 := rfl
@[simp] theorem State.modSys_core_t_niarb (s : State) (f : SysRegs → SysRegs) : (s.modSys f).core.t.niarb = s.core.t.niarb := rfl
@[simp] theorem State.modSys_core_t_comp (s : State) (f : SysRegs → SysRegs) : (s.modSys f).core.t.comp = s.core.t.comp := rfl
@[simp] theorem State.modSys_core_t_sys (s : State) (f : SysRegs → SysRegs) : (s.modSys f).core.t.sys = f s.core.t.sys := rfl
@[simp] theorem State.modSys_core_t_seg (s : State) (f : SysRegs → SysRegs) : (s.modSys f).core.t.seg = s.core.t.seg := rfl
@[simp] theorem State.modSys_core_t_kept (s : State) (f : SysRegs → SysRegs) : (s.modSys f).core.t.kept = s.core.t.kept := rfl
@[simp] theorem State.modSys_core_t_streams (s : State) (f : SysRegs → SysRegs) : (s.modSys f).core.t.streams = s.core.t.streams := rfl
@[simp] theorem State.modSys_core_t_tokens (s : State) (f : SysRegs → SysRegs) : (s.modSys f).core.t.tokens = s.core.t.tokens := rfl
@[simp] theorem State.modSys_core_t_refs (s : State) (f : SysRegs → SysRegs) : (s.modSys f).core.t.refs = s.core.t.refs := rfl
@[simp] theorem State.modSys_core_t_spbase (s : State) (f : SysRegs → SysRegs) : (s.modSys f).core.t.spbase = s.core.t.spbase := rfl
@[simp] theorem State.modSys_core_t_splen (s : State) (f : SysRegs → SysRegs) : (s.modSys f).core.t.splen = s.core.t.splen := rfl
@[simp] theorem State.modSys_core_t_haz (s : State) (f : SysRegs → SysRegs) : (s.modSys f).core.t.haz = s.core.t.haz := rfl
@[simp] theorem State.modSys_core_t_sb (s : State) (f : SysRegs → SysRegs) : (s.modSys f).core.t.sb = s.core.t.sb := rfl
@[simp] theorem State.modSys_core_t_nextSeq (s : State) (f : SysRegs → SysRegs) : (s.modSys f).core.t.nextSeq = s.core.t.nextSeq := rfl
@[simp] theorem State.modSys_core_t_satPend (s : State) (f : SysRegs → SysRegs) : (s.modSys f).core.t.satPend = s.core.t.satPend := rfl
@[simp] theorem State.modSys_core_t_regPoison (s : State) (f : SysRegs → SysRegs) : (s.modSys f).core.t.regPoison = s.core.t.regPoison := rfl
@[simp] theorem State.modSys_core_t_streamPoison (s : State) (f : SysRegs → SysRegs) : (s.modSys f).core.t.streamPoison = s.core.t.streamPoison := rfl

/-! `modComp` changes a part of the current core and nothing else. -/

@[simp] theorem State.modComp_cur (s : State) (f : Completion → Completion) : (s.modComp f).cur = s.cur := rfl
@[simp] theorem State.modComp_others (s : State) (f : Completion → Completion) : (s.modComp f).others = s.others := rfl
@[simp] theorem State.modComp_mem (s : State) (f : Completion → Completion) : (s.modComp f).mem = s.mem := rfl
@[simp] theorem State.modComp_sched (s : State) (f : Completion → Completion) : (s.modComp f).sched = s.sched := rfl
@[simp] theorem State.modComp_xlat (s : State) (f : Completion → Completion) : (s.modComp f).xlat = s.xlat := rfl
@[simp] theorem State.modComp_fabric (s : State) (f : Completion → Completion) : (s.modComp f).fabric = s.fabric := rfl
@[simp] theorem State.modComp_colls (s : State) (f : Completion → Completion) : (s.modComp f).colls = s.colls := rfl
@[simp] theorem State.modComp_power (s : State) (f : Completion → Completion) : (s.modComp f).power = s.power := rfl
@[simp] theorem State.modComp_glow (s : State) (f : Completion → Completion) : (s.modComp f).glow = s.glow := rfl
@[simp] theorem State.modComp_mgmt (s : State) (f : Completion → Completion) : (s.modComp f).mgmt = s.mgmt := rfl
@[simp] theorem State.modComp_agenda (s : State) (f : Completion → Completion) : (s.modComp f).agenda = s.agenda := rfl
@[simp] theorem State.modComp_fresh (s : State) (f : Completion → Completion) : (s.modComp f).fresh = s.fresh := rfl
@[simp] theorem State.modComp_core_mode (s : State) (f : Completion → Completion) : (s.modComp f).core.mode = s.core.mode := rfl
@[simp] theorem State.modComp_core_lit (s : State) (f : Completion → Completion) : (s.modComp f).core.lit = s.core.lit := rfl
@[simp] theorem State.modComp_core_shadow (s : State) (f : Completion → Completion) : (s.modComp f).core.shadow = s.core.shadow := rfl
@[simp] theorem State.modComp_core_loading (s : State) (f : Completion → Completion) : (s.modComp f).core.loading = s.core.loading := rfl
@[simp] theorem State.modComp_core_buf (s : State) (f : Completion → Completion) : (s.modComp f).core.buf = s.core.buf := rfl
@[simp] theorem State.modComp_core_l1 (s : State) (f : Completion → Completion) : (s.modComp f).core.l1 = s.core.l1 := rfl
@[simp] theorem State.modComp_core_fills (s : State) (f : Completion → Completion) : (s.modComp f).core.fills = s.core.fills := rfl
@[simp] theorem State.modComp_core_srctr (s : State) (f : Completion → Completion) : (s.modComp f).core.srctr = s.core.srctr := rfl
@[simp] theorem State.modComp_core_stallc (s : State) (f : Completion → Completion) : (s.modComp f).core.stallc = s.core.stallc := rfl
@[simp] theorem State.modComp_core_lodc (s : State) (f : Completion → Completion) : (s.modComp f).core.lodc = s.core.lodc := rfl
@[simp] theorem State.modComp_core_feat (s : State) (f : Completion → Completion) : (s.modComp f).core.feat = s.core.feat := rfl
@[simp] theorem State.modComp_core_mail (s : State) (f : Completion → Completion) : (s.modComp f).core.mail = s.core.mail := rfl
@[simp] theorem State.modComp_core_mirror (s : State) (f : Completion → Completion) : (s.modComp f).core.mirror = s.core.mirror := rfl
@[simp] theorem State.modComp_core_failover (s : State) (f : Completion → Completion) : (s.modComp f).core.failover = s.core.failover := rfl
@[simp] theorem State.modComp_core_prefetch (s : State) (f : Completion → Completion) : (s.modComp f).core.prefetch = s.core.prefetch := rfl
@[simp] theorem State.modComp_core_reserved (s : State) (f : Completion → Completion) : (s.modComp f).core.reserved = s.core.reserved := rfl
@[simp] theorem State.modComp_core_old (s : State) (f : Completion → Completion) : (s.modComp f).core.old = s.core.old := rfl
@[simp] theorem State.modComp_core_undo (s : State) (f : Completion → Completion) : (s.modComp f).core.undo = s.core.undo := rfl
@[simp] theorem State.modComp_core_bundle (s : State) (f : Completion → Completion) : (s.modComp f).core.bundle = s.core.bundle := rfl
@[simp] theorem State.modComp_core_pendTrap (s : State) (f : Completion → Completion) : (s.modComp f).core.pendTrap = s.core.pendTrap := rfl
@[simp] theorem State.modComp_core_asks (s : State) (f : Completion → Completion) : (s.modComp f).core.asks = s.core.asks := rfl
@[simp] theorem State.modComp_core_reds (s : State) (f : Completion → Completion) : (s.modComp f).core.reds = s.core.reds := rfl
@[simp] theorem State.modComp_core_swap (s : State) (f : Completion → Completion) : (s.modComp f).core.swap = s.core.swap := rfl
@[simp] theorem State.modComp_core_t_id (s : State) (f : Completion → Completion) : (s.modComp f).core.t.id = s.core.t.id := rfl
@[simp] theorem State.modComp_core_t_x (s : State) (f : Completion → Completion) : (s.modComp f).core.t.x = s.core.t.x := rfl
@[simp] theorem State.modComp_core_t_v (s : State) (f : Completion → Completion) : (s.modComp f).core.t.v = s.core.t.v := rfl
@[simp] theorem State.modComp_core_t_p (s : State) (f : Completion → Completion) : (s.modComp f).core.t.p = s.core.t.p := rfl
@[simp] theorem State.modComp_core_t_pc (s : State) (f : Completion → Completion) : (s.modComp f).core.t.pc = s.core.t.pc := rfl
@[simp] theorem State.modComp_core_t_loop (s : State) (f : Completion → Completion) : (s.modComp f).core.t.loop = s.core.t.loop := rfl
@[simp] theorem State.modComp_core_t_ts (s : State) (f : Completion → Completion) : (s.modComp f).core.t.ts = s.core.t.ts := rfl
@[simp] theorem State.modComp_core_t_me0 (s : State) (f : Completion → Completion) : (s.modComp f).core.t.me0 = s.core.t.me0 := rfl
@[simp] theorem State.modComp_core_t_me1 (s : State) (f : Completion → Completion) : (s.modComp f).core.t.me1 = s.core.t.me1 := rfl
@[simp] theorem State.modComp_core_t_ce0 (s : State) (f : Completion → Completion) : (s.modComp f).core.t.ce0 = s.core.t.ce0 := rfl
@[simp] theorem State.modComp_core_t_ce1 (s : State) (f : Completion → Completion) : (s.modComp f).core.t.ce1 = s.core.t.ce1 := rfl
@[simp] theorem State.modComp_core_t_niarb (s : State) (f : Completion → Completion) : (s.modComp f).core.t.niarb = s.core.t.niarb := rfl
@[simp] theorem State.modComp_core_t_comp (s : State) (f : Completion → Completion) : (s.modComp f).core.t.comp = f s.core.t.comp := rfl
@[simp] theorem State.modComp_core_t_sys (s : State) (f : Completion → Completion) : (s.modComp f).core.t.sys = s.core.t.sys := rfl
@[simp] theorem State.modComp_core_t_seg (s : State) (f : Completion → Completion) : (s.modComp f).core.t.seg = s.core.t.seg := rfl
@[simp] theorem State.modComp_core_t_kept (s : State) (f : Completion → Completion) : (s.modComp f).core.t.kept = s.core.t.kept := rfl
@[simp] theorem State.modComp_core_t_streams (s : State) (f : Completion → Completion) : (s.modComp f).core.t.streams = s.core.t.streams := rfl
@[simp] theorem State.modComp_core_t_tokens (s : State) (f : Completion → Completion) : (s.modComp f).core.t.tokens = s.core.t.tokens := rfl
@[simp] theorem State.modComp_core_t_refs (s : State) (f : Completion → Completion) : (s.modComp f).core.t.refs = s.core.t.refs := rfl
@[simp] theorem State.modComp_core_t_spbase (s : State) (f : Completion → Completion) : (s.modComp f).core.t.spbase = s.core.t.spbase := rfl
@[simp] theorem State.modComp_core_t_splen (s : State) (f : Completion → Completion) : (s.modComp f).core.t.splen = s.core.t.splen := rfl
@[simp] theorem State.modComp_core_t_haz (s : State) (f : Completion → Completion) : (s.modComp f).core.t.haz = s.core.t.haz := rfl
@[simp] theorem State.modComp_core_t_sb (s : State) (f : Completion → Completion) : (s.modComp f).core.t.sb = s.core.t.sb := rfl
@[simp] theorem State.modComp_core_t_nextSeq (s : State) (f : Completion → Completion) : (s.modComp f).core.t.nextSeq = s.core.t.nextSeq := rfl
@[simp] theorem State.modComp_core_t_satPend (s : State) (f : Completion → Completion) : (s.modComp f).core.t.satPend = s.core.t.satPend := rfl
@[simp] theorem State.modComp_core_t_regPoison (s : State) (f : Completion → Completion) : (s.modComp f).core.t.regPoison = s.core.t.regPoison := rfl
@[simp] theorem State.modComp_core_t_streamPoison (s : State) (f : Completion → Completion) : (s.modComp f).core.t.streamPoison = s.core.t.streamPoison := rfl

/-! `tick` only moves on to the next free value. -/

@[simp] theorem State.tick_core (s : State) : s.tick.core = s.core := rfl
@[simp] theorem State.tick_cur (s : State) : s.tick.cur = s.cur := rfl
@[simp] theorem State.tick_others (s : State) : s.tick.others = s.others := rfl
@[simp] theorem State.tick_mem (s : State) : s.tick.mem = s.mem := rfl
@[simp] theorem State.tick_sched (s : State) : s.tick.sched = s.sched := rfl
@[simp] theorem State.tick_xlat (s : State) : s.tick.xlat = s.xlat := rfl
@[simp] theorem State.tick_fabric (s : State) : s.tick.fabric = s.fabric := rfl
@[simp] theorem State.tick_colls (s : State) : s.tick.colls = s.colls := rfl
@[simp] theorem State.tick_power (s : State) : s.tick.power = s.power := rfl
@[simp] theorem State.tick_glow (s : State) : s.tick.glow = s.glow := rfl
@[simp] theorem State.tick_mgmt (s : State) : s.tick.mgmt = s.mgmt := rfl
@[simp] theorem State.tick_agenda (s : State) : s.tick.agenda = s.agenda := rfl
@[simp] theorem State.tick_fresh (s : State) : s.tick.fresh = s.fresh + 1 := rfl

/-! Register files. -/

@[simp] theorem fileGet_filePut_self {n : Nat} {α : Type} (f : File n α) (i : BitVec n) (v : α) : fileGet (filePut f i v) i = v := by
  simp [fileGet, filePut]

theorem fileGet_filePut_ne {n : Nat} {α : Type} (f : File n α) (i j : BitVec n) (v : α) (h : j ≠ i) :
    fileGet (filePut f i v) j = fileGet f j := by
  have h' : i.toNat ≠ j.toNat := fun e => h (BitVec.eq_of_toNat_eq e.symm)
  simp [fileGet, filePut, Vector.getElem_set_ne, h']

/-! Sparse maps: what is put is found, and nothing else changes. -/

@[simp] theorem mapGet_nil {α : Type} (d : α) (k : Nat) : mapGet d [] k = d := rfl

theorem mapGet_mapPut_self {α : Type} (d : α) (m : List (Nat × α)) (k : Nat) (v : α) : mapGet d (mapPut m k v) k = v := by
  induction m with
  | nil => simp [mapPut, mapGet]
  | cons e r ih =>
    obtain ⟨j, w⟩ := e
    simp only [mapPut]
    split
    · simp [mapGet]
    · split
      · simp [mapGet]
      · simp [mapGet, *]

theorem mapGet_mapPut_ne {α : Type} (d : α) (m : List (Nat × α)) (k j : Nat) (v : α) (h : j ≠ k) :
    mapGet d (mapPut m k v) j = mapGet d m j := by
  induction m with
  | nil => simp [mapPut, mapGet, h.symm]
  | cons e r ih =>
    obtain ⟨i, w⟩ := e
    simp only [mapPut]
    split
    · simp [mapGet, h.symm]
    · split
      · subst_vars; simp [mapGet, h.symm]
      · simp [mapGet, ih]

/-- The lists of the other cores' turn: giving a core the turn it already has changes nothing. -/
@[simp] theorem State.switchTo_cur (s : State) : s.switchTo s.cur = s := by simp [State.switchTo]

@[simp] theorem State.switchTo_mem (s : State) (n : Nat) : (s.switchTo n).mem = s.mem := by unfold State.switchTo; split <;> rfl

@[simp] theorem State.setCore_mem (s : State) (n : Nat) (c : Core) : (s.setCore n c).mem = s.mem := by unfold State.setCore; split <;> rfl

@[simp] theorem State.getCore_cur (s : State) : s.getCore s.cur = s.core := by simp [State.getCore]

end Sys2Proof.Machine
end

