-- ==== Sys2Proof/Laws/Lanes.lean ====
section
/-! SUPPORT. Vector registers as lanes: what a register built from lanes, a mask and a merge hold in each lane (R12, R30, R95). -/

-- Elaborated in order: the package as one text then needs few threads.
set_option Elab.async false

namespace Sys2Proof.Machine

/-- Digits of a number built from its digits, bit by bit. -/
theorem testBit_digits (n : Nat) (f : α → Nat) (ls : List α) (l k : Nat) (hk : k < n) :
    (ls.foldr (fun x acc => f x % 2 ^ n + 2 ^ n * acc) 0).testBit (n * l + k) = (((ls.map f)[l]?).getD 0).testBit k := by
  induction ls generalizing l with
  | nil => simp
  | cons x r ih =>
    rw [List.foldr_cons, Nat.add_comm, Nat.testBit_two_pow_mul_add _ (Nat.mod_lt _ (by positivity))]
    cases l with
    | zero => simp [hk, Nat.testBit_mod_two_pow]
    | succ l =>
      have h1 : ¬ n * (l + 1) + k < n := by rw [Nat.mul_succ]; omega
      have h2 : n * (l + 1) + k - n = n * l + k := by rw [Nat.mul_succ]; omega
      simp [h1, h2, ih]

/-- A lane of a register, bit by bit. -/
theorem lane_testBit (n : Nat) (v : VecReg) (l k : Nat) (hk : k < n) : (lane n v l).testBit k = v.getLsbD (n * l + k) := by
  simp [lane, BitVec.getLsbD, BitVec.extractLsb'_toNat, Nat.testBit_mod_two_pow, hk, Nat.testBit_shiftRight]

theorem lane_lt (n : Nat) (v : VecReg) (l : Nat) : lane n v l < 2 ^ n := by
  unfold lane; exact (v.extractLsb' (n * l) n).isLt

/-- Two values of n bits with the same bits are equal. -/
theorem eq_of_low_bits {n a b : Nat} (ha : a < 2 ^ n) (hb : b < 2 ^ n) (h : ∀ k < n, a.testBit k = b.testBit k) : a = b := by
  apply Nat.eq_of_testBit_eq
  intro k
  by_cases hk : k < n
  · exact h k hk
  · have h2 : 2 ^ n ≤ 2 ^ k := Nat.pow_le_pow_right (by decide) (by omega)
    rw [Nat.testBit_lt_two_pow (by omega), Nat.testBit_lt_two_pow (by omega)]

/-- A register built from lanes holds, in each, its value modulo 2^n. -/
theorem lane_vecOf (n : Nat) (ls : List Nat) (l : Nat) (h : n * l + n ≤ 2048) : lane n (vecOf n ls) l = (ls[l]?).getD 0 % 2 ^ n := by
  apply eq_of_low_bits (lane_lt _ _ _) (Nat.mod_lt _ (by positivity))
  intro k hk
  have h1 : n * l + k < 2048 := by omega
  have h2 := testBit_digits n (fun x : Nat => x) ls l k hk
  simp only [List.map_id'] at h2
  rw [lane_testBit n _ l k hk]
  simp only [vecOf, BitVec.getLsbD_ofNat, h1, decide_true, Bool.true_and, Nat.testBit_mod_two_pow, hk, h2]

/-- A byte of the mask is all ones or all zeros, as its predicate bit says. -/
theorem byteMask_getLsbD (p : Pred) (i : Nat) (h : i < 2048) : (byteMask p).getLsbD i = p.getLsbD (i / 8) := by
  have h2 := testBit_digits 8 (fun i : Nat => if p.getLsbD i then 255 else 0) (List.range 256) (i / 8) (i % 8) (by omega)
  have e1 : 8 * (i / 8) + i % 8 = i := by omega
  have h3 : i / 8 < 256 := by omega
  have e2 : (fun (x acc : Nat) => (if p.getLsbD x then 255 else 0) % 2 ^ 8 + 2 ^ 8 * acc) =
      fun (x acc : Nat) => (if p.getLsbD x then 255 else 0) + 256 * acc := by
    funext x acc; split <;> norm_num
  rw [e1, e2] at h2
  simp only [byteMask, BitVec.getLsbD_ofNat, h, decide_true, Bool.true_and, h2]
  simp only [List.getElem?_map, List.getElem?_range h3, Option.map_some, Option.getD_some]
  have h8 : i % 8 < 8 := by omega
  cases p.getLsbD (i / 8)
  · simp
  · have : ∀ k < 8, Nat.testBit 255 k = true := by decide
    simp [this _ h8]

/-- A merge holds the new value's bits where the mask is set and the old one's elsewhere. -/
theorem mergeV_getLsbD (old new : VecReg) (m : Pred) (i : Nat) (h : i < 2048) :
    (mergeV old new m).getLsbD i = if m.getLsbD (i / 8) then new.getLsbD i else old.getLsbD i := by
  simp only [mergeV, BitVec.getLsbD_or, BitVec.getLsbD_and, BitVec.getLsbD_not, byteMask_getLsbD m i h, h, decide_true, Bool.true_and]
  cases m.getLsbD (i / 8) <;> simp

/-- A predicate from one bit per element holds that bit in each of the element's byte lanes. -/
theorem predOf_getLsbD (bytes : Nat) (bs : List Bool) (i : Nat) (h : i < 256) (hb : 0 < bytes) :
    (predOf bytes bs).getLsbD i = (bs[i / bytes]?).getD false := by
  have hk : i % bytes < bytes := Nat.mod_lt _ hb
  have h2 := testBit_digits bytes (fun b : Bool => if b then 2 ^ bytes - 1 else 0) bs (i / bytes) (i % bytes) hk
  have e1 : bytes * (i / bytes) + i % bytes = i := Nat.div_add_mod i bytes
  have e2 : (fun (b : Bool) (acc : Nat) => (if b then 2 ^ bytes - 1 else 0) % 2 ^ bytes + 2 ^ bytes * acc) =
      fun (b : Bool) (acc : Nat) => (if b then 2 ^ bytes - 1 else 0) + 2 ^ bytes * acc := by
    funext b acc
    have : 2 ^ bytes - 1 < 2 ^ bytes := Nat.sub_lt (by positivity) (by decide)
    cases b <;> simp [Nat.mod_eq_of_lt this]
  rw [e1, e2] at h2
  simp only [predOf, BitVec.getLsbD_ofNat, h, decide_true, Bool.true_and, h2, List.getElem?_map]
  cases hh : bs[i / bytes]? with
  | none => simp
  | some b =>
    cases b
    · simp
    · simp [Nat.testBit_two_pow_sub_one, hk]

theorem Width.bits_eq (w : Width) : Width.bits w = 8 * Width.bytes w := by cases w <;> rfl
theorem Width.bytes_pos (w : Width) : 0 < Width.bytes w := by cases w <;> decide
theorem Width.lanes_bytes (w : Width) : Width.lanes w * Width.bytes w = 256 := by cases w <;> rfl

/-- A lane lies inside the register. -/
theorem Width.lane_end (w : Width) (l : Nat) (h : l < Width.lanes w) : Width.bits w * l + Width.bits w ≤ 2048 := by
  cases w <;> simp only [Width.bits, Width.lanes] at * <;> omega

/-- Every byte lane of an element has the element's activity. -/
theorem laneMask_getLsbD (w : Width) (g : Pred) (i : Nat) (h : i < 256) : (laneMask w g).getLsbD i = active w g (i / Width.bytes w) := by
  rw [laneMask, predOf_getLsbD _ _ _ h (Width.bytes_pos w)]
  have : i / Width.bytes w < Width.lanes w := by
    cases w <;> simp only [Width.bytes, Width.lanes] at * <;> omega
  simp [List.getElem?_map, List.getElem?_range this]

/-- A lane of a merge under lanes' activity: the new value's where the lane is active, the old one's elsewhere (R30). -/
theorem lane_mergeV (w : Width) (g : Pred) (old new : VecReg) (l : Nat) (h : l < Width.lanes w) :
    lane (Width.bits w) (mergeV old new (laneMask w g)) l = if active w g l then lane (Width.bits w) new l else lane (Width.bits w) old l := by
  have hend := Width.lane_end w l h
  apply eq_of_low_bits (lane_lt _ _ _) (by split <;> exact lane_lt _ _ _)
  intro k hk
  have h1 : Width.bits w * l + k < 2048 := by omega
  have h2 : (Width.bits w * l + k) / 8 < 256 := by omega
  have h3 : (Width.bits w * l + k) / 8 / Width.bytes w = l := by
    cases w <;> simp only [Width.bits, Width.bytes] at * <;> omega
  rw [lane_testBit _ _ _ _ hk, mergeV_getLsbD _ _ _ _ h1, laneMask_getLsbD _ _ _ h2, h3]
  split <;> rw [lane_testBit _ _ _ _ hk]

end Sys2Proof.Machine
end

