-- ==== Sys2Proof/Laws/Memory.lean ====
section
/-! SUPPORT. Memory: every operation keeps the canonical form, and reads answer what was written. -/

-- Elaborated in order: the package as one text then needs few threads.
set_option Elab.async false

namespace Sys2Proof.Machine

/-! ### The canonical form -/

/-- The canonical form, said of the list as a whole. -/
theorem cellsWf_iff (m : List Host.Cell) :
    cellsWf m = true ↔ m.Pairwise (fun a b => a.1 < b.1) ∧ ∀ e ∈ m, e.2 ≠ 0 := by
  induction m with
  | nil => simp [cellsWf]
  | cons e r ih =>
    obtain ⟨a, v⟩ := e
    cases r with
    | nil => simp [cellsWf]
    | cons e' r' =>
      obtain ⟨b, w⟩ := e'
      simp only [cellsWf, Bool.and_eq_true, decide_eq_true_eq, ih, List.pairwise_cons, List.mem_cons, forall_eq_or_imp]
      constructor
      · rintro ⟨⟨h1, h2⟩, ⟨h3, h4⟩, h5, h6⟩
        exact ⟨⟨⟨h1, fun x hx => Nat.lt_trans h1 (h3 x hx)⟩, h3, h4⟩, h2, h5, h6⟩
      · rintro ⟨⟨⟨h1, _⟩, h3, h4⟩, h2, h5, h6⟩
        exact ⟨⟨h1, h2⟩, ⟨h3, h4⟩, h5, h6⟩

theorem mem_mapPut {α : Type} (m : List (Nat × α)) (k : Nat) (v : α) (e : Nat × α) (h : e ∈ mapPut m k v) : e = (k, v) ∨ e ∈ m := by
  induction m with
  | nil => simpa [mapPut] using h
  | cons q r ih =>
    obtain ⟨j, w⟩ := q
    simp only [mapPut] at h
    split at h
    · simpa using h
    · split at h
      · rcases List.mem_cons.1 h with h | h <;> simp [h]
      · rcases List.mem_cons.1 h with h | h
        · simp [h]
        · rcases ih h with h | h <;> simp [h]

theorem sorted_mapPut {α : Type} (m : List (Nat × α)) (k : Nat) (v : α) (h : m.Pairwise (fun a b => a.1 < b.1)) :
    (mapPut m k v).Pairwise (fun a b => a.1 < b.1) := by
  induction m with
  | nil => simp [mapPut]
  | cons q r ih =>
    obtain ⟨j, w⟩ := q
    obtain ⟨h1, h2⟩ := List.pairwise_cons.1 h
    simp only [mapPut]
    split
    · refine List.pairwise_cons.2 ⟨?_, h⟩
      intro e he
      rcases List.mem_cons.1 he with rfl | he
      · assumption
      · have := h1 e he; simp only at *; omega
    · split
      · subst_vars; exact List.pairwise_cons.2 ⟨h1, h2⟩
      · refine List.pairwise_cons.2 ⟨?_, ih h2⟩
        intro e he
        rcases mem_mapPut r k v e he with rfl | he
        · simp only; omega
        · exact h1 e he

/-- Setting a byte keeps the canonical form. -/
theorem cellsWf_mapSet (m : List Host.Cell) (k : Nat) (v : Byte) (h : cellsWf m = true) : cellsWf (mapSet 0 m k v) = true := by
  rw [cellsWf_iff] at h ⊢
  unfold mapSet
  split
  · exact ⟨h.1.filter _, fun e he => h.2 e (List.mem_of_mem_filter he)⟩
  · refine ⟨sorted_mapPut m k v h.1, fun e he => ?_⟩
    rcases mem_mapPut m k v e he with rfl | he
    · assumption
    · exact h.2 e he

theorem cellsWf_filter (m : List Host.Cell) (p : Host.Cell → Bool) (h : cellsWf m = true) : cellsWf (m.filter p) = true := by
  rw [cellsWf_iff] at h ⊢
  exact ⟨h.1.filter _, fun e he => h.2 e (List.mem_of_mem_filter he)⟩

theorem Mem.wf_rekey (m : Mem) (slot pa : Nat) (h : m.wf = true) : (m.rekey slot pa).wf = true := by
  unfold Mem.rekey
  split
  · exact h
  · have : ∀ (l : List Nat) (c : List Host.Cell), cellsWf c = true →
        cellsWf (l.foldl (fun c i => mapSet 0 c (pa / 64 * 64 + i) (m.byte slot (pa / 64 * 64 + i))) c) = true := by
      intro l
      induction l with
      | nil => intro c hc; exact hc
      | cons i r ih => intro c hc; exact ih _ (cellsWf_mapSet c _ _ hc)
    exact this (List.range 64) m.cells h

/-- Writing a byte keeps the canonical form. -/
theorem Mem.wf_putByte (m : Mem) (slot pa : Nat) (v : Byte) (h : m.wf = true) : (m.putByte slot pa v).wf = true :=
  cellsWf_mapSet _ _ _ (Mem.wf_rekey m slot pa h)

theorem Mem.wf_putBytes (m : Mem) (slot pa : Nat) (bs : List Byte) (h : m.wf = true) : (m.putBytes slot pa bs).wf = true := by
  induction bs generalizing m pa with
  | nil => exact h
  | cons b r ih => exact ih _ _ (Mem.wf_putByte m slot pa b h)

theorem Mem.wf_storeFrom (m : Mem) (slot pa n a : Nat) (bs : List Byte) (h : m.wf = true) : (m.storeFrom slot pa n a bs).wf = true := by
  induction bs generalizing m a with
  | nil => exact h
  | cons b r ih =>
    simp only [Mem.storeFrom]
    split
    · exact ih _ _ h
    · exact ih _ _ (Mem.wf_putByte m slot a b h)

/-- A write at a home keeps the canonical form. -/
theorem Mem.wf_store (m : Mem) (slot pa : Nat) (bs : List Byte) (h : m.wf = true) : (m.store slot pa bs).wf = true := by
  unfold Mem.store
  split
  · exact Mem.wf_putBytes m slot pa bs h
  · exact Mem.wf_storeFrom m slot pa bs.length pa bs h

theorem Mem.wf_putBut (m : Mem) (bad : List Nat) (slot a : Nat) (bs : List Byte) (h : m.wf = true) : (m.putBut bad slot a bs).wf = true := by
  induction bs generalizing m a with
  | nil => exact h
  | cons b r ih =>
    simp only [Mem.putBut]
    split
    · exact ih _ _ h
    · exact ih _ _ (Mem.wf_putByte m slot a b h)

/-- Writes at a home that take effect together keep the canonical form. -/
theorem Mem.wf_storeAll (m : Mem) (slot : Nat) (ws : List (Nat × List Byte)) (h : m.wf = true) : (m.storeAll slot ws).wf = true := by
  have all : ∀ (bad : List Nat) (l : List (Nat × List Byte)) (m : Mem), m.wf = true →
      (l.foldl (fun m r => m.putBut bad slot r.1 r.2) m).wf = true := by
    intro bad l
    induction l with
    | nil => intro m hm; exact hm
    | cons w r ih => intro m hm; exact ih _ (Mem.wf_putBut m bad slot w.1 w.2 hm)
  unfold Mem.storeAll Mem.wf
  exact all _ ws m h

/-- Writes at a home one after another keep the canonical form. -/
theorem Mem.wf_foldl_store (m : Mem) (key base : Nat) (rs : List (Nat × List Byte)) (h : m.wf = true) :
    (rs.foldl (fun m r => m.store key (base + r.1) r.2) m).wf = true := by
  induction rs generalizing m with
  | nil => exact h
  | cons r rs ih => exact ih _ (Mem.wf_store m key _ _ h)

/-! ### Reading what was written -/

theorem mapGet_filter_ne {α : Type} (d : α) (m : List (Nat × α)) (k j : Nat) (h : j ≠ k) :
    mapGet d (m.filter fun e => !decide (e.1 = k)) j = mapGet d m j := by
  induction m with
  | nil => rfl
  | cons e r ih =>
    obtain ⟨i, w⟩ := e
    by_cases hi : i = k
    · subst hi; simp [mapGet, ih, h.symm]
    · simp [hi, mapGet, ih]

theorem mapGet_filter_self {α : Type} (d : α) (m : List (Nat × α)) (k : Nat) : mapGet d (m.filter fun e => !decide (e.1 = k)) k = d := by
  induction m with
  | nil => rfl
  | cons e r ih =>
    obtain ⟨i, w⟩ := e
    by_cases hi : i = k
    · simp [hi, ih]
    · simp [hi, mapGet, ih]

/-- A key that is set holds its value. -/
@[simp] theorem mapGet_mapSet_self {α : Type} [DecidableEq α] (d : α) (m : List (Nat × α)) (k : Nat) (v : α) : mapGet d (mapSet d m k v) k = v := by
  unfold mapSet
  split
  · subst_vars; exact mapGet_filter_self _ m k
  · exact mapGet_mapPut_self d m k v

/-- Setting a key leaves every other key alone. -/
theorem mapGet_mapSet_ne {α : Type} [DecidableEq α] (d : α) (m : List (Nat × α)) (k j : Nat) (v : α) (h : j ≠ k) :
    mapGet d (mapSet d m k v) j = mapGet d m j := by
  unfold mapSet
  split
  · exact mapGet_filter_ne d m k j h
  · exact mapGet_mapPut_ne d m k j v h

/-- Bringing a line under its key changes nothing that the same slot reads. -/
theorem Mem.keyAt_rekey (m : Mem) (slot pa s' b : Nat) : (m.rekey slot pa).keyAt s' b = m.keyAt s' b := by
  unfold Mem.rekey; split <;> rfl

theorem mapGet_setLine (f : Nat → Byte) (base : Nat) (l : List Nat) (c : List Host.Cell) (b : Nat) :
    mapGet 0 (l.foldl (fun c i => mapSet 0 c (base + i) (f (base + i))) c) b =
      if b ∈ l.map (base + ·) then f b else mapGet 0 c b := by
  induction l generalizing c with
  | nil => simp
  | cons i r ih =>
    rw [List.foldl_cons, ih, List.map_cons]
    by_cases hr : b ∈ r.map (base + ·)
    · rw [if_pos hr, if_pos (List.mem_cons_of_mem _ hr)]
    · rw [if_neg hr]
      by_cases hb : b = base + i
      · subst hb; simp
      · rw [mapGet_mapSet_ne _ _ _ _ _ hb, if_neg]
        intro h
        rcases List.mem_cons.1 h with h | h
        · exact hb h
        · exact hr h

theorem Mem.byte_congr_line (m : Mem) (slot a b : Nat) (h : a / 64 = b / 64) : m.keyAt slot a = m.keyAt slot b := by
  have h1 : (a < ringBase) ↔ (b < ringBase) := by unfold ringBase; omega
  have h2 : (a < spBase) ↔ (b < spBase) := by unfold spBase; omega
  unfold Mem.keyAt
  by_cases ha : a < ringBase
  · simp [ha, h1.1 ha]
  · have hb : ¬ b < ringBase := fun hb => ha (h1.2 hb)
    by_cases hs : a < spBase
    · simp [ha, hb, hs, h2.1 hs]
    · have hs' : ¬ b < spBase := fun hs' => hs (h2.2 hs')
      have : (a - spBase) / 0x10_0000 = (b - spBase) / 0x10_0000 := by unfold spBase at *; omega
      simp [ha, hb, hs, hs', this]

theorem Mem.byte_rekey (m : Mem) (slot pa b : Nat) : (m.rekey slot pa).byte slot b = m.byte slot b := by
  by_cases hk : mapGet 0 m.lineKey (pa / 64) = m.keyAt slot pa
  · simp [Mem.rekey, hk]
  · have hkey := Mem.keyAt_rekey m slot pa slot b
    by_cases hl : b / 64 = pa / 64
    · have hka := Mem.byte_congr_line m slot b pa hl
      have hex : b ∈ (List.range 64).map (pa / 64 * 64 + ·) := by
        simp only [List.mem_map, List.mem_range]
        exact ⟨b % 64, by omega, by omega⟩
      have hcell : mapGet 0 (m.rekey slot pa).cells b = m.byte slot b := by
        simp only [Mem.rekey, if_neg hk]
        rw [mapGet_setLine (f := m.byte slot)]
        rw [if_pos hex]
      have hlk : mapGet 0 (m.rekey slot pa).lineKey (b / 64) = m.keyAt slot pa := by simp [Mem.rekey, hk, hl]
      have : (m.rekey slot pa).byte slot b = mapGet 0 (m.rekey slot pa).cells b := by
        rw [Mem.byte, hkey, hlk, if_pos hka.symm]
      rw [this, hcell]
    · have hex : ¬ b ∈ (List.range 64).map (pa / 64 * 64 + ·) := by
        simp only [List.mem_map, List.mem_range]
        rintro ⟨i, hi, hb⟩
        omega
      have hcell : mapGet 0 (m.rekey slot pa).cells b = mapGet 0 m.cells b := by
        simp only [Mem.rekey, if_neg hk]
        rw [mapGet_setLine (f := m.byte slot), if_neg hex]
      have hlk : mapGet 0 (m.rekey slot pa).lineKey (b / 64) = mapGet 0 m.lineKey (b / 64) := by
        simp only [Mem.rekey, if_neg hk]
        exact mapGet_mapSet_ne _ _ _ _ _ hl
      rw [Mem.byte, Mem.byte, hkey, hlk, hcell]

theorem Mem.lineKey_rekey (m : Mem) (slot pa : Nat) : mapGet 0 (m.rekey slot pa).lineKey (pa / 64) = m.keyAt slot pa := by
  unfold Mem.rekey
  split
  · assumption
  · simp

/-- READ AFTER WRITE: the byte written reads as what was written, and every other byte as before. -/
theorem Mem.byte_putByte (m : Mem) (slot a b : Nat) (v : Byte) :
    (m.putByte slot a v).byte slot b = if b = a then v else m.byte slot b := by
  have hkey : (m.putByte slot a v).keyAt slot b = m.keyAt slot b := Mem.keyAt_rekey m slot a slot b
  by_cases h : b = a
  · subst h
    have : mapGet 0 (m.putByte slot b v).lineKey (b / 64) = (m.putByte slot b v).keyAt slot b := by
      rw [hkey]; exact Mem.lineKey_rekey m slot b
    rw [Mem.byte, if_pos this, if_pos rfl]
    simp [Mem.putByte]
  · rw [if_neg h, ← Mem.byte_rekey m slot a b]
    have hk : (m.putByte slot a v).keyAt slot b = (m.rekey slot a).keyAt slot b := rfl
    have hl : (m.putByte slot a v).lineKey = (m.rekey slot a).lineKey := rfl
    have hc : mapGet 0 (m.putByte slot a v).cells b = mapGet 0 (m.rekey slot a).cells b := mapGet_mapSet_ne _ _ _ _ _ h
    rw [Mem.byte, Mem.byte, hk, hl, hc]

/-- Bytes outside those written read as before, those written as what was written. -/
theorem Mem.byte_putBytes (m : Mem) (slot a b : Nat) (bs : List Byte) :
    (m.putBytes slot a bs).byte slot b = if a ≤ b ∧ b < a + bs.length then bs.getD (b - a) 0 else m.byte slot b := by
  induction bs generalizing m a with
  | nil =>
    have : ¬ (a ≤ b ∧ b < a + ([] : List Byte).length) := by simp only [List.length_nil]; omega
    rw [if_neg this]; rfl
  | cons v r ih =>
    simp only [Mem.putBytes, ih, Mem.byte_putByte, List.length_cons]
    by_cases h : b = a
    · subst h; simp
    · by_cases h1 : a + 1 ≤ b ∧ b < a + 1 + r.length
      · have e : b - a = (b - (a + 1)) + 1 := by omega
        have h2 : a ≤ b ∧ b < a + (r.length + 1) := by omega
        simp only [h1, h2, and_self, if_true, e, List.getD_cons_succ]
      · have h2 : ¬ (a ≤ b ∧ b < a + (r.length + 1)) := by omega
        simp only [if_neg h1, if_neg h2, if_neg h]

@[simp] theorem Mem.poison_rekey (m : Mem) (slot pa : Nat) : (m.rekey slot pa).poison = m.poison := by unfold Mem.rekey; split <;> rfl

@[simp] theorem Mem.poison_putByte (m : Mem) (slot pa : Nat) (v : Byte) : (m.putByte slot pa v).poison = m.poison := Mem.poison_rekey m slot pa

@[simp] theorem Mem.poison_putBytes (m : Mem) (slot pa : Nat) (bs : List Byte) : (m.putBytes slot pa bs).poison = m.poison := by
  induction bs generalizing m pa with
  | nil => rfl
  | cons b r ih => rw [Mem.putBytes, ih, Mem.poison_putByte]

/-- A write to memory without poison puts its bytes and nothing else. -/
theorem Mem.store_of_clean (m : Mem) (slot pa : Nat) (bs : List Byte) (h : m.poison = []) : m.store slot pa bs = m.putBytes slot pa bs := by
  have hp : (m.putBytes slot pa bs).poison = [] := by rw [Mem.poison_putBytes, h]
  have : ({ m.putBytes slot pa bs with poison := [] } : Mem) = m.putBytes slot pa bs := by
    conv_rhs => rw [show m.putBytes slot pa bs = { m.putBytes slot pa bs with poison := (m.putBytes slot pa bs).poison } from rfl, hp]
  simp [Mem.store, h, this]

/-- A write to memory without poison: every byte outside reads as before. -/
theorem Mem.byte_store_of_clean (m : Mem) (slot pa b : Nat) (bs : List Byte) (h : m.poison = []) :
    (m.store slot pa bs).byte slot b = if pa ≤ b ∧ b < pa + bs.length then bs.getD (b - pa) 0 else m.byte slot b := by
  rw [Mem.store_of_clean m slot pa bs h, Mem.byte_putBytes]

end Sys2Proof.Machine
end

