-- ==== Sys2Proof/Laws/Ops.lean ====
section
/-! SUPPORT. What each shared operation on registers does, said once (R10 to R12, R30, R58, R88). -/

-- Elaborated in order: the package as one text then needs few threads.
set_option Elab.async false

namespace Sys2Proof.Machine

/-- New keys and the zeroing of the SRAM keep the canonical form. -/
theorem Mem.wf_newKeys (m : Mem) (seed : Nat) (h : m.wf = true) : (m.newKeys seed).wf = true := h
theorem Mem.wf_clearSram (m : Mem) (h : m.wf = true) : m.clearSram.wf = true := cellsWf_filter m.cells _ h

/-- A new generation of ring memory's contents keeps the canonical form. -/
theorem Mem.wf_newRing (m : Mem) (h : m.wf = true) : m.newRing.wf = true := h

theorem SameMemory.of_mem {s t : State} (h : t.mem = s.mem) : SameMemory s t := fun slot pa => by simp [State.readByte, h]

/-! ### Scalar registers -/

@[simp] theorem State.rdX_zero (s : State) : s.rdX 0#6 = 0 := rfl
@[simp] theorem State.xNow_zero (s : State) : s.xNow 0#6 = 0 := rfl
@[simp] theorem State.pNow_zero (s : State) : s.pNow 0#4 = BitVec.allOnes 256 := rfl
@[simp] theorem State.setX_zero (s : State) (v : Word) (n : Nat) : s.setX 0#6 v n = s := rfl
@[simp] theorem State.setP_zero (s : State) (v : Pred) (n : Nat) : s.setP 0#4 v n = s := rfl

@[simp] theorem State.setX_mem (s : State) (r : BitVec 6) (v : Word) (n : Nat) : (s.setX r v n).mem = s.mem := by
  unfold State.setX; split <;> rfl

@[simp] theorem State.setX_bundle (s : State) (r : BitVec 6) (v : Word) (n : Nat) : (s.setX r v n).core.bundle = s.core.bundle := by
  unfold State.setX; split <;> rfl

theorem State.xNow_setX (s : State) (r q : BitVec 6) (v : Word) (n : Nat) :
    (s.setX r v n).xNow q = if q = 0 then 0 else if q = r then v else s.xNow q := by
  by_cases hq : q = 0#6
  · subst hq; simp
  · by_cases hr : r = 0#6
    · subst hr; simp [hq]
    · by_cases h : q = r
      · subst h; simp [State.xNow, State.setX, hr]
      · simp [State.xNow, State.setX, hr, hq, h, fileGet_filePut_ne _ _ _ _ h]

/-- Nothing changes. -/
theorem OnlyX.refl (ds : List (BitVec 6)) (s : State) : OnlyX ds s s := ⟨rfl, rfl, fun _ _ => ⟨rfl, rfl⟩, SameMemory.of_mem rfl⟩

/-- WRITING A SCALAR REGISTER: the register holds the value, with its latency, and nothing else changes. -/
theorem State.setX_gives (s : State) (d : BitVec 6) (v : Word) (n : Nat) : GivesX d v n s (s.setX d v n) := by
  refine ⟨?_, ?_, ?_⟩
  · by_cases hd : d = 0#6
    · subst hd; simp
    · simp [State.xNow_setX, hd]
  · intro hd
    have hd' : ¬ d = 0#6 := hd
    simp [State.setX, hd']
  · by_cases hd : d = 0#6
    · subst hd; exact OnlyX.refl _ _
    · refine ⟨by simp [State.setX, hd, State.modT], by simp [State.setX, hd], ?_, SameMemory.of_mem (by simp)⟩
      intro r hr
      have hr' : r ≠ d := by simpa using hr
      refine ⟨?_, by simp [State.setX, hd, fileGet_filePut_ne _ _ _ _ hr']⟩
      rw [State.xNow_setX]
      by_cases h0 : r = 0#6
      · subst h0; rfl
      · simp [h0, hr']

/-- A guarded scalar result. -/
theorem State.putX_result (s : State) (g : BitVec 4) (d : BitVec 6) (v : Word) (n : Nat) : ResultX g d v n s (s.putX g d v n) := by
  unfold ResultX
  split
  · exact ⟨_, by simp [State.putX, State.when, *], State.setX_gives s d v n⟩
  · simp [State.putX, State.when, *]

/-! ### Predicate registers -/

@[simp] theorem State.setP_mem (s : State) (r : BitVec 4) (v : Pred) (n : Nat) : (s.setP r v n).mem = s.mem := by
  unfold State.setP; split <;> rfl

theorem State.pNow_setP (s : State) (r q : BitVec 4) (v : Pred) (n : Nat) :
    (s.setP r v n).pNow q = if q = 0 then BitVec.allOnes 256 else if q = r then v else s.pNow q := by
  by_cases hq : q = 0#4
  · subst hq; simp
  · by_cases hr : r = 0#4
    · subst hr; simp [hq]
    · by_cases h : q = r
      · subst h; simp [State.pNow, State.setP, hr]
      · simp [State.pNow, State.setP, hr, hq, h, fileGet_filePut_ne _ _ _ _ h]

/-- WRITING A PREDICATE: it holds the value from the next bundle on, and nothing else changes. -/
theorem State.setP_gives (s : State) (p : BitVec 4) (v : Pred) : GivesP p v s (s.setP p v 1) := by
  refine ⟨?_, ?_, ?_⟩
  · by_cases hd : p = 0#4
    · subst hd; simp
    · simp [State.pNow_setP, hd]
  · intro hd
    have hd' : ¬ p = 0#4 := hd
    simp [State.setP, hd']
  · by_cases hd : p = 0#4
    · subst hd; exact ⟨rfl, rfl, fun _ _ => ⟨rfl, rfl⟩, SameMemory.of_mem rfl⟩
    · refine ⟨by simp [State.setP, hd, State.modT], by simp [State.setP, hd], ?_, SameMemory.of_mem (by simp)⟩
      intro r hr
      refine ⟨?_, by simp [State.setP, hd, fileGet_filePut_ne _ _ _ _ hr]⟩
      rw [State.pNow_setP]
      by_cases h0 : r = 0#4
      · subst h0; rfl
      · simp [h0, hr]

/-- A guarded predicate result. -/
theorem State.putP_result (s : State) (g p : BitVec 4) (v : Pred) : ResultP g p v s (s.putP g p v) := by
  unfold ResultP
  split
  · exact ⟨_, by simp [State.putP, State.when, *], State.setP_gives s p v⟩
  · simp [State.putP, State.when, *]

/-! ### Vector registers -/

/-- Different names are different physical registers under any rotation (R11). -/
theorem physV_inj (vrb : BitVec 4) (a b : BitVec 5) (h : physV vrb a = physV vrb b) : a = b := by
  apply BitVec.eq_of_toNat_eq
  have ha := a.isLt
  have hb := b.isLt
  have hv := vrb.isLt
  have h' := congrArg BitVec.toNat h
  unfold physV at h'
  split at h' <;> split at h' <;> (try simp only [BitVec.toNat_ofNat] at h') <;> omega

@[simp] theorem State.setV_mem (s : State) (r : BitVec 5) (v : VecReg) (n : Nat) : (s.setV r v n).mem = s.mem := rfl

@[simp] theorem State.curV_setV_self (s : State) (d : BitVec 5) (v : VecReg) (n : Nat) : (s.setV d v n).curV d = v := by
  simp [State.curV, State.setV]

theorem State.curV_setV_ne (s : State) (d r : BitVec 5) (v : VecReg) (n : Nat) (h : r ≠ d) : (s.setV d v n).curV r = s.curV r := by
  have : physV s.core.old.vrb r ≠ physV s.core.old.vrb d := fun e => h (physV_inj _ _ _ e)
  simp [State.curV, State.setV, fileGet_filePut_ne _ _ _ _ this]

@[simp] theorem State.curV_renewV (s : State) (d r : BitVec 5) (m : Pred) : (s.renewV d m).curV r = s.curV r := rfl

/-- A write only takes poison away, and only from words of its own register. -/
theorem mem_notRenewed (ph : BitVec 5) (m : Pred) (l : List Nat) (w : Nat) :
    (w ∈ notRenewed ph m l → w ∈ l) ∧ (w ∈ l → w / 32 ≠ ph.toNat → w ∈ notRenewed ph m l) := by
  simp +contextual [notRenewed]

theorem OnlyV.refl (d : BitVec 5) (s : State) : OnlyV d s s := ⟨rfl, rfl, fun _ _ => rfl, SameMemory.of_mem rfl, fun _ => ⟨id, fun h _ => h⟩⟩

/-- WRITING A VECTOR REGISTER: the register, when it lands, the poison of the words it replaces, and nothing else. -/
theorem State.setV_only (s : State) (d : BitVec 5) (v : VecReg) (n : Nat) (m : Pred) : OnlyV d s ((s.setV d v n).renewV d m) :=
  ⟨rfl, rfl, fun r hr => State.curV_setV_ne s d r v n hr, SameMemory.of_mem rfl, fun w => mem_notRenewed _ m _ w⟩

/-- No lane is active: the mask is empty. -/
theorem laneMask_eq_zero (w : Width) (g : Pred) (h : ∀ l < Width.lanes w, active w g l = false) : laneMask w g = 0 := by
  apply BitVec.eq_of_getLsbD_eq
  intro i hi
  rw [laneMask_getLsbD w g i hi, h]
  · simp
  · cases w <;> simp only [Width.bytes, Width.lanes] at * <;> omega

/-- WRITING THE ACTIVE LANES of a vector register (R30). -/
theorem State.putV_lanes (s : State) (w : Width) (g : Pred) (d : BitVec 5) (v : VecReg) (n l : Nat) (h : l < Width.lanes w) :
    lane (Width.bits w) ((s.putV (laneMask w g) d v n).curV d) l =
      if active w g l then lane (Width.bits w) v l else lane (Width.bits w) (s.curV d) l := by
  unfold State.putV
  split
  · rename_i hm
    have ha : active w g l = false := by
      have hi : Width.bytes w * l < 256 := by cases w <;> simp only [Width.bytes, Width.lanes] at * <;> omega
      have := laneMask_getLsbD w g (Width.bytes w * l) hi
      rw [Nat.mul_div_cancel_left _ (Width.bytes_pos w)] at this
      rw [← this, hm]; simp
    simp [ha]
  · rw [State.curV_renewV, State.curV_setV_self, lane_mergeV w g _ _ l h]

theorem State.putV_only (s : State) (m : Pred) (d : BitVec 5) (v : VecReg) (n : Nat) : OnlyV d s (s.putV m d v n) := by
  unfold State.putV
  split
  · exact OnlyV.refl d s
  · exact State.setV_only s d _ n m

/-- A vector result from each lane's value. -/
theorem State.putLanes_result (s : State) (g : BitVec 4) (w : Width) (d : BitVec 5) (n : Nat) (f : Nat → Nat) :
    ResultV g w d f n s (s.putLanes g w d n f) := by
  refine ⟨_, rfl, ?_, ?_, State.putV_only _ _ _ _ _⟩
  · intro l hl
    rw [State.lanesOn, State.putV_lanes s w _ d _ n l hl]
    have hend := Width.lane_end w l hl
    have hv : lane (Width.bits w) (vecOf (Width.bits w) ((List.range (Width.lanes w)).map f)) l = f l % 2 ^ Width.bits w := by
      rw [lane_vecOf _ _ _ hend]
      simp [List.getElem?_map, List.getElem?_range hl]
    rw [hv]
  · rintro ⟨l, hl, ha⟩
    have : ¬ s.lanesOn g w = 0#256 := by
      intro hm
      have hi : Width.bytes w * l < 256 := by cases w <;> simp only [Width.bytes, Width.lanes] at * <;> omega
      have h2 := laneMask_getLsbD w (s.rdP g) (Width.bytes w * l) hi
      rw [Nat.mul_div_cancel_left _ (Width.bytes_pos w), ha] at h2
      rw [State.lanesOn] at hm
      rw [hm] at h2; simp at h2
    simp [State.putV, this, State.setV, State.renewV, State.modT]

/-! ### Guards and waits -/

/-- With lane 0 of its guard clear, a guarded instruction does nothing (R30). -/
theorem State.when_off (s : State) (g : BitVec 4) (f : State → State) (h : s.guard g = false) : s.when g f = .next s := by
  simp [State.when, h]

theorem State.when_on (s : State) (g : BitVec 4) (f : State → State) (h : s.guard g = true) : s.when g f = .next (f s) := by
  simp [State.when, h]

/-- A bundle that waits: one stall cycle, and nothing else (R88). -/
@[simp] theorem State.hold_held (s : State) : s.hold.core.bundle.held = true := rfl
@[simp] theorem State.hold_t (s : State) : s.hold.core.t = s.core.t := rfl
@[simp] theorem State.hold_mem (s : State) : s.hold.mem = s.mem := rfl
@[simp] theorem State.waitHere_held (s : State) : s.waitHere.core.bundle.held = true := rfl
@[simp] theorem State.waitHere_t (s : State) : s.waitHere.core.t = s.core.t := rfl
@[simp] theorem State.waitHere_mem (s : State) : s.waitHere.mem = s.mem := rfl

end Sys2Proof.Machine
end

