-- ==== Sys2Proof/Laws/PerInstr.lean ====
section
/-! SUPPORT. Family RoundTrip: every slot word and header that the encoder writes is read back as the same instruction, one lemma for each constructor (R25, R27, R35 to R44). -/

-- Elaborated in order: the package as one text then needs few threads.
set_option Elab.async false

namespace Sys2Proof.Laws.RoundTrip

open Sys2Proof

/-- What the fields of a word say, before any limit is checked: a header without slots is an empty bundle, any other word a slot word. -/
def readFields (w : Code) : Option Instr := if Code.cls w = 0xF#4 then some (nopOf (headerFields w)) else readSlot w

/-- The word of the instruction, if it has one, reads back as it. -/
def Statement (i : Instr) : Prop := ∀ w, encode i = some w → readFields w = some i

theorem of_slot {i : Instr} {v : Code} (he : encode i = some v) (hc : Code.cls v ≠ 0xF#4) (hr : readSlot v = some i) : Statement i := by
  intro w h
  obtain rfl : v = w := by simpa [he] using h
  simp [readFields, hc, hr]

theorem of_word {i : Instr} {v : Code} (he : encode i = some v) (hr : readFields v = some i) : Statement i := by
  intro w h
  obtain rfl : v = w := by simpa [he] using h
  exact hr

/-- An event has no word. -/
theorem of_event {i : Instr} (he : encode i = none) : Statement i := by
  intro w h
  simp [he] at h

theorem nop (plop : BitVec 3) (pd pa pb : BitVec 4) (wait : BitVec 3) (rp : Bool) : Statement (.nop plop pd pa pb wait rp) := by
  refine of_word (v := headerWord (Header.mk 0#6 plop pd pa pb wait rp)) rfl ?_
  have hw : headerWord (Header.mk 0#6 plop pd pa pb wait rp) = (0xF#4 ++ 0x0#6 ++ plop ++ pd ++ pa ++ pb ++ wait ++ flag rp ++ 0#3 : BitVec 32) := rfl
  rw [hw]
  have hc : Code.cls (0xF#4 ++ 0x0#6 ++ plop ++ pd ++ pa ++ pb ++ wait ++ flag rp ++ 0#3 : BitVec 32) = 0xF#4 := header_cls 0x0#6 plop pd pa pb wait (flag rp)
  have hb : (0xF#4 ++ 0x0#6 ++ plop ++ pd ++ pa ++ pb ++ wait ++ flag rp ++ 0#3 : BitVec 32).getLsbD 3 = rp := by
    have := congrArg (fun v : BitVec 1 => v.getLsbD 0) (header_rp 0x0#6 plop pd pa pb wait (flag rp))
    simp only [BitVec.getLsbD_extractLsb'] at this
    simp only [Nat.zero_lt_one, decide_true, Bool.true_and, Nat.add_zero] at this
    rw [this]; cases rp <;> rfl
  simp only [readFields, hc, if_true, headerFields, hb, header_plop, header_pd, header_pa, header_pb, header_wait, nopOf]

theorem add (g : BitVec 4) (d : BitVec 6) (a : BitVec 6) (b : BitVec 6) : Statement (.add g d a b) :=
  of_slot rfl (by rw [general_cls]; decide) (by rw [readSlot_class0]; simp [readClass0])
theorem sub (g : BitVec 4) (d : BitVec 6) (a : BitVec 6) (b : BitVec 6) : Statement (.sub g d a b) :=
  of_slot rfl (by rw [general_cls]; decide) (by rw [readSlot_class0]; simp [readClass0])
theorem and (g : BitVec 4) (d : BitVec 6) (a : BitVec 6) (b : BitVec 6) : Statement (.and g d a b) :=
  of_slot rfl (by rw [general_cls]; decide) (by rw [readSlot_class0]; simp [readClass0])
theorem or (g : BitVec 4) (d : BitVec 6) (a : BitVec 6) (b : BitVec 6) : Statement (.or g d a b) :=
  of_slot rfl (by rw [general_cls]; decide) (by rw [readSlot_class0]; simp [readClass0])
theorem xor (g : BitVec 4) (d : BitVec 6) (a : BitVec 6) (b : BitVec 6) : Statement (.xor g d a b) :=
  of_slot rfl (by rw [general_cls]; decide) (by rw [readSlot_class0]; simp [readClass0])
theorem andn (g : BitVec 4) (d : BitVec 6) (a : BitVec 6) (b : BitVec 6) : Statement (.andn g d a b) :=
  of_slot rfl (by rw [general_cls]; decide) (by rw [readSlot_class0]; simp [readClass0])
theorem orn (g : BitVec 4) (d : BitVec 6) (a : BitVec 6) (b : BitVec 6) : Statement (.orn g d a b) :=
  of_slot rfl (by rw [general_cls]; decide) (by rw [readSlot_class0]; simp [readClass0])
theorem sll (g : BitVec 4) (d : BitVec 6) (a : BitVec 6) (b : BitVec 6) : Statement (.sll g d a b) :=
  of_slot rfl (by rw [general_cls]; decide) (by rw [readSlot_class0]; simp [readClass0])
theorem srl (g : BitVec 4) (d : BitVec 6) (a : BitVec 6) (b : BitVec 6) : Statement (.srl g d a b) :=
  of_slot rfl (by rw [general_cls]; decide) (by rw [readSlot_class0]; simp [readClass0])
theorem sra (g : BitVec 4) (d : BitVec 6) (a : BitVec 6) (b : BitVec 6) : Statement (.sra g d a b) :=
  of_slot rfl (by rw [general_cls]; decide) (by rw [readSlot_class0]; simp [readClass0])
theorem rol (g : BitVec 4) (d : BitVec 6) (a : BitVec 6) (b : BitVec 6) : Statement (.rol g d a b) :=
  of_slot rfl (by rw [general_cls]; decide) (by rw [readSlot_class0]; simp [readClass0])
theorem ror (g : BitVec 4) (d : BitVec 6) (a : BitVec 6) (b : BitVec 6) : Statement (.ror g d a b) :=
  of_slot rfl (by rw [general_cls]; decide) (by rw [readSlot_class0]; simp [readClass0])
theorem mul (g : BitVec 4) (d : BitVec 6) (a : BitVec 6) (b : BitVec 6) : Statement (.mul g d a b) :=
  of_slot rfl (by rw [general_cls]; decide) (by rw [readSlot_class0]; simp [readClass0])
theorem mulh (g : BitVec 4) (d : BitVec 6) (a : BitVec 6) (b : BitVec 6) : Statement (.mulh g d a b) :=
  of_slot rfl (by rw [general_cls]; decide) (by rw [readSlot_class0]; simp [readClass0])
theorem mulhu (g : BitVec 4) (d : BitVec 6) (a : BitVec 6) (b : BitVec 6) : Statement (.mulhu g d a b) :=
  of_slot rfl (by rw [general_cls]; decide) (by rw [readSlot_class0]; simp [readClass0])
theorem div (g : BitVec 4) (d : BitVec 6) (a : BitVec 6) (b : BitVec 6) : Statement (.div g d a b) :=
  of_slot rfl (by rw [general_cls]; decide) (by rw [readSlot_class0]; simp [readClass0])
theorem divu (g : BitVec 4) (d : BitVec 6) (a : BitVec 6) (b : BitVec 6) : Statement (.divu g d a b) :=
  of_slot rfl (by rw [general_cls]; decide) (by rw [readSlot_class0]; simp [readClass0])
theorem rem (g : BitVec 4) (d : BitVec 6) (a : BitVec 6) (b : BitVec 6) : Statement (.rem g d a b) :=
  of_slot rfl (by rw [general_cls]; decide) (by rw [readSlot_class0]; simp [readClass0])
theorem remu (g : BitVec 4) (d : BitVec 6) (a : BitVec 6) (b : BitVec 6) : Statement (.remu g d a b) :=
  of_slot rfl (by rw [general_cls]; decide) (by rw [readSlot_class0]; simp [readClass0])
theorem min (g : BitVec 4) (d : BitVec 6) (a : BitVec 6) (b : BitVec 6) : Statement (.min g d a b) :=
  of_slot rfl (by rw [general_cls]; decide) (by rw [readSlot_class0]; simp [readClass0])
theorem max (g : BitVec 4) (d : BitVec 6) (a : BitVec 6) (b : BitVec 6) : Statement (.max g d a b) :=
  of_slot rfl (by rw [general_cls]; decide) (by rw [readSlot_class0]; simp [readClass0])
theorem minu (g : BitVec 4) (d : BitVec 6) (a : BitVec 6) (b : BitVec 6) : Statement (.minu g d a b) :=
  of_slot rfl (by rw [general_cls]; decide) (by rw [readSlot_class0]; simp [readClass0])
theorem maxu (g : BitVec 4) (d : BitVec 6) (a : BitVec 6) (b : BitVec 6) : Statement (.maxu g d a b) :=
  of_slot rfl (by rw [general_cls]; decide) (by rw [readSlot_class0]; simp [readClass0])
theorem adds (g : BitVec 4) (d : BitVec 6) (a : BitVec 6) (b : BitVec 6) : Statement (.adds g d a b) :=
  of_slot rfl (by rw [general_cls]; decide) (by rw [readSlot_class0]; simp [readClass0])
theorem subs (g : BitVec 4) (d : BitVec 6) (a : BitVec 6) (b : BitVec 6) : Statement (.subs g d a b) :=
  of_slot rfl (by rw [general_cls]; decide) (by rw [readSlot_class0]; simp [readClass0])
theorem slt (g : BitVec 4) (d : BitVec 6) (a : BitVec 6) (b : BitVec 6) : Statement (.slt g d a b) :=
  of_slot rfl (by rw [general_cls]; decide) (by rw [readSlot_class0]; simp [readClass0])
theorem sltu (g : BitVec 4) (d : BitVec 6) (a : BitVec 6) (b : BitVec 6) : Statement (.sltu g d a b) :=
  of_slot rfl (by rw [general_cls]; decide) (by rw [readSlot_class0]; simp [readClass0])
theorem seq (g : BitVec 4) (d : BitVec 6) (a : BitVec 6) (b : BitVec 6) : Statement (.seq g d a b) :=
  of_slot rfl (by rw [general_cls]; decide) (by rw [readSlot_class0]; simp [readClass0])
theorem clz (g : BitVec 4) (d : BitVec 6) (a : BitVec 6) : Statement (.clz g d a) :=
  of_slot rfl (by rw [general_cls]; decide) (by rw [readSlot_class0]; simp [readClass0])
theorem ctz (g : BitVec 4) (d : BitVec 6) (a : BitVec 6) : Statement (.ctz g d a) :=
  of_slot rfl (by rw [general_cls]; decide) (by rw [readSlot_class0]; simp [readClass0])
theorem popc (g : BitVec 4) (d : BitVec 6) (a : BitVec 6) : Statement (.popc g d a) :=
  of_slot rfl (by rw [general_cls]; decide) (by rw [readSlot_class0]; simp [readClass0])
theorem brev (g : BitVec 4) (d : BitVec 6) (a : BitVec 6) : Statement (.brev g d a) :=
  of_slot rfl (by rw [general_cls]; decide) (by rw [readSlot_class0]; simp [readClass0])
theorem bswap (g : BitVec 4) (d : BitVec 6) (a : BitVec 6) : Statement (.bswap g d a) :=
  of_slot rfl (by rw [general_cls]; decide) (by rw [readSlot_class0]; simp [readClass0])
theorem sextb (g : BitVec 4) (d : BitVec 6) (a : BitVec 6) : Statement (.sextb g d a) :=
  of_slot rfl (by rw [general_cls]; decide) (by rw [readSlot_class0]; simp [readClass0])
theorem sexth (g : BitVec 4) (d : BitVec 6) (a : BitVec 6) : Statement (.sexth g d a) :=
  of_slot rfl (by rw [general_cls]; decide) (by rw [readSlot_class0]; simp [readClass0])
theorem sextw (g : BitVec 4) (d : BitVec 6) (a : BitVec 6) : Statement (.sextw g d a) :=
  of_slot rfl (by rw [general_cls]; decide) (by rw [readSlot_class0]; simp [readClass0])
theorem peq (g : BitVec 4) (p : BitVec 4) (a : BitVec 6) (b : BitVec 6) : Statement (.peq g p a b) :=
  of_slot rfl (by rw [general_cls]; decide) (by rw [readSlot_class0]; simp [readClass0, pack_p2])
theorem pne (g : BitVec 4) (p : BitVec 4) (a : BitVec 6) (b : BitVec 6) : Statement (.pne g p a b) :=
  of_slot rfl (by rw [general_cls]; decide) (by rw [readSlot_class0]; simp [readClass0, pack_p2])
theorem plt (g : BitVec 4) (p : BitVec 4) (a : BitVec 6) (b : BitVec 6) : Statement (.plt g p a b) :=
  of_slot rfl (by rw [general_cls]; decide) (by rw [readSlot_class0]; simp [readClass0, pack_p2])
theorem pge (g : BitVec 4) (p : BitVec 4) (a : BitVec 6) (b : BitVec 6) : Statement (.pge g p a b) :=
  of_slot rfl (by rw [general_cls]; decide) (by rw [readSlot_class0]; simp [readClass0, pack_p2])
theorem pltu (g : BitVec 4) (p : BitVec 4) (a : BitVec 6) (b : BitVec 6) : Statement (.pltu g p a b) :=
  of_slot rfl (by rw [general_cls]; decide) (by rw [readSlot_class0]; simp [readClass0, pack_p2])
theorem pgeu (g : BitVec 4) (p : BitVec 4) (a : BitVec 6) (b : BitVec 6) : Statement (.pgeu g p a b) :=
  of_slot rfl (by rw [general_cls]; decide) (by rw [readSlot_class0]; simp [readClass0, pack_p2])
theorem ptox (g : BitVec 4) (d : BitVec 6) (p : BitVec 4) (k : BitVec 6) : Statement (.ptox g d p k) :=
  of_slot rfl (by rw [general_cls]; decide) (by rw [readSlot_class0]; simp [readClass0, pack_p2])
theorem xtop (g : BitVec 4) (p : BitVec 4) (a : BitVec 6) (k : BitVec 6) : Statement (.xtop g p a k) :=
  of_slot rfl (by rw [general_cls]; decide) (by rw [readSlot_class0]; simp [readClass0, pack_p2])
theorem pcnt (g : BitVec 4) (d : BitVec 6) (p : BitVec 4) (q : BitVec 4) : Statement (.pcnt g d p q) :=
  of_slot rfl (by rw [general_cls]; decide) (by rw [readSlot_class0]; simp [readClass0, pack_p2])
theorem addi (g : BitVec 4) (d : BitVec 6) (a : BitVec 6) (m : BitVec 9) : Statement (.addi g d a m) :=
  of_slot rfl (by rw [imm_cls]; decide) (by rw [readSlot_class1]; simp [readClass1])
theorem andi (g : BitVec 4) (d : BitVec 6) (a : BitVec 6) (m : BitVec 9) : Statement (.andi g d a m) :=
  of_slot rfl (by rw [imm_cls]; decide) (by rw [readSlot_class1]; simp [readClass1])
theorem ori (g : BitVec 4) (d : BitVec 6) (a : BitVec 6) (m : BitVec 9) : Statement (.ori g d a m) :=
  of_slot rfl (by rw [imm_cls]; decide) (by rw [readSlot_class1]; simp [readClass1])
theorem xori (g : BitVec 4) (d : BitVec 6) (a : BitVec 6) (m : BitVec 9) : Statement (.xori g d a m) :=
  of_slot rfl (by rw [imm_cls]; decide) (by rw [readSlot_class1]; simp [readClass1])
theorem slli (g : BitVec 4) (d : BitVec 6) (a : BitVec 6) (m : BitVec 9) : Statement (.slli g d a m) :=
  of_slot rfl (by rw [imm_cls]; decide) (by rw [readSlot_class1]; simp [readClass1])
theorem srli (g : BitVec 4) (d : BitVec 6) (a : BitVec 6) (m : BitVec 9) : Statement (.srli g d a m) :=
  of_slot rfl (by rw [imm_cls]; decide) (by rw [readSlot_class1]; simp [readClass1])
theorem srai (g : BitVec 4) (d : BitVec 6) (a : BitVec 6) (m : BitVec 9) : Statement (.srai g d a m) :=
  of_slot rfl (by rw [imm_cls]; decide) (by rw [readSlot_class1]; simp [readClass1])
theorem lih (g : BitVec 4) (d : BitVec 6) (m : BitVec 15) : Statement (.lih g d m) :=
  of_slot rfl (by rw [imm_cls]; decide) (by rw [readSlot_class1]; simp [readClass1, split15])
theorem ldb (g : BitVec 4) (t : BitVec 6) (b : BitVec 6) (o : BitVec 8) : Statement (.ldb g t b o) :=
  of_slot rfl (by rw [mem_cls]; decide) (by rw [readSlot_class2]; simp [readClass2])
theorem ldbu (g : BitVec 4) (t : BitVec 6) (b : BitVec 6) (o : BitVec 8) : Statement (.ldbu g t b o) :=
  of_slot rfl (by rw [mem_cls]; decide) (by rw [readSlot_class2]; simp [readClass2])
theorem ldh (g : BitVec 4) (t : BitVec 6) (b : BitVec 6) (o : BitVec 8) : Statement (.ldh g t b o) :=
  of_slot rfl (by rw [mem_cls]; decide) (by rw [readSlot_class2]; simp [readClass2])
theorem ldhu (g : BitVec 4) (t : BitVec 6) (b : BitVec 6) (o : BitVec 8) : Statement (.ldhu g t b o) :=
  of_slot rfl (by rw [mem_cls]; decide) (by rw [readSlot_class2]; simp [readClass2])
theorem ldw (g : BitVec 4) (t : BitVec 6) (b : BitVec 6) (o : BitVec 8) : Statement (.ldw g t b o) :=
  of_slot rfl (by rw [mem_cls]; decide) (by rw [readSlot_class2]; simp [readClass2])
theorem ldwu (g : BitVec 4) (t : BitVec 6) (b : BitVec 6) (o : BitVec 8) : Statement (.ldwu g t b o) :=
  of_slot rfl (by rw [mem_cls]; decide) (by rw [readSlot_class2]; simp [readClass2])
theorem ldd (g : BitVec 4) (t : BitVec 6) (b : BitVec 6) (o : BitVec 8) : Statement (.ldd g t b o) :=
  of_slot rfl (by rw [mem_cls]; decide) (by rw [readSlot_class2]; simp [readClass2])
theorem ldq (g : BitVec 4) (t : BitVec 6) (b : BitVec 6) (o : BitVec 8) : Statement (.ldq g t b o) :=
  of_slot rfl (by rw [mem_cls]; decide) (by rw [readSlot_class2]; simp [readClass2])
theorem stb (g : BitVec 4) (t : BitVec 6) (b : BitVec 6) (o : BitVec 8) : Statement (.stb g t b o) :=
  of_slot rfl (by rw [mem_cls]; decide) (by rw [readSlot_class2]; simp [readClass2])
theorem sth (g : BitVec 4) (t : BitVec 6) (b : BitVec 6) (o : BitVec 8) : Statement (.sth g t b o) :=
  of_slot rfl (by rw [mem_cls]; decide) (by rw [readSlot_class2]; simp [readClass2])
theorem stw (g : BitVec 4) (t : BitVec 6) (b : BitVec 6) (o : BitVec 8) : Statement (.stw g t b o) :=
  of_slot rfl (by rw [mem_cls]; decide) (by rw [readSlot_class2]; simp [readClass2])
theorem std (g : BitVec 4) (t : BitVec 6) (b : BitVec 6) (o : BitVec 8) : Statement (.std g t b o) :=
  of_slot rfl (by rw [mem_cls]; decide) (by rw [readSlot_class2]; simp [readClass2])
theorem stq (g : BitVec 4) (t : BitVec 6) (b : BitVec 6) (o : BitVec 8) : Statement (.stq g t b o) :=
  of_slot rfl (by rw [mem_cls]; decide) (by rw [readSlot_class2]; simp [readClass2])
theorem prf (g : BitVec 4) (b : BitVec 6) (o : BitVec 8) : Statement (.prf g b o) :=
  of_slot rfl (by rw [mem_cls]; decide) (by rw [readSlot_class2]; simp [readClass2])
theorem zln (g : BitVec 4) (b : BitVec 6) (o : BitVec 8) : Statement (.zln g b o) :=
  of_slot rfl (by rw [mem_cls]; decide) (by rw [readSlot_class2]; simp [readClass2])
theorem br (g : BitVec 4) (o : BitVec 20) : Statement (.br g o) :=
  of_slot rfl (by rw [control_cls]; decide) (by rw [readSlot_class3]; simp [readClass3])
theorem call (g : BitVec 4) (o : BitVec 20) : Statement (.call g o) :=
  of_slot rfl (by rw [control_cls]; decide) (by rw [readSlot_class3]; simp [readClass3])
theorem jr (g : BitVec 4) (a : BitVec 6) : Statement (.jr g a) :=
  of_slot rfl (by rw [control_cls]; decide) (by rw [readSlot_class3]; simp [readClass3, pack_jr0, pack_jr1, pack_jr2])
theorem jalr (g : BitVec 4) (d : BitVec 6) (a : BitVec 6) : Statement (.jalr g d a) :=
  of_slot rfl (by rw [control_cls]; decide) (by rw [readSlot_class3]; simp [readClass3, pack_jalr0, pack_jalr1, pack_jalr2])
theorem loop (g : BitVec 4) (k : BitVec 2) (c : BitVec 6) (l : BitVec 9) : Statement (.loop g k c l) :=
  of_slot rfl (by rw [control_cls]; decide) (by rw [readSlot_class3]; simp [readClass3, pack_loop0, pack_loop1, pack_loop2, pack_loop3])
theorem loopi (g : BitVec 4) (k : BitVec 2) (n : BitVec 9) (l : BitVec 9) : Statement (.loopi g k n l) :=
  of_slot rfl (by rw [control_cls]; decide) (by rw [readSlot_class3]; simp [readClass3, pack_loopi0, pack_loopi1, pack_loopi2])
theorem loopp (g : BitVec 4) (k : BitVec 2) (c : BitVec 6) (n : BitVec 3) (l : BitVec 9) : Statement (.loopp g k c n l) :=
  of_slot rfl (by rw [control_cls]; decide) (by rw [readSlot_class3]; simp [readClass3, pack_loopp0, pack_loopp1, pack_loopp2, pack_loopp3])
theorem lexit (g : BitVec 4) (k : BitVec 2) : Statement (.lexit g k) :=
  of_slot rfl (by rw [control_cls]; decide) (by rw [readSlot_class3]; simp [readClass3, pack_lexit0, pack_lexit1])
theorem vadd (g : BitVec 4) (w : Width) (d : BitVec 5) (a : BitVec 5) (b : VOpnd) : Statement (.vadd g w d a b) :=
  of_slot rfl (by rw [vector_cls]; decide) (by rw [readSlot_class4]; simp [readClass4, ofCode_code, vopnd_reg])
theorem vsub (g : BitVec 4) (w : Width) (d : BitVec 5) (a : BitVec 5) (b : VOpnd) : Statement (.vsub g w d a b) :=
  of_slot rfl (by rw [vector_cls]; decide) (by rw [readSlot_class4]; simp [readClass4, ofCode_code, vopnd_reg])
theorem vadds (g : BitVec 4) (w : Width) (d : BitVec 5) (a : BitVec 5) (b : VOpnd) : Statement (.vadds g w d a b) :=
  of_slot rfl (by rw [vector_cls]; decide) (by rw [readSlot_class4]; simp [readClass4, ofCode_code, vopnd_reg])
theorem vsubs (g : BitVec 4) (w : Width) (d : BitVec 5) (a : BitVec 5) (b : VOpnd) : Statement (.vsubs g w d a b) :=
  of_slot rfl (by rw [vector_cls]; decide) (by rw [readSlot_class4]; simp [readClass4, ofCode_code, vopnd_reg])
theorem vaddsu (g : BitVec 4) (w : Width) (d : BitVec 5) (a : BitVec 5) (b : VOpnd) : Statement (.vaddsu g w d a b) :=
  of_slot rfl (by rw [vector_cls]; decide) (by rw [readSlot_class4]; simp [readClass4, ofCode_code, vopnd_reg])
theorem vsubsu (g : BitVec 4) (w : Width) (d : BitVec 5) (a : BitVec 5) (b : VOpnd) : Statement (.vsubsu g w d a b) :=
  of_slot rfl (by rw [vector_cls]; decide) (by rw [readSlot_class4]; simp [readClass4, ofCode_code, vopnd_reg])
theorem vmul (g : BitVec 4) (w : Width) (d : BitVec 5) (a : BitVec 5) (b : VOpnd) : Statement (.vmul g w d a b) :=
  of_slot rfl (by rw [vector_cls]; decide) (by rw [readSlot_class4]; simp [readClass4, ofCode_code, vopnd_reg])
theorem vmulh (g : BitVec 4) (w : Width) (d : BitVec 5) (a : BitVec 5) (b : VOpnd) : Statement (.vmulh g w d a b) :=
  of_slot rfl (by rw [vector_cls]; decide) (by rw [readSlot_class4]; simp [readClass4, ofCode_code, vopnd_reg])
theorem vmulhu (g : BitVec 4) (w : Width) (d : BitVec 5) (a : BitVec 5) (b : VOpnd) : Statement (.vmulhu g w d a b) :=
  of_slot rfl (by rw [vector_cls]; decide) (by rw [readSlot_class4]; simp [readClass4, ofCode_code, vopnd_reg])
theorem vmulq (g : BitVec 4) (w : Width) (d : BitVec 5) (a : BitVec 5) (b : VOpnd) (m : Bool) : Statement (.vmulq g w d a b m) :=
  of_slot rfl (by rw [vector_cls]; decide) (by rw [readSlot_class4]; simp [readClass4, ofCode_code, vopnd_reg])
theorem vmin (g : BitVec 4) (w : Width) (d : BitVec 5) (a : BitVec 5) (b : VOpnd) : Statement (.vmin g w d a b) :=
  of_slot rfl (by rw [vector_cls]; decide) (by rw [readSlot_class4]; simp [readClass4, ofCode_code, vopnd_reg])
theorem vmax (g : BitVec 4) (w : Width) (d : BitVec 5) (a : BitVec 5) (b : VOpnd) : Statement (.vmax g w d a b) :=
  of_slot rfl (by rw [vector_cls]; decide) (by rw [readSlot_class4]; simp [readClass4, ofCode_code, vopnd_reg])
theorem vminu (g : BitVec 4) (w : Width) (d : BitVec 5) (a : BitVec 5) (b : VOpnd) : Statement (.vminu g w d a b) :=
  of_slot rfl (by rw [vector_cls]; decide) (by rw [readSlot_class4]; simp [readClass4, ofCode_code, vopnd_reg])
theorem vmaxu (g : BitVec 4) (w : Width) (d : BitVec 5) (a : BitVec 5) (b : VOpnd) : Statement (.vmaxu g w d a b) :=
  of_slot rfl (by rw [vector_cls]; decide) (by rw [readSlot_class4]; simp [readClass4, ofCode_code, vopnd_reg])
theorem vand (g : BitVec 4) (w : Width) (d : BitVec 5) (a : BitVec 5) (b : VOpnd) : Statement (.vand g w d a b) :=
  of_slot rfl (by rw [vector_cls]; decide) (by rw [readSlot_class4]; simp [readClass4, ofCode_code, vopnd_reg])
theorem vor (g : BitVec 4) (w : Width) (d : BitVec 5) (a : BitVec 5) (b : VOpnd) : Statement (.vor g w d a b) :=
  of_slot rfl (by rw [vector_cls]; decide) (by rw [readSlot_class4]; simp [readClass4, ofCode_code, vopnd_reg])
theorem vxor (g : BitVec 4) (w : Width) (d : BitVec 5) (a : BitVec 5) (b : VOpnd) : Statement (.vxor g w d a b) :=
  of_slot rfl (by rw [vector_cls]; decide) (by rw [readSlot_class4]; simp [readClass4, ofCode_code, vopnd_reg])
theorem vandn (g : BitVec 4) (w : Width) (d : BitVec 5) (a : BitVec 5) (b : VOpnd) : Statement (.vandn g w d a b) :=
  of_slot rfl (by rw [vector_cls]; decide) (by rw [readSlot_class4]; simp [readClass4, ofCode_code, vopnd_reg])
theorem vsll (g : BitVec 4) (w : Width) (d : BitVec 5) (a : BitVec 5) (b : VOpnd) : Statement (.vsll g w d a b) :=
  of_slot rfl (by rw [vector_cls]; decide) (by rw [readSlot_class4]; simp [readClass4, ofCode_code, vopnd_reg])
theorem vsrl (g : BitVec 4) (w : Width) (d : BitVec 5) (a : BitVec 5) (b : VOpnd) : Statement (.vsrl g w d a b) :=
  of_slot rfl (by rw [vector_cls]; decide) (by rw [readSlot_class4]; simp [readClass4, ofCode_code, vopnd_reg])
theorem vsra (g : BitVec 4) (w : Width) (d : BitVec 5) (a : BitVec 5) (b : VOpnd) : Statement (.vsra g w d a b) :=
  of_slot rfl (by rw [vector_cls]; decide) (by rw [readSlot_class4]; simp [readClass4, ofCode_code, vopnd_reg])
theorem vabs (g : BitVec 4) (w : Width) (d : BitVec 5) (a : BitVec 5) : Statement (.vabs g w d a) :=
  of_slot rfl (by rw [vector_cls]; decide) (by rw [readSlot_class4]; simp [readClass4, ofCode_code])
theorem vneg (g : BitVec 4) (w : Width) (d : BitVec 5) (a : BitVec 5) : Statement (.vneg g w d a) :=
  of_slot rfl (by rw [vector_cls]; decide) (by rw [readSlot_class4]; simp [readClass4, ofCode_code])
theorem vavg (g : BitVec 4) (w : Width) (d : BitVec 5) (a : BitVec 5) (b : VOpnd) (m : Bool) : Statement (.vavg g w d a b m) :=
  of_slot rfl (by rw [vector_cls]; decide) (by rw [readSlot_class4]; simp [readClass4, ofCode_code, vopnd_reg])
theorem vmov (g : BitVec 4) (w : Width) (d : BitVec 5) (a : BitVec 5) : Statement (.vmov g w d a) :=
  of_slot rfl (by rw [vector_cls]; decide) (by rw [readSlot_class4]; simp [readClass4, ofCode_code])
theorem vsel (g : BitVec 4) (w : Width) (d : BitVec 5) (a : BitVec 5) (b : VOpnd) : Statement (.vsel g w d a b) :=
  of_slot rfl (by rw [vector_cls]; decide) (by rw [readSlot_class4]; simp [readClass4, ofCode_code, vopnd_reg])
theorem vcls (g : BitVec 4) (w : Width) (d : BitVec 5) (a : BitVec 5) : Statement (.vcls g w d a) :=
  of_slot rfl (by rw [vector_cls]; decide) (by rw [readSlot_class4]; simp [readClass4, ofCode_code])
theorem vpopc (g : BitVec 4) (w : Width) (d : BitVec 5) (a : BitVec 5) : Statement (.vpopc g w d a) :=
  of_slot rfl (by rw [vector_cls]; decide) (by rw [readSlot_class4]; simp [readClass4, ofCode_code])
theorem vcmpeq (g : BitVec 4) (w : Width) (p : BitVec 4) (a : BitVec 5) (b : VOpnd) : Statement (.vcmpeq g w p a b) :=
  of_slot rfl (by rw [vector_cls]; decide) (by rw [readSlot_class5]; simp [readClass5, pack_p1, ofCode_code, vopnd_reg])
theorem vcmpne (g : BitVec 4) (w : Width) (p : BitVec 4) (a : BitVec 5) (b : VOpnd) : Statement (.vcmpne g w p a b) :=
  of_slot rfl (by rw [vector_cls]; decide) (by rw [readSlot_class5]; simp [readClass5, pack_p1, ofCode_code, vopnd_reg])
theorem vcmplt (g : BitVec 4) (w : Width) (p : BitVec 4) (a : BitVec 5) (b : VOpnd) : Statement (.vcmplt g w p a b) :=
  of_slot rfl (by rw [vector_cls]; decide) (by rw [readSlot_class5]; simp [readClass5, pack_p1, ofCode_code, vopnd_reg])
theorem vcmple (g : BitVec 4) (w : Width) (p : BitVec 4) (a : BitVec 5) (b : VOpnd) : Statement (.vcmple g w p a b) :=
  of_slot rfl (by rw [vector_cls]; decide) (by rw [readSlot_class5]; simp [readClass5, pack_p1, ofCode_code, vopnd_reg])
theorem vcmpltu (g : BitVec 4) (w : Width) (p : BitVec 4) (a : BitVec 5) (b : VOpnd) : Statement (.vcmpltu g w p a b) :=
  of_slot rfl (by rw [vector_cls]; decide) (by rw [readSlot_class5]; simp [readClass5, pack_p1, ofCode_code, vopnd_reg])
theorem vcmpleu (g : BitVec 4) (w : Width) (p : BitVec 4) (a : BitVec 5) (b : VOpnd) : Statement (.vcmpleu g w p a b) :=
  of_slot rfl (by rw [vector_cls]; decide) (by rw [readSlot_class5]; simp [readClass5, pack_p1, ofCode_code, vopnd_reg])
theorem vnarrow (g : BitVec 4) (w : Width) (d : BitVec 5) (a : BitVec 5) (b : BitVec 5) (m : Bool) : Statement (.vnarrow g w d a b m) :=
  of_slot rfl (by rw [vector_cls]; decide) (by rw [readSlot_class5]; simp [readClass5, ofCode_code])
theorem vwiden (g : BitVec 4) (w : Width) (d : BitVec 5) (a : BitVec 5) (b : BitVec 5) (m : Bool) : Statement (.vwiden g w d a b m) :=
  of_slot rfl (by rw [vector_cls]; decide) (by rw [readSlot_class5]; simp [readClass5, ofCode_code])
theorem vshrr (g : BitVec 4) (w : Width) (d : BitVec 5) (a : BitVec 5) (b : BitVec 5) : Statement (.vshrr g w d a b) :=
  of_slot rfl (by rw [vector_cls]; decide) (by rw [readSlot_class5]; simp [readClass5, ofCode_code])
theorem vsshr (g : BitVec 4) (w : Width) (d : BitVec 5) (a : BitVec 5) (b : BitVec 5) : Statement (.vsshr g w d a b) :=
  of_slot rfl (by rw [vector_cls]; decide) (by rw [readSlot_class5]; simp [readClass5, ofCode_code])
theorem vsplat (g : BitVec 4) (w : Width) (d : BitVec 5) (b : BitVec 5) : Statement (.vsplat g w d b) :=
  of_slot rfl (by rw [vector_cls]; decide) (by rw [readSlot_class5]; simp [readClass5, ofCode_code])
theorem vextr (g : BitVec 4) (w : Width) (d : BitVec 5) (a : BitVec 5) (b : BitVec 5) (m : Bool) : Statement (.vextr g w d a b m) :=
  of_slot rfl (by rw [vector_cls]; decide) (by rw [readSlot_class5]; simp [readClass5, ofCode_code])
theorem vinsr (g : BitVec 4) (w : Width) (d : BitVec 5) (a : BitVec 5) (b : BitVec 5) : Statement (.vinsr g w d a b) :=
  of_slot rfl (by rw [vector_cls]; decide) (by rw [readSlot_class5]; simp [readClass5, ofCode_code])
theorem viota (g : BitVec 4) (w : Width) (d : BitVec 5) (b : BitVec 5) (m : Bool) : Statement (.viota g w d b m) :=
  of_slot rfl (by rw [vector_cls]; decide) (by rw [readSlot_class5]; simp [readClass5, ofCode_code])
theorem vcb4 (g : BitVec 4) (d : BitVec 5) (a : BitVec 5) (b : BitVec 5) (m : Bool) : Statement (.vcb4 g d a b m) :=
  of_slot rfl (by rw [vector_cls]; decide) (by rw [readSlot_class5]; simp [readClass5])
theorem vq4p (g : BitVec 4) (d : BitVec 5) (a : BitVec 5) : Statement (.vq4p g d a) :=
  of_slot rfl (by rw [vector_cls]; decide) (by rw [readSlot_class5]; simp [readClass5])
theorem vq4u (g : BitVec 4) (d : BitVec 5) (a : BitVec 5) (m : Bool) : Statement (.vq4u g d a m) :=
  of_slot rfl (by rw [vector_cls]; decide) (by rw [readSlot_class5]; simp [readClass5])
theorem vredadd (g : BitVec 4) (w : Width) (d : BitVec 5) (a : BitVec 5) (b : Option (BitVec 5)) (m : Bool) : Statement (.vredadd g w d a b m) :=
  of_slot rfl (by rw [vector_cls]; decide) (by rw [readSlot_class5]; simp [readClass5, ofCode_code, optX_reg, optX_ok])
theorem vredmax (g : BitVec 4) (w : Width) (d : BitVec 5) (a : BitVec 5) (b : Option (BitVec 5)) (m : Bool) : Statement (.vredmax g w d a b m) :=
  of_slot rfl (by rw [vector_cls]; decide) (by rw [readSlot_class5]; simp [readClass5, ofCode_code, optX_reg, optX_ok])
theorem vredmin (g : BitVec 4) (w : Width) (d : BitVec 5) (a : BitVec 5) (b : Option (BitVec 5)) (m : Bool) : Statement (.vredmin g w d a b m) :=
  of_slot rfl (by rw [vector_cls]; decide) (by rw [readSlot_class5]; simp [readClass5, ofCode_code, optX_reg, optX_ok])
theorem vredor (g : BitVec 4) (w : Width) (d : BitVec 5) (a : BitVec 5) (b : Option (BitVec 5)) : Statement (.vredor g w d a b) :=
  of_slot rfl (by rw [vector_cls]; decide) (by rw [readSlot_class5]; simp [readClass5, ofCode_code, optX_reg, optX_ok])
theorem vtorq (g : BitVec 4) (w : Width) (a : BitVec 5) (b : Option (BitVec 5)) (m : Bool) : Statement (.vtorq g w a b m) :=
  of_slot rfl (by rw [vector_cls]; decide) (by rw [readSlot_class5]; simp [readClass5, ofCode_code, optX_reg, optX_ok])
theorem vcens (g : BitVec 4) (w : Width) (a : BitVec 5) (b : BitVec 5) (m : Bool) : Statement (.vcens g w a b m) :=
  of_slot rfl (by rw [vector_cls]; decide) (by rw [readSlot_class5]; simp [readClass5, ofCode_code])
theorem vexp (g : BitVec 4) (d : BitVec 5) (a : BitVec 5) (b : BitVec 5) : Statement (.vexp g d a b) :=
  of_slot rfl (by rw [vector_cls]; decide) (by rw [readSlot_class6]; simp [readClass6])
theorem vrcp (g : BitVec 4) (d : BitVec 5) (a : BitVec 5) (b : BitVec 5) : Statement (.vrcp g d a b) :=
  of_slot rfl (by rw [vector_cls]; decide) (by rw [readSlot_class6]; simp [readClass6])
theorem vrsq (g : BitVec 4) (d : BitVec 5) (a : BitVec 5) (b : BitVec 5) : Statement (.vrsq g d a b) :=
  of_slot rfl (by rw [vector_cls]; decide) (by rw [readSlot_class6]; simp [readClass6])
theorem vdiv (g : BitVec 4) (d : BitVec 5) (a : BitVec 5) (b : VOpnd) : Statement (.vdiv g d a b) :=
  of_slot rfl (by rw [vector_cls]; decide) (by rw [readSlot_class6]; simp [readClass6, vopnd_reg])
theorem vopt (g : BitVec 4) (d : BitVec 5) (a : BitVec 5) (b : BitVec 5) : Statement (.vopt g d a b) :=
  of_slot rfl (by rw [vector_cls]; decide) (by rw [readSlot_class6]; simp [readClass6])
theorem vbmm (g : BitVec 4) (d : BitVec 5) (a : BitVec 5) (b : VOpnd) (m : Bool) : Statement (.vbmm g d a b m) :=
  of_slot rfl (by rw [vector_cls]; decide) (by rw [readSlot_class6]; simp [readClass6, vopnd_reg])
theorem vpdep (g : BitVec 4) (w : Width) (d : BitVec 5) (a : BitVec 5) (b : VOpnd) : Statement (.vpdep g w d a b) :=
  of_slot rfl (by rw [vector_cls]; decide) (by rw [readSlot_class6]; simp [readClass6, ofCode_code, vopnd_reg])
theorem vpext (g : BitVec 4) (w : Width) (d : BitVec 5) (a : BitVec 5) (b : VOpnd) : Statement (.vpext g w d a b) :=
  of_slot rfl (by rw [vector_cls]; decide) (by rw [readSlot_class6]; simp [readClass6, ofCode_code, vopnd_reg])
theorem vbperm (g : BitVec 4) (d : BitVec 5) (a : BitVec 5) (b : VOpnd) : Statement (.vbperm g d a b) :=
  of_slot rfl (by rw [vector_cls]; decide) (by rw [readSlot_class6]; simp [readClass6, vopnd_reg])
theorem vperm (g : BitVec 4) (w : Width) (d : BitVec 5) (a : BitVec 5) (b : BitVec 5) (m : Bool) : Statement (.vperm g w d a b m) :=
  of_slot rfl (by rw [vector_cls]; decide) (by rw [readSlot_class6]; simp [readClass6, ofCode_code])
theorem vslide (g : BitVec 4) (w : Width) (d : BitVec 5) (a : BitVec 5) (b : BitVec 5) (m : Bool) : Statement (.vslide g w d a b m) :=
  of_slot rfl (by rw [vector_cls]; decide) (by rw [readSlot_class6]; simp [readClass6, ofCode_code])
theorem vspush (g : BitVec 4) (w : Width) (n : BitVec 2) (a : BitVec 5) : Statement (.vspush g w n a) :=
  of_slot rfl (by rw [vector_cls]; decide) (by rw [readSlot_class6]; simp [readClass6, pack_n, ofCode_code])
theorem vspop (g : BitVec 4) (w : Width) (d : BitVec 5) (n : BitVec 2) (p : BitVec 4) (m : Bool) : Statement (.vspop g w d n p m) :=
  of_slot rfl (by rw [vector_cls]; decide) (by rw [readSlot_class6]; simp [readClass6, pack_p1, pack_n, ofCode_code])
theorem vsflush (g : BitVec 4) (w : Width) (d : BitVec 5) (n : BitVec 2) : Statement (.vsflush g w d n) :=
  of_slot rfl (by rw [vector_cls]; decide) (by rw [readSlot_class6]; simp [readClass6, pack_n, ofCode_code])
theorem vslen (g : BitVec 4) (w : Width) (d : BitVec 5) (n : BitVec 2) : Statement (.vslen g w d n) :=
  of_slot rfl (by rw [vector_cls]; decide) (by rw [readSlot_class6]; simp [readClass6, pack_n, ofCode_code])
theorem vld (g : BitVec 4) (w : Width) (d : BitVec 5) (a : BitVec 5) (b : Option (BitVec 5)) : Statement (.vld g w d a b) :=
  of_slot rfl (by rw [vector_cls]; decide) (by rw [readSlot_class7]; simp [readClass7, ofCode_code, optX_reg, optX_ok])
theorem vst (g : BitVec 4) (w : Width) (d : BitVec 5) (a : BitVec 5) (b : Option (BitVec 5)) : Statement (.vst g w d a b) :=
  of_slot rfl (by rw [vector_cls]; decide) (by rw [readSlot_class7]; simp [readClass7, ofCode_code, optX_reg, optX_ok])
theorem vlds (g : BitVec 4) (w : Width) (d : BitVec 5) (a : BitVec 5) (b : BitVec 5) : Statement (.vlds g w d a b) :=
  of_slot rfl (by rw [vector_cls]; decide) (by rw [readSlot_class7]; simp [readClass7, ofCode_code])
theorem vsts (g : BitVec 4) (w : Width) (d : BitVec 5) (a : BitVec 5) (b : BitVec 5) : Statement (.vsts g w d a b) :=
  of_slot rfl (by rw [vector_cls]; decide) (by rw [readSlot_class7]; simp [readClass7, ofCode_code])
theorem vldx (g : BitVec 4) (w : Width) (d : BitVec 5) (a : BitVec 5) (b : BitVec 5) (m : Bool) : Statement (.vldx g w d a b m) :=
  of_slot rfl (by rw [vector_cls]; decide) (by rw [readSlot_class7]; simp [readClass7, ofCode_code])
theorem vstx (g : BitVec 4) (w : Width) (d : BitVec 5) (a : BitVec 5) (b : BitVec 5) (m : Bool) : Statement (.vstx g w d a b m) :=
  of_slot rfl (by rw [vector_cls]; decide) (by rw [readSlot_class7]; simp [readClass7, ofCode_code])
theorem vldt (g : BitVec 4) (w : Width) (d : BitVec 5) (a : BitVec 5) (b : BitVec 5) : Statement (.vldt g w d a b) :=
  of_slot rfl (by rw [vector_cls]; decide) (by rw [readSlot_class7]; simp [readClass7, ofCode_code])
theorem vstt (g : BitVec 4) (w : Width) (d : BitVec 5) (a : BitVec 5) (b : BitVec 5) : Statement (.vstt g w d a b) :=
  of_slot rfl (by rw [vector_cls]; decide) (by rw [readSlot_class7]; simp [readClass7, ofCode_code])
theorem vldb (g : BitVec 4) (w : Width) (d : BitVec 5) (a : BitVec 5) (b : Option (BitVec 5)) : Statement (.vldb g w d a b) :=
  of_slot rfl (by rw [vector_cls]; decide) (by rw [readSlot_class7]; simp [readClass7, ofCode_code, optX_reg, optX_ok])
theorem vldp (g : BitVec 4) (p : BitVec 4) (a : BitVec 5) (b : Option (BitVec 5)) : Statement (.vldp g p a b) :=
  of_slot rfl (by rw [vector_cls]; decide) (by rw [readSlot_class7]; simp [readClass7, pack_p1, optX_reg, optX_ok])
theorem vstp (g : BitVec 4) (p : BitVec 4) (a : BitVec 5) (b : Option (BitVec 5)) : Statement (.vstp g p a b) :=
  of_slot rfl (by rw [vector_cls]; decide) (by rw [readSlot_class7]; simp [readClass7, pack_p1, optX_reg, optX_ok])
theorem mpw (g : BitVec 4) (a : BitVec 6) (k : BitVec 3) (e : Bool) : Statement (.mpw g a k e) :=
  of_slot rfl (by rw [general_cls]; decide) (by rw [readSlot_class8]; simp [readClass8, pack_k2])
theorem mpr (g : BitVec 4) (d : BitVec 6) (k : BitVec 3) (e : Bool) : Statement (.mpr g d k e) :=
  of_slot rfl (by rw [general_cls]; decide) (by rw [readSlot_class8]; simp [readClass8, pack_k2])
theorem mcfg (g : BitVec 4) (a : BitVec 6) (e : Bool) : Statement (.mcfg g a e) :=
  of_slot rfl (by rw [general_cls]; decide) (by rw [readSlot_class8]; simp [readClass8, pack_e])
theorem mdrain (g : BitVec 4) (d : BitVec 6) (e : Bool) : Statement (.mdrain g d e) :=
  of_slot rfl (by rw [general_cls]; decide) (by rw [readSlot_class8]; simp [readClass8, pack_e])
theorem mcall (g : BitVec 4) (r : BitVec 6) (c : BitVec 6) (p : Bool) (e : Bool) : Statement (.mcall g r c p e) :=
  of_slot rfl (by rw [general_cls]; decide) (by rw [readSlot_class8]; simp [readClass8, pack_yz])
theorem mcallg (g : BitVec 4) (r : BitVec 6) (c : BitVec 6) (p : Bool) (e : Bool) : Statement (.mcallg g r c p e) :=
  of_slot rfl (by rw [general_cls]; decide) (by rw [readSlot_class8]; simp [readClass8, pack_yz])
theorem mspec (g : BitVec 4) (z : Bool) (e : Bool) : Statement (.mspec g z e) :=
  of_slot rfl (by rw [general_cls]; decide) (by rw [readSlot_class8]; simp [readClass8, pack_yz])
theorem mcommit (g : BitVec 4) (e : Bool) : Statement (.mcommit g e) :=
  of_slot rfl (by rw [general_cls]; decide) (by rw [readSlot_class8]; simp [readClass8, pack_e])
theorem mdiscard (g : BitVec 4) (e : Bool) : Statement (.mdiscard g e) :=
  of_slot rfl (by rw [general_cls]; decide) (by rw [readSlot_class8]; simp [readClass8, pack_e])
theorem mzero (g : BitVec 4) (a : BitVec 6) (z : Bool) (e : Bool) : Statement (.mzero g a z e) :=
  of_slot rfl (by rw [general_cls]; decide) (by rw [readSlot_class8]; simp [readClass8, pack_yz])
theorem maccld (g : BitVec 4) (x : BitVec 6) (a : BitVec 6) (e : Bool) : Statement (.maccld g x a e) :=
  of_slot rfl (by rw [general_cls]; decide) (by rw [readSlot_class8]; simp [readClass8, pack_e])
theorem maccst (g : BitVec 4) (x : BitVec 6) (a : BitVec 6) (e : Bool) : Statement (.maccst g x a e) :=
  of_slot rfl (by rw [general_cls]; decide) (by rw [readSlot_class8]; simp [readClass8, pack_e])
theorem mucw (g : BitVec 4) (x : BitVec 6) (a : BitVec 6) (h : Bool) (e : Bool) : Statement (.mucw g x a h e) :=
  of_slot rfl (by rw [general_cls]; decide) (by rw [readSlot_class8]; simp [readClass8, pack_yz])
theorem mucr (g : BitVec 4) (d : BitVec 6) (x : BitVec 6) (h : Bool) (e : Bool) : Statement (.mucr g d x h e) :=
  of_slot rfl (by rw [general_cls]; decide) (by rw [readSlot_class8]; simp [readClass8, pack_yz])
theorem mstat (g : BitVec 4) (k : BitVec 2) (e : Bool) : Statement (.mstat g k e) :=
  of_slot rfl (by rw [general_cls]; decide) (by rw [readSlot_class8]; simp [readClass8, pack_k3])
theorem mrpg (g : BitVec 4) (d : BitVec 6) (e : Bool) : Statement (.mrpg g d e) :=
  of_slot rfl (by rw [general_cls]; decide) (by rw [readSlot_class8]; simp [readClass8, pack_e])
theorem erw (g : BitVec 4) (a : BitVec 6) (n : BitVec 6) : Statement (.erw g a n) :=
  of_slot rfl (by rw [general_cls]; decide) (by rw [readSlot_class9]; simp [readClass9])
theorem erd (g : BitVec 4) (d : BitVec 6) (n : BitVec 6) : Statement (.erd g d n) :=
  of_slot rfl (by rw [general_cls]; decide) (by rw [readSlot_class9]; simp [readClass9])
theorem cpy (g : BitVec 4) (c : BitVec 6) (o : BitVec 6) (y : Bool) (z : Bool) : Statement (.cpy g c o y z) :=
  of_slot rfl (by rw [general_cls]; decide) (by rw [readSlot_class9]; simp [readClass9, pack_yz])
theorem cpym (g : BitVec 4) (c : BitVec 6) (o : BitVec 6) (y : Bool) (z : Bool) : Statement (.cpym g c o y z) :=
  of_slot rfl (by rw [general_cls]; decide) (by rw [readSlot_class9]; simp [readClass9, pack_yz])
theorem cpyx (g : BitVec 4) (c : BitVec 6) (t : BitVec 6) (z : Bool) : Statement (.cpyx g c t z) :=
  of_slot rfl (by rw [general_cls]; decide) (by rw [readSlot_class9]; simp [readClass9, pack_e])
theorem cpyw (g : BitVec 4) (c : BitVec 6) (o : BitVec 6) (y : Bool) (z : Bool) : Statement (.cpyw g c o y z) :=
  of_slot rfl (by rw [general_cls]; decide) (by rw [readSlot_class9]; simp [readClass9, pack_yz])
theorem cpyc (g : BitVec 4) (d : BitVec 6) (m : BitVec 6) : Statement (.cpyc g d m) :=
  of_slot rfl (by rw [general_cls]; decide) (by rw [readSlot_class9]; simp [readClass9])
theorem coll (g : BitVec 4) (h : BitVec 6) (c : BitVec 6) : Statement (.coll g h c) :=
  of_slot rfl (by rw [general_cls]; decide) (by rw [readSlot_class9]; simp [readClass9])
theorem csig (g : BitVec 4) (h : BitVec 6) (k : BitVec 6) : Statement (.csig g h k) :=
  of_slot rfl (by rw [general_cls]; decide) (by rw [readSlot_class9]; simp [readClass9])
theorem acq (g : BitVec 4) (d : BitVec 6) (a : BitVec 6) : Statement (.acq g d a) :=
  of_slot rfl (by rw [general_cls]; decide) (by rw [readSlot_classA]; simp [readClassA])
theorem rel (g : BitVec 4) (d : BitVec 6) (a : BitVec 6) : Statement (.rel g d a) :=
  of_slot rfl (by rw [general_cls]; decide) (by rw [readSlot_classA]; simp [readClassA])
theorem bind (g : BitVec 4) (d : BitVec 6) (a : BitVec 6) (b : BitVec 6) : Statement (.bind g d a b) :=
  of_slot rfl (by rw [general_cls]; decide) (by rw [readSlot_classA]; simp [readClassA])
theorem unbind (g : BitVec 4) (a : BitVec 6) : Statement (.unbind g a) :=
  of_slot rfl (by rw [general_cls]; decide) (by rw [readSlot_classA]; simp [readClassA])
theorem fence (g : BitVec 4) (k : BitVec 6) : Statement (.fence g k) :=
  of_slot rfl (by rw [general_cls]; decide) (by rw [readSlot_classA]; simp [readClassA])
theorem qmake (g : BitVec 4) (d : BitVec 6) (a : BitVec 6) : Statement (.qmake g d a) :=
  of_slot rfl (by rw [general_cls]; decide) (by rw [readSlot_classA]; simp [readClassA])
theorem qpush (g : BitVec 4) (d : BitVec 6) (a : BitVec 6) (b : BitVec 6) : Statement (.qpush g d a b) :=
  of_slot rfl (by rw [general_cls]; decide) (by rw [readSlot_classA]; simp [readClassA])
theorem qpop (g : BitVec 4) (d : BitVec 6) (a : BitVec 6) : Statement (.qpop g d a) :=
  of_slot rfl (by rw [general_cls]; decide) (by rw [readSlot_classA]; simp [readClassA])
theorem qfree (g : BitVec 4) (a : BitVec 6) : Statement (.qfree g a) :=
  of_slot rfl (by rw [general_cls]; decide) (by rw [readSlot_classA]; simp [readClassA])
theorem mbsend (g : BitVec 4) (d : BitVec 6) (a : BitVec 6) (b : BitVec 6) : Statement (.mbsend g d a b) :=
  of_slot rfl (by rw [general_cls]; decide) (by rw [readSlot_classA]; simp [readClassA])
theorem mbrecv (g : BitVec 4) (d : BitVec 6) (p : BitVec 4) (k : BitVec 6) : Statement (.mbrecv g d p k) :=
  of_slot rfl (by rw [general_cls]; decide) (by rw [readSlot_classA]; simp [readClassA, pack_p2])
theorem mbbind (g : BitVec 4) (a : BitVec 6) (k : BitVec 6) : Statement (.mbbind g a k) :=
  of_slot rfl (by rw [general_cls]; decide) (by rw [readSlot_classA]; simp [readClassA])
theorem sbarm (g : BitVec 4) (a : BitVec 6) (b : BitVec 6) : Statement (.sbarm g a b) :=
  of_slot rfl (by rw [general_cls]; decide) (by rw [readSlot_classA]; simp [readClassA])
theorem sbwait (g : BitVec 4) (d : BitVec 6) (a : BitVec 6) (b : BitVec 6) : Statement (.sbwait g d a b) :=
  of_slot rfl (by rw [general_cls]; decide) (by rw [readSlot_classA]; simp [readClassA])
theorem sbtst (g : BitVec 4) (d : BitVec 6) (a : BitVec 6) : Statement (.sbtst g d a) :=
  of_slot rfl (by rw [general_cls]; decide) (by rw [readSlot_classA]; simp [readClassA])
theorem dbar (g : BitVec 4) (k : BitVec 6) (t : BitVec 6) : Statement (.dbar g k t) :=
  of_slot rfl (by rw [general_cls]; decide) (by rw [readSlot_classA]; simp [readClassA])
theorem waitany (g : BitVec 4) (d : BitVec 6) (a : BitVec 6) : Statement (.waitany g d a) :=
  of_slot rfl (by rw [general_cls]; decide) (by rw [readSlot_classA]; simp [readClassA])
theorem waitall (g : BitVec 4) (d : BitVec 6) (a : BitVec 6) : Statement (.waitall g d a) :=
  of_slot rfl (by rw [general_cls]; decide) (by rw [readSlot_classA]; simp [readClassA])
theorem ffr (g : BitVec 4) (d : BitVec 6) (a : BitVec 6) : Statement (.ffr g d a) :=
  of_slot rfl (by rw [general_cls]; decide) (by rw [readSlot_classA]; simp [readClassA])
theorem tagclr (g : BitVec 4) (a : BitVec 6) : Statement (.tagclr g a) :=
  of_slot rfl (by rw [general_cls]; decide) (by rw [readSlot_classA]; simp [readClassA])
theorem rqpop (g : BitVec 4) (d : BitVec 6) : Statement (.rqpop g d) :=
  of_slot rfl (by rw [general_cls]; decide) (by rw [readSlot_classA]; simp [readClassA])
theorem ldacq (g : BitVec 4) (d : BitVec 6) (a : BitVec 6) (k : BitVec 6) : Statement (.ldacq g d a k) :=
  of_slot rfl (by rw [general_cls]; decide) (by rw [readSlot_classA]; simp [readClassA])
theorem strel (g : BitVec 4) (t : BitVec 6) (a : BitVec 6) (k : BitVec 6) : Statement (.strel g t a k) :=
  of_slot rfl (by rw [general_cls]; decide) (by rw [readSlot_classA]; simp [readClassA])
theorem invr (g : BitVec 4) (a : BitVec 6) (b : BitVec 6) : Statement (.invr g a b) :=
  of_slot rfl (by rw [general_cls]; decide) (by rw [readSlot_classA]; simp [readClassA])
theorem wbr (g : BitVec 4) (a : BitVec 6) (b : BitVec 6) : Statement (.wbr g a b) :=
  of_slot rfl (by rw [general_cls]; decide) (by rw [readSlot_classA]; simp [readClassA])
theorem tspawn (g : BitVec 4) (a : BitVec 6) : Statement (.tspawn g a) :=
  of_slot rfl (by rw [general_cls]; decide) (by rw [readSlot_classB]; simp [readClassB])
theorem tspawnr (g : BitVec 4) (a : BitVec 6) : Statement (.tspawnr g a) :=
  of_slot rfl (by rw [general_cls]; decide) (by rw [readSlot_classB]; simp [readClassB])
theorem tspawng (g : BitVec 4) (a : BitVec 6) : Statement (.tspawng g a) :=
  of_slot rfl (by rw [general_cls]; decide) (by rw [readSlot_classB]; simp [readClassB])
theorem fspawn (g : BitVec 4) (a : BitVec 6) : Statement (.fspawn g a) :=
  of_slot rfl (by rw [general_cls]; decide) (by rw [readSlot_classB]; simp [readClassB])
theorem fref (g : BitVec 4) (a : BitVec 6) : Statement (.fref g a) :=
  of_slot rfl (by rw [general_cls]; decide) (by rw [readSlot_classB]; simp [readClassB])
theorem fdrop (g : BitVec 4) (a : BitVec 6) : Statement (.fdrop g a) :=
  of_slot rfl (by rw [general_cls]; decide) (by rw [readSlot_classB]; simp [readClassB])
theorem fget (g : BitVec 4) (d : BitVec 6) (a : BitVec 6) (p : BitVec 4) : Statement (.fget g d a p) :=
  of_slot rfl (by rw [general_cls]; decide) (by rw [readSlot_classB]; simp [readClassB, pack_p2])
theorem tdec (g : BitVec 4) (d : BitVec 6) (a : BitVec 6) (b : BitVec 6) : Statement (.tdec g d a b) :=
  of_slot rfl (by rw [general_cls]; decide) (by rw [readSlot_classB]; simp [readClassB])
theorem tcont (g : BitVec 4) (a : BitVec 6) (b : BitVec 6) : Statement (.tcont g a b) :=
  of_slot rfl (by rw [general_cls]; decide) (by rw [readSlot_classB]; simp [readClassB])
theorem tend (g : BitVec 4) (a : BitVec 6) : Statement (.tend g a) :=
  of_slot rfl (by rw [general_cls]; decide) (by rw [readSlot_classB]; simp [readClassB])
theorem tyield (g : BitVec 4) (k : BitVec 6) : Statement (.tyield g k) :=
  of_slot rfl (by rw [general_cls]; decide) (by rw [readSlot_classB]; simp [readClassB])
theorem rnext (g : BitVec 4) (d : BitVec 6) : Statement (.rnext g d) :=
  of_slot rfl (by rw [general_cls]; decide) (by rw [readSlot_classB]; simp [readClassB])
theorem nxtreq (g : BitVec 4) (d : BitVec 6) (a : BitVec 6) : Statement (.nxtreq g d a) :=
  of_slot rfl (by rw [general_cls]; decide) (by rw [readSlot_classB]; simp [readClassB])
theorem pload (g : BitVec 4) (a : BitVec 6) (t : BitVec 6) : Statement (.pload g a t) :=
  of_slot rfl (by rw [general_cls]; decide) (by rw [readSlot_classB]; simp [readClassB])
theorem pswap (g : BitVec 4) : Statement (.pswap g) :=
  of_slot rfl (by rw [general_cls]; decide) (by rw [readSlot_classB]; simp [readClassB])
theorem tsrd (g : BitVec 4) (d : BitVec 6) (n : BitVec 6) (f : BitVec 6) : Statement (.tsrd g d n f) :=
  of_slot rfl (by rw [general_cls]; decide) (by rw [readSlot_classB]; simp [readClassB])
theorem tswr (g : BitVec 4) (n : BitVec 6) (a : BitVec 6) (f : BitVec 6) : Statement (.tswr g n a f) :=
  of_slot rfl (by rw [general_cls]; decide) (by rw [readSlot_classB]; simp [readClassB])
theorem tsclr (g : BitVec 4) (n : BitVec 6) : Statement (.tsclr g n) :=
  of_slot rfl (by rw [general_cls]; decide) (by rw [readSlot_classB]; simp [readClassB])
theorem srd (g : BitVec 4) (d : BitVec 6) (r : BitVec 12) : Statement (.srd g d r) :=
  of_slot rfl (by rw [general_cls]; decide) (by rw [readSlot_classB]; simp [readClassB, split12])
theorem swr (g : BitVec 4) (a : BitVec 6) (r : BitVec 12) : Statement (.swr g a r) :=
  of_slot rfl (by rw [general_cls]; decide) (by rw [readSlot_classB]; simp [readClassB, split12])
theorem trap (g : BitVec 4) (k : BitVec 12) : Statement (.trap g k) :=
  of_slot rfl (by rw [general_cls]; decide) (by rw [readSlot_classB]; simp [readClassB, split12])
theorem eret (g : BitVec 4) : Statement (.eret g) :=
  of_slot rfl (by rw [general_cls]; decide) (by rw [readSlot_classB]; simp [readClassB])
theorem feat (g : BitVec 4) (d : BitVec 6) (k : BitVec 6) : Statement (.feat g d k) :=
  of_slot rfl (by rw [general_cls]; decide) (by rw [readSlot_classB]; simp [readClassB])
theorem aadd (g : BitVec 4) (z : BitVec 2) (d : BitVec 6) (a : BitVec 6) (b : BitVec 6) : Statement (.aadd g z d a b) :=
  of_slot rfl (by rw [atomic_cls]; decide) (by rw [readSlot_classC]; simp [readClassC])
theorem amin (g : BitVec 4) (z : BitVec 2) (d : BitVec 6) (a : BitVec 6) (b : BitVec 6) : Statement (.amin g z d a b) :=
  of_slot rfl (by rw [atomic_cls]; decide) (by rw [readSlot_classC]; simp [readClassC])
theorem amax (g : BitVec 4) (z : BitVec 2) (d : BitVec 6) (a : BitVec 6) (b : BitVec 6) : Statement (.amax g z d a b) :=
  of_slot rfl (by rw [atomic_cls]; decide) (by rw [readSlot_classC]; simp [readClassC])
theorem aminu (g : BitVec 4) (z : BitVec 2) (d : BitVec 6) (a : BitVec 6) (b : BitVec 6) : Statement (.aminu g z d a b) :=
  of_slot rfl (by rw [atomic_cls]; decide) (by rw [readSlot_classC]; simp [readClassC])
theorem amaxu (g : BitVec 4) (z : BitVec 2) (d : BitVec 6) (a : BitVec 6) (b : BitVec 6) : Statement (.amaxu g z d a b) :=
  of_slot rfl (by rw [atomic_cls]; decide) (by rw [readSlot_classC]; simp [readClassC])
theorem aand (g : BitVec 4) (z : BitVec 2) (d : BitVec 6) (a : BitVec 6) (b : BitVec 6) : Statement (.aand g z d a b) :=
  of_slot rfl (by rw [atomic_cls]; decide) (by rw [readSlot_classC]; simp [readClassC])
theorem aor (g : BitVec 4) (z : BitVec 2) (d : BitVec 6) (a : BitVec 6) (b : BitVec 6) : Statement (.aor g z d a b) :=
  of_slot rfl (by rw [atomic_cls]; decide) (by rw [readSlot_classC]; simp [readClassC])
theorem axor (g : BitVec 4) (z : BitVec 2) (d : BitVec 6) (a : BitVec 6) (b : BitVec 6) : Statement (.axor g z d a b) :=
  of_slot rfl (by rw [atomic_cls]; decide) (by rw [readSlot_classC]; simp [readClassC])
theorem aswap (g : BitVec 4) (z : BitVec 2) (d : BitVec 6) (a : BitVec 6) (b : BitVec 6) : Statement (.aswap g z d a b) :=
  of_slot rfl (by rw [atomic_cls]; decide) (by rw [readSlot_classC]; simp [readClassC])
theorem acas (g : BitVec 4) (z : BitVec 2) (d : BitVec 6) (a : BitVec 6) (b : BitVec 6) : Statement (.acas g z d a b) :=
  of_slot rfl (by rw [atomic_cls]; decide) (by rw [readSlot_classC]; simp [readClassC])
theorem aadds (g : BitVec 4) (z : BitVec 2) (d : BitVec 6) (a : BitVec 6) (b : BitVec 6) : Statement (.aadds g z d a b) :=
  of_slot rfl (by rw [atomic_cls]; decide) (by rw [readSlot_classC]; simp [readClassC])
theorem redadd (g : BitVec 4) (z : BitVec 2) (a : BitVec 6) (b : BitVec 6) : Statement (.redadd g z a b) :=
  of_slot rfl (by rw [atomic_cls]; decide) (by rw [readSlot_classC]; simp [readClassC])
theorem redmin (g : BitVec 4) (z : BitVec 2) (a : BitVec 6) (b : BitVec 6) : Statement (.redmin g z a b) :=
  of_slot rfl (by rw [atomic_cls]; decide) (by rw [readSlot_classC]; simp [readClassC])
theorem redmax (g : BitVec 4) (z : BitVec 2) (a : BitVec 6) (b : BitVec 6) : Statement (.redmax g z a b) :=
  of_slot rfl (by rw [atomic_cls]; decide) (by rw [readSlot_classC]; simp [readClassC])
theorem redadds (g : BitVec 4) (z : BitVec 2) (a : BitVec 6) (b : BitVec 6) : Statement (.redadds g z a b) :=
  of_slot rfl (by rw [atomic_cls]; decide) (by rw [readSlot_classC]; simp [readClassC])
theorem redor (g : BitVec 4) (z : BitVec 2) (a : BitVec 6) (b : BitVec 6) : Statement (.redor g z a b) :=
  of_slot rfl (by rw [atomic_cls]; decide) (by rw [readSlot_classC]; simp [readClassC])
theorem loadLand (c : Nat) (k : Nat) (r : EccResult) : Statement (.loadLand c k r) := of_event rfl
theorem returnQueueLand (c : Nat) (k : Nat) : Statement (.returnQueueLand c k) := of_event rfl
theorem matrixCommandAccept (c : Nat) (e : Bool) : Statement (.matrixCommandAccept c e) := of_event rfl
theorem microEnd (c : Nat) (e : Bool) : Statement (.microEnd c e) := of_event rfl
theorem microNop (c : Nat) (e : Bool) : Statement (.microNop c e) := of_event rfl
theorem microSetm (c : Nat) (e : Bool) : Statement (.microSetm c e) := of_event rfl
theorem microSeti (c : Nat) (e : Bool) : Statement (.microSeti c e) := of_event rfl
theorem microAddi (c : Nat) (e : Bool) : Statement (.microAddi c e) := of_event rfl
theorem microBnz (c : Nat) (e : Bool) : Statement (.microBnz c e) := of_event rfl
theorem microJmp (c : Nat) (e : Bool) : Statement (.microJmp c e) := of_event rfl
theorem microLda (c : Nat) (e : Bool) : Statement (.microLda c e) := of_event rfl
theorem microLdb (c : Nat) (e : Bool) : Statement (.microLdb c e) := of_event rfl
theorem microMac (c : Nat) (e : Bool) : Statement (.microMac c e) := of_event rfl
theorem microZero (c : Nat) (e : Bool) : Statement (.microZero c e) := of_event rfl
theorem microScat (c : Nat) (e : Bool) : Statement (.microScat c e) := of_event rfl
theorem microAddv (c : Nat) (e : Bool) : Statement (.microAddv c e) := of_event rfl
theorem microChk (c : Nat) (e : Bool) : Statement (.microChk c e) := of_event rfl
theorem microReserved (c : Nat) (e : Bool) : Statement (.microReserved c e) := of_event rfl
theorem stagingLoadComplete (c : Nat) (e : Bool) (p : Bool) : Statement (.stagingLoadComplete c e p) := of_event rfl
theorem macStepComplete (c : Nat) (e : Bool) : Statement (.macStepComplete c e) := of_event rfl
theorem matrixCommandComplete (c : Nat) (e : Bool) : Statement (.matrixCommandComplete c e) := of_event rfl
theorem copyCommandStart (c : Nat) (e : Bool) : Statement (.copyCommandStart c e) := of_event rfl
theorem permitGrant (c : Nat) (e : Bool) : Statement (.permitGrant c e) := of_event rfl
theorem copyGranuleWrite (c : Nat) (e : Bool) : Statement (.copyGranuleWrite c e) := of_event rfl
theorem copyCommandComplete (c : Nat) (e : Bool) (k : Nat) : Statement (.copyCommandComplete c e k) := of_event rfl
theorem collectiveStart (n : Nat) : Statement (.collectiveStart n) := of_event rfl
theorem readyBitSet (c : Nat) (e : Bool) : Statement (.readyBitSet c e) := of_event rfl
theorem collectiveComplete (n : Nat) : Statement (.collectiveComplete n) := of_event rfl
theorem nxtreqAnswer (c : Nat) : Statement (.nxtreqAnswer c) := of_event rfl
theorem redTranslate (c : Nat) : Statement (.redTranslate c) := of_event rfl
theorem pageWalkComplete (k : Nat) : Statement (.pageWalkComplete k) := of_event rfl
theorem faultRecordWrite (a : Nat) : Statement (.faultRecordWrite a) := of_event rfl
theorem verdictRetry (a : Nat) (p : Nat) : Statement (.verdictRetry a p) := of_event rfl
theorem verdictTranslation (a : Nat) (p : Nat) : Statement (.verdictTranslation a p) := of_event rfl
theorem verdictProtection (a : Nat) (p : Nat) : Statement (.verdictProtection a p) := of_event rfl
theorem verdictDrop (a : Nat) (p : Nat) : Statement (.verdictDrop a p) := of_event rfl
theorem select (c : Nat) : Statement (.select c) := of_event rfl
theorem imageLoadStart (a : Nat) (t : Nat) : Statement (.imageLoadStart a t) := of_event rfl
theorem planeLoadComplete (c : Nat) : Statement (.planeLoadComplete c) := of_event rfl
theorem timeSliceExpiry (c : Nat) : Statement (.timeSliceExpiry c) := of_event rfl
theorem graceExpiry (c : Nat) : Statement (.graceExpiry c) := of_event rfl
theorem saveComplete (c : Nat) : Statement (.saveComplete c) := of_event rfl
theorem eclipseReclaim (c : Nat) : Statement (.eclipseReclaim c) := of_event rfl
theorem taskFinish (a : Nat) (t : Nat) : Statement (.taskFinish a t) := of_event rfl
theorem dimmerUpdate (p : Nat) (t : List Nat) : Statement (.dimmerUpdate p t) := of_event rfl
theorem governorWindowEnd  : Statement (.governorWindowEnd ) := of_event rfl
theorem scrub (x : ScrubArray) (a : Nat) (r : EccResult) : Statement (.scrub x a r) := of_event rfl
theorem freezeSignal (d : Nat) (o : Nat) (q : Nat) : Statement (.freezeSignal d o q) := of_event rfl
theorem holdbackEnd (r : Nat) : Statement (.holdbackEnd r) := of_event rfl
theorem regularRefresh (r : Nat) : Statement (.regularRefresh r) := of_event rfl
theorem writePacket (n : Nat) (p : Packet) : Statement (.writePacket n p) := of_event rfl
theorem readPacket (n : Nat) (p : Packet) : Statement (.readPacket n p) := of_event rfl
theorem rdataPacket (n : Nat) (p : Packet) : Statement (.rdataPacket n p) := of_event rfl
theorem atomicPacket (n : Nat) (p : Packet) : Statement (.atomicPacket n p) := of_event rfl
theorem aresultPacket (n : Nat) (p : Packet) : Statement (.aresultPacket n p) := of_event rfl
theorem redPacket (n : Nat) (p : Packet) : Statement (.redPacket n p) := of_event rfl
theorem chunkPacket (n : Nat) (p : Packet) : Statement (.chunkPacket n p) := of_event rfl
theorem ackPacket (n : Nat) (p : Packet) : Statement (.ackPacket n p) := of_event rfl
theorem beaconPacket (n : Nat) (p : Packet) : Statement (.beaconPacket n p) := of_event rfl
theorem probePacket (n : Nat) (p : Packet) : Statement (.probePacket n p) := of_event rfl
theorem packetForward (n : Nat) (p : Packet) : Statement (.packetForward n p) := of_event rfl
theorem packetAgeDiscard (n : Nat) (p : Packet) : Statement (.packetAgeDiscard n p) := of_event rfl
theorem ackSend (k : Nat) : Statement (.ackSend k) := of_event rfl
theorem retxTimeout (k : Nat) : Statement (.retxTimeout k) := of_event rfl
theorem portDown (n : Nat) : Statement (.portDown n) := of_event rfl
theorem beaconSend  : Statement (.beaconSend ) := of_event rfl
theorem beaconMiss (n : Nat) : Statement (.beaconMiss n) := of_event rfl
theorem probeSend (q : Nat) : Statement (.probeSend q) := of_event rfl
theorem peerLostDeclare (q : Nat) : Statement (.peerLostDeclare q) := of_event rfl
theorem lostDeclaration (q : Nat) : Statement (.lostDeclaration q) := of_event rfl
theorem hostMemoryAccess (x : Bool) (a : Nat) (n : Nat) (v : Nat) : Statement (.hostMemoryAccess x a n v) := of_event rfl
theorem hostScratchpadAccess (x : Bool) (a : Nat) (n : Nat) (v : Nat) : Statement (.hostScratchpadAccess x a n v) := of_event rfl
theorem launch (d : Nat) (w : Word) : Statement (.launch d w) := of_event rfl
theorem launchDrop (d : Nat) (w : Word) : Statement (.launchDrop d w) := of_event rfl
theorem contextRegister (w : Word) : Statement (.contextRegister w) := of_event rfl
theorem contextDelete (w : Word) : Statement (.contextDelete w) := of_event rfl
theorem halt (w : Word) : Statement (.halt w) := of_event rfl
theorem haltDrainDone  : Statement (.haltDrainDone ) := of_event rfl
theorem resume (d : Nat) (w : Word) : Statement (.resume d w) := of_event rfl
theorem tlbinvPage (w : Word) : Statement (.tlbinvPage w) := of_event rfl
theorem tlbinvAsid (w : Word) : Statement (.tlbinvAsid w) := of_event rfl
theorem tlbinvDone  : Statement (.tlbinvDone ) := of_event rfl
theorem packageAdmit (w : Word) : Statement (.packageAdmit w) := of_event rfl
theorem modeWrite (w : Word) : Statement (.modeWrite w) := of_event rfl
theorem thresholdWrite (w : Word) : Statement (.thresholdWrite w) := of_event rfl
theorem rowThresholdWrite (w : Word) : Statement (.rowThresholdWrite w) := of_event rfl
theorem afterglowRun (d : Nat) (w : Word) : Statement (.afterglowRun d w) := of_event rfl
theorem keyLoad (w : Word) : Statement (.keyLoad w) := of_event rfl
theorem attest (w : Word) : Statement (.attest w) := of_event rfl
theorem attestDone  : Statement (.attestDone ) := of_event rfl
theorem bootGo (w : Word) : Statement (.bootGo w) := of_event rfl
theorem mgmtWrite (o : Nat) (w : Word) : Statement (.mgmtWrite o w) := of_event rfl
theorem coldReset  : Statement (.coldReset ) := of_event rfl
theorem warmReset  : Statement (.warmReset ) := of_event rfl
theorem supplyLoss  : Statement (.supplyLoss ) := of_event rfl
theorem l1Eviction (c : Nat) (k : Nat) : Statement (.l1Eviction c k) := of_event rfl

end Sys2Proof.Laws.RoundTrip
end

