-- ==== Sys2Proof/Tests/Slice0.lean ====
section
/-! SUPPORT. Tests: instructions that the checks refuse, words written out from the encodings, worked examples of the manual, and for every statement with hypotheses a state that meets them. -/

namespace Sys2Proof.Tests

open Machine

set_option Elab.async false

/-! ### The well-formedness checks refuse (R12, R20, R37 to R42) -/

/-- One instruction for each check of the shapes: a width or a fixed field that its opcode does not have. -/
theorem test_shapes_refused : ∀ i ∈ [Instr.vmulq 0 .byte 1 2 (.v 3) false, .vnarrow 0 .byte 1 2 3 false, .vnarrow 0 .half 1 2 3 true,
    .vwiden 0 .dword 1 2 3 false, .vperm 0 .byte 1 2 3 true, .mcall 0 1 2 true true, .mcallg 0 1 2 true true, .mstat 0 3 false,
    .aadd 0 2 1 2 3, .amin 0 3 1 2 3, .amax 0 2 1 2 3, .aminu 0 2 1 2 3, .amaxu 0 2 1 2 3, .aand 0 2 1 2 3, .aor 0 2 1 2 3, .axor 0 2 1 2 3,
    .aswap 0 3 2 2 4, .acas 0 3 2 2 4, .aadds 0 2 1 2 3, .redadd 0 2 2 3, .redmin 0 2 2 3, .redmax 0 3 2 3, .redadds 0 2 2 3, .redor 0 2 2 3],
    i.shapeOk = false ∧ i.wellFormed = false := by decide +kernel

/-- One instruction for each operand limit, with the field that sys.fopnd names. -/
theorem test_operands_refused : ∀ q ∈ [(Instr.peq 0 0 1 2, 0), (.ptox 0 1 2 4, 2), (.xtop 0 0 1 1, 0), (.xtop 0 1 1 4, 2), (.slli 0 1 1 64, 2), (.srai 0 1 1 511, 2),
    (.ldq 0 5 1 0, 0), (.stq 0 5 1 0, 0), (.loop 0 3 1 2, 0), (.loop 0 0 1 0, 2), (.loopi 0 0 1 1, 2), (.loopp 0 0 1 1 257, 2), (.lexit 0 3, 0),
    (.vcmpeq 0 .byte 0 1 (.v 2), 0), (.vldp 0 0 1 none, 0), (.vnarrow 0 .half 1 31 2 false, 1), (.vq4p 0 1 31, 1), (.vperm 0 .half 1 31 2 true, 1),
    (.vslide 0 .byte 1 31 2 true, 1), (.vopt 0 30 1 2, 0), (.vopt 0 4 6 2, 1), (.mzero 0 1 true false, 1), (.erw 0 1 18, 2), (.erd 0 1 63, 2), (.bind 0 1 2 3, 2),
    (.fence 0 4, 2), (.ldacq 0 1 2 4, 2), (.feat 0 1 4, 2), (.mbsend 0 1 2 3, 2), (.mbrecv 0 1 1 1, 0), (.mbrecv 0 2 0 1, 1), (.mbrecv 0 2 1 8, 2),
    (.mbbind 0 1 8, 2), (.dbar 0 4 1, 1), (.fget 0 1 2 1, 0), (.fget 0 2 2 0, 2), (.tend 0 1, 1), (.tyield 0 2, 2), (.rnext 0 1, 0), (.tsrd 0 1 2 7, 2),
    (.srd 0 1 0x17, 4), (.swr 0 1 0x2C, 4), (.aswap 0 2 1 2 4, 0), (.acas 0 2 2 2 5, 2)], q.1.operandFault = some q.2 ∧ q.1.wellFormed = false := by decide +kernel

/-- One instruction for each range of data. -/
theorem test_data_refused : ∀ i ∈ [Instr.nop 0 1 0 0 0 false, .nop 1 0 0 0 0 false, .select 576, .collectiveStart 32, .verdictDrop 8192 0, .launch 4 0,
    .freezeSignal 6 0 0, .freezeSignal 0 6 0, .afterglowRun 6 0, .portDown 148, .beaconMiss 144, .probeSend 65536], i.dataOk = false ∧ i.wellFormed = false := by
  decide +kernel

/-- The last values inside the limits. -/
theorem test_limits_accepted : ∀ i ∈ [Instr.ptox 0 1 2 3, .srai 0 1 1 63, .loop 0 2 1 2, .loopi 0 0 1 256, .vnarrow 0 .half 1 30 2 false, .vopt 0 29 28 2, .mzero 0 0 true false,
    .erw 0 1 17, .fence 0 3, .mbrecv 0 2 1 7, .dbar 0 3 1, .tsrd 0 1 2 6, .srd 0 1 0x16, .swr 0 1 0x20, .swr 0 1 0x2B, .acas 0 2 2 2 4, .select 575, .beaconMiss 143],
    i.wellFormed = true := by decide +kernel

/-! ### Words of the manual, and words refused -/

/-- Words that the manual's listings print (R48, R56, R120, R140, R150, R217, R220, R221, R225), and words written out from R27 and R35 to R44. -/
theorem test_decode_listings : ∀ q ∈ [(0x09021050#32, Instr.peq 0 2 4 5), (0x10280000#32, .addi 0 5 0 0), (0x1E2A4680#32, .lih 0 5 0x2468),
    (0x3203F000#32, .jr 0 63), (0xA5050000#32, .rqpop 0 5), (0x53444260#32, .vnarrow 0 .word 4 8 9 false), (0x664609D0#32, .vspop 0 .word 6 1 7 true),
    (0x62244320#32, .vopt 0 4 8 12), (0xB1C01870#32, .tdec 0 0 6 7), (0xB2402000#32, .tend 0 8), (0xB5000050#32, .trap 0 5), (0xB5400000#32, .eret 0),
    (0xC2C01050#32, .redadd 0 0 4 5), (0x26146031#32, .ldd 1 5 6 3), (0x2A1C8FF0#32, .stw 0 7 8 0xFF), (0x34490100#32, .loop 0 1 9 16),
    (0x810A2C10#32, .mcall 0 10 11 false true), (0x908C3420#32, .cpy 0 12 13 true false), (0xC6420C40#32, .acas 0 1 2 3 4), (0xF0000000#32, .nop 0 0 0 0 0 false)],
    decodeWord q.1 = .ok q.2 := by decide +kernel

/-- Class 0xD, a reserved opcode, a must-be-zero field, an operand limit, an SCW and a header with slots are no slot words (R29, R33, R42, R43). -/
theorem test_decode_rejects : ∀ q ∈ [(0xD0000000#32, Reject.illegalInstruction), (0x0F400000#32, .illegalInstruction), (0x32000010#32, .illegalInstruction),
    (0x18000400#32, .illegalOperand 2), (0xE0000000#32, .illegalSlot), (0xF0400000#32, .illegalBundle), (0xF0000001#32, .illegalBundle)],
    decodeWord q.1 = .error q.2 := by decide +kernel

/-- Slot S refuses a vector word, slot V0 takes it; no slot takes class 0xD (R26, R43). -/
theorem test_decode_slots : decodeInSlot 0 0x43232140#32 = .error .illegalSlot ∧ decodeInSlot 1 0x43232140#32 = .ok (.vmul 0 .half 3 4 (.v 5)) ∧
    decodeInSlot 1 0x00010830#32 = .error .illegalSlot ∧ decodeInSlot 0 0xD0000000#32 = .error .illegalInstruction := by decide +kernel

/-- The host's two entry points read the same word; nothing is read from no bits. -/
theorem test_table_word : decodeTableWord 32 0x00010830 = some (.add 0 1 2 3) ∧ decodeTableWord 0 0 = none := by decide +kernel

/-! ### Every slot word, its fields placed by the encoding of its row of the operation table: guard p9 and distinct operands (R27, R35 to R44) -/

theorem test_decode_class_0_0 : ∀ q ∈ [
    (0x000A30E9#32, Instr.add 9 10 12 14),
    (0x004A30E9#32, Instr.sub 9 10 12 14),
    (0x008A30E9#32, Instr.and 9 10 12 14),
    (0x00CA30E9#32, Instr.or 9 10 12 14),
    (0x010A30E9#32, Instr.xor 9 10 12 14),
    (0x014A30E9#32, Instr.andn 9 10 12 14),
    (0x018A30E9#32, Instr.orn 9 10 12 14),
    (0x01CA30E9#32, Instr.sll 9 10 12 14),
    (0x020A30E9#32, Instr.srl 9 10 12 14),
    (0x024A30E9#32, Instr.sra 9 10 12 14),
    (0x028A30E9#32, Instr.rol 9 10 12 14),
    (0x02CA30E9#32, Instr.ror 9 10 12 14),
    (0x030A30E9#32, Instr.mul 9 10 12 14),
    (0x034A30E9#32, Instr.mulh 9 10 12 14),
    (0x038A30E9#32, Instr.mulhu 9 10 12 14),
    (0x03CA30E9#32, Instr.div 9 10 12 14)],
    decodeWord q.1 = .ok q.2 := by decide +kernel

theorem test_decode_class_0_1 : ∀ q ∈ [
    (0x040A30E9#32, Instr.divu 9 10 12 14),
    (0x044A30E9#32, Instr.rem 9 10 12 14),
    (0x048A30E9#32, Instr.remu 9 10 12 14),
    (0x04CA30E9#32, Instr.min 9 10 12 14),
    (0x050A30E9#32, Instr.max 9 10 12 14),
    (0x054A30E9#32, Instr.minu 9 10 12 14),
    (0x058A30E9#32, Instr.maxu 9 10 12 14),
    (0x05CA30E9#32, Instr.adds 9 10 12 14),
    (0x060A30E9#32, Instr.subs 9 10 12 14),
    (0x064A30E9#32, Instr.slt 9 10 12 14),
    (0x068A30E9#32, Instr.sltu 9 10 12 14),
    (0x06CA30E9#32, Instr.seq 9 10 12 14),
    (0x070A3009#32, Instr.clz 9 10 12),
    (0x074A3009#32, Instr.ctz 9 10 12),
    (0x078A3009#32, Instr.popc 9 10 12),
    (0x07CA3009#32, Instr.brev 9 10 12)],
    decodeWord q.1 = .ok q.2 := by decide +kernel

theorem test_decode_class_0_2 : ∀ q ∈ [
    (0x080A3009#32, Instr.bswap 9 10 12),
    (0x084A3009#32, Instr.sextb 9 10 12),
    (0x088A3009#32, Instr.sexth 9 10 12),
    (0x08CA3009#32, Instr.sextw 9 10 12),
    (0x090430E9#32, Instr.peq 9 4 12 14),
    (0x094430E9#32, Instr.pne 9 4 12 14),
    (0x098430E9#32, Instr.plt 9 4 12 14),
    (0x09C430E9#32, Instr.pge 9 4 12 14),
    (0x0A0430E9#32, Instr.pltu 9 4 12 14),
    (0x0A4430E9#32, Instr.pgeu 9 4 12 14),
    (0x0A8A1029#32, Instr.ptox 9 10 4 2),
    (0x0AC43029#32, Instr.xtop 9 4 12 2),
    (0x0B0A1049#32, Instr.pcnt 9 10 4 4)],
    decodeWord q.1 = .ok q.2 := by decide +kernel

theorem test_decode_class_1_0 : ∀ q ∈ [
    (0x10518169#32, Instr.addi 9 10 12 22),
    (0x12518169#32, Instr.andi 9 10 12 22),
    (0x14518169#32, Instr.ori 9 10 12 22),
    (0x16518169#32, Instr.xori 9 10 12 22),
    (0x18518169#32, Instr.slli 9 10 12 22),
    (0x1A518169#32, Instr.srli 9 10 12 22),
    (0x1C518169#32, Instr.srai 9 10 12 22),
    (0x1E540159#32, Instr.lih 9 10 16405)],
    decodeWord q.1 = .ok q.2 := by decide +kernel

theorem test_decode_class_2_0 : ∀ q ∈ [
    (0x2028CB59#32, Instr.ldb 9 10 12 181),
    (0x2128CB59#32, Instr.ldbu 9 10 12 181),
    (0x2228CB59#32, Instr.ldh 9 10 12 181),
    (0x2328CB59#32, Instr.ldhu 9 10 12 181),
    (0x2428CB59#32, Instr.ldw 9 10 12 181),
    (0x2528CB59#32, Instr.ldwu 9 10 12 181),
    (0x2628CB59#32, Instr.ldd 9 10 12 181),
    (0x2728CB59#32, Instr.ldq 9 10 12 181),
    (0x2828CB59#32, Instr.stb 9 10 12 181),
    (0x2928CB59#32, Instr.sth 9 10 12 181),
    (0x2A28CB59#32, Instr.stw 9 10 12 181),
    (0x2B28CB59#32, Instr.std 9 10 12 181),
    (0x2C28CB59#32, Instr.stq 9 10 12 181),
    (0x2D00AB59#32, Instr.prf 9 10 181),
    (0x2E00AB59#32, Instr.zln 9 10 181)],
    decodeWord q.1 = .ok q.2 := by decide +kernel

theorem test_decode_class_3_0 : ∀ q ∈ [
    (0x30800159#32, Instr.br 9 524309),
    (0x31800159#32, Instr.call 9 524309),
    (0x3200A009#32, Instr.jr 9 10),
    (0x3328C009#32, Instr.jalr 9 10 12),
    (0x348C0169#32, Instr.loop 9 2 12 22),
    (0x3582C169#32, Instr.loopi 9 2 22 22),
    (0x368CA169#32, Instr.loopp 9 2 12 5 22),
    (0x37800009#32, Instr.lexit 9 2)],
    decodeWord q.1 = .ok q.2 := by decide +kernel

theorem test_decode_class_4_0 : ∀ q ∈ [
    (0x40485369#32, Instr.vadd 9 .word 8 10 (.x 13)),
    (0x40C85369#32, Instr.vsub 9 .word 8 10 (.x 13)),
    (0x41485369#32, Instr.vadds 9 .word 8 10 (.x 13)),
    (0x41C85369#32, Instr.vsubs 9 .word 8 10 (.x 13)),
    (0x42485369#32, Instr.vaddsu 9 .word 8 10 (.x 13)),
    (0x42C85369#32, Instr.vsubsu 9 .word 8 10 (.x 13)),
    (0x43485369#32, Instr.vmul 9 .word 8 10 (.x 13)),
    (0x43C85369#32, Instr.vmulh 9 .word 8 10 (.x 13)),
    (0x44485369#32, Instr.vmulhu 9 .word 8 10 (.x 13)),
    (0x44C85379#32, Instr.vmulq 9 .word 8 10 (.x 13) true),
    (0x45485369#32, Instr.vmin 9 .word 8 10 (.x 13)),
    (0x45C85369#32, Instr.vmax 9 .word 8 10 (.x 13)),
    (0x46485369#32, Instr.vminu 9 .word 8 10 (.x 13)),
    (0x46C85369#32, Instr.vmaxu 9 .word 8 10 (.x 13)),
    (0x47485369#32, Instr.vand 9 .word 8 10 (.x 13)),
    (0x47C85369#32, Instr.vor 9 .word 8 10 (.x 13))],
    decodeWord q.1 = .ok q.2 := by decide +kernel

theorem test_decode_class_4_1 : ∀ q ∈ [
    (0x48485369#32, Instr.vxor 9 .word 8 10 (.x 13)),
    (0x48C85369#32, Instr.vandn 9 .word 8 10 (.x 13)),
    (0x49485369#32, Instr.vsll 9 .word 8 10 (.x 13)),
    (0x49C85369#32, Instr.vsrl 9 .word 8 10 (.x 13)),
    (0x4A485369#32, Instr.vsra 9 .word 8 10 (.x 13)),
    (0x4AC85009#32, Instr.vabs 9 .word 8 10),
    (0x4B485009#32, Instr.vneg 9 .word 8 10),
    (0x4BC85379#32, Instr.vavg 9 .word 8 10 (.x 13) true),
    (0x4C485009#32, Instr.vmov 9 .word 8 10),
    (0x4CC85369#32, Instr.vsel 9 .word 8 10 (.x 13)),
    (0x4D485009#32, Instr.vcls 9 .word 8 10),
    (0x4DC85009#32, Instr.vpopc 9 .word 8 10)],
    decodeWord q.1 = .ok q.2 := by decide +kernel

theorem test_decode_class_5_0 : ∀ q ∈ [
    (0x50445369#32, Instr.vcmpeq 9 .word 4 10 (.x 13)),
    (0x50C45369#32, Instr.vcmpne 9 .word 4 10 (.x 13)),
    (0x51445369#32, Instr.vcmplt 9 .word 4 10 (.x 13)),
    (0x51C45369#32, Instr.vcmple 9 .word 4 10 (.x 13)),
    (0x52445369#32, Instr.vcmpltu 9 .word 4 10 (.x 13)),
    (0x52C45369#32, Instr.vcmpleu 9 .word 4 10 (.x 13)),
    (0x53485339#32, Instr.vnarrow 9 .word 8 10 12 true),
    (0x53C85339#32, Instr.vwiden 9 .word 8 10 12 true),
    (0x54485329#32, Instr.vshrr 9 .word 8 10 12),
    (0x54C85329#32, Instr.vsshr 9 .word 8 10 12),
    (0x554802A9#32, Instr.vsplat 9 .word 8 10),
    (0x55C85339#32, Instr.vextr 9 .word 8 10 12 true),
    (0x56485329#32, Instr.vinsr 9 .word 8 10 12),
    (0x56C802B9#32, Instr.viota 9 .word 8 10 true),
    (0x570642B9#32, Instr.vcb4 9 6 8 10 true),
    (0x57864009#32, Instr.vq4p 9 6 8)],
    decodeWord q.1 = .ok q.2 := by decide +kernel

theorem test_decode_class_5_1 : ∀ q ∈ [
    (0x58064019#32, Instr.vq4u 9 6 8 true),
    (0x58C85379#32, Instr.vredadd 9 .word 8 10 (some 13) true),
    (0x59485379#32, Instr.vredmax 9 .word 8 10 (some 13) true),
    (0x59C85379#32, Instr.vredmin 9 .word 8 10 (some 13) true),
    (0x5A485369#32, Instr.vredor 9 .word 8 10 (some 13)),
    (0x5AC04379#32, Instr.vtorq 9 .word 8 (some 13) true),
    (0x5B4042B9#32, Instr.vcens 9 .word 8 10 true)],
    decodeWord q.1 = .ok q.2 := by decide +kernel

theorem test_decode_class_6_0 : ∀ q ∈ [
    (0x602642A9#32, Instr.vexp 9 6 8 10),
    (0x60C642A9#32, Instr.vrcp 9 6 8 10),
    (0x614642A9#32, Instr.vrsq 9 6 8 10),
    (0x61C64369#32, Instr.vdiv 9 6 8 (.x 13)),
    (0x6226A2A9#32, Instr.vopt 9 6 20 10),
    (0x62E64379#32, Instr.vbmm 9 6 8 (.x 13) true),
    (0x63485369#32, Instr.vpdep 9 .word 8 10 (.x 13)),
    (0x63C85369#32, Instr.vpext 9 .word 8 10 (.x 13)),
    (0x64664369#32, Instr.vbperm 9 6 8 (.x 13)),
    (0x64C85319#32, Instr.vperm 9 .word 8 10 12 true),
    (0x65485339#32, Instr.vslide 9 .word 8 10 12 true),
    (0x65C15009#32, Instr.vspush 9 .word 1 10),
    (0x66480919#32, Instr.vspop 9 .word 8 1 4 true),
    (0x66C80809#32, Instr.vsflush 9 .word 8 1),
    (0x67480809#32, Instr.vslen 9 .word 8 1)],
    decodeWord q.1 = .ok q.2 := by decide +kernel

theorem test_decode_class_7_0 : ∀ q ∈ [
    (0x70485369#32, Instr.vld 9 .word 8 10 (some 13)),
    (0x70C85369#32, Instr.vst 9 .word 8 10 (some 13)),
    (0x71485329#32, Instr.vlds 9 .word 8 10 12),
    (0x71C85329#32, Instr.vsts 9 .word 8 10 12),
    (0x72485319#32, Instr.vldx 9 .word 8 10 12 true),
    (0x72C85319#32, Instr.vstx 9 .word 8 10 12 true),
    (0x73485329#32, Instr.vldt 9 .word 8 10 12),
    (0x73C85329#32, Instr.vstt 9 .word 8 10 12),
    (0x74485369#32, Instr.vldb 9 .word 8 10 (some 13)),
    (0x74844369#32, Instr.vldp 9 4 8 (some 13)),
    (0x75044369#32, Instr.vstp 9 4 8 (some 13))],
    decodeWord q.1 = .ok q.2 := by decide +kernel

theorem test_decode_class_8_0 : ∀ q ∈ [
    (0x800028B9#32, Instr.mpw 9 10 5 true),
    (0x804A00B9#32, Instr.mpr 9 10 5 true),
    (0x80802819#32, Instr.mcfg 9 10 true),
    (0x80CA0019#32, Instr.mdrain 9 10 true),
    (0x810A3019#32, Instr.mcall 9 10 12 false true),
    (0x814A3019#32, Instr.mcallg 9 10 12 false true),
    (0x81800039#32, Instr.mspec 9 true true),
    (0x81C00019#32, Instr.mcommit 9 true),
    (0x82000019#32, Instr.mdiscard 9 true),
    (0x82402819#32, Instr.mzero 9 10 false true),
    (0x828A3019#32, Instr.maccld 9 10 12 true),
    (0x82CA3019#32, Instr.maccst 9 10 12 true),
    (0x830A3039#32, Instr.mucw 9 10 12 true true),
    (0x834A3039#32, Instr.mucr 9 10 12 true true),
    (0x83800059#32, Instr.mstat 9 2 true),
    (0x83CA0019#32, Instr.mrpg 9 10 true)],
    decodeWord q.1 = .ok q.2 := by decide +kernel

theorem test_decode_class_9_0 : ∀ q ∈ [
    (0x900028E9#32, Instr.erw 9 10 14),
    (0x904A00E9#32, Instr.erd 9 10 14),
    (0x908A3039#32, Instr.cpy 9 10 12 true true),
    (0x90CA3039#32, Instr.cpym 9 10 12 true true),
    (0x910A3019#32, Instr.cpyx 9 10 12 true),
    (0x914A3039#32, Instr.cpyw 9 10 12 true true),
    (0x918A3009#32, Instr.cpyc 9 10 12),
    (0x91CA3009#32, Instr.coll 9 10 12),
    (0x920A0809#32, Instr.csig 9 10 2)],
    decodeWord q.1 = .ok q.2 := by decide +kernel

theorem test_decode_class_A_0 : ∀ q ∈ [
    (0xA00A3009#32, Instr.acq 9 10 12),
    (0xA04A3009#32, Instr.rel 9 10 12),
    (0xA08A30E9#32, Instr.bind 9 10 12 14),
    (0xA0C02809#32, Instr.unbind 9 10),
    (0xA1000029#32, Instr.fence 9 2),
    (0xA14A3009#32, Instr.qmake 9 10 12),
    (0xA18A30E9#32, Instr.qpush 9 10 12 14),
    (0xA1CA3009#32, Instr.qpop 9 10 12),
    (0xA2002809#32, Instr.qfree 9 10),
    (0xA24A30E9#32, Instr.mbsend 9 10 12 14),
    (0xA28A1029#32, Instr.mbrecv 9 10 4 2),
    (0xA2C02829#32, Instr.mbbind 9 10 2),
    (0xA30028C9#32, Instr.sbarm 9 10 12),
    (0xA34A30E9#32, Instr.sbwait 9 10 12 14),
    (0xA38A3009#32, Instr.sbtst 9 10 12),
    (0xA3C008C9#32, Instr.dbar 9 2 12)],
    decodeWord q.1 = .ok q.2 := by decide +kernel

theorem test_decode_class_A_1 : ∀ q ∈ [
    (0xA40A3009#32, Instr.waitany 9 10 12),
    (0xA44A3009#32, Instr.waitall 9 10 12),
    (0xA48A3009#32, Instr.ffr 9 10 12),
    (0xA4C02809#32, Instr.tagclr 9 10),
    (0xA50A0009#32, Instr.rqpop 9 10),
    (0xA54A3029#32, Instr.ldacq 9 10 12 2),
    (0xA58A3029#32, Instr.strel 9 10 12 2),
    (0xA5C028C9#32, Instr.invr 9 10 12),
    (0xA60028C9#32, Instr.wbr 9 10 12)],
    decodeWord q.1 = .ok q.2 := by decide +kernel

theorem test_decode_class_B_0 : ∀ q ∈ [
    (0xB0002809#32, Instr.tspawn 9 10),
    (0xB0402809#32, Instr.tspawnr 9 10),
    (0xB0802809#32, Instr.tspawng 9 10),
    (0xB0C02809#32, Instr.fspawn 9 10),
    (0xB1002809#32, Instr.fref 9 10),
    (0xB1402809#32, Instr.fdrop 9 10),
    (0xB18A3049#32, Instr.fget 9 10 12 4),
    (0xB1CA30E9#32, Instr.tdec 9 10 12 14),
    (0xB20028C9#32, Instr.tcont 9 10 12),
    (0xB2402809#32, Instr.tend 9 10),
    (0xB2800019#32, Instr.tyield 9 1),
    (0xB2CA0009#32, Instr.rnext 9 10),
    (0xB30A3009#32, Instr.nxtreq 9 10 12),
    (0xB34028C9#32, Instr.pload 9 10 12),
    (0xB3800009#32, Instr.pswap 9),
    (0xB3CA3049#32, Instr.tsrd 9 10 12 4)],
    decodeWord q.1 = .ok q.2 := by decide +kernel

theorem test_decode_class_B_1 : ∀ q ∈ [
    (0xB40A3049#32, Instr.tswr 9 10 12 4),
    (0xB4402809#32, Instr.tsclr 9 10),
    (0xB48A0129#32, Instr.srd 9 10 18),
    (0xB4CA0129#32, Instr.swr 9 10 18),
    (0xB5008159#32, Instr.trap 9 2069),
    (0xB5400009#32, Instr.eret 9),
    (0xB58A0029#32, Instr.feat 9 10 2)],
    decodeWord q.1 = .ok q.2 := by decide +kernel

theorem test_decode_class_C_0 : ∀ q ∈ [
    (0xC40C3909#32, Instr.aadd 9 1 12 14 16),
    (0xC44C3909#32, Instr.amin 9 1 12 14 16),
    (0xC48C3909#32, Instr.amax 9 1 12 14 16),
    (0xC4CC3909#32, Instr.aminu 9 1 12 14 16),
    (0xC50C3909#32, Instr.amaxu 9 1 12 14 16),
    (0xC54C3909#32, Instr.aand 9 1 12 14 16),
    (0xC58C3909#32, Instr.aor 9 1 12 14 16),
    (0xC5CC3909#32, Instr.axor 9 1 12 14 16),
    (0xC60C3909#32, Instr.aswap 9 1 12 14 16),
    (0xC64C3909#32, Instr.acas 9 1 12 14 16),
    (0xC68C3909#32, Instr.aadds 9 1 12 14 16),
    (0xC6C030E9#32, Instr.redadd 9 1 12 14),
    (0xC70030E9#32, Instr.redmin 9 1 12 14),
    (0xC74030E9#32, Instr.redmax 9 1 12 14),
    (0xC78030E9#32, Instr.redadds 9 1 12 14),
    (0xC7C030E9#32, Instr.redor 9 1 12 14)],
    decodeWord q.1 = .ok q.2 := by decide +kernel

/-! ### Small states -/

/-- Scalar registers that hold these values, the others 0. -/
def regsOf (xs : List (Nat × Nat)) : File 6 Word := xs.foldl (fun f q => f.setIfInBounds q.1 (BitVec.ofNat 64 q.2)) (.replicate _ 0)

/-- A bundle that has just begun: its operands are the registers as they stand. -/
def begun (s : State) : State := { s with core := { s.core with old := s.operands } }

/-- Core 0 runs a task of context 0 with these scalar registers. -/
def bench (xs : List (Nat × Nat)) : State :=
  begun { State.reset with core := { Core.reset with mode := .running, t := { TaskState.reset with x := regsOf xs } } }

/-- The task changed. -/
def withT (f : TaskState → TaskState) (s : State) : State := begun { s with core := { s.core with t := f s.core.t } }

/-- A vector register's elements of n bits set. -/
def withV (r : BitVec 5) (n : Nat) (ls : List Nat) (s : State) : State := withT (fun t => { t with v := filePut t.v r (vecOf n ls) }) s

/-- A predicate register set. -/
def withP (r : BitVec 4) (v : Pred) (s : State) : State := withT (fun t => { t with p := filePut t.p r v }) s

/-- Bytes of memory under key slot 0. -/
def poke (pa n v : Nat) (s : State) : State := { s with mem := s.mem.store 0 pa (leBytes n v) }

/-- Context 1 with its descriptor at 0x1000, its core map of core 0 at 0x1400, and the 512 MiB from virtual address 0x4000_0000 on at physical address 0x2000_0000, read and written and loaded. -/
def mapped (xs : List (Nat × Nat)) : State :=
  let s := bench xs
  withT (fun t => { t with id := { asid := 1, record := 0x40000000, member := 0 } })
    (poke 0x1008 8 0x20000 (poke 0x1040 8 0x1400 (poke 0x1400 1 1 (poke 0x20000 8 0x30001 (poke 0x30010 8 0x2000001F
      { s with sched := { s.sched with contexts := [{ asid := 1, desc := 0x1000, halted := false, moved := false }] } })))))

/-- The 512 MiB from virtual address 0x6000_0000 on are those at physical address 0x2000_0000 of package 1. -/
def abroad (s : State) : State := poke 0x30018 8 0x1000002000005F s

/-- The core's lit plane holds code from address 0x100. -/
def withCode (ws : List Code) (s : State) : State :=
  { s with core := { s.core with lit := { s.core.lit with code := ws.zipIdx.map fun q => (q.2, q.1), base := 0x100, clen := 4 * ws.length, state := .loaded } } }

/-- The bundle in issue stands at address 0x104, and the word after it at 0x10C. -/
def atBundle (s : State) : State := { s with core := { s.core with bundle := { s.core.bundle with header := 0x104, next := 0x10C, words := [0xF0400000#32, 0x00010830#32] } } }

/-- The outcome is a next state with a property. -/
def sees (o : Out) (p : State → Bool) : Bool :=
  match o with
  | .next t => p t
  | _ => false

def outX (o : Out) (r : BitVec 6) : Nat :=
  match o with
  | .next t => (t.xNow r).toNat
  | _ => 0xBAD

def outV (o : Out) (r : BitVec 5) (n l : Nat) : Nat :=
  match o with
  | .next t => lane n (t.curV r) l
  | _ => 0xBAD

/-- The outcome takes an exception of a cause that names a field. -/
def traps (o : Out) (c : Cause) (n : BitVec 3) : Bool := sees o fun t => t.core.bundle.exc.any fun e => decide (e.cause = c ∧ e.opnd = n)

/-! ### Results, from the manual's worked examples or by hand from its rules -/

/-- x1 = −7 and x2 = 3 (R62 to R67), by hand. -/
theorem test_scalar_results : ∀ q ∈ [(Instr.add 0 3 1 2, 0xFFFFFFFFFFFFFFFC), (.sub 0 3 1 2, 0xFFFFFFFFFFFFFFF6), (.and 0 3 1 2, 1), (.or 0 3 1 2, 0xFFFFFFFFFFFFFFFB),
    (.xor 0 3 1 2, 0xFFFFFFFFFFFFFFFA), (.andn 0 3 1 2, 0xFFFFFFFFFFFFFFF8), (.orn 0 3 2 1, 7), (.sll 0 3 1 2, 0xFFFFFFFFFFFFFFC8), (.srl 0 3 1 2, 0x1FFFFFFFFFFFFFFF),
    (.sra 0 3 1 2, 0xFFFFFFFFFFFFFFFF), (.rol 0 3 1 2, 0xFFFFFFFFFFFFFFCF), (.ror 0 3 1 2, 0x3FFFFFFFFFFFFFFF), (.mul 0 3 1 2, 0xFFFFFFFFFFFFFFEB),
    (.mulh 0 3 1 2, 0xFFFFFFFFFFFFFFFF), (.mulhu 0 3 1 2, 2), (.div 0 3 1 2, 0xFFFFFFFFFFFFFFFE), (.rem 0 3 1 2, 0xFFFFFFFFFFFFFFFF), (.divu 0 3 1 2, 6148914691236517203),
    (.remu 0 3 1 2, 0), (.min 0 3 1 2, 0xFFFFFFFFFFFFFFF9), (.max 0 3 1 2, 3), (.minu 0 3 1 2, 3), (.maxu 0 3 1 2, 0xFFFFFFFFFFFFFFF9), (.slt 0 3 1 2, 1), (.sltu 0 3 1 2, 0),
    (.seq 0 3 1 2, 0), (.clz 0 3 2, 62), (.ctz 0 3 2, 0), (.popc 0 3 1, 62), (.brev 0 3 1, 0x9FFFFFFFFFFFFFFF), (.bswap 0 3 1, 0xF9FFFFFFFFFFFFFF), (.sextb 0 3 1, 0xFFFFFFFFFFFFFFF9),
    (.addi 0 3 2 0x1FF, 2), (.andi 0 3 1 0xFF, 0xF9), (.ori 0 3 2 0x100, 0xFFFFFFFFFFFFFF03), (.srai 0 3 1 1, 0xFFFFFFFFFFFFFFFC), (.add 0 0 1 2, 0), (.add 1 3 1 2, 0)],
    outX (exec q.1 (bench [(1, 2 ^ 64 - 7), (2, 3)])) 3 = q.2 := by decide +kernel

/-- Shifts of 64 and more, division by zero, and the one overflowing quotient (R63, R65); the sign extensions (R66), and the saturating sums (R62). -/
theorem test_scalar_corners : ∀ q ∈ [(Instr.sll 0 3 1 2, 0), (.srl 0 3 1 2, 0), (.sra 0 3 1 2, 2 ^ 64 - 1), (.rol 0 3 1 2, 2 ^ 63), (.div 0 3 1 0, 2 ^ 64 - 1), (.rem 0 3 1 0, 2 ^ 63),
    (.divu 0 3 1 0, 2 ^ 64 - 1), (.remu 0 3 1 0, 2 ^ 63), (.div 0 3 1 4, 2 ^ 63), (.rem 0 3 1 4, 0), (.adds 0 3 1 4, 2 ^ 63), (.subs 0 3 0 1, 2 ^ 63 - 1),
    (.sextb 0 3 5, 2 ^ 64 - 128), (.sexth 0 3 5, 2 ^ 64 - 32640), (.sextw 0 3 5, 0xFFFFFFFF80008080), (.clz 0 3 0, 64), (.ctz 0 3 0, 64), (.lih 0 2 0x7FFF, 0)],
    outX (exec q.1 (bench [(1, 2 ^ 63), (2, 64), (4, 2 ^ 64 - 1), (5, 0x80008080)])) 3 = q.2 := by decide +kernel

/-- R48: a constant of 64 bits from ADDI and LIH. -/
theorem test_lih_appends : outX (exec (.lih 0 5 0x2468) (bench [(5, 0x1234)])) 5 = 0x1234 * 2 ^ 15 + 0x2468 := by decide +kernel

/-- Compares fill a predicate, p0 keeps all ones, and XTOP writes one quarter (R67, R68). -/
theorem test_predicates : (∀ q ∈ [(Instr.plt 0 4 1 2, 2 ^ 256 - 1), (.pltu 0 4 1 2, 0), (.pge 0 4 1 2, 0), (.peq 0 4 1 1, 2 ^ 256 - 1), (.pne 0 4 1 1, 0), (.xtop 0 4 2 1, 5 * 2 ^ 64)],
      sees (exec q.1 (bench [(1, 2 ^ 64 - 1), (2, 5)])) (fun t => decide ((t.pNow 4).toNat = q.2)) = true) ∧
    outX (exec (.ptox 0 3 5 2) (withP 5 (BitVec.ofNat 256 (9 * 2 ^ 128)) (bench []))) 3 = 9 ∧
    outX (exec (.pcnt 0 3 5 0) (withP 5 (BitVec.ofNat 256 (9 * 2 ^ 128)) (bench []))) 3 = 2 := by decide +kernel

/-- A word stored and read back in the own window, sign-extended or not; the lower bytes lie lower (R2, R71). -/
theorem test_store_then_load : ∀ q ∈ [(Instr.ldw 0 3 8 0xFF, 0xFFFFFFFF80FF0102), (.ldwu 0 3 8 0xFF, 0x80FF0102), (.ldh 0 3 8 0xFF, 0xFFFFFFFFFFFF80FF), (.ldb 0 3 9 0, 0xFFFFFFFFFFFFFFFF),
    (.ldbu 0 3 9 0xFF, 1), (.ldd 0 3 10 0, 0x80FF0102)], outX (match exec (.stw 0 7 8 0xFF) (bench [(7, 0x1280FF0102), (8, 0x104), (9, 0x102), (10, 0x100)]) with
      | .next t => exec q.1 (begun t)
      | o => o) 3 = q.2 := by decide +kernel

/-- Lane arithmetic at .h on −32768 and 5 (R114 to R118), by hand. -/
theorem test_lanes : ∀ q ∈ [(Instr.vadd 0 .half 6 1 (.v 2), 0, 10), (.vadds 0 .half 6 1 (.v 2), 0x8000, 10), (.vsubs 0 .half 6 1 (.v 2), 0, 0), (.vaddsu 0 .half 6 1 (.v 2), 0xFFFF, 10),
    (.vsub 0 .half 6 3 (.v 2), 0x8001, 2), (.vsubsu 0 .half 6 3 (.v 2), 0, 2), (.vmul 0 .half 6 1 (.v 2), 0, 25), (.vmulh 0 .half 6 1 (.v 2), 0x4000, 0), (.vmulhu 0 .half 6 1 (.v 3), 0, 0),
    (.vmulq 0 .half 6 1 (.v 2) false, 0x7FFF, 0), (.vmin 0 .half 6 1 (.v 3), 0x8000, 5), (.vmaxu 0 .half 6 1 (.v 3), 0x8000, 7), (.vabs 0 .half 6 1, 0x7FFF, 5), (.vneg 0 .half 6 1, 0x7FFF, 0xFFFB),
    (.vavg 0 .half 6 1 (.v 3) false, 0xC001, 6), (.vavg 0 .half 6 1 (.v 3) true, 0x4001, 6), (.vcls 0 .half 6 1, 0, 12), (.vpopc 0 .half 6 3, 1, 3), (.vsra 0 .half 6 1 (.v 3), 0xC000, 0),
    (.vsll 0 .half 6 3 (.v 3), 2, 0x380), (.vandn 0 .half 6 3 (.v 1), 1, 2), (.vsel 2 .half 6 1 (.v 3), 1, 7)],
    let s := withV 1 16 [0x8000, 5] (withV 2 16 [0x8000, 5] (withV 3 16 [1, 7] (bench [])))
    (outV (exec q.1 s) 6 16 0, outV (exec q.1 s) 6 16 1) = q.2 := by decide +kernel

/-- R120's table: four lanes narrowed by 4, their count and census. -/
theorem test_vnarrow_table :
    let s := withP 2 (BitVec.ofNat 256 0xFF) (withV 8 32 [0x00012345, 0x000927C0, 0xFFFFFFD8, 0x18] (bench [(9, 0x344)]))
    (List.range 4).map (outV (exec (.vnarrow 2 .word 4 8 9 false) s) 4 16) = [0x1234, 0x7FFF, 0xFFFE, 2] ∧
    sees (exec (.vnarrow 2 .word 4 8 9 false) s) (fun t => decide (t.core.bundle.sats = [(3, 1)] ∧ t.core.bundle.census = [(3, 0)] ∧
      (fileGet t.completeBundle.core.t.ts 3).satc = 1 ∧ (fileGet t.completeBundle.core.t.ts 3).census = 0)) = true := by decide +kernel

/-- R100's table for k = 2, modes 0 to 2. -/
theorem test_rounding_table : ∀ q ∈ [((5 : Int), (1 : Int), (1 : Int), (1 : Int)), (6, 1, 2, 2), (7, 1, 2, 2), (10, 2, 2, 3), (-5, -2, -1, -1), (-6, -2, -2, -2)],
    (sd q.1 2 0 0, sd q.1 2 1 0, sd q.1 2 2 0) = q.2 := by decide +kernel

/-- R129's table: the column of a swizzled tile. -/
theorem test_tile_addresses : [0, 1, 2, 3, 5].map (fun i => (tileAddr 0x10000 0x4A00280000 2 i).toNat) = [0x10050, 0x10110, 0x102D0, 0x10390, 0x10510] ∧
    (let s := bench [(5, 0x10000), (7, 0x4A00280000), (8, 0x3A00280000)]
     s.tileShapeBad (s.rdS 5) (s.rdS 7) .half = false ∧ s.tileShapeBad (s.rdS 5) (s.rdS 8) .half = true ∧ traps (exec (.vldt 0 .half 6 5 8) s) .operandFormat 1 = true) := by
  decide +kernel

/-- R133's table: J times B reverses bytes, B times J reverses the bits of each byte. -/
theorem test_vbmm_table : let s := withV 3 64 [0x0102040810204080, 0xF1, 0x8040201008040201] (withV 4 64 [0xF1, 0x0102040810204080, 0x1234] (bench []))
    (List.range 3).map (outV (exec (.vbmm 0 2 3 (.v 4) false) s) 2 64) = [0xF100000000000000, 0x8F, 0x1234] := by decide +kernel

/-- R134: bits deposited and extracted under 0xF0F0. -/
theorem test_vpdep_vpext : let s := withV 3 16 [0xAB] (withV 4 16 [0xA0B0] (bench [(5, 0xF0F0)]))
    outV (exec (.vpdep 0 .half 2 3 (.x 5)) s) 2 16 0 = 0xA0B0 ∧ outV (exec (.vpext 0 .half 2 4 (.x 5)) s) 2 16 0 = 0xAB := by decide +kernel

/-- R147's, R148's and R149's tables. -/
theorem test_routine_tables : let on := withP 2 (BitVec.ofNat 256 0xFFFF)
    (List.range 4).map (outV (exec (.vexp 2 2 3 5) (on (withV 3 16 [7, 0, 0xFFF0, 0x8000] (bench [(5, 4)])))) 2 16) = [0x8000, 0x8000, 0x2F21, 0] ∧
    (List.range 4).map (outV (exec (.vrcp 2 2 3 5) (on (withV 3 32 [3, 1, 0, 0x80000000] (bench [(5, 32)])))) 2 32) = [0x55555555, 0xFFFFFFFF, 0xFFFFFFFF, 2] ∧
    (List.range 4).map (outV (exec (.vrsq 2 2 3 5) (on (withV 3 32 [4, 3, 0, 2] (bench [(5, 30)])))) 2 32) = [0x4000, 0x49E6, 0xFFFFFFFF, 23170] ∧
    (List.range 4).map (outV (exec (.vdiv 2 2 3 (.v 4)) (on (withV 4 32 [0xFFFFFFFE, 2, 0xFFFFFFFF, 0] (withV 3 32 [7, 0xFFFFFFF9, 0x80000000, 0xFFFFFFFF] (bench []))))) 2 32) =
      [0xFFFFFFFD, 0xFFFFFFFD, 0x7FFFFFFF, 0x80000000] := by decide +kernel

/-- R101 with z = 0, by hand: every step keeps 0. -/
theorem test_random_zero : rnd 0 0 0 = 0 := by decide +kernel

/-- R206: 100 bytes announced and 64 arrived; 64 more close the phase with OVERRUN, and the command's arrival is cut. -/
theorem test_barrier_overrun : let q := StageBarrier.arrive { expb := 100, arrb := 64, phase := 0, expc := 0, donec := 0, error := 0 } 64
    q.1.phase = 1 ∧ q.1.error = 5 ∧ q.1.arrb = 0 ∧ q.2 = true := by decide +kernel

/-- R206: an announcement after the arrivals closes the phase at once, with OVERRUN when they have passed it. -/
theorem test_barrier_announced_late :
    sees (exec (.sbarm 0 1 2) (poke (0x2000000000000 + 0x40 + 4) 4 64 (bench [(1, 0x40), (2, 64)]))) (fun t => decide ((t.barrierAt 0 0x40).phase = 1 ∧ (t.barrierAt 0 0x40).error = 0)) = true ∧
    sees (exec (.sbarm 0 1 2) (poke (0x2000000000000 + 0x40 + 4) 4 65 (bench [(1, 0x40), (2, 64)]))) (fun t => decide ((t.barrierAt 0 0x40).phase = 1 ∧ (t.barrierAt 0 0x40).error = 5)) = true := by
  decide +kernel

/-- R212: AADDS saturates in memory and returns the old word; R71's address faults. -/
theorem test_aadds_saturates : let s := poke (0x2000000000000 + 0x40) 4 0x7FFFFFF0 (bench [(1, 0x40), (2, 32)])
    sees (exec (.aadds 0 0 3 1 2) s) (fun t => decide (t.little 0 (0x2000000000000 + 0x40) 4 = 0x7FFFFFFF ∧ t.core.t.sb.far.map (·.val) = [.x 3 0x7FFFFFF0])) = true ∧
    traps (exec (.aadds 0 1 3 2 1) (bench [(2, 4)])) .misaligned 1 = true := by decide +kernel

/-- R238's example: channel 17 of die 2. -/
theorem test_dram_channel : channelOf 0x12340 = 2 * 64 + 17 := by decide +kernel

/-- R349's example: 92.75 degrees leave a dimmer of 7. -/
theorem test_dimmer : dimTemp 371 = 7 := by decide +kernel

/-- R234's aperture: core 171's scratchpad begins there. -/
theorem test_aperture : placeOf 0x4000000AB00000 = .aperture 171 0 ∧ placeOf 0xFFFFF = .window 0xFFFFF ∧ placeOf 0x100000 = .mapped ∧ placeOf 0x40000024000000 = .reserved := by decide +kernel

/-- R295's example: the three indices of a virtual address. -/
theorem test_walk_indices : [42, 29, 16].map (fun sh => 0x4400030010 / 2 ^ sh % 8192) = [0, 544, 3] := by decide +kernel

/-- R308's example: the second word of its fault record. -/
theorem test_fault_record : leNat ((FaultRec.bytes { asid := 0x15, cause := 6, kind := 2, slot := 0, opnd := 1, elem := 0xFFFF, core := 197, wr := true, image := 0, status := 0, bundle := 0, va := 0x4400030010, pa := none, task := 0 } 41 7).extract 8 16) = 0x02015547FFFC8206 := by decide +kernel

/-- R34's example: the signature of the segment that holds one ADD. -/
theorem test_mirror_signature : (Segment.account { Segment.reset with isOpen := true, crc := 0xFFFF } 0 [0xF0400000#32, 0x00010830#32]).crc = 0xD201#16 ∧
    (Segment.account { Segment.reset with isOpen := true, crc := 0xFFFF } 0 [0xF0400000#32, 0x00010830#32]).count = 1 := by decide +kernel

/-- R140: two active elements are pushed low byte first and popped in order; a third finds nothing. -/
theorem test_stream_order : sees (exec (.vspush 2 .half 1 3) (withP 2 0xF (withV 3 16 [0x1234, 0xABCD] (bench [])))) (fun t =>
    decide (fileGet t.core.t.streams 1 = [0x34, 0x12, 0xCD, 0xAB]) &&
    sees (exec (.vspop 2 .half 6 1 7 true) (withP 2 0x3F (begun t))) (fun u => decide ((List.range 3).map (lane 16 (u.curV 6)) = [0x1234, 0xABCD, 0] ∧
      u.pNow 7 = 0xF ∧ fileGet u.core.t.streams 1 = []))) = true := by decide +kernel

/-- R150's two lanes, with the slots that sys.optp names. -/
theorem test_vopt_lanes : let s := withT (fun t => { t with sys := { t.sys with optp := 0xC2CA } }) (withP 2 0xF (withV 4 16 [1000, 0x8044] (withV 5 16 [64, 0x7D00]
      (withV 6 16 [400, 0xFFDC] (withV 8 16 [200, 0x8000] (bench [(12, 0x03442863)]))))))
    [4, 5, 6].map (fun r => (outV (exec (.vopt 2 4 8 12) s) r 16 0, outV (exec (.vopt 2 4 8 12) s) r 16 1)) = [(0x3E4, 0x8000), (0x51, 0x5D60), (0x1B1, 0xFFFF)] ∧
    sees (exec (.vopt 2 4 8 12) s) (fun t => decide (t.core.bundle.sats = [(10, 1), (12, 1)])) = true := by decide +kernel

/-! ### For every statement with hypotheses, states that meet them; where it costs little, what follows is shown too -/

theorem witness_DecodeEncode : (Instr.vnarrow 0 .word 4 8 9 true).wellFormed = true ∧ encode (.vnarrow 0 .word 4 8 9 true) = some 0x53444270#32 ∧
    (Instr.nop 1 5 3 4 7 true).wellFormed = true ∧ encode (.nop 1 5 3 4 7 true) = some 0xF00A9A78#32 := by decide +kernel

theorem witness_EncodeDecode : decodeWord 0x53444270#32 = .ok (.vnarrow 0 .word 4 8 9 true) ∧ decodeWord 0xF00A9A78#32 = .ok (.nop 1 5 3 4 7 true) := by decide +kernel

/-- A segment word, a bundle with one slot in slot S, one with two slots, an empty bundle, and a segment word. -/
def listing : List Code := [0xE001D201#32, 0xF0400000#32, 0x00010830#32, 0xF0000010#32, 0xF0C00000#32, 0x00010830#32, 0x42230010#32, 0xE0010000#32]

/-- The running task stands at a position of the listing, its segment open. -/
def atWord (k : Nat) (xs : List (Nat × Nat)) : State :=
  withCode listing (withT (fun t => { t with pc := BitVec.ofNat 55 (0x100 + 4 * k), seg := { t.seg with isOpen := true, crc := 0xFFFF, expCount := 1, expSig := 0xD201 } }) (bench xs))

theorem witness_DecodeWords_bundle : let c := (atWord 1 []).core
    decodeHeader 0xF0400000#32 = .ok (headerFields 0xF0400000#32) ∧ slotsOf (headerFields 0xF0400000#32).mask = [0] ∧ c.fetchWord (c.t.pc + 4) = .ok 0x00010830#32 ∧
    decodeInSlot 0 0x00010830#32 = .ok (.add 0 1 2 3) ∧ conflicts (headerFields 0xF0400000#32) [(0, .add 0 1 2 3)] = false ∧
    c.t.loop.crossed c.t.pc (c.t.pc + 8) = false ∧ absentUnit c.feat [(0, .add 0 1 2 3)] = none := by decide +kernel

/-- The bundle issues when nothing stands in its way. -/
def issues (s : State) (p : Decoded → Bool) (agenda : List Move := []) : Bool :=
  match s.core.fetchWord s.core.t.pc with
  | .error _ => false
  | .ok hw =>
    match s.core.decodeBundle hw with
    | .error _ => false
    | .ok d => decide (s.agenda = agenda ∧ (s.agenda ≠ [] ∨ s.pass.eventDue = none) ∧ s.power.tripped = false ∧ s.core.mode = .running ∧ s.core.pendTrap = none ∧ s.core.t.satPend = [] ∧
        s.core.t.sys.preq.getLsbD 1 = false ∧ Code.cls hw ≠ 0xE#4 ∧ (s.core.t.sys.ecl && d.reclaims) = false ∧ s.core.t.seg.overrun d.head.wait = false ∧
        s.core.bundle.tail = false ∧ s.core.t.interlocked d = false) && p d

theorem witness_StepRunsDecoded : issues (atWord 1 [(2, 40), (3, 2)]) (fun d => decide (d.slots = [(0, .add 0 1 2 3)])) = true ∧
    sees (step (atWord 1 [(2, 40), (3, 2)])) (fun t => decide ((t.xNow 1).toNat = 42 ∧ t.core.t.pc = 0x10C ∧ t.core.t.seg.crc = 0xD201)) = true ∧
    (let s := atWord 3 []
     let u := { s with core := { s.core with t := { s.core.t with seg := { s.core.t.seg with expCount := 9 } } } }
     issues u (fun d => decide (d.slots = [])) = true ∧ sees (step u) (fun t => decide (t.core.t.pc = 0x110 ∧ t.core.t.sb.cyc = 2)) = true) := by decide +kernel

theorem witness_StepRunsDecoded_turn : let s := { atWord 1 [(2, 40), (3, 2)] with agenda := [.core 0] }
    s.cur = 0 ∧ issues s (fun d => decide (d.slots = [(0, .add 0 1 2 3)])) [.core 0] = true ∧ sees (step s) (fun t => decide ((t.xNow 1).toNat = 42)) = true ∧
    (let v := { atWord 3 [] with agenda := [.core 0] }
     issues { v with core := { v.core with t := { v.core.t with seg := { v.core.t.seg with expCount := 9 } } } } (fun d => decide (d.slots = [])) [.core 0] = true) := by decide +kernel

theorem witness_StepRunsDecoded_event : let s := { bench [] with agenda := [.event (.mgmtWrite 0x50000 7), .core 0] }
    (∃ e r, s.agenda = .event e :: r ∧ Instr.isEvent e = true) ∧ Instr.isEvent (.add 0 1 2 3) = false := by
  intro s; exact ⟨⟨_, _, rfl, rfl⟩, rfl⟩

/-- A bundle with an ADD in slot S and another instruction in slot V0: no fault, a fault of the first or the second, a wait of the first or the second. -/
theorem witness_BundleEffects : let s := bench [(1, 3), (4, 99)]; let d (a b : Instr) : Decoded := { head := headerFields 0xF0C00000#32, words := [], slots := [(0, a), (1, b)], next := 0x10C }
    let pair (a b : Instr) (p : State → State → Bool) : Bool := sees (exec a (s.atSlot 0)) fun t => sees (exec b ((if a.last || t.settled then s else t).atSlot 1)) fun u =>
      sees (exec b (s.atSlot 1)) fun _ => !t.core.bundle.held && !u.core.bundle.held && p t u
    pair (.ldh 0 3 1 0) (.vadd 0 .half 1 2 (.v 3)) (fun t _ => t.core.bundle.exc.isSome) = true ∧
    pair (.add 0 3 1 2) (.vcb4 0 1 2 4 false) (fun t u => t.core.bundle.exc.isNone && u.core.bundle.exc.isSome) = true ∧
    pair (.ldh 0 3 1 0) (.vcb4 0 1 2 4 false) (fun t u => t.core.bundle.exc.isSome && u.core.bundle.exc.isSome) = true ∧
    (d (.add 0 3 1 2) (.vcb4 0 1 2 4 false)).slots = [(0, .add 0 3 1 2), (1, .vcb4 0 1 2 4 false)] := by decide +kernel

theorem witness_BundleEffects_wait : let s := withT (fun t => { t with comp := { t.comp with rq := [{ value := none, due := 0, tag := 0 }] } }) (bench [])
    sees (exec (.rqpop 0 3) (s.atSlot 0)) (fun t => t.core.bundle.held && decide (t.core.asks = s.core.asks) &&
      sees (exec (.vadd 0 .half 1 2 (.v 3)) ((if Instr.last (.rqpop 0 3) || t.settled then s else t).atSlot 1)) fun _ => true) = true ∧
    sees (exec (.add 0 3 1 2) (s.atSlot 0)) (fun t => !t.core.bundle.held && sees (exec (.rqpop 0 4) ((if Instr.last (.add 0 3 1 2) || t.settled then s else t).atSlot 5)) fun u =>
      u.core.bundle.held && decide (u.core.asks = s.core.asks)) = true ∧
    sees (exec (.rqpop 0 4) (s.atSlot 5)) (fun w => w.core.bundle.held) = true := by
  decide +kernel

theorem witness_BundleEffects_nop : let s := atBundle (withP 4 0xF0 (withP 3 0x3C (bench [])))
    s.core.bundle.redirect = .none ∧ s.core.t.loop.innermost = none ∧ s.core.bundle.sats = [] ∧ s.core.bundle.census = [] ∧
    [1, 2, 3, 4, 5, 6, 7].map (fun o => match exec (.nop o 5 3 4 1 false) s with | .next t => (t.pNow 5).toNat % 256 | _ => 0) = [0x30, 0xFC, 0xCC, 0x0C, 0x3F, 0xCF, 0x33] ∧
    sees (exec (.nop 0 0 0 0 1 false) s) (fun t => decide (t.core.t.pc = 0x10C ∧ t.core.t.sb.cyc = 2)) = true := by decide +kernel

theorem witness_MemoryCanonicalKept : State.reset.memWf ∧ (mapped []).memWf ∧ sees (step (atWord 1 [])) (fun _ => true) = true := by
  refine ⟨?_, ?_, ?_⟩ <;> (first | unfold State.memWf | skip) <;> decide +kernel

theorem witness_ShiftImmediates : (63 : BitVec 9).toNat < 64 ∧ 64 ≤ (64 : BitVec 9).toNat := by decide

/-- The six conditions on a quotient's operands. -/
theorem witness_DivisionResults : (∃ y : Word, y = 0) ∧ (∃ x y : Word, y ≠ 0 ∧ ¬(x.toInt = -2 ^ 63 ∧ y.toInt = -1)) ∧
    (∃ x y : Word, x.toInt = -2 ^ 63 ∧ y.toInt = -1) := ⟨⟨0, rfl⟩, ⟨7, 2, by decide⟩, ⟨0x8000000000000000#64, 0xFFFFFFFFFFFFFFFF#64, by decide⟩⟩

theorem witness_PredicateResults : (3 : BitVec 6).toNat < 4 ∧ 4 ≤ (4 : BitVec 6).toNat ∧ (1 : BitVec 4) ≠ 0 := by decide

/-! ### Memory -/

theorem witness_OwnAccesses : let s := bench [(8, 0xFFFF0), (1, 3)]
    OwnRead s (s.ea 8 0 16) 16 (s.windowLoc 0xFFFF0) ∧ OwnRead s (s.ea 8 0xFF 1) 1 (s.windowLoc 0xFFFEF) ∧ s.guard 0 = true ∧ s.guard 1 = false ∧
    s.xlate (some s.cur) s.core.t.id.asid (vaOf (s.ea 8 0 16)) needW = .ok (s.windowLoc 0xFFFF0) := by
  refine ⟨⟨?_, ?_, ?_, ?_⟩, ⟨?_, ?_, ?_, ?_⟩, ?_, ?_, ?_⟩ <;> decide +kernel

/-- A whole word and a part of a word, the word poisoned (R307). -/
theorem witness_OwnAccesses_poisoned : let s := bench [(8, 0x40)]; let m := { s.mem with poison := [0x2000000000040] }
    m.storeDiscards 0x2000000000040 4 = true ∧ m.storeDiscards 0x2000000000040 8 = false ∧ m.poisoned 0x2000000000047 1 = true := by decide +kernel

theorem witness_FarAccesses : let s := mapped [(8, 0x40000038), (1, 3)]; let l : Loc := { pkg := none, pa := 0x20000038, key := 0 }
    FarPlace s (s.ea 8 0 8) 8 needR l ∧ FarPlace s (s.ea 8 0 8) 8 needW l ∧ s.guard 0 = true ∧ s.guard 1 = false ∧ s.l1Stuck l = false := by
  refine ⟨⟨?_, ?_, ?_, ?_, ?_⟩, ⟨?_, ?_, ?_, ?_, ?_⟩, ?_, ?_, ?_⟩ <;> decide +kernel

theorem witness_FarAccesses_clean : let s := mapped []; CleanLine s { pkg := none, pa := 0x20000038, key := 0 } := by
  intro s; exact ⟨by decide +kernel, fun o h => by cases h⟩

/-- A far store is dirty in the L1, the core's own load sees it, and the home does not yet. -/
theorem test_far_store : let s := mapped [(8, 0x40000038), (7, 0x1122334455667788)]
    sees (exec (.std 0 7 8 0) s) (fun t => decide (t.little 0 0x20000038 8 = 0) && decide (t.core.l1.map (·.dirty) = [0xFF00000000000000]) &&
      sees (exec (.ldd 0 3 8 0) t) (fun u => decide (u.core.t.sb.far.map (·.val) = [.x 3 0x1122334455667788])) &&
      decide ((t.writeBack (fun _ => true) false).little 0 0x20000038 8 = 0x1122334455667788)) = true ∧
    outX (exec (.ldd 0 3 8 0) s) 3 = 0 := by decide +kernel

/-- A pair at the end of a line. -/
theorem witness_FarAccesses_pair : let s := mapped [(8, 0x40000030)]; let l : Loc := { pkg := none, pa := 0x20000030, key := 0 }
    (2 : BitVec 6).getLsbD 0 = false ∧ FarPlace s (s.ea 8 0 16) 16 needR l ∧ s.l1Stuck l = false ∧
    sees (exec (.ldq 0 2 8 0) (poke 0x20000038 8 9 s)) (fun t => decide (t.core.t.sb.far.map (·.val) = [.pair 2 (BitVec.ofNat 128 (9 * 2 ^ 64))])) = true := by
  refine ⟨?_, ⟨?_, ?_, ?_, ?_, ?_⟩, ?_, ?_⟩ <;> decide +kernel

theorem witness_FarAccesses_pair_clean : let s := mapped []; CleanLine s { pkg := none, pa := 0x20000030, key := 0 } := by
  intro s; exact ⟨by decide +kernel, fun o h => by cases h⟩

theorem witness_FarAccesses_remote : let s := abroad (mapped [(8, 0x60000030), (1, 3)]); let l : Loc := { pkg := some 1, pa := 0x20000030, key := 0 }
    RemotePlace s (s.ea 8 0 16) 16 needR l 1 ∧ l1Find s.core.l1 l = none ∧ (∀ f ∈ s.core.fills, f.keep = true → ¬(f.pkg = 1 ∧ f.line = l.pa / 64)) ∧ s.flowFull s.netEng 1 0 = false ∧ s.core.bundle.firm = false ∧
    s.guard 0 = true ∧ s.guard 1 = false := by
  refine ⟨⟨?_, ?_, ?_, ?_, ?_⟩, ?_, ?_, ?_, ?_, ?_, ?_⟩ <;> decide +kernel

theorem witness_FarAccesses_abroad : let l : L1Line := { pkg := some 1, line := 0x800000, key := 0, data := 5, present := 0xFF, dirty := 0x81, poison := 0, va := 0x1800000 }
    l.pkg = some 1 ∧ (bench []).fabric.lost.contains 1 = false ∧ (∃ i < 64, l.dirty.getLsbD i = true) := by
  refine ⟨rfl, ?_, ⟨0, ?_, ?_⟩⟩ <;> decide +kernel

theorem witness_WriteBack : let l : L1Line := { pkg := none, line := 0x800000, key := 0, data := 5, present := 0xFF, dirty := 1, poison := 0, va := 0x1000000 }
    let s := mapped []; let t := { s with core := { s.core with l1 := [l, { l with line := 0x800001, dirty := 0 }] } }
    t.mem.poison = [] ∧ t.core.l1.Pairwise (fun a b => a.pkg ≠ b.pkg ∨ a.line ≠ b.line) ∧ (∀ l ∈ t.core.l1, l.pkg = none ∨ l.dirty = 0) ∧ (t.writeBack (fun _ => true) true).readByte 0 0x20000000 = 5 := by decide +kernel

theorem witness_AccessFaults : let s := mapped [(8, 0x40000004), (9, 0x80000000), (10, 0x40000000), (11, 0x1000000000001), (12, 0x40000024000000)]
    s.guard 0 = true ∧ (s.ea 8 0 8).toNat % 8 ≠ 0 ∧ (s.ea 11 0 2).toNat % 2 ≠ 0 ∧ (s.rdX 8).toNat % 8 ≠ 0 ∧ (s.ea 9 0 8).toNat % 8 = 0 ∧
    s.xlate (some s.cur) 1 (vaOf (s.ea 9 0 8)) needR = .miss ∧ s.xlate (some s.cur) 1 (vaOf (s.ea 12 0 8)) needW = .refused ∧
    traps (exec (.ldd 0 3 8 0) s) .misaligned 1 = true ∧ traps (exec (.ldd 0 3 9 0) s) .translation 1 = true ∧ traps (exec (.std 0 3 12 0) s) .protection 1 = true := by decide +kernel

/-- Virtual address 0xA000_0000 meets a malformed entry, 0xC000_0000 a poisoned one, 0x8000_0000 none. -/
theorem witness_AccessFaults_walks : let s0 := poke 0x30028 8 0x2001001F (mapped [(1, 0x80000000), (2, 0x40000024000000), (3, 0xA0000000), (4, 0xC0000000), (5, 0x42)]); let s := { s0 with mem := { s0.mem with poison := [0x30030] } }
    s.guard 0 = true ∧ (s.rdX 5).toNat % amoBytes 0 ≠ 0 ∧ (s.rdX 5).toNat % 8 ≠ 0 ∧ (∀ r ∈ [(1 : BitVec 6), 2, 3, 4], (s.ea r 0 64).toNat % 64 = 0 ∧ (s.rdX r).toNat % amoBytes 2 = 0 ∧ s.redsTo (vaOf (s.rdX r)) (amoBytes 2) = false) ∧
    (∀ n ∈ [needR, needW, needRW], [1, 2, 3, 4].map (fun r => s.xlate (some s.cur) s.core.t.id.asid (vaOf (s.rdX r)) n) = [.miss, .refused, .forbidden, .poisoned]) ∧
    [1, 2, 3, 4].map (fun r => [exec (.ldd 0 9 r 0) s, exec (.zln 0 r 0) s, exec (.acas 0 2 8 r 10) s].map fun o => match o with | .next t => t.core.bundle.exc.map (·.cause) | _ => none) =
      [Cause.translation, .protection, .protection, .poison].map (fun c => [some c, some c, some c]) := by decide +kernel

/-- A poisoned word in a far line, and under an atomic. -/
theorem witness_AccessFaults_far : let s0 := mapped [(8, 0x40000040)]; let s := { s0 with mem := { s0.mem with poison := [0x20000040] } }; let l : Loc := { pkg := none, pa := 0x20000040, key := 0 }
    (s.ea 8 0 4).toNat % 4 = 0 ∧ s.xlate (some s.cur) s.core.t.id.asid (vaOf (s.ea 8 0 4)) needR = .ok l ∧ s.ownWindow (vaOf (s.ea 8 0 4)) = false ∧ l1Find s.core.l1 l = none ∧ l.pa % 64 + 4 ≤ 64 ∧ s.mem.poisoned (l.pa + 0) 1 = true ∧
    s.redsTo (vaOf (s.rdX 8)) (amoBytes 0) = false ∧ s.xlate (some s.cur) s.core.t.id.asid (vaOf (s.rdX 8)) needRW = .ok l ∧ s.mem.poisoned l.pa (amoBytes 0) = true ∧
    traps (exec (.ldw 0 3 8 0) s) .poison 0 = true ∧ traps (exec (.amin 0 0 3 8 9) s) .poison 1 = true := by decide +kernel

theorem witness_AccessFaults_poison : let s := bench [(8, 0x40)]; let t := { s with mem := { s.mem with poison := [0x2000000000040] } }
    t.guard 0 = true ∧ (t.ea 8 0 8).toNat % 8 = 0 ∧ t.xlate (some t.cur) t.core.t.id.asid (vaOf (t.ea 8 0 8)) needR = .ok (t.windowLoc 0x40) ∧ t.ownWindow (vaOf (t.ea 8 0 8)) = true ∧
    t.mem.poisoned (t.windowLoc 0x40).pa 8 = true ∧ traps (exec (.ldd 0 3 8 0) t) .poison 0 = true := by decide +kernel

/-! ### Control -/

/-- Context 1 has its trap entry at the listing's first word, in image 0. -/
def trapped (k : Nat) (xs : List (Nat × Nat)) : State := atBundle (withCode listing (withT (fun t => { t with pc := BitVec.ofNat 55 (0x100 + 4 * k) }) (mapped xs)))

theorem witness_Exceptions : let s := trapped 1 [(1, 3)]; let e : Exc := { cause := .misaligned, slot := 0, opnd := 1, addr := 3 }
    e.cause ≠ .translation ∧ e.cause ≠ .featureAbsent ∧ e.cause ≠ .mirror ∧ e.rec4 = none ∧ s.core.t.sys.th = false ∧ s.core.t.sb.far = [] ∧ s.core.t.sb.nxt = [] ∧
    s.handler = some 0x100 ∧ s.guard 0 = true ∧ s.guard 1 = false ∧ s.core.bundle.redirect = .none ∧ s.core.t.loop.innermost = none ∧ s.core.bundle.head.plop = 0 ∧
    (s.raise e).core.t.pc = 0x100 ∧ (s.raise e).core.t.sys.faults = { epc := 0x104, fcause := 5, faddr := 3, fslot := 0, fopnd := 1, felem := 0xFFFF, fimg := 0 } := by decide +kernel

/-- R225's trap word: sys.felem holds its number, sys.epc the position after the bundle. -/
theorem test_trap_then_eret : sees (exec (.trap 0 5) (trapped 1 [])) (fun t => decide (t.core.t.sys.faults.felem = 5 ∧ t.core.t.sys.faults.fcause = 18 ∧ t.core.t.sys.faults.epc = 0x10C ∧
      t.core.t.pc = 0x100 ∧ t.core.t.sys.th = true)) = true ∧
    sees (exec (.eret 0) (trapped 1 [])) (fun t => t.core.bundle.exc.any fun e => decide (e.cause = .protection)) = true := by decide +kernel

theorem witness_Exceptions_return : let s := begun (withT (fun t => { t with sys := { t.sys with th := true, segstate := 0x3001, faults := { t.sys.faults with epc := 0x104 } } }) (trapped 1 []))
    s.guard 0 = true ∧ s.core.old.sys.th = true ∧ s.closing.fails = false ∧ s.core.resumable s.core.old.sys.faults.epc = true ∧ s.core.bundle.head.plop = 0 ∧
    sees (exec (.eret 0) s) (fun t => decide (t.core.t.pc = 0x104 ∧ t.core.t.sys.th = false)) = true := by decide +kernel

/-- From the header at 0x104, −1 and 6 words lead to the segment words at 0x100 and 0x11C, 1 word to none. -/
theorem witness_Branches : let s := trapped 1 [(1, 0x11C), (2, 0x106), (3, 0x108)]
    s.guard 0 = true ∧ s.guard 1 = false ∧ s.core.bundle.exc = none ∧ s.core.isScw (s.core.bundle.header + BitVec.ofInt 55 (4 * (0xFFFFF#20).toInt)) = true ∧
    s.core.isScw (s.core.bundle.header + BitVec.ofInt 55 (4 * (6#20).toInt)) = true ∧ s.core.isScw (s.core.bundle.header + BitVec.ofInt 55 (4 * (1#20).toInt)) = false ∧
    (s.rdX 1).toNat % 4 = 0 ∧ s.core.isScw ((s.rdX 1).extractLsb' 0 55) = true ∧ (s.rdX 2).toNat % 4 ≠ 0 ∧ (s.rdX 3).toNat % 4 = 0 ∧ s.core.isScw ((s.rdX 3).extractLsb' 0 55) = false ∧
    sees (exec (.call 0 6) s) (fun t => decide ((t.xNow 63).toNat = 0x10C ∧ t.completeBundle.core.t.pc = 0x11C)) = true ∧
    traps (exec (.br 0 1) s) .badTarget 4 = true ∧ traps (exec (.jr 0 2) s) .misaligned 1 = true ∧ traps (exec (.jalr 0 5 3) s) .badTarget 1 = true := by decide +kernel

/-- The listing with a segment word at 0x10C, the word after the bundle. -/
def looped (xs : List (Nat × Nat)) : State :=
  atBundle (withCode [0xE001D201#32, 0xF0400000#32, 0x00010830#32, 0xE0010000#32, 0xF0000000#32, 0xE0010000#32, 0xF0000000#32] (bench xs))

theorem witness_HardwareLoops : let s := looped [(1, 3), (2, 0), (3, 0xFFFFFFFF), (4, 0x1FFFFFFF)]; let nx := s.core.bundle.next
    s.guard 0 = true ∧ s.guard 1 = false ∧ s.core.t.loop.blocked 1 = false ∧ s.core.t.loop.holds nx 2 = true ∧ s.core.isScw nx = true ∧
    s.core.isScw (nx + BitVec.ofNat 55 (4 * 2)) = true ∧ (s.rdX 3).toNat ≤ 0xFFFFFFFF ∧ (s.rdX 4).toNat + 0 ≤ 0x1FFFFFFF ∧ (s.rdX 2).toNat = 0 ∧
    s.core.t.loop.lc[levelOf 1] = 0 ∧ sees (exec (.loop 0 1 1 2) s) (fun t => decide (t.core.t.loop.lc[1] = 3 ∧ t.core.t.loop.lb[1] = 0x10C ∧ t.completeBundle.core.t.pc = 0x10C)) = true ∧
    sees (exec (.loop 0 1 2 2) s) (fun t => decide (t.core.t.loop.lc[1] = 0 ∧ t.completeBundle.core.t.pc = 0x114)) = true ∧
    sees (exec (.loopp 0 0 1 2 2) s) (fun t => decide (t.core.t.loop.lc[0] = 0x40000005 ∧ t.core.t.loop.lb[0] = 0x10D ∧ t.pNow 8 = BitVec.allOnes 256 ∧ t.pNow 9 = 0)) = true := by decide +kernel

/-- A loop of level 1 at 0x10C of 2 words: 2 iterations left, then 1; the pipelined one rotates. -/
theorem witness_HardwareLoops_ends : let t (n : Nat) (p : Bool) : TaskState := { (looped []).core.t with
        p := (Vector.replicate _ 0).set 8 5, loop := { LoopRegs.reset with lc := LoopRegs.reset.lc.set 1 (BitVec.ofNat 32 n), lb := LoopRegs.reset.lb.set 1 (if p then 0x10D else 0x10C), ln := LoopRegs.reset.ln.set 1 2 } }
    (∀ p ∈ [false, true], (t 2 p).loop.innermost = some 1 ∧ (t 2 p).loop.bodyEnd 1 = 0x114 ∧ 1 < (t 2 p).loop.remaining 1 ∧ (t 2 p).loop.isP 1 = p) ∧
    (t 1 false).loop.remaining 1 = 1 ∧ (∀ j : Fin 3, j ≠ 1 → (t 1 false).loop.lc[j] = 0) ∧ (t 1 false).loop.innermost = some 1 ∧
    ((t 2 true).loopEnd 0 3 0x114).p[9] = 5 ∧ ((t 2 true).loopEnd 0 3 0x114).loop.vrb = 1 ∧ ((t 2 true).loopEnd 0 3 0x114).pc = 0x10C ∧ ((t 1 false).loopEnd 0 3 0x114).pc = 0x114 := by decide +kernel

/-- A level active, a body past the outer one's, counts one too large, and words that are no segment control words. -/
theorem witness_HardwareLoops_faults : let s := looped [(1, 0x100000000), (2, 0x20000000), (3, 3)]; let nx := s.core.bundle.next; let a (n : Nat) := withT (fun t => { t with loop := { LoopRegs.reset with lc := #v[5, 0, 0], lb := #v[0x10C, 0, 0], ln := #v[BitVec.ofNat 9 n, 0, 0] } }) s
    let odd := { s with core := { s.core with bundle := { s.core.bundle with next := 0x110 } } }
    s.guard 0 = true ∧ (a 2).core.t.loop.blocked 0 = true ∧ (a 2).core.t.loop.blocked 1 = false ∧ (a 2).core.t.loop.holds nx 4 = false ∧ 0xFFFFFFFF < (s.rdX 1).toNat ∧ 0x1FFFFFFF < (s.rdX 2).toNat ∧
    s.core.t.loop.blocked 1 = false ∧ odd.core.t.loop.holds 0x110 2 = true ∧ odd.core.isScw 0x110 = false ∧ s.core.isScw nx = true ∧ s.core.t.loop.holds nx 1 = true ∧ s.core.isScw (nx + BitVec.ofNat 55 (4 * 1)) = false ∧
    traps (exec (.loop 0 0 3 2) (a 2)) .illegalOperand 0 = true ∧ traps (exec (.loop 0 1 3 4) (a 2)) .illegalOperand 2 = true ∧ traps (exec (.loop 0 1 1 2) s) .illegalOperand 0 = true ∧
    traps (exec (.loopp 0 1 2 0 2) s) .illegalOperand 0 = true ∧ traps (exec (.loopi 0 1 3 2) odd) .badTarget 4 = true ∧ traps (exec (.loopi 0 1 0 1) s) .badTarget 4 = true := by decide +kernel

/-- A branch from inside both bodies into the outer one only. -/
theorem test_branch_leaves_loop : let t : TaskState := { TaskState.reset with loop := { LoopRegs.reset with lc := #v[5, 2, 0], lb := #v[0x100, 0x10C, 0], ln := #v[9, 2, 0] } }
    (t.redirect 0 (.branch 0x118) 0x110).loop.lc = #v[5, 0, 0] := by decide +kernel

theorem witness_HardwareLoops_exit : let s := withT (fun t => { t with loop := { LoopRegs.reset with lc := #v[5, 2, 0], lb := #v[0x10C, 0x10C, 0], ln := #v[4, 2, 0] } }) (looped [])
    s.guard 0 = true ∧ s.core.t.loop.lc[levelOf 1] ≠ 0 ∧ s.core.t.loop.lc[levelOf 2] = 0 ∧
    sees (exec (.lexit 0 1) s) (fun t => decide (t.core.t.loop.lc = #v[5, 0, 0])) = true := by decide +kernel

/-! ### Vectors -/

theorem witness_SelectCompareAndLogic : let s := withP 2 0xF (withV 4 16 [7, 0x8000] (withV 3 16 [7, 1] (bench [])))
    (∃ l < Width.lanes .half, active .half (s.rdP 2) l = true) ∧ (5 : BitVec 4) ≠ 0 ∧
    [Instr.vcmpeq 2 .half 5 3 (.v 4), .vcmplt 2 .half 5 4 (.v 3), .vcmpltu 2 .half 5 3 (.v 4), .vcmple 2 .half 5 3 (.v 4)].map (fun i => match exec i s with
      | .next t => (t.pNow 5).toNat
      | _ => 99) = [3, 12, 12, 3] := by
  refine ⟨⟨0, ?_, ?_⟩, ?_, ?_⟩ <;> decide +kernel

/-- Parameters at the ends of their ranges; a guard with active lanes and one without. -/
theorem witness_NarrowAndWiden : let s := withP 2 0xF (bench [(9, 2 ^ 14 - 1), (10, 2 ^ 14), (11, 127), (12, 2 ^ 7), (13, 33), (14, 255), (15, 256), (16, 511), (17, 512), (18, 64), (19, 65)])
    (Width.word ≠ .byte) ∧ (s.rdS 9).toNat < 2 ^ 14 ∧ 2 ^ 14 ≤ (s.rdS 10).toNat ∧ s.lanesOf 2 .half ≠ [] ∧ s.lanesOf 1 .half = [] ∧
    (s.rdS 11).toNat < 2 ^ 7 ∧ (s.rdS 11).toNat % 64 = 63 ∧ 2 ^ 7 ≤ (s.rdS 12).toNat ∧ 32 < (s.rdS 13).toNat % 64 ∧ (s.rdS 14).toNat < 2 ^ 8 ∧ 2 ^ 8 ≤ (s.rdS 15).toNat ∧
    (s.rdS 16).toNat < 2 ^ 9 ∧ 2 ^ 9 ≤ (s.rdS 17).toNat ∧ sgn 7 (s.rdS 16).toNat ≠ -64 ∧ (s.rdS 18).toNat % 128 = 64 ∧ sgn 7 (s.rdS 19).toNat = -63 ∧
    traps (exec (.vnarrow 2 .word 4 8 10 false) s) .illegalOperand 2 = true ∧ traps (exec (.vwiden 1 .word 4 8 13 false) s) .illegalOperand 2 = true ∧
    traps (exec (.vsshr 1 .word 4 8 18) s) .illegalOperand 2 = true ∧ traps (exec (.vshrr 1 .word 4 8 15) s) .illegalOperand 2 = true := by decide +kernel

theorem witness_ElementMoves : let s := withP 2 0xC (withV 3 16 [7, 0xFFFF] (bench [(5, 1), (6, 127), (7, 128)]))
    (s.rdS 5).toNat < Width.lanes .half ∧ (s.rdS 6).toNat < Width.lanes .half ∧ Width.lanes .half ≤ (s.rdS 7).toNat ∧ s.guard 0 = true ∧ s.guard 2 = false ∧
    active .half (s.rdP 2) (s.rdS 5).toNat = true ∧ outX (exec (.vextr 0 .half 8 3 5 false) s) 8 = 2 ^ 64 - 1 ∧ outX (exec (.vextr 0 .half 8 3 5 true) s) 8 = 0xFFFF ∧
    traps (exec (.vinsr 1 .half 3 5 7) s) .illegalOperand 2 = true ∧ outV (exec (.vinsr 2 .half 3 6 5) s) 3 16 1 = 127 ∧ outV (exec (.viota 2 .half 3 5 true) s) 3 16 1 = 1 := by decide +kernel

theorem witness_CodesAndPermutes : let s := withV 4 16 [2, 0xFFFF, 200] (withV 3 16 [7, 8, 9] (bench [(5, 63), (6, 64)]))
    (s.rdS 5).toNat < 64 ∧ 64 ≤ (s.rdS 6).toNat ∧ traps (exec (.vcb4 0 1 3 6 false) s) .illegalOperand 2 = true ∧
    (List.range 3).map (outV (exec (.vperm 0 .half 1 3 4 false) s) 1 16) = [9, 0, 0] := by decide +kernel

/-- A task whose return queue holds n entries. -/
def queued (n : Nat) (xs : List (Nat × Nat)) : State := withT (fun t => { t with comp := { t.comp with rq := List.replicate n { value := some 1, due := 0, tag := 0 } } }) (bench xs)

theorem witness_ReductionsAndCensus : let s := withP 2 0xF (withV 3 16 [0xFFFF, 2] (queued 15 [(5, 127), (6, 128), (7, 63), (8, 64)])); let u := withV 3 16 [0xFFFF, 2] (queued 16 [(5, 127)])
    s.guard 0 = true ∧ s.guard 1 = false ∧ ((some 5 : Option (BitVec 5)).map s.rdS).getD 0 = 127 ∧ s.core.t.comp.rq.length < 16 ∧ 16 ≤ u.core.t.comp.rq.length ∧ Width.lanes .half ≤ (s.rdS 6).toNat ∧
    (s.rdS 7).toNat < 64 ∧ 64 ≤ (s.rdS 8).toNat ∧ s.lanesOf 2 .half ≠ [] ∧ s.lanesOf 1 .half = [] ∧
    outV (exec (.vredadd 2 .half 4 3 none false) s) 4 64 0 = 1 ∧ outV (exec (.vredadd 2 .half 4 3 none true) s) 4 64 0 = 0x10001 ∧ outV (exec (.vredmin 2 .half 4 3 none false) s) 4 64 0 = 2 ^ 64 - 1 ∧
    traps (exec (.vtorq 0 .half 3 (some 5) false) u) .illegalOperand 4 = true ∧ traps (exec (.vtorq 0 .half 3 (some 6) false) s) .illegalOperand 2 = true := by decide +kernel

/-- Two slots have counted against slots 9 and 3 over their thresholds, a third against 3 as well. -/
theorem witness_CountsAtCompletion : let s := withT (fun t => { t with ts := (t.ts.set 3 { ScaleSlot.reset with satth := 1 }).set 9 { ScaleSlot.reset with satth := 1 } }) (atBundle (bench []))
    let u : State := { s with core := { s.core with bundle := { s.core.bundle with sats := [(9, 2), (3, 2)], satSlots := [(0, 9), (2, 3), (1, 3)], census := [(3, 5)], random := 1 } } }
    u.core.bundle.redirect = .none ∧ u.core.t.loop.innermost = none ∧ u.core.bundle.complete = false ∧ (1, 3) ∈ u.core.bundle.satSlots ∧
    (fileGet u.completeBundle.core.t.ts 3).exceeds = true ∧
    (∀ e ∈ u.core.bundle.satSlots, (fileGet u.completeBundle.core.t.ts e.2).exceeds = true → (3 : BitVec 6) ≤ e.2 ∧ (e.2 = 3 → (1 : BitVec 3) ≤ e.1)) ∧
    u.core.t.sys.th = false ∧ (let v := u.modT fun t => { t with sys := { t.sys with th := true } }
      v.core.t.sys.th = true ∧ v.core.bundle.complete = false ∧ v.endBundle.core.t.satPend = [(0, 9), (2, 3), (1, 3)]) := by decide +kernel

/-- A stream buffer of n bytes. -/
def streamed (n : Nat) : State := withT (fun t => { t with streams := t.streams.set 1 (List.replicate n 7) }) (withP 2 0xF (bench []))

theorem witness_StreamBuffers : let s := streamed 4092; let u := streamed 4093
    (fileGet s.core.t.streams 1).length + 2 * (s.lanesOf 2 .half).length ≤ 4096 ∧ (fileGet u.core.t.streams 1).length ≤ 4096 ∧ 4096 < (fileGet u.core.t.streams 1).length + 2 * (u.lanesOf 2 .half).length ∧
    s.lanesOf 2 .half ≠ [] ∧ s.lanesOf 1 .half = [] ∧ s.guard 0 = true ∧ s.guard 1 = false ∧
    sees (exec (.vspush 2 .half 1 3) u) (fun t => t.core.bundle.exc.any fun e => decide (e.elem = 1 ∧ e.opnd = 4)) = true := by decide +kernel

theorem witness_RoutineResults : let s := bench [(5, 15), (6, 16), (7, 63), (8, 64)]
    s.cleanLanes 0 .half [3] ∧ s.cleanLanes 0 .word [3, 4] ∧ (s.rdS 5).toNat < 16 ∧ 16 ≤ (s.rdS 6).toNat ∧ (s.rdS 7).toNat < 64 ∧ 64 ≤ (s.rdS 8).toNat ∧
    traps (exec (.vexp 1 2 3 6) s) .illegalOperand 2 = true ∧ traps (exec (.vrsq 1 2 3 8) s) .illegalOperand 2 = true := by unfold State.cleanLanes State.badLane; decide +kernel

/-- The words that hold these lanes of v3 and v4 were poisoned when the bundle began. -/
def dirtied (ws : List Nat) (s : State) : State := { s with core := { s.core with undo := { s.core.undo with regPoison := ws } } }

/-- Words 2 of v3 and 1 of v4: lane 3 of the halves of v4 comes first of 0 to 15, and of v3 lane 8; one lane has both sources poisoned. -/
theorem witness_RoutineResults_poison : let s := dirtied [98, 129] (withP 2 (BitVec.allOnes 256) (bench [(5, 3)])); let u := dirtied [97, 129] (withP 2 (BitVec.allOnes 256) (bench [(5, 3)]))
    4 ∈ s.lanesOf 2 .word ∧ s.badLane .word 3 4 ∧ (∀ j ∈ s.lanesOf 2 .word, j < 4 → ¬s.badLane .word 3 j) ∧ (s.rdS 5).toNat < 16 ∧
    2 ∈ s.lanesOf 2 .word ∧ s.badLane .word 4 2 ∧ (∀ j ∈ s.lanesOf 2 .word, j < 2 → ¬s.badLane .word 3 j ∧ ¬s.badLane .word 4 j) ∧ u.badLane .word 3 2 ∧ u.badLane .word 4 2 ∧
    [exec (.vrcp 2 6 3 5) s, exec (.vdiv 2 6 3 (.v 4)) s, exec (.vdiv 2 6 3 (.v 4)) u].map (fun o => match o with | .next t => t.core.bundle.exc.map (fun e => (e.cause, e.elem, e.opnd)) | _ => none) =
      [some (.poison, 4, 1), some (.poison, 2, 2), some (.poison, 2, 1)] := by unfold State.badLane; decide +kernel

theorem witness_OptimiserStep : let s := bench [(5, 2 ^ 32 - 1), (6, 2 ^ 32)]
    s.cleanLanes 0 .half [29, 30, 31, 3] ∧ (29 : BitVec 5).toNat ≤ 29 ∧ (s.rdS 5).toNat < 2 ^ 32 ∧ 2 ^ 32 ≤ (s.rdS 6).toNat ∧ traps (exec (.vopt 1 29 3 6) s) .illegalOperand 2 = true ∧
    (let u := dirtied [30 * 32] (withP 2 (BitVec.allOnes 256) s); 0 ∈ u.lanesOf 2 .half ∧ u.badLane .half 30 0 ∧ (∀ r ∈ [(29 : BitVec 5), 31, 3], ¬u.badLane .half r 0) ∧
      traps (exec (.vopt 2 29 3 5) u) .poison 4 = true) := by unfold State.cleanLanes State.badLane; decide +kernel

/-- Two active words at the end of the window; a predicate there; a tile of 256-byte rows. -/
theorem witness_VectorAccesses : let s := withP 2 0xFF (bench [(5, 0xFFFF8), (6, 4), (7, 0xFFFE0), (8, 0x10000), (9, 0x4A00280000), (1, 3)])
    let addr (l : Nat) : Word := s.rdS 5 + BitVec.ofNat 64 (l * 4); let loc (l : Nat) : Loc := s.windowLoc (0xFFFF8 + 4 * l)
    s.lanesOf 2 .word = [0, 1] ∧ (∀ l ∈ s.lanesOf 2 .word, OwnRead s (addr l) 4 (loc l)) ∧ tileParamBad (s.rdS 9) = false ∧ s.tileShapeBad (s.rdS 8) (s.rdS 9) .half = false ∧
    OwnRead s (s.rdS 7) 32 (s.windowLoc 0xFFFE0) ∧ s.guard 0 = true ∧ s.guard 1 = false ∧ placeOf (vaOf (s.rdS 7)) = .window 0xFFFE0 ∧ s.mem.poison = [] ∧
    (∀ l ∈ s.lanesOf 2 .word, (addr l).toNat % 4 = 0 ∧ placeOf (vaOf (addr l)) = .window (0xFFFF8 + 4 * l)) := by
  unfold OwnRead; decide +kernel

/-- Element 0 is in the own window; element 1 lies above it, in no page, or is refused, poisoned or misaligned. -/
theorem witness_VectorAccesses_faults : let s := withP 2 0xFF (bench [(5, 0xFFFFC), (7, 0x40), (8, 0x102), (10, 0x70), (11, 8)]); let p := { s with mem := { s.mem with poison := [0x2000000000048] } }
    s.lanesOf 2 .word = [0, 1] ∧ s.lanesOf 2 .dword = [0] ∧ OwnRead s (s.rdS 5 + BitVec.ofNat 64 0) 4 (s.windowLoc 0xFFFFC) ∧ (s.rdS 5 + BitVec.ofNat 64 4).toNat % 4 = 0 ∧
    s.xlate (some s.cur) s.core.t.id.asid (vaOf (s.rdS 5 + BitVec.ofNat 64 4)) needR = .miss ∧ s.xlate (some s.cur) s.core.t.id.asid (vaOf (s.rdS 5 + BitVec.ofNat 64 4)) needW = .miss ∧
    (s.rdS 7 + BitVec.ofNat 64 0).toNat % 4 = 0 ∧ s.xlate (some s.cur) s.core.t.id.asid 0x48 needR = .ok (s.windowLoc 0x48) ∧ s.ownWindow 0x48 = true ∧ p.mem.poisoned (s.windowLoc 0x48).pa 4 = true ∧ p.mem.poisoned (s.windowLoc 0x40).pa 4 = false ∧
    s.guard 0 = true ∧ (s.rdS 10).toNat % 32 ≠ 0 ∧
    [exec (.vld 2 .word 1 5 none) s, exec (.vst 2 .word 1 5 none) s, exec (.vld 2 .word 1 8 none) s, exec (.vldb 2 .word 1 8 none) s, exec (.vldp 0 3 10 none) s, exec (.vlds 2 .word 1 7 11) p].map
      (fun o => match o with | .next t => t.core.bundle.exc.map (fun e => (e.cause, e.opnd, e.elem)) | _ => none) =
      [some (.translation, 1, 1), some (.translation, 1, 1), some (.misaligned, 1, 0), some (.misaligned, 1, 0), some (.misaligned, 1, 0), some (.poison, 0, 1)] := by
  unfold OwnRead; decide +kernel

/-- A tile parameter out of range, a row of more lines than the block, and a shape that is allowed. -/
theorem witness_VectorAccesses_tiles : let s := bench [(5, 0x10000), (7, 0x4A00280000), (8, 0x3A00280000), (9, 2 ^ 42), (11, 0xFFFC0)]; let f (n hi lo : Nat) := bitsOf (s.rdS (BitVec.ofNat 5 n)).toNat hi lo
    (s.rdS 7).toNat < 2 ^ 42 ∧ f 7 34 32 ≤ 5 ∧ 1 ≤ f 7 41 36 ∧ f 7 41 36 ≤ 32 ∧ f 7 41 36 ≤ 2 ^ f 7 34 32 ∧ (s.rdS 7).getLsbD 35 = true ∧ f 7 41 36 = 2 ^ f 7 34 32 ∧ f 7 31 16 * 2 < 64 * f 7 41 36 ∧ (s.rdS 5).toNat % 64 = 0 ∧
    (∀ l < Width.lanes .half, s.ownWindow (vaOf (tileAddr (s.rdS 5) (s.rdS 7) 2 l)) = true) ∧ ¬((s.rdS 9).toNat < 2 ^ 42) ∧ f 8 41 36 ≠ 2 ^ f 8 34 32 ∧ (s.rdS 8).getLsbD 35 = true ∧ f 8 34 32 ≤ 5 ∧ 1 ≤ f 8 41 36 ∧
    traps (exec (.vldt 1 .half 6 5 9) s) .illegalOperand 2 = true ∧ traps (exec (.vstt 1 .half 6 5 9) s) .illegalOperand 2 = true ∧ traps (exec (.vstt 1 .half 6 5 8) s) .operandFormat 1 = true ∧
    ¬(∀ l < Width.lanes .half, s.ownWindow (vaOf (tileAddr (s.rdS 11) (s.rdS 7) 2 l)) = true) ∧ traps (exec (.vldt 1 .half 6 11 7) s) .operandFormat 1 = true := by decide +kernel

/-! ### Engines: registers and queues -/

/-- The matrix engine ME0 changed. -/
def withM (f : MatEngine → MatEngine) (s : State) : State := withT (fun t => { t with me0 := f t.me0 }) s

/-- A 2 by 2 by 2 call of INT8 at 0x1000 and 0x2000: swizzled rows of one line. -/
def callRegs : File 3 Word := #v[0x1000, 8, 0x2000, 8, 0x8040002, 0x4000, 0, 0x3000]

theorem witness_MatrixRegisters : let s1 := bench [(1, 0x44), (2, 0x50), (3, 1023), (4, 1024), (5, 7)]; let s := withT (fun t => { t with me1 := { t.me1 with mdrained := true } }) (withM (fun m => { m with mdrained := true }) s1); let u := withM (fun m => { m with drained := false, mdrained := false }) s
    s.guard 0 = true ∧ s.guard 1 = false ∧ (s.rdX 1).toNat < 256 ∧ (s.rdX 1).toNat % 16 ≤ 4 ∧ (s.rdX 1).toNat / 16 ≤ 4 ∧ ¬((s.rdX 2).toNat / 16 ≤ 4) ∧ s.core.t.me0.drained = true ∧
    u.core.t.me0.drained = false ∧ s.core.t.me0.queue = [] ∧ s.core.t.me0.run = none ∧ s.core.t.haz = [] ∧ s.core.loading = none ∧ s.core.enginesDrained = true ∧ u.core.enginesDrained = false ∧ s1.core.enginesDrained = false ∧
    (s.rdX 3).toNat < 1024 ∧ 1024 ≤ (s.rdX 4).toNat ∧ traps (exec (.mcfg 0 2 false) s) .illegalOperand 1 = true ∧ traps (exec (.mcfg 0 1 false) u) .illegalOperand 4 = true ∧
    traps (exec (.mucw 0 4 5 true false) s) .illegalOperand 0 = true ∧ sees (exec (.mcfg 0 1 false) s) (fun t => decide (t.core.t.me0.mfmt = 0x44 ∧ t.core.t.me1.mfmt = 0x11)) = true := by decide +kernel

theorem witness_MatrixRegisters_busy : let s := bench [(3, 5)]
    let u : State := { s with core := { s.core with loading := some { image := 1, tag := none, asid := 0 } } }
    let m := withT (fun t => { t with haz := [{ seq := 1, eng := 0, reads := [], writes := [], half := none }] }) s
    u.core.loading ≠ none ∧ ¬(m.core.t.me0.queue = [] ∧ m.core.t.me0.run = none ∧ ∀ h ∈ m.core.t.haz, (h.half = none → h.eng ≠ 0) ∧ ∀ q, h.half = some q → q.1 = false) ∧
    traps (exec (.mucw 0 3 3 true false) u) .illegalOperand 4 = true ∧ sees (exec (.mdrain 0 5 false) m) (fun t => t.core.bundle.held) = true ∧
    (let half := withT (fun t => { t with haz := [{ seq := 1, eng := 0, reads := [], writes := [], half := some (false, .ok) }] }) s
     half.core.t.me0.queue = [] ∧ half.core.t.me0.run = none ∧ (∀ h ∈ half.core.t.haz, (h.half = none → h.eng ≠ 0) ∧ ∀ q, h.half = some q → q.1 = false) ∧
     sees (exec (.mdrain 0 5 false) half) (fun t => !t.core.bundle.held) = true ∧ sees (exec (.mdrain 0 5 true) half) (fun t => t.core.bundle.held) = true) := by
  refine ⟨?_, ?_, ?_, ?_, ?_, ?_, fun h hh => ?_, ?_, ?_⟩
  case refine_7 => simp [withT, begun] at hh; subst hh; simp
  all_goals decide +kernel

/-- R44's library routine 0 stands at word 0; an engine with seven commands has room for one more, with eight for none. -/
theorem witness_MatrixCommandsQueue : let s := withM (fun m => { m with mp := callRegs, specIssue := true }) (bench [(1, 0x2000000000000 + 0x1000000 + 0x80), (2, 0x40), (3, 0x8040001000080), (4, 0x1FFFFFFFF), (5, 0x80), (6, 0x8040401000080)])
    s.guard 0 = true ∧ s.core.t.me0.room = true ∧ s.core.t.me0.specIssue = true ∧ s.core.t.me1.specIssue = false ∧ s.core.t.comp.rq.length < 16 ∧
    (xferOf (s.rdX 5)).badRect = true ∧ (xferOf (s.rdX 3)).badMove false = false ∧ (xferOf (s.rdX 6)).badMove true = true ∧ (s.rdX 2).toNat % (xferOf (s.rdX 3)).esize = 0 := by decide +kernel

theorem witness_MatrixCommandsQueue_full : let c : MatCmd := { seq := 0, kind := .mcommit, a := 0, b := 0, mp := callRegs, mfmt := 0x11, srctr := 0, member := 0, gsize := 1, pair := false, bundle := 0, image := 0 }
    (withM (fun m => { m with queue := List.replicate 7 c }) (bench [])).core.t.me0.room = true ∧ (withM (fun m => { m with queue := List.replicate 8 c }) (bench [])).core.t.me0.room = false ∧
    16 ≤ (queued 16 []).core.t.comp.rq.length ∧ traps (exec (.mstat 0 1 false) (queued 16 [])) .illegalOperand 4 = true ∧
    sees (exec (.mzero 0 0 true false) (withM (fun m => { m with queue := List.replicate 8 c }) (bench []))) (fun t => t.core.bundle.held) = true := by decide +kernel

theorem witness_MatrixCallsQueue : let s := withM (fun m => { m with mp := callRegs }) (bench [(1, 0x1100), (2, 0x40), (3, 0x2000), (4, 0x44), (5, 1)])
    let t := withM (fun m => { m with mp := callRegs.set 0 0x1004 }) s; let h := withT (fun t => { t with comp := { t.comp with held := 0x10 } }) s
    s.guard 0 = true ∧ (s.rdX 1).toNat < 2 ^ 13 ∧ (s.rdX 2).toNat % 8 = 0 ∧ s.core.t.me0.mfmt = s.core.t.me1.mfmt ∧ s.tagHeld 4 = false ∧ h.tagHeld 4 = true ∧ mwE (s.core.lit.microAt 0) = true ∧
    callFault s.core.t.me0.mp s.core.t.me0.mfmt (s.callUses 0) 2 2 = none ∧ callFault t.core.t.me0.mp t.core.t.me0.mfmt (t.callUses 0) 2 2 = some (0, 0x1004) ∧ s.core.t.me0.room = true ∧
    2 ^ 13 ≤ (s.rdX 3).toNat ∧ (s.rdX 4).toNat % 8 ≠ 0 ∧ mwE (s.core.lit.microAt 16) = true ∧ (withM (fun m => { m with mfmt := 0 }) s).core.t.me0.mfmt ≠ s.core.t.me1.mfmt ∧
    sees (exec (.mcall 0 1 2 false false) s) (fun u => decide (u.core.t.me0.queue.length = 1 ∧ u.core.t.comp.held = 0x10)) = true ∧
    traps (exec (.mcall 0 1 2 false false) t) .operandFormat 4 = true ∧ traps (exec (.mcall 0 1 2 false false) h) .illegalOperand 0 = true ∧ traps (exec (.mcall 0 1 4 false false) s) .illegalOperand 1 = true := by
  decide +kernel

/-- A copy command of no fields, with its control word. -/
def copyCmd (k : CopyKind) (ctl opr : Word) (geo : File 4 Word) : CopyCmd :=
  { seq := 0, kind := k, ctl, opr, addS := false, addD := false, geo, srctr := 0, slot := 4, bundle := 0, image := 0 }

/-- The running command of the first copy engine and the commands after it. -/
def withC (r : Option CopyRun) (q : List CopyCmd) (s : State) : State := withT (fun t => { t with ce0 := { t.ce0 with run := r, queue := q } }) s

theorem witness_CopyCommandsQueue : let s := (bench [(1, 0x43), (2, 0x1000), (3, 0x80), (4, 0x010203), (5, 0x010003), (6, 0xFFFFFFFFFFFF0000 % 2 ^ 48 + 63), (7, 63)]).atSlot 4
    let h := withT (fun t => { t with comp := { t.comp with held := 8 } }) s; let full := withC none (List.replicate 16 (copyCmd .cpy 0 0 (.replicate _ 0))) s
    s.guard 0 = true ∧ s.guard 1 = false ∧ (s.core.t.ce s.slotCe).geo[13].toNat % 8 = 0 ∧ (s.core.t.ce s.slotCe).geo[14].toNat % 16 = 0 ∧ bitsOf (s.rdX 1).toNat 15 7 = 0 ∧ (s.rdX 1).toNat < 2 ^ 48 ∧
    s.tagHeld 3 = false ∧ h.tagHeld 3 = true ∧ s.core.t.ce0.queue.length < 16 ∧ 16 ≤ full.core.t.ce0.queue.length ∧ (s.rdX 2).toNat % 64 = 0 ∧ (s.rdX 7).toNat < 64 ∧ bitsOf (s.rdX 3).toNat 15 7 ≠ 0 ∧
    ((∀ i < 3, (s.rdX 4).toNat / 256 ^ i % 256 ≠ 0) ∧ (s.rdX 4).toNat < 2 ^ 24) ∧ ¬(∀ i < 3, (s.rdX 5).toNat / 256 ^ i % 256 ≠ 0) ∧ (15 : BitVec 6).toNat < 16 ∧
    sees (exec (.cpy 0 1 2 false false) s) (fun t => decide (t.core.t.ce0.queue.length = 1 ∧ t.core.t.comp.held = 8)) = true ∧ sees (exec (.cpy 0 1 2 false false) full) (fun t => t.core.bundle.held) = true ∧
    traps (exec (.cpy 0 3 2 false false) s) .illegalOperand 0 = true ∧ traps (exec (.erw 0 5 16) s) .illegalOperand 1 = true := by decide +kernel

/-- Barrier and completion blocks that are misaligned, and each operand out of its range. -/
theorem witness_CopyCommandsQueue_faults : let s := (bench [(1, 0x43), (2, 0x1002), (3, 0x80), (4, 64), (5, 0x1000)]).atSlot 4; let b := withT (fun t => { t with ce0 := { t.ce0 with geo := t.ce0.geo.set 14 8 } }) s; let h := withT (fun t => { t with comp := { t.comp with held := 8 } }) s
    s.guard 0 = true ∧ s.core.t.ce0.queue.length < 16 ∧ (bitsOf (s.rdX 1).toNat 15 7 = 0 ∧ (s.rdX 1).toNat < 2 ^ 48) ∧ ¬(bitsOf (s.rdX 3).toNat 15 7 = 0) ∧ ¬((b.core.t.ce b.slotCe).geo[14].toNat % 16 = 0) ∧ h.tagHeld 3 = true ∧
    (s.rdX 2).toNat % 4 ≠ 0 ∧ (s.rdX 2).toNat % 64 ≠ 0 ∧ (s.rdX 5).toNat % 64 = 0 ∧ 64 ≤ (s.rdX 4).toNat ∧ 64 ≤ (s.rdX 3).toNat ∧
    traps (exec (.cpyw 0 1 5 false false) b) .illegalOperand 4 = true ∧ traps (exec (.cpyx 0 1 5 true) h) .illegalOperand 0 = true ∧ traps (exec (.cpyx 0 1 2 true) s) .illegalOperand 1 = true ∧ traps (exec (.coll 0 2 1) s) .illegalOperand 0 = true ∧
    traps (exec (.coll 0 5 3) s) .illegalOperand 1 = true ∧ traps (exec (.coll 0 5 1) b) .illegalOperand 4 = true ∧ traps (exec (.coll 0 5 1) h) .illegalOperand 1 = true ∧ traps (exec (.csig 0 5 4) s) .illegalOperand 1 = true := by decide +kernel

/-- CPYC ends the running command and one of two queued, by the tags' low bits that the mask names. -/
theorem test_cpyc : let s := (withC (some (copyCmd .cpy 1 0 (.replicate _ 0)).begin) [copyCmd .cpy 2 0 (.replicate _ 0), copyCmd .cpyw 1 0 (.replicate _ 0)] (bench [(1, 2)])).atSlot 4
    outX (exec (.cpyc 0 3 1) s) 3 = 2 ∧ sees (exec (.cpyc 0 3 1) s) (fun t => decide (t.core.t.ce0.queue.map (·.ctl) = [2] ∧ t.core.t.ce0.run = none ∧ t.core.t.ce0.flight.map (·.status) = [.cancelled, .cancelled])) = true := by
  decide +kernel

theorem witness_AtomicsAndReductions : let s := mapped [(1, 0x40000038), (2, 5)]; let l : Loc := { pkg := none, pa := 0x20000038, key := 0 }
    s.guard 0 = true ∧ (s.rdX 1).toNat % 8 = 0 ∧ s.xlate (some s.cur) s.core.t.id.asid (vaOf (s.rdX 1)) needRW = .ok l ∧ s.mem.poisoned l.pa 8 = false ∧ l.pa % 64 + 8 ≤ 64 ∧
    s.redsTo (vaOf (s.rdX 1)) 8 = false ∧ s.redsStuck = false ∧ sees (exec (.aadd 0 1 3 1 2) s) (fun t => decide (t.little 0 0x20000038 8 = 5)) = true ∧
    sees (exec (.redadd 0 0 1 2) s) (fun t => decide (t.core.reds.map (·.op) = [11] ∧ t.little 0 0x20000038 8 = 0)) = true := by decide +kernel

theorem witness_AtomicsAndReductions_remote : let s := abroad (mapped [(1, 0x60000030), (2, 5)]); let l : Loc := { pkg := some 1, pa := 0x20000030, key := 0 }
    s.guard 0 = true ∧ RemotePlace s (s.rdX 1) (amoBytes 2) needRW l 1 ∧ s.redsTo (vaOf (s.rdX 1)) (amoBytes 2) = false ∧ (∀ q ∈ s.core.asks, q.live = false) ∧ s.flowFull s.netEng 1 1 = false ∧ (atomicsOf 0 2 4 1 2)[9]? = some (.acas 0 2 4 1 2) := by
  refine ⟨?_, ⟨?_, ?_, ?_, ?_, ?_⟩, ?_, ?_, ?_, ?_⟩ <;> decide +kernel

theorem redsStuck_full (u : State) (r : Red) (h : u.core.reds = [r]) (n : u.xlat.parked.length = 8192) : u.redsStuck = true := by
  simp only [State.redsStuck, h, n]; rfl

/-- A full deferred-reduction store. -/
theorem witness_AtomicsAndReductions_stuck : let s := bench [(1, 0x40)]
    let r : Red := { task := s.core.t.id, op := 11, size := 4, va := 0, operand := 0, core := 0, bundle := 0, image := 0 }; let u : State := { s with core := { s.core with reds := [r] }, xlat := { s.xlat with parked := List.replicate 8192 r } }
    u.guard 0 = true ∧ (u.rdX 1).toNat % amoBytes 0 = 0 ∧ u.redsStuck = true := by
  intro s r u; exact ⟨(by decide +kernel : s.guard 0 = true), (by decide +kernel : (s.rdX 1).toNat % amoBytes 0 = 0), redsStuck_full u r rfl (List.length_replicate ..)⟩

/-- ACAS.q on a pair at the end of the window: equal to the comparand, it stores the new pair. -/
theorem test_acas_pair : let s := poke 0x20000000FFFF0 16 (5 + 2 ^ 64 * 6) (bench [(1, 0xFFFF0), (2, 5), (3, 6), (4, 7), (5, 8)])
    sees (exec (.acas 0 2 2 1 4) s) (fun t => decide (t.little 0 0x20000000FFFF0 16 = 7 + 2 ^ 64 * 8 ∧ t.core.t.sb.far.map (·.val) = [.pair 2 (BitVec.ofNat 128 (5 + 2 ^ 64 * 6))])) = true ∧
    sees (exec (.acas 0 2 0 1 4) s) (fun t => decide (t.little 0 0x20000000FFFF0 16 = 5 + 2 ^ 64 * 6)) = true := by decide +kernel

theorem witness_Synchronisation : let s := mapped [(1, 0x30), (2, 2 ^ 40), (3, 2 ^ 40 + 1), (4, 0)]; let red : Red := { task := s.core.t.id, op := 11, size := 4, va := 0, operand := 0, core := 0, bundle := 0, image := 0 }
    let u : State := { s with core := { s.core with reds := [red] } }
    s.guard 0 = true ∧ s.guard 1 = false ∧ s.accessesDue = false ∧ u.accessesDue = true ∧ s.flushL1.accessesDue = false ∧ (s.rdX 1).toNat % 16 = 0 ∧ (s.rdX 1).toNat < 2 ^ 55 ∧
    OwnRead s (s.rdX 1) 8 (s.windowLoc 0x30) ∧ placeOf (vaOf (s.rdX 1)) = .window 0x30 ∧ (s.release (objRef 0 0x30)).mem.poisoned (spAddr s.cur 0x30) 8 = false ∧ s.mem.poison = [] ∧ s.core.l1 = [] ∧ Performed s ∧ (2 : BitVec 6) ≠ 0 ∧
    (s.rdX 2).toNat ≤ 2 ^ 40 ∧ (s.rdX 2).toNat ≠ 0 ∧ 2 ^ 40 < (s.rdX 3).toNat ∧ (s.rdX 4).toNat = 0 ∧ traps (exec (.invr 0 1 3) s) .illegalOperand 2 = true ∧
    sees (exec (.fence 0 0) u) (fun t => t.core.bundle.held) = true := by unfold OwnRead Performed L1Here; decide +kernel

set_option maxRecDepth 20000 in
/-- Objects in ring memory: one readable, one without a translation, one misaligned, one with a reserved bit; a WRITE of the core that is not acknowledged. -/
theorem witness_Synchronisation_objects : let s := poke 0x20000040 8 41 (mapped [(1, 0x40000040), (2, 0x80000000), (3, 0x48), (4, 2 ^ 60), (5, 0x40000024000000)]); let l : Loc := { pkg := none, pa := 0x20000040, key := 0 }
    let d : Descriptor := { seq := 0, tries := 1, timeouts := 0, die := 0, packet := mkPacket 0 { type := 0, tc := 0, eng := 1152, dst := 0x1000, pa := 64, len := 1, payload := [1] } 0 0 0 0 false, source := none, refetch := [], owner := none }
    let due : State := { s with fabric := { s.fabric with sources := [{ eng := 1152, dst := 0x1000, tc := 0, next := 1, route := 0, rseq := 1, descs := [d] }] } }; let r := s.release (objRef 0 (vaOf (s.rdX 1)).toNat)
    s.guard 0 = true ∧ (s.rdX 1).toNat < 2 ^ 55 ∧ (s.rdX 1).toNat % 16 = 0 ∧ s.xlate (some s.cur) s.core.t.id.asid (vaOf (s.rdX 1)) needR = .ok l ∧ s.xlate (some s.cur) s.core.t.id.asid (vaOf (s.rdX 1)) needRW = .ok l ∧
    s.ownWindow (vaOf (s.rdX 1)) = false ∧ l.pa % 64 + 8 ≤ 64 ∧ s.core.l1 = [] ∧ s.mem.poisoned l.pa 8 = false ∧ (∀ k < 64, s.mem.poisoned (l.pa / 64 * 64 + k) 1 = false) ∧ due.writesDue = true ∧
    Performed s ∧ r.xlate (some s.cur) s.core.t.id.asid (vaOf (s.rdX 1)) needRW = .ok l ∧ r.mem.poisoned l.pa 8 = false ∧ s.xlate (some s.cur) s.core.t.id.asid (vaOf (s.rdX 2)) needR = .miss ∧ s.xlate (some s.cur) s.core.t.id.asid (vaOf (s.rdX 5)) needRW = .refused ∧
    (s.rdX 2).toNat % 16 = 0 ∧ (s.rdX 5).toNat % 16 = 0 ∧ (s.rdX 5).toNat < 2 ^ 55 ∧ (s.rdX 3).toNat % 16 ≠ 0 ∧ 2 ^ 55 ≤ (s.rdX 4).toNat ∧ due.flushL1.accessesDue = true ∧ due.accessesDue = true ∧
    sees (exec (.acq 0 7 1) s) (fun t => decide (t.core.t.sb.far.map (·.val) = [.x 7 41])) = true ∧ sees (exec (.rel 0 7 1) s) (fun t => decide (t.core.t.sb.far.map (·.val) = [.x 7 42] ∧ t.little 0 0x20000040 8 = 42)) = true ∧
    traps (exec (.acq 0 7 2) s) .translation 1 = true ∧ traps (exec (.rel 0 7 5) s) .protection 1 = true ∧ traps (exec (.rel 0 7 3) s) .misaligned 1 = true ∧ traps (exec (.acq 0 7 4) s) .illegalOperand 1 = true ∧
    sees (exec (.rel 0 7 1) due) (fun t => t.core.bundle.held) = true ∧ sees (exec (.fence 0 2) due) (fun t => t.core.bundle.held) = true := by unfold Performed L1Here; decide +kernel

theorem witness_Synchronisation_strel : let l : L1Line := { pkg := none, line := 0x800000, key := 0, data := 5, present := 0xFF, dirty := 1, poison := 0, va := 0x1000000 }
    let s0 := mapped [(1, 0x30), (2, 9)]; let s : State := { s0 with core := { s0.core with l1 := [l] } }
    s.guard 0 = true ∧ placeOf (vaOf (s.rdX 1)) = .window 0x30 ∧ (s.rdX 1).toNat % 8 = 0 ∧ L1Here s ∧ (∀ o ∈ s.core.l1, o.va ≠ (vaOf (s.rdX 1)).toNat / 64) ∧ s.accessesDue = false ∧
    sees (exec (.strel 0 2 1 1) s) (fun t => decide (t.little 0 (spAddr 0 0x30) 8 = 9 ∧ t.readByte 0 0x20000000 = 5)) = true := by unfold L1Here; decide +kernel

/-- REL adds 1 and returns it, ACQ reads it. -/
theorem test_release_acquire : sees (exec (.rel 0 5 1) (poke 0x2000000000030 8 41 (bench [(1, 0x30)]))) (fun t => decide (t.little 0 0x2000000000030 8 = 42 ∧ t.core.t.sb.far.map (·.val) = [.x 5 42])) = true ∧
    sees (exec (.acq 0 5 1) (poke 0x2000000000030 8 41 (bench [(1, 0x30)]))) (fun t => decide (t.core.t.sb.far.map (·.val) = [.x 5 41])) = true := by decide +kernel

theorem witness_BindingsAndTags : let s0 := withT (fun t => { t with comp := { ctb := 0xA, cte := 2, held := 4, rq := [{ value := some 9, due := 0, tag := 0 }] } }) (bench [(1, 1 * 2 ^ 60), (2, 0), (4, 0x40), (5, 2 ^ 41 + 0x40), (6, 0xE), (7, 4), (8, 1), (9, 2), (10, 0xA), (11, 8)])
    let s := { s0 with sched := { s0.sched with bindings := [{ asid := 0, index := 0, obj := 0, base := 0, len := 0x40, scope := 0 }] } }
    let mine := s.sched.bindings.filter fun q => decide (q.asid = s.core.t.id.asid); let c := s.core.t.comp
    s.guard 0 = true ∧ s.guard 1 = false ∧ badObject (s.rdX 1) = false ∧ (s.rdX 4).toNat % 64 = 0 ∧ (s.rdX 5).toNat % 2 ^ 40 = 0x40 ∧ (s.rdX 5).toNat < 2 ^ 42 ∧
    (∀ q ∈ mine, ¬(q.base < 0x40 + 0x40 ∧ 0x40 < q.base + q.len)) ∧ (∀ q ∈ mine, q.index ≠ 1) ∧ (∀ j < 1, ∃ q ∈ mine, q.index = j) ∧ (∃ q ∈ mine, q.index = (s.rdX 2).toNat) ∧
    ¬(∃ q ∈ mine, q.index = (s.rdX 8).toNat) ∧ c.ctb &&& s.rdX 6 ≠ 0 ∧ c.ctb &&& s.rdX 7 = 0 ∧ (c.held ||| c.ctb) &&& s.rdX 7 ≠ 0 ∧ (c.held ||| c.ctb) &&& s.rdX 8 = 0 ∧
    s.rdX 10 ≠ 0 ∧ c.ctb &&& s.rdX 10 = s.rdX 10 ∧ s.rdX 6 &&& ~~~(c.held ||| c.ctb) = 0 ∧ c.ctb &&& s.rdX 6 ≠ s.rdX 6 ∧ s.rdX 8 &&& ~~~(c.held ||| c.ctb) ≠ 0 ∧
    (c.ctb &&& s.rdX 11).getLsbD 3 = true ∧ (∀ j < 3, (c.ctb &&& s.rdX 11).getLsbD j = false) ∧ c.rq = [{ value := some 9, due := 0, tag := 0 }] ∧ 0 ≤ s.core.clock ∧ s.core.l1 = [] ∧
    outX (exec (.bind 0 3 1 4) s) 3 = 1 ∧ outX (exec (.waitany 0 3 6) s) 3 = 0xA ∧ outX (exec (.waitall 0 3 10) s) 3 = 2 ∧ outX (exec (.ffr 0 3 11) s) 3 = 3 ∧ outX (exec (.ffr 0 3 7) s) 3 = 64 ∧
    outX (exec (.rqpop 0 3) s) 3 = 9 := by decide +kernel

theorem witness_BindingsAndTags_empty : let s := withT (fun t => { t with comp := { t.comp with rq := [{ value := none, due := 0, tag := 0 }, { value := some 1, due := 5, tag := 0 }] } }) (bench [])
    s.core.t.comp.rq = { value := none, due := 0, tag := 0 } :: [{ value := some 1, due := 5, tag := 0 }] ∧ s.core.clock < 5 ∧ (bench []).core.t.comp.rq = [] ∧
    traps (exec (.rqpop 0 3) (bench [])) .illegalOperand 4 = true := by decide +kernel

theorem witness_StageBarriers : let s := bench [(1, 0x40), (2, 64 + 2 ^ 32), (3, 2 ^ 40), (4, 0), (5, 1), (6, 0x48), (7, 0x100000)]; let q := s.barrierAt s.cur 0x40
    s.guard 0 = true ∧ s.ownOffset (vaOf (s.rdX 1)) = some 0x40 ∧ (s.rdX 1).toNat % 16 = 0 ∧ (s.rdX 2).toNat < 2 ^ 40 ∧ q.expb + (s.rdX 2).toNat % 2 ^ 32 < 2 ^ 32 ∧ q.expc + (s.rdX 2).toNat / 2 ^ 32 % 2 ^ 8 < 2 ^ 8 ∧
    ¬((s.rdX 3).toNat < 2 ^ 40) ∧ s.mem.poison = [] ∧ q.phase = (s.rdX 4).toNat % 2 ^ 16 ∧ q.phase ≠ (s.rdX 5).toNat % 2 ^ 16 ∧ s.mem.poisoned (spAddr s.cur (0x40 + 8)) 8 = false ∧ s.core.l1 = [] ∧
    (s.rdX 6).toNat % 16 ≠ 0 ∧ s.ownOffset (vaOf (s.rdX 7)) = none ∧ traps (exec (.sbarm 0 1 3) s) .illegalOperand 2 = true ∧ traps (exec (.sbwait 0 3 6 4) s) .illegalOperand 1 = true ∧
    sees (exec (.sbarm 0 1 2) s) (fun t => decide ((t.barrierAt 0 0x40).expb = 64 ∧ (t.barrierAt 0 0x40).expc = 1)) = true := by decide +kernel

/-! ### Queues, mailboxes, tasks and special registers -/

/-- A queue of 16 slots of 16 bytes with a ring at 0x4000_1000, its block at 0x4000_0040, two cursors, and the running task as its agent. -/
def ring (n : Nat) (cursors : List Nat) (entries : List QEntry) : Queue :=
  { asid := 1, block := 0x40000040, base := 0x40001000, lgent := 4, slot := 1, scope := 0, ncons := 2, core := 0, domain := 0, next := n, cursors, entries }

def withQ (q : Queue) (s : State) : State := { s with sched := { s.sched with queues := [q] } }

theorem witness_QueuesAndBarriers_push : let s := withQ (ring 0 [0, 0] []) (mapped [(1, 0x40000040), (2, 77), (3, 0x40000080), (4, 0x40000048), (5, 0x40000042)])
    s.guard 0 = true ∧ s.liveQueue 1 (queueBlock (s.rdX 1)) = some (ring 0 [0, 0] []) ∧ (s.rdX 1).toNat / 8 % 8 = 0 ∧ s.serves (ring 0 [0, 0] []) = true ∧ 16 ≤ (ring 0 [0, 0] []).slotBytes ∧
    (match s.pushInto (ring 0 [0, 0] []) (s.rdX 2) with | .ok _ => true | .error _ => false) = true ∧ Performed s ∧ s.core.l1 = [] ∧
    (match (s.release (objRef 1 0x40000040)).reserve (ring 0 [0, 0] []) with
      | some (s1, e) => (match s1.wrSpan (spanFuel 16) s.netEng (some (.push 1 0x40000040 0)) none (BitVec.ofNat 55 e.slot) (slotHeader 0 8 ++ leBytes 8 (s.rdX 2).toNat ++ []) with | .ok _ => true | .error _ => false)
      | none => false) = true ∧
    s.liveQueue 1 (queueBlock (s.rdX 3)) = none ∧ (s.rdX 4).toNat / 8 % 8 ≠ 0 ∧ 2 ≤ (s.rdX 5).toNat % 8 ∧ traps (exec (.qpop 0 6 4) s) .illegalOperand 1 = true ∧ traps (exec (.qpop 0 6 5) s) .illegalOperand 1 = true ∧
    sees (exec (.qpush 0 6 1 2) s) (fun t => decide (t.core.t.sb.far.map (·.val) = [.x 6 0] ∧ t.little 0 0x20001008 8 = 77 ∧ t.sched.queues.map (·.next) = [1])) = true := by unfold Performed L1Here; decide +kernel

theorem witness_QueuesAndBarriers_pop : let e : QEntry := { seq := 0, slot := 0x40001000, page := none, pushed := true, returned := [] }; let q := ring 1 [0, 1] [e]
    let s := withQ q (mapped [(1, 0x40000040), (2, 0x40000041)]); let m : Token := { queue := 0x40000040, cursor := 0, seq := 0 }
    let u := withT (fun t => { t with tokens := [m] }) s; let full := withT (fun t => { t with tokens := List.replicate 16 m }) s
    (s.rdX 1).toNat % 8 < q.ncons ∧ s.core.t.tokens.length < 16 ∧ (q.entries.find? fun e => decide (e.seq = 0) && e.pushed) = some e ∧ (q.entries.find? fun e => decide (e.seq = 1) && e.pushed) = none ∧ s.core.l1 = [] ∧
    16 ≤ full.core.t.tokens.length ∧ (u.core.t.tokens.find? fun m => decide (m.queue = q.block ∧ m.cursor = 0)) = some m ∧
    sees (exec (.qpop 0 6 1) s) (fun t => decide (t.core.t.sb.far.map (·.val) = [.x 6 0x40001008] ∧ t.core.t.tokens = [m])) = true ∧
    sees (exec (.qpop 0 6 2) s) (fun t => decide (t.core.t.sb.far.map (·.val) = [.x 6 0xFFFFFFFFFFFFFFFF])) = true ∧ traps (exec (.qpop 0 6 1) full) .illegalOperand 4 = true ∧
    sees (exec (.qfree 0 1) u) (fun t => decide (t.core.t.tokens = [])) = true := by decide +kernel

/-- A queue of core scope made on core 5: the task may return a token, and neither push nor pop. -/
theorem witness_QueuesAndBarriers_scope : let q := { ring 0 [0, 0] [] with core := 5, domain := 5 }; let s := withQ q (mapped [(1, 0x40000041), (2, 7)]); let m : Token := { queue := 0x40000040, cursor := 1, seq := 0 }
    let u := withT (fun t => { t with tokens := [m] }) s
    s.liveQueue 1 (queueBlock (s.rdX 1)) = some q ∧ (s.rdX 1).toNat / 8 % 8 = 0 ∧ (s.rdX 1).toNat % 8 < q.ncons ∧ s.serves q = false ∧ (∀ m ∈ s.core.t.tokens, ¬(m.queue = q.block ∧ m.cursor = 1)) ∧
    (u.core.t.tokens.find? fun m => decide (m.queue = q.block ∧ m.cursor = 1)) = some m ∧ traps (exec (.qfree 0 1) s) .illegalOperand 1 = true ∧
    sees (exec (.qfree 0 1) u) (fun t => decide (t.core.t.tokens = [])) = true ∧ [exec (.qpush 0 6 1 2) s, exec (.qpop 0 6 1) s].map (fun o => match o with | .next t => t.core.bundle.exc.map (·.cause) | _ => none) = [some .scope, some .scope] := by decide +kernel

theorem witness_QueuesAndBarriers_make : let s := poke 0x20000048 8 0x80104 (poke 0x20000040 8 0x40001000 (mapped [(1, 0x40000040)])); let l : Loc := { pkg := none, pa := 0x20000040, key := 0 }
    (s.rdX 1).toNat % 64 = 0 ∧ scratchpadVa (vaOf (s.rdX 1)) = false ∧ s.blockAt (vaOf (s.rdX 1)) = .ok l ∧ l.pa < spBase ∧ (∀ k < 64, s.mem.poisoned (l.pa / 64 * 64 + k) 1 = false) ∧ s.core.l1 = [] ∧
    s.creation (vaOf (s.rdX 1)) (s.little l.key l.pa 8) (s.little l.key (l.pa + 8) 8) = some (ring 0 [0, 0] []) ∧ (∀ x ∈ s.sched.queues, x.is 1 (vaOf (s.rdX 1)) = false) ∧
    sees (exec (.qmake 0 6 1) s) (fun t => decide (t.sched.queues = [ring 0 [0, 0] []])) = true := by decide +kernel

theorem witness_QueuesAndBarriers_bar : let s := withT (fun t => { t with comp := { t.comp with held := 2 }, sys := { t.sys with dom := t.sys.dom.set 1 0x000200010007 } }) (bench [])
    s.guard 0 = true ∧ s.tagHeld 1 = true ∧ s.tagHeld 2 = false ∧ domSize (s.core.t.domOf 0) = 1 ∧ domSize (s.core.t.domOf 1) ≠ 1 ∧ s.lostMember 1 = false ∧ Performed s ∧ traps (exec (.dbar 0 0 1) s) .illegalOperand 2 = true ∧
    sees (exec (.dbar 0 1 2) s) (fun t => decide (t.sched.barriers.map (·.counts) = [[(1, 1)]] ∧ t.core.t.comp.held = 6)) = true := by unfold Performed L1Here; decide +kernel

/-- Core 0's mailboxes 3 and 4: this task's with n messages, and another context's. -/
def withBoxes (n : Nat) (s : State) : State :=
  { s with core := { s.core with mail := (s.core.mail.set 3 { owner := some s.core.t.id, entries := List.replicate n 9 }).set 4 { owner := some { asid := 2, record := 0, member := 0 }, entries := [] } } }

theorem witness_Mailboxes : let s := withBoxes 1 (mapped [(1, 3), (2, 5), (3, 6), (4, 4), (5, 2 ^ 13), (6, 12 * 8), (7, 11 * 8), (8, 0x40000000), (9, 0x41), (10, 8)]); let id := s.core.t.id
    s.guard 0 = true ∧ (7 : BitVec 6).toNat < 8 ∧ 2 ^ 13 ≤ (s.rdX 5).toNat ∧ (s.rdX 1).toNat < 2 ^ 13 ∧ 12 ≤ (s.rdX 6).toNat / 8 % 16 ∧ (s.rdX 7).toNat / 8 % 16 < 12 ∧ s.coreAllowed id.asid 0 = true ∧ s.coreAllowed id.asid 11 = false ∧
    ((s.getCore 0).box 4).owner.map (·.asid) ≠ some id.asid ∧ ((s.getCore 0).box 3).owner.map (·.asid) = some id.asid ∧ ((s.getCore 0).box 3).entries.length < 16 ∧
    16 ≤ (((withBoxes 16 s).getCore 0).box 3).entries.length ∧ (s.core.box 3).owner = some id ∧ (s.core.box 3).entries = [9] ∧ ((withBoxes 0 s).core.box 3).entries = [] ∧ (s.core.box 2).owner = none ∧ Performed s ∧
    (s.rdX 9).toNat % 128 ≠ 0 ∧ (s.rdX 8).toNat % 128 = 0 ∧
    [exec (.mbsend 0 2 1 2) s, exec (.mbsend 0 2 1 2) (withBoxes 16 s), exec (.mbsend 0 2 4 2) s, exec (.mbsend 0 2 6 2) s, exec (.mbsend 0 2 7 2) s].map (fun o => match o with
      | .next t => t.core.t.sb.far.map (·.val)
      | _ => []) = [[.x 2 0], [.x 2 1], [.x 2 2], [.x 2 3], [.x 2 3]] ∧ traps (exec (.mbsend 0 2 5 2) s) .illegalOperand 1 = true ∧ traps (exec (.mbrecv 0 2 5 4) s) .illegalOperand 2 = true ∧
    sees (exec (.mbrecv 0 2 5 3) s) (fun t => decide (t.xNow 2 = 9 ∧ t.xNow 3 = 0 ∧ t.pNow 5 = BitVec.allOnes 256 ∧ (t.core.box 3).entries = [])) = true ∧
    traps (exec (.mbbind 0 9 2) s) .illegalOperand 1 = true ∧ traps (exec (.mbbind 0 8 4) s) .illegalOperand 2 = true ∧
    sees (exec (.mbbind 0 8 2) s) (fun t => decide ((t.core.box 2).owner.map (·.record) = some 0x40000000)) = true := by unfold Performed L1Here; decide +kernel

/-- Task records at 0x4000_0000 + 128 n in these words: offset 0, 8, 24, 32, 40, 48. -/
def record (n w0 w1 w3 lo hi ch : Nat) (s : State) : State :=
  let a := 0x20000000 + 128 * n
  poke a 8 w0 (poke (a + 8) 8 w1 (poke (a + 24) 8 w3 (poke (a + 32) 8 lo (poke (a + 40) 8 hi (poke (a + 48) 8 ch s)))))

theorem witness_TasksAndFutures : let s := record 1 0 0 5 0 0 0 (record 2 (2 ^ 22 * 8) 0 0 0 9 4 (record 3 2 0 0 0 0 0 (mapped [(1, 0x40000080), (2, 0x40000100), (3, 0x40000180), (4, 2 ^ 32 - 1), (5, 0x40000200), (61, 0x40000000)])))
    let l (n : Nat) : Loc := { pkg := none, pa := 0x20000000 + 128 * n, key := 0 }
    s.guard 0 = true ∧ RecordHere s (s.rdX 1) (l 1) ∧ RecordHere s (s.rdX 61) (l 0) ∧ spawnable 0 false (s.recordWord 0x40000080) = true ∧ spawnable 0 true (s.recordWord 0x40000200) = true ∧ RecordHere s (s.rdX 5) (l 4) ∧
    spawnable 1 false (s.recordWord 0x40000100) = true ∧ spawnable 2 false (s.recordWord 0x40000100) = true ∧ spawnable 0 false (s.recordWord 0x40000180) = false ∧ s.core.t.refs.length < 16 ∧ (s.rdX 4).toNat < 2 ^ 32 ∧ s.writesDue = false ∧ s.core.l1 = [] ∧
    traps (exec (.tspawn 0 3) s) .illegalOperand 1 = true ∧ traps (exec (.tspawng 0 1) s) .illegalOperand 1 = true ∧
    sees (exec (.fspawn 0 5) s) (fun t => decide (t.core.t.refs = [0x40000200] ∧ t.recGet 1 0x40000200 28 4 = 1 ∧ t.sched.recs.map (·.ready) = [true])) = true ∧
    sees (exec (.tspawn 0 1) s) (fun t => decide (t.recGet 1 0x40000080 0 1 = 1 ∧ t.sched.recs.map (·.ready) = [false])) = true ∧
    sees (exec (.tspawnr 0 2) s) (fun t => decide (t.recGet 1 0x40000100 0 1 = 2 ∧ bitsOf (t.recGet 1 0x40000100 0 8) 9 8 = 1 ∧ t.sched.recs.map (·.ready) = [true])) = true := by
  unfold RecordHere; decide +kernel

theorem witness_TasksAndFutures_future : let s := record 1 (5 + 2 ^ 10) 0 (3 * 2 ^ 32) 0 0 0 (record 2 (6 + 2 ^ 10) 0 0 0 0 0 (record 0 (3 + 2 ^ 8) 0 0 10 15 4 (mapped [(1, 0x40000080), (2, 0x40000100), (61, 0x40000000), (3, 0x40000180)])))
    let u := withT (fun t => { t with refs := [0x40000080] }) s; let l (n : Nat) : Loc := { pkg := none, pa := 0x20000000 + 128 * n, key := 0 }
    RecordHere u (u.rdX 1) (l 1) ∧ bitsOf (u.recGet 1 0x40000080 0 8) 10 10 = 1 ∧ u.recGet 1 0x40000080 28 4 ≠ 0 ∧ u.core.t.refs.length < 16 ∧ (0x40000080 : VAddr) ∈ u.core.t.refs ∧
    bitsOf (u.recGet 1 0x40000180 0 8) 10 10 = 0 ∧ u.recGet 1 0x40000100 28 4 = 0 ∧ bitsOf (u.recGet 1 0x40000100 0 8) 10 10 = 1 ∧ u.xlate (some u.cur) 1 0x40000080 needR = .ok (l 1) ∧
    u.mem.poisoned 0x20000080 96 = false ∧ u.core.l1 = [] ∧ RecordHere u (u.rdX 61) (l 0) ∧ u.recKind u.core.t.id.asid u.tk = 1 ∧
    sees (exec (.fref 0 1) u) (fun t => decide (t.core.t.refs = [0x40000080, 0x40000080] ∧ t.recGet 1 0x40000080 28 4 = 4)) = true ∧ traps (exec (.fref 0 3) u) .illegalOperand 1 = true ∧
    sees (exec (.fdrop 0 1) u) (fun t => decide (t.core.t.refs = [] ∧ t.recGet 1 0x40000080 28 4 = 2)) = true ∧
    sees (exec (.rnext 0 6) u) (fun t => decide (t.core.t.sb.far.map (·.val) = [.pair 6 (BitVec.ofNat 128 (14 * 2 ^ 64 + 10))] ∧ t.recGet 1 0x40000000 32 6 = 14)) = true ∧
    sees (exec (.nxtreq 0 6 0) u) (fun t => decide (t.core.t.sb.nxt.map (·.range) = [true])) = true := by
  unfold RecordHere; decide +kernel

theorem witness_TasksAndFutures_next : let s := withQ (ring 0 [0, 0] []) (mapped [(1, 0x40000041)])
    s.liveQueue 1 (queueBlock (s.rdX 1)) = some (ring 0 [0, 0] []) ∧ (s.rdX 1).toNat / 8 % 8 = 0 ∧ (s.rdX 1).toNat % 8 < 2 ∧ s.serves (ring 0 [0, 0] []) = true ∧
    sees (exec (.nxtreq 0 6 1) s) (fun t => decide (t.core.t.sb.nxt.map (·.range) = [false])) = true := by decide +kernel

theorem witness_TasksEnd : let s0 := atBundle (mapped [(1, 0x40), (2, 2 ^ 32 - 1), (3, 0x42), (4, 2 ^ 32), (61, 0x40000000)]); let s := withT (fun t => { t with comp := { t.comp with held := 8 }, seg := { t.seg with crc := 0xFFFF } }) s0
    let bad := withT (fun t => { t with seg := { t.seg with isOpen := true } }) s; let busy := withC (some (copyCmd .cpy 1 0 (.replicate _ 0)).begin) [] s; let gang := record 0 (3 + 2 ^ 9) 0 0 0 0 0 s
    s.guard 0 = true ∧ Performed s ∧ s.quiet = true ∧ s.closing.fails = false ∧ bad.quiet = true ∧ bad.closing.fails = true ∧ busy.quiet = false ∧ busy.core.bundle.checked = false ∧ (s.rdX 1).toNat % 4 = 0 ∧ (s.rdX 2).toNat < 2 ^ 32 ∧
    s.recKind s.core.t.id.asid s.tk ≠ 2 ∧ gang.recKind gang.core.t.id.asid gang.tk = 2 ∧ (s.rdX 3).toNat % 4 ≠ 0 ∧ 2 ^ 32 ≤ (s.rdX 4).toNat ∧
    sees (exec (.tend 0 0) s) (fun t => decide (t.core.mode = .idle)) = true ∧ sees (exec (.tend 0 0) busy) (fun t => t.core.bundle.held) = true ∧ traps (exec (.tend 0 0) bad) .mirror 7 = true ∧
    traps (exec (.tcont 0 3 2) s) .illegalOperand 1 = true ∧ traps (exec (.tcont 0 1 4) s) .illegalOperand 2 = true ∧ traps (exec (.tcont 0 1 2) gang) .illegalOperand 4 = true := by
  unfold Performed L1Here; decide +kernel

set_option maxRecDepth 20000 in
/-- The task's record is the scheduler's; then a WRITE of its stores is not acknowledged. -/
theorem witness_TasksEnd_record : let s0 := withT (fun t => { t with comp := { t.comp with held := 8 }, seg := { t.seg with crc := 0xFFFF } }) (atBundle (mapped [(1, 0x40), (2, 0), (61, 0x40000000)]))
    let q : SchedRec := { task := s0.core.t.id, die := 0, rt := 0, ready := false, pin := none, port := none, reds := 0, finish := none, live := [0], refs := [], lackAt := none }; let s : State := { s0 with sched := { s0.sched with recs := [q] } }
    let d : Descriptor := { seq := 0, tries := 1, timeouts := 0, die := 0, packet := mkPacket 0 { type := 0, tc := 0, eng := 1152, dst := 0x1000, pa := 64, len := 1, payload := [1] } 0 0 0 0 false, source := none, refetch := [], owner := none }
    let due : State := { s with fabric := { s.fabric with sources := [{ eng := 1152, dst := 0x1000, tc := 0, next := 1, route := 0, rseq := 1, descs := [d] }] } }
    s.schedRec 1 s.tk = some q ∧ q.live = [s.core.t.id.member] ∧ s.core.t.refs = [] ∧ s.quiet = true ∧ s.closing.fails = false ∧ Performed s ∧ s.rdX 2 = 0 ∧ due.quiet = true ∧ due.closing.fails = false ∧ due.core.bundle.checked = false ∧ due.releaseAll.writesDue = true ∧
    sees (exec (.tend 0 0) s) (fun t => decide (t.sched.recs.map (·.finish) = [] ∨ t.sched.recs.map (·.finish) = [some .done])) = true ∧ sees (exec (.tcont 0 1 2) s) (fun t => decide (t.sched.recs.map (fun r => (r.ready, r.live)) = [(true, [])])) = true ∧
    sees (exec (.tend 0 0) due) (fun t => t.core.bundle.held) = true := by unfold Performed L1Here; decide +kernel

theorem witness_YieldsAndPlanes : let s := withT (fun t => { t with comp := { t.comp with held := 8 } }) (atBundle (mapped [(2, 2 ^ 32 - 1), (4, 2 ^ 32)]))
    let plane : Plane := { Plane.reset with state := .loaded, image := 7 }; let lit : State := { s with core := { s.core with shadow := plane } }
    s.guard 0 = true ∧ (s.rdX 2).toNat < 2 ^ 32 ∧ 2 ^ 32 ≤ (s.rdX 4).toNat ∧ s.core.old.sys.preq.getLsbD 0 = false ∧ s.core.t.sb.far = [] ∧
    (withT (fun t => { t with sys := { t.sys with preq := 1 } }) s).core.old.sys.preq.getLsbD 0 = true ∧ lit.core.shadow.state = .loaded ∧ s.core.shadow.state ≠ .loaded ∧ s.tagHeld 5 = false ∧ s.tagHeld 3 = true ∧
    sees (exec (.tyield 0 0) s) (fun t => decide (t.core.mode = .saving .preempt none none)) = true ∧ sees (exec (.pswap 0) lit) (fun t => t.core.swap) = true ∧ traps (exec (.pswap 0) s) .illegalOperand 4 = true ∧
    sees (exec (.pload 0 2 5) s) (fun t => decide (t.core.loading.isSome)) = true ∧ traps (exec (.pload 0 4 5) s) .illegalOperand 1 = true ∧ traps (exec (.pload 0 2 3) s) .illegalOperand 2 = true := by decide +kernel

theorem witness_SystemRegisters : let s := bench [(1, 127), (2, 64), (3, 2 ^ 55)]; let h := begun (withT (fun t => { t with sys := { t.sys with th := true } }) s)
    s.core.old.sys.th = false ∧ h.core.old.sys.th = true ∧ s.guard 0 = true ∧ s.guard 1 = false ∧ fieldHolds 0 (s.rdX 1) = true ∧ fieldHolds 1 (s.rdX 2) = false ∧ fieldHolds 6 (s.rdX 3) = false ∧
    (6 : BitVec 6).toNat < 7 ∧ s.core.shadow.state = .empty ∧ traps (exec (.swr 0 1 0x001) s) .protection 4 = true ∧ traps (exec (.swr 0 1 0x00D) h) .protection 4 = true ∧
    traps (exec (.swr 0 1 0x009) h) .illegalOperand 4 = true ∧ traps (exec (.tswr 0 5 2 1) s) .illegalOperand 1 = true ∧
    sees (exec (.swr 0 2 0x029) h) (fun t => decide (t.core.t.loop.vrb = 0)) = true ∧ sees (exec (.swr 0 1 0x029) h) (fun t => decide (t.core.t.loop.vrb = 15)) = true ∧
    outX (exec (.srd 0 6 0x00C) s) 6 = 15 ∧ outX (exec (.feat 0 6 3) s) 6 = 0x4000 ∧ outX (exec (.tsrd 0 6 5 1) s) 6 = 63 := by decide +kernel

/-! ### Engines at work -/

/-- A dimensions word (R160). -/
def dimW (m n k row col : Nat) : Word := BitVec.ofNat 64 (m + n * 2 ^ 17 + k * 2 ^ 26 + row * 2 ^ 42 + col * 2 ^ 49)

/-- A command of ME0, and it running at a point of its routine. -/
def matCmd (k : MatKind) (a : Word) (dims : Word) : MatCmd :=
  { seq := 0, kind := k, a, b := 0, mp := callRegs.set 4 dims, mfmt := 0x11, srctr := 0, member := 0, gsize := 1, pair := false, bundle := 0, image := 0 }

def point (pos : Nat) (q : BitVec 32) (a b : Staging) : SeqPoint := { pos, mq := .replicate 4 q, a0 := a, a1 := .empty, b0 := b, b1 := .empty }

def running (c : MatCmd) (pt : SeqPoint) (step : Option MacStep) (ended : Option Status) : MatRun :=
  { cmd := c, pt, row := 0, step, check := none, cbA := 0, cbB := 0, bsA := 0, bsB := 0, fetched := [], ended, sats := [], census := [], missing := none, paused := false }

/-- ME0 runs a command, or has it queued. -/
def onM (r : Option MatRun) (q : List MatCmd) (xs : List (Nat × Nat)) : State := withM (fun m => { m with run := r, queue := q }) (bench xs)

theorem witness_MatrixEngineWork : let c := matCmd .mcall 0 (dimW 2 2 2 126 318); let s := (onM none [c, c] []).switchTo 0; let m := s.core.t.me false
    m.run = none ∧ m.queue = [c, c] ∧ s.core.t.blocked s.cur c.seq = false ∧ s.core.saving = false ∧ s.core.eclipsing = false ∧ c.kind.isCall = true ∧ (MatKind.mzero false).isCall = false ∧
    (xferOf 0x2010180FF).badRect = false ∧ (xferOf 0x2010180FF).row0 = 127 ∧
    sees (exec (.matrixCommandAccept 0 false) (onM none [matCmd (.mstat 0) 0 0] [])) (fun t => decide (t.core.t.me0.run.isSome)) = true ∧
    sees (exec (.matrixCommandAccept 0 false) (onM none [c, c] [])) (fun t => decide (t.core.t.me0.run.map (·.pt.pos) = some 0 ∧ t.core.t.me0.queue.length = 1)) = true := by decide +kernel

/-- The rows of A are 5 −3 and 7 11 and those of B are 2 1 and 4 −1; the region is the last of the array. -/
theorem witness_MatrixEngineWork_mac : let q (x : List (List Int)) : Chunk := { elems := x, exps := [] }; let c := matCmd .mcall 0 (dimW 2 2 2 126 318)
    let p : MacStep := { half := false, pausable := true, a := q [[5, -3], [7, 11]], b := q [[2, 1], [4, -1]], replaced := false }; let r := running c (point 7 0 .empty .empty) (some p) none
    let s := withM (fun m => { m with run := some r, lit := { m.lit with cells := [(127 * 320 + 319, 0x7FFFFFFF)] } }) (bench []); let d := r.cmd.dims
    (s.core.t.me false).run = some r ∧ r.step = some p ∧ ((s.core.t.me false).bank false).poisonIn d.crow d.m d.ccol d.n = false ∧ d.crow + d.m ≤ 128 ∧ d.ccol + d.n ≤ 320 ∧ s.core.eclipsing = false ∧ s.core.saving = false ∧
    sees (exec (.macStepComplete 0 false) s) (fun t => decide ([(126, 318), (126, 319), (127, 318), (127, 319), (125, 318)].map (fun q => ((t.core.t.me0.bank false).get q.1 q.2 : Int)) = [-2, 8, 58, 0x7FFFFFFB, 0])) = true := by
  decide +kernel

theorem witness_MatrixEngineWork_load : let c := matCmd .mcall 0 (dimW 2 2 2 0 0); let w := (bench []).core.lit.microAt 4
    let r := running c (point 5 0 (.loading 0 w { elems := [], exps := [] } []) .empty) none none; let s := poke 0x2000000001040 2 0x0B07 (poke 0x2000000001000 2 0xFD05 (onM (some r) [] []))
    (s.core.t.me false).run = some r ∧ r.pt.loading false = some (false, 0, w, { elems := [], exps := [] }, []) ∧ r.going = true ∧ (r.step.map (·.half)) ≠ some false ∧
    (s.loadRows (r.loadCount false w 0 - 0) false r false w 0 { elems := [], exps := [] }).2 = none ∧
    (s.loadRows (r.loadCount false w 0 - 0) false r false w 0 { elems := [], exps := [] }).1.elems = [[5, -3], [7, 11]] ∧
    sees (exec (.stagingLoadComplete 0 false false) s) (fun _ => true) = true := by decide +kernel

theorem witness_MatrixEngineWork_end : let c := matCmd .mcall 0x1100 (dimW 2 2 2 0 0); let r := running c (point 9 0 .empty .empty) none (some .ok)
    let s := withT (fun t => { t with comp := { t.comp with held := 0x10 } }) (onM (some r) [] [])
    (s.core.t.me false).run = some r ∧ r.ended = some .ok ∧ s.owns (.engine s.core.t.id 0 c.seq) = false ∧ c.pair = false ∧ c.b = 0 ∧
    sees (exec (.matrixCommandComplete 0 false) s) (fun t => decide (t.core.t.comp.ctb = 0x10 ∧ t.core.t.comp.held = 0 ∧ t.core.t.comp.cte = 0 ∧ t.core.t.me0.completed = 1 ∧ t.core.t.me0.run = none)) = true := by
  decide +kernel

/-- A pair call, its half the first or the second to end; a call with a completion word at 0x38. -/
theorem witness_MatrixEngineWork_pair : let c := { matCmd .mcall 0x1100 (dimW 2 2 2 0 0) with pair := true, b := 0x38 }; let r (c : MatCmd) (st : Status) := running c (point 9 0 .empty .empty) none (some st)
    let s (h : Option (Bool × Status)) (st : Status) := withT (fun t => { t with comp := { t.comp with held := 0x10 }, haz := [{ seq := 0, eng := 0, reads := [], writes := [], half := h }] }) (onM (some (r c st)) [] [])
    (c.pair = true ∧ c.kind.isCall = true ∧ c.b ≠ 0 ∧ (r c .ok).ended = some .ok) ∧ ((s none .ok).core.t.haz.find? (fun h => decide (h.seq = 0))).bind (·.half) = none ∧
    ((s (some (true, .format)) .ok).core.t.haz.find? (fun h => decide (h.seq = 0))).bind (·.half) = some (true, .format) ∧ LinePlace (s none .ok) (vaOf c.b) 8 needW ((s none .ok).windowLoc 0x38) ∧
    sees (exec (.matrixCommandComplete 0 false) (s none .ok)) (fun t => decide (t.core.t.haz.map (·.half) = [some (false, .ok)] ∧ t.core.t.comp.held = 0x10 ∧ t.core.t.me0.run = none)) = true ∧
    sees (exec (.matrixCommandComplete 0 false) (s (some (true, .format)) .ok)) (fun t => decide (t.core.t.haz = [] ∧ t.core.t.comp.cte = 0x10 ∧ t.core.t.comp.held = 0 ∧
      t.little 0 (spAddr 0 0x38) 8 = Status.format.code + MatKind.mcall.op.toNat * 2 ^ 8 + 2 ^ 15 + 2 ^ 32)) = true := by unfold LinePlace; decide +kernel

/-- ME0 stands at a word of the micro store with these counters. -/
def atMicro (pos : Nat) (q : BitVec 32) (step : Option MacStep) : State := onM (some (running (matCmd .mcall 0 (dimW 2 2 130 0 0)) (point pos q .empty .empty) step none)) [] []

/-- The words of routine 0, its scatter's and the bias add's, and a SETM and a JMP. -/
theorem witness_SequencerWords : let r (pos : Nat) := running (matCmd .mcall 0 (dimW 2 2 130 0 0)) (point pos 1 .empty .empty) none none
    (∀ q ∈ [(0, 2), (1, 0xB), (2, 0xE), (3, 4), (4, 8), (5, 9), (6, 0xA), (7, 5), (8, 6), (9, 1), (105, 0xC), (241, 0xD)],
      MicroAt (atMicro q.1 1 none) false q.2 (r q.1) ((atMicro q.1 1 none).core.lit.microAt q.1)) ∧
    (r 4).pt.loading false = none ∧ (r 4).step = none ∧ (r 1).cmd.dims.badM = false ∧ (r 1).cmd.dims.badN = false ∧ (r 1).cmd.dims.badC = false ∧ (r 256).going = true ∧ (r 256).cmd.kind.isCall = true ∧
    mwOp ((atMicro 256 1 none).core.lit.microAt 256) = 0 ∧ (((atMicro 241 1 none).mrpClear false).regionRows ((r 241).cmd.dims.m - 0) false (r 241) ((atMicro 241 1 none).core.lit.microAt 241)).2 = none ∧
    sees (exec (.microChk 0 false) (atMicro 2 1 none)) (fun t => decide (t.core.t.me0.run.map (fun r => (r.pt.mq[0], r.pt.pos)) = some (3, 3))) = true ∧
    sees (exec (.microBnz 0 false) (atMicro 8 1 none)) (fun t => decide (t.core.t.me0.run.map (fun r => (r.pt.mq[0], r.pt.pos)) = some (0, 9))) = true ∧
    sees (exec (.microBnz 0 false) (atMicro 8 2 none)) (fun t => decide (t.core.t.me0.run.map (fun r => (r.pt.mq[0], r.pt.pos)) = some (1, 4))) = true ∧
    sees (exec (.microReserved 0 false) (atMicro 1024 1 none)) (fun t => decide (t.core.t.me0.run.map (·.ended) = some (some .format))) = true := by
  unfold MicroAt; decide +kernel

theorem witness_SequencerWords_more : let w3 := microWord false false 3 2 0 (BitVec.ofNat 32 (4 + 17 * 8 + 9 * 512)) 0; let w7 := microWord false false 7 0 0 0 77
    let s (w : BitVec 64) : State := { atMicro 300 1 none with core := { (atMicro 300 1 none).core with lit := (atMicro 300 1 none).core.lit.putMicro 300 w } }; let r := running (matCmd .mcall 0 (dimW 2 2 130 0 0)) (point 300 1 .empty .empty) none none
    MicroAt (s w3) false 3 r w3 ∧ MicroAt (s w7) false 7 r w7 ∧
    sees (exec (.microSetm 0 false) (s w3)) (fun t => decide (t.core.t.me0.run.map (fun r => (r.pt.mq[2], r.pt.pos)) = some (2, 301))) = true ∧
    sees (exec (.microJmp 0 false) (s w7)) (fun t => decide (t.core.t.me0.run.map (·.pt.pos) = some 77)) = true := by unfold MicroAt; decide +kernel

/-- ME0 stands at a SCAT or an ADDV with a C region of 2 by 2, some accumulators, a vector 1 and −5 and a word of C. -/
def regionRun (pos row : Nat) : MatRun := { running (matCmd .mcall 0 (dimW 2 2 2 0 0)) (point pos 1 .empty .empty) none none with row }

def atRegion (pos row : Nat) : State :=
  withM (fun m => { m with run := some (regionRun pos row), lit := { m.lit with cells := [(0, 7), (1, -2), (320, 0x7FFFFFFF), (321, 3)] } })
    (poke 0x2000000003004 4 9 (poke 0x2000000002000 8 0xFFFFFFFB00000001 (bench [])))

theorem witness_SequencerWords_addv : let s := atRegion 241 0; let r := regionRun 241 0; let w := s.core.lit.microAt 241
    MicroAt s false 0xD r w ∧ r.step = none ∧ ((s.mrpClear false).regionRows 2 false r w).2 = none ∧
    (match s.rdSpan (spanFuel 8) [] (vaOf (r.cmd.mp[2] + BitVec.ofNat 64 (4 * r.cmd.colBase false))) 8 with | .ok b => decide (leNat b = 0xFFFFFFFB00000001) | .error _ => false) = true ∧
    sees (exec (.microAddv 0 false) s) (fun t => decide ([(0, 0), (0, 1), (1, 0), (1, 1)].map (fun q => ((t.core.t.me0.bank false).get q.1 q.2 : Int)) = [8, -7, 0x7FFFFFFF, -2])) = true := by
  unfold MicroAt; decide +kernel

theorem witness_SequencerWords_scat : let s := atRegion 105 0; let r := regionRun 105 0; let w := s.core.lit.microAt 105; let off (i j : Nat) := 0x3000 + 64 * i + 4 * j
    MicroAt s false 0xC r w ∧ ((s.mrpClear false).regionRows 2 false r w).2 = none ∧ mwG w = false ∧
    (∀ i < 2, ∀ j < 2, off i j % 4 = 0 ∧ placeOf (vaOf (r.cmd.mp[7] + BitVec.ofNat 64 (i * cPitch r.cmd.mp[5] + 4 * r.cmd.colBase false)) + BitVec.ofNat 55 (4 * j)) = .window (off i j)) ∧
    [off 0 0, off 0 1, off 1 0, off 1 1].Nodup ∧
    sees (exec (.microScat 0 false) s) (fun t => decide ([0x3000, 0x3004, 0x3040, 0x3044].map (fun a => t.little 0 (spAddr 0 a) 4) = [7, 7, 0x7FFFFFFF, 3])) = true := by
  unfold MicroAt; decide +kernel

/-- The second row through a table whose entry is n. -/
def throughTable (n : Nat) : State :=
  let t := poke 0x2000000000004 4 n (atRegion 105 1)
  { t with core := { t.core with lit := t.core.lit.putMicro 105 (microWord false false 0xC 0 0 2 0) } }

theorem witness_SequencerWords_table : let s := throughTable (7 * 65536); let r := regionRun 105 1; let w := microWord false false 0xC 0 0 2 0
    MicroAt s false 0xC r w ∧ ((s.mrpClear false).regionRows 1 false r w).2 = none ∧ mwG w = true ∧ r.row + 1 = r.cmd.dims.m ∧
    (match s.tableEntry r 1 with | .ok n => decide (n = 7 * 65536) | .error _ => false) = true ∧
    (∀ j < 2, placeOf (vaOf (r.cmd.mp[7] + BitVec.ofNat 64 (7 * cPitch r.cmd.mp[5] + 4 * r.cmd.colBase false)) + BitVec.ofNat 55 (4 * j)) = .window (0x31C0 + 4 * j)) ∧
    sees (exec (.microScat 0 false) s) (fun t => decide (t.little 0 (spAddr 0 0x31C0) 4 = 0x7FFFFFFF)) = true ∧
    sees (exec (.microScat 0 false) (throughTable 0xFFFF0000)) (fun t => decide (t.little 0 (spAddr 0 0x31C0) 4 = 0)) = true := by
  unfold MicroAt; decide +kernel

theorem witness_SequencerWords_mac : let w (k : Nat) := (bench []).core.lit.microAt k; let q (x : List (List Int)) : Chunk := { elems := x, exps := [] }
    let r := running (matCmd .mcall 0 (dimW 2 2 2 0 0)) (point 6 0 (.landed 0 (w 4) (q [[5, -3], [7, 11]]) []) (.landed 0 (w 5) (q [[2, 1], [4, -1]]) [])) none none; let s := onM (some r) [] []
    MicroAt s false 0xA r (w 6) ∧ r.step = none ∧ (r.pt.mq[mwA (w 6)]).getLsbD 0 = false ∧ r.pt.half false false = .landed (r.pt.mq[mwA (w 6)]) (w 4) (q [[5, -3], [7, 11]]) [] ∧
    r.pt.half true false = .landed (r.pt.mq[mwA (w 6)]) (w 5) (q [[2, 1], [4, -1]]) [] ∧
    sees (exec (.microMac 0 false) s) (fun t => decide (t.core.t.me0.run.map (fun r => (r.pt.pos, r.step.map (·.a.elems))) = some (7, some [[5, -3], [7, 11]]))) = true := by unfold MicroAt; decide +kernel

theorem witness_CoreResultsArrive : let s0 := withT (fun t => { t with sb := { t.sb with far := [{ val := .x 3 0x80000000, parts := [], exc := { cause := .none }, ext := 32, undo := (bench []).core.undo, firm := false }, { val := .fget 8 (BitVec.ofNat 128 (7 + 2 ^ 64 * 9)) 5 true, parts := [], exc := { cause := .none }, ext := 0, undo := (bench []).core.undo, firm := false }], nxt := [{ d := 5, q := 0x40000000, range := true, due := 3 }] }, comp := { t.comp with rq := [{ value := some 7, due := 2, tag := 0 }] } }) (record 0 (3 + 2 ^ 8) 0 0 10 15 4 (mapped [(61, 0x40000000)]))
    let s1 := s0.switchTo 0; let s := s1.modSb fun b => { b with cyc := 2 }; let l : L1Line := { pkg := none, line := 0x800000, key := 0, data := 5, present := 0xFF, dirty := 1, poison := 0, va := 0x1000000 }
    (nth? s.core.t.sb.far 0).isSome = true ∧ (nth? s.core.t.comp.rq 0).map (·.value) = some (some 7) ∧ 2 ≤ s.core.clock ∧ (∀ q ∈ s.core.t.sb.far, s.bankHeld q = false) ∧ s.lineStuck l = false ∧ s.core.t.sb.nxt.map (·.range) = [true] ∧
    nth? ({ s with core := { s.core with l1 := [l] } }).core.l1 0 = some l ∧
    sees (exec (.loadLand 0 0 .clean) s) (fun t => decide ((t.xNow 3).toNat = 0xFFFFFFFF80000000 ∧ t.core.t.sb.far.length = 1)) = true ∧
    sees (exec (.loadLand 0 1 .clean) s) (fun t => decide (t.xNow 8 = 7 ∧ t.xNow 9 = 9 ∧ t.pNow 5 = BitVec.allOnes 256)) = true ∧
    sees (exec (.returnQueueLand 0 0) s) (fun t => decide (t.core.t.comp.rq.map (·.due) = [0])) = true ∧
    sees (exec (.nxtreqAnswer 0) s) (fun t => decide ((t.xNow 5).toNat = 10 + 4 * 2 ^ 48 ∧ t.recGet 1 0x40000000 32 6 = 14)) = true ∧
    sees (exec (.l1Eviction 0 0) { s with core := { s.core with l1 := [l] } }) (fun t => decide (t.core.l1 = [] ∧ (t.readByte 0 0x20000000).toNat = 5)) = true := by decide +kernel

/-- The next-tile requests of a queue: a handle that names none, an entry to take, and none left; then a line that leaves the L1. -/
theorem witness_CoreResultsArrive_queue : let e : QEntry := { seq := 0, slot := 0x40001000, page := none, pushed := true, returned := [] }; let q := ring 1 [0, 1] [e]
    let at' (h : Word) := withT (fun t => { t with sb := { t.sb with nxt := [{ d := 5, q := h, range := false, due := 0 }] } }) (withQ q (poke 0x20001008 8 77 (mapped [])))
    let l (p : Option Nat) (n : Nat) : L1Line := { pkg := p, line := n, key := 0, data := 5, present := 0xFF, dirty := 1, poison := 0, va := n }; let s : State := { bench [] with core := { (bench []).core with l1 := [l none 0x800000, l (some 1) 0x800000] } }
    (at' 0x40000080).liveQueue 1 (queueBlock 0x40000080) = none ∧ (at' 0x40000040).liveQueue 1 (queueBlock 0x40000040) = some q ∧ (q.entries.find? fun x => decide (x.seq = 0) && x.pushed) = some e ∧ (q.entries.find? fun x => decide (x.seq = 1) && x.pushed) = none ∧
    (at' 0x40000040).xlate (some 0) 1 (BitVec.ofNat 55 (e.slot + 8)) needR = .ok { pkg := none, pa := 0x20001008, key := 0 } ∧ (at' 0x40000040).mem.poisoned 0x20001008 8 = false ∧
    [0x40000080, 0x40000040, 0x40000041].map (fun h => match exec (.nxtreqAnswer 0) (at' h) with | .next t => (t.xNow 5).toNat | _ => 0) = [2 ^ 64 - 1, 77, 2 ^ 64 - 1] ∧
    nth? s.core.l1 0 = some (l none 0x800000) ∧ nth? s.core.l1 1 = some (l (some 1) 0x800000) ∧ s.lineStuck (l none 0x800000) = false ∧ s.lineStuck (l (some 1) 0x800000) = false ∧ s.mem.poison = [] ∧
    s.core.l1.Pairwise (fun a b => a.pkg ≠ b.pkg ∨ a.line ≠ b.line) := by decide +kernel

theorem witness_CoreResultsArrive_remote : let s0 := abroad (mapped []); let r : Red := { task := s0.core.t.id, op := 14, size := 4, va := 0x6000003C, operand := 7, core := 0, bundle := 0, image := 0 }; let s : State := { s0 with core := { s0.core with reds := [r] } }
    (∀ q ∈ s.xlat.parked, q.go = false) ∧ s.redBehind r = false ∧ s.xlate (some s.cur) r.task.asid r.va needRW = .ok { pkg := some 1, pa := 0x2000003C, key := 0 } ∧ s.fabric.lost.contains 1 = false ∧ s.flowFull s.netEng 1 1 = false := by decide +kernel

theorem witness_CoreResultsArrive_red : let s0 := mapped []; let r : Red := { task := s0.core.t.id, op := 14, size := 4, va := 0x4000003C, operand := 0x7FFFFFFF, core := 0, bundle := 0, image := 0 }
    let s := poke 0x2000003C 4 5 { s0 with core := { s0.core with reds := [r] }, xlat := { s0.xlat with walks := [{ asid := 1, va := 0x80000000, core := 0 }, { asid := 1, va := 0x40000000, core := 0 }] } }; let l : Loc := { pkg := none, pa := 0x2000003C, key := 0 }
    (∀ q ∈ s.xlat.parked, q.go = false) ∧ s.redBehind r = false ∧ s.core.reds = [r] ∧ s.xlate (some s.cur) r.task.asid r.va needRW = .ok l ∧ s.mem.poisoned l.pa r.size = false ∧ l.pa % 64 + r.size ≤ 64 ∧ r.size ∈ [4, 8] ∧
    sees (exec (.redTranslate 0) s) (fun t => decide (t.core.reds = [] ∧ t.little 0 0x2000003C 4 = 0x7FFFFFFF)) = true ∧ (nth? s.xlat.walks 0).isSome = true ∧
    s.xlate (some s.cur) 1 0x80000000 needR = .miss ∧ sees (exec (.pageWalkComplete 0) s) (fun t => decide (t.xlat.walks.length = 1)) = true ∧
    s.xlate (some s.cur) 1 0x40000000 needR = .ok { pkg := none, pa := 0x20000000, key := 0 } ∧ placeOf 0x40000000 = .mapped ∧ s.core.l1.length < 1024 ∧ s.core.mode = .running ∧ s.core.t.id.asid = 1 ∧
    s.l1Stuck { pkg := none, pa := 0x20000000, key := 0 } = false ∧ CleanLine s { pkg := none, pa := 0x20000000, key := 0 } := by
  intro s0 r s l; refine ⟨?_, ?_, ?_, ?_, ?_, ?_, ?_, ?_, ?_, ?_, ?_, ?_, ?_, ?_, ?_, ?_, ?_, ?_, fun o h => ?_⟩ <;> (first | decide +kernel | cases h)

/-- Geometry of a copy: source, destination, extents, strides along the first dimension (R175). -/
def geoOf (src dst ext st : Nat) : File 4 Word := (((((Vector.replicate 16 0).set 0 (BitVec.ofNat 64 src)).set 1 (BitVec.ofNat 64 dst)).set 2 (BitVec.ofNat 64 ext)).set 3 (BitVec.ofNat 64 st)).set 7 (BitVec.ofNat 64 st)

theorem witness_CopyEngineWork : let one := 0x0001000100010001; let c (k : CopyKind) (e st dst : Nat) := copyCmd k 0x43 0 (geoOf 0x1000 dst e st); let z := c .cpy 0 1 0x2000; let n := c .cpy (one + 3) 1 0x2000; let o := c .cpy (one + 3) 1 0x1002
    let f := copyCmd .cpy 0x43 0 ((geoOf 0x1000 0x2000 (one + 3) 1).set 11 0xFF); let b := copyCmd .cpy 0x43 0 ((geoOf 0x1000 0x2000 (one + 3) 1).set 14 0x100000)
    let s (c : CopyCmd) := (withC none [c] (bench [])).switchTo 0
    (s n).core.t.blocked (s n).cur n.seq = false ∧ (s n).core.t.inFlight false < 64 ∧ (s n).core.saving = false ∧ (s n).core.eclipsing = false ∧ n.kind.isCopy = true ∧ f.badGeo = true ∧ n.badGeo = false ∧ z.tile.empty = true ∧
    n.tile.empty = false ∧ (s b).badBarrier b = true ∧ b.badGeo = false ∧ (s n).badBarrier n = false ∧ meetAny (flatAll 0 ((s n).copyFoot n).1) (flatAll 0 ((s n).copyFoot n).2) = false ∧ meetAny (flatAll 0 ((s o).copyFoot o).1) (flatAll 0 ((s o).copyFoot o).2) = true ∧ o.memmove = true ∧
    (let p := copyCmd .cpy 0x43 0 ((geoOf 0x1000 0x1002 (one + 2 * 65536 + 3) 1).set 4 8 |>.set 8 8)
     meetAny (flatAll 0 ((s p).copyFoot p).1) (flatAll 0 ((s p).copyFoot p).2) = true ∧ p.memmove = false ∧ p.badGeo = false ∧ sees (exec (.copyCommandStart 0 false) (s p)) (fun t => decide (t.core.t.ce0.flight.map (·.status) = [.overlap])) = true) ∧
    sees (exec (.copyCommandStart 0 false) (s n)) (fun t => decide (t.core.t.ce0.run = some n.begin)) = true ∧
    [f, z, b].map (fun c => match exec (.copyCommandStart 0 false) (s c) with | .next t => t.core.t.ce0.flight.map (·.status) | _ => []) = [[.format], [.ok], [.format]] := by decide +kernel

/-- One byte moves from the end of a line; then four in one granule. -/
theorem witness_CopyEngineWork_move : let one := 0x0001000100010001; let r := (copyCmd .cpy 0x43 0 (geoOf 0x103F 0x2000 one 1)).begin; let r4 := (copyCmd .cpy 0x43 0 (geoOf 0x1000 0x203C (one + 3) 1)).begin
    let s := poke 0x200000000103F 1 0xAB (poke 0x2000000001000 4 0x12345678 (withC (some r) [] (bench []))); let u := withC (some r4) [] s
    CopyGoes s r ∧ r.headed = false ∧ r.held = none ∧ r.overrun = false ∧ r.cmd.geo[14] = 0 ∧ r.pos = 0 ∧ r.skipped = 0 ∧ r.cmd.tile.xf = 0 ∧ r.cmd.tile.e0 = 1 ∧ r.cmd.tile.e1 = 1 ∧ r.cmd.tile.e2 = 1 ∧ r.cmd.tile.e3 = 1 ∧
    LinePlace s r.cmd.tile.sb r.cmd.tile.z needR (s.windowLoc 0x103F) ∧ LinePlace s r.cmd.tile.db r.cmd.tile.z needW (s.windowLoc 0x2000) ∧
    r4.held ≠ some [] ∧ (match u.granule r4 with | .ok g => decide (joinPieces g.pieces = [(0x203C, [0x78, 0x56, 0x34, 0x12])] ∧ g.pos = 4 ∧ r4.cmd.tile.total = 4) | .error _ => false) = true ∧ LinePlace u 0x203C 4 needW (u.windowLoc 0x203C) ∧
    sees (exec (.copyGranuleWrite 0 false) s) (fun t => decide ((t.readByte 0 0x2000000002000).toNat = 0xAB ∧ t.core.t.ce0.flight.map (·.status) = [.ok] ∧ t.core.t.ce0.run = none)) = true ∧
    sees (exec (.copyGranuleWrite 0 false) u) (fun t => decide (t.little 0 0x200000000203C 4 = 0x12345678 ∧ t.core.t.ce0.flight.map (·.status) = [.ok])) = true := by unfold CopyGoes LinePlace; decide +kernel

theorem witness_CopyEngineWork_end : let c := copyCmd .cpy 0x43 0 (geoOf 0x1000 0x2000 0x0001000100010001 1); let w := copyCmd .cpy 0x70043 0 ((geoOf 0x1000 0x2000 0x0001000100010001 1).set 13 0x38)
    let s (c : CopyCmd) := withT (fun t => { t with comp := { t.comp with held := 8 }, ce0 := { t.ce0 with flight := [{ run := c.begin, status := .ok }] } }) (bench [])
    (nth? (s c).core.t.ce0.flight 0).isSome = true ∧ c.begin.missing = none ∧ c.kind.isCopy = true ∧ (s c).owns (.engine (s c).core.t.id 2 c.seq) = false ∧ c.begin.permit = false ∧ c.geo[14] = 0 ∧ c.tile.xf ≠ 3 ∧ c.geo[13] = 0 ∧ w.geo[13] ≠ 0 ∧
    LinePlace (s w) (vaOf w.geo[13]) 8 needW ((s w).windowLoc 0x38) ∧
    sees (exec (.copyCommandComplete 0 false 0) (s c)) (fun t => decide (t.core.t.comp.ctb = 8 ∧ t.core.t.comp.held = 0 ∧ t.core.t.ce0.flight = [])) = true ∧
    sees (exec (.copyCommandComplete 0 false 0) (s w)) (fun t => decide (BitVec.ofNat 64 (t.little 0 0x2000000000038 8) = completionWord .ok 2 7)) = true := by unfold LinePlace; decide +kernel

/-- A counted stream that takes a permit from the counter at 0x40. -/
theorem witness_CopyEngineWork_permit : let c := copyCmd .cpyw 0x43 0 ((geoOf 0x1000 0x2000 0x0001000100010001 1).set 15 4097); let r := c.begin; let s1 (n : Nat) := poke 0x2000000000040 4 n (withC (some r) [] (bench [])); let s := s1 1
    r.asked = none ∧ s.sched.permits = [] ∧ (s1 0).little 0 0x2000000000040 4 = 0 ∧ sees (exec (.permitGrant 0 false) (s1 0)) (fun t => decide (t.sched.permits.length = 1)) = true ∧ c.counted = true ∧ r.permit = false ∧ CopyGoes s r ∧ permAddr c.geo[15] = 0x40 ∧ LinePlace s (permAddr c.geo[15]) 4 needRW (s.windowLoc 0x40) ∧ 0 < s.little 0 0x2000000000040 4 ∧
    sees (exec (.permitGrant 0 false) s) (fun t => decide (t.little 0 0x2000000000040 4 = 0 ∧ t.core.t.ce0.run.map (·.permit) = some true)) = true := by unfold CopyGoes LinePlace; decide +kernel

/-- The pod's extents, each less 1 (R358). -/
def podOf (n : Nat) (s : State) : State := { s with mgmt := { s.mgmt with pod := BitVec.ofNat _ n } }

/-- An all-reduce's handle at 0x4000_0100 with 2 members at 0x4000_0200: w0, member count and self. -/
def handled (w0 w4 : Nat) : State :=
  poke 0x20000100 8 w0 (poke 0x20000108 8 0x40001000 (poke 0x20000110 8 (64 + 2 ^ 32) (poke 0x20000118 8 0x40000200 (poke 0x20000120 8 w4 (poke 0x20000200 4 0x00010000 (podOf 0x001 (mapped [])))))))

def collCmd : CollCmd := { task := { asid := 1, record := 0x40000000, member := 0 }, core := 0, eng := 2, cmd := copyCmd .coll 0x43 0x40000100 (.replicate _ 0) }

def withColl (r : Option CollRun) (q : List CollCmd) (s : State) : State := s.setColl 31 { run := r, queue := q, ordinal := 9, early := [], signals := [] }

theorem witness_CollectiveEngineWork_start : let s (w0 w4 : Nat) := withColl none [collCmd] (handled w0 w4); let bs (s : State) := s.netRead 2 [] 1 (vaOf 0x40000100) 64
    let h (s : State) (p : Handle → Bool) : Bool := match bs s with | .ok b => p (handleOf b) | .error _ => false
    let out (s : State) : Option (Option Status × Nat × List Nat) := match exec (.collectiveStart 31) s with | .next t => (t.collOf 31).run.map fun r => (r.ended, r.ordinal, r.group) | _ => none
    ((s 0x10 2).collOf 31).run = none ∧ ((s 0x10 2).collOf 31).queue = [collCmd] ∧ h (s 0x30 2) (fun h => h.bad) = true ∧ h (s 0x10 2) (fun h => !h.bad) = true ∧ h (s 0x50 2) (fun h => !h.bad && decide (bitsOf h.w0 6 6 = 1)) = true ∧
    (match (s 0x10 2).netRead (2 * 2 / 64 + 2) [] 1 0x40000200 (2 * 2) with | .ok t => decide (memberIds 2 t = [0, 1]) | .error _ => false) = true ∧ (s 0x10 2).completeBox [0, 1] = true ∧ (s 0x10 2).completeBox [0, 2] = false ∧
    (out (s 0x30 2)).map (·.1) = some (some .format) ∧ out (s 0x10 2) = some (none, 9, [0, 1]) ∧ out (s 0x50 2) = some (none, 9, [0, 1]) ∧
    (out (poke 0x20000200 4 0x00020000 (s 0x50 2))).map (·.1) = some (some .format) := by decide +kernel

theorem witness_CollectiveEngineWork_handed : let at' (k : CopyCmd) := (withC none [k] (handled 0x380 2)).switchTo 0; let k (y : CopyKind) := copyCmd y 63 0x40000100 (.replicate _ 0)
    (k .csig).kind.isCopy = false ∧ (k .coll).kind.isCopy = false ∧ (at' (k .csig)).core.t.blocked 0 0 = false ∧ (at' (k .csig)).core.t.inFlight false < 64 ∧ (at' (k .csig)).core.saving = false ∧ (at' (k .csig)).core.eclipsing = false ∧
    (match (at' (k .csig)).rdSpan 2 [] 0x40000100 24 with | .ok b => decide (bitsOf (leNat (b.take 8)) 11 7 = 7 ∧ bitsOf (leNat (b.drop 16)) 31 0 = 64) | .error _ => false) = true ∧ ((at' (k .coll)).collOf 7).queue.length < 16 ∧
    sees (exec (.copyCommandStart 0 false) (at' (k .csig))) (fun t => decide ((t.collOf 7).signals.map (fun g => (g.lo, g.len)) = [(0x40001000 + 63 * 64, 64)] ∧ t.core.t.ce0.queue = [])) = true ∧
    sees (exec (.copyCommandStart 0 false) (at' (k .coll))) (fun t => decide ((t.collOf 7).queue.length = 1)) = true := by decide +kernel

theorem witness_CollectiveEngineWork_bit : let k := { copyCmd .csig 63 0x40000100 (.replicate _ 0) with seq := 5 }; let s0 := handled 0x380 2; let g : Signal := { cmd := { task := s0.core.t.id, core := 0, eng := 2, cmd := k }, lo := 0x40001FC0, len := 64, missing := none }
    let h (seq : Nat) : Hazard := { seq, eng := 2, reads := [], writes := [{ lo := 0x40001000, hi := 0x40001FC0 }], half := none }
    let s := withT (fun t => { t with haz := [h 1, h 5] }) (s0.setColl 7 { s0.collOf 7 with signals := [g] })
    s.signalsOf 0 (ceNum false) = [(7, g)] ∧ (s.liveCores.find? fun i => decide ((s.getCore i).mode ≠ .idle) && decide ((s.getCore i).t.id = g.cmd.task)) = some 0 ∧ s.core.l1 = [] ∧ s.writesDue = false ∧ (∀ i < 32, (s.collOf i).run = none) ∧
    (∀ x ∈ s.core.t.haz, x.seq < k.seq → meetAny (flatAll s.cur x.writes) (flatAll s.cur (foot (BitVec.ofNat 55 g.lo) g.len)) = false) ∧ LinePlace s (vaOf k.opr + 40) 8 needRW { pkg := none, pa := 0x20000128, key := 0 } ∧
    sees (exec (.readyBitSet 0 false) s) (fun t => decide (t.little 0 0x20000128 8 = 2 ^ 63 ∧ (t.collOf 7).signals = [] ∧ t.core.t.haz.map (·.seq) = [1])) = true := by unfold LinePlace; decide +kernel

theorem witness_CollectiveEngineWork_end : let r : CollRun := { cmd := collCmd, begun := true, ordinal := 9, op := 0, red := 0, ew := 2, torus := false, slot := 0, buf := 0x40001000, bbytes := 64, nb := 1, self := 0, group := [0, 1], recAddr := 0, ready := 0, differs := false, chunks := [], sats := 0, fetched := [], ended := some .format, missing := none }
    let ok : CollRun := { r with ended := none, chunks := [{ bucket := 0, index := 0, acc := [], members := 3, final := true, out := [], last := none }] }
    let s := withColl (some r) [] (withT (fun t => { t with comp := { t.comp with held := 8 } }) (handled 0x10 2))
    (s.collOf 31).run = some r ∧ r.cmd.cmd.geo[13] = 0 ∧ r.ended = some .format ∧ 0 ∈ s.liveCores ∧ (s.getCore 0).mode ≠ .idle ∧ (s.getCore 0).t.id = r.cmd.task ∧
    ok.done = true ∧ ok.absent = 0 ∧ ok.missing = none ∧ ok.begun = true ∧ s.owns (.collective 31) = false ∧
    sees (exec (.collectiveComplete 31) s) (fun t => decide (t.core.t.comp.ctb = 8 ∧ t.core.t.comp.cte = 8 ∧ t.core.t.comp.held = 0 ∧ (t.collOf 31).run = none)) = true ∧
    sees (exec (.collectiveComplete 31) (withColl (some ok) [] s)) (fun t => decide (t.core.t.comp.ctb = 8 ∧ t.core.t.comp.cte = 0 ∧ (t.collOf 31).run = none)) = true := by decide +kernel

/-! ### Fault queues, the scheduler, power, the fabric and the host -/

/-- A fault record of context 1 that waits for its queue. -/
def faultRec : FaultRec :=
  { asid := 1, cause := 6, kind := 1, slot := 0, opnd := 1, elem := 0xFFFF, core := 0, wr := false, image := 0, status := 0, bundle := 0x104, va := 0x80000000, pa := none, task := 0x40000000 }

/-- Context 1 with a fault queue of 64 records: its header at 0x4000_2000, its ring at 0x4000_3000. -/
def withFq (head tail : Nat) (rs : List FaultRec) : State :=
  let s := poke 0x1020 7 0x40002000 (poke 0x20002000 8 0x40003000 (poke 0x20002008 8 6 (poke 0x20002010 8 head (poke 0x20002018 8 tail (mapped [])))))
  { s with xlat := { s.xlat with records := rs } }

theorem witness_FaultQueuesAndVerdicts : let s := withFq 63 0 [faultRec]; let full := withFq 64 0 [faultRec]
    let none' := { mapped [] with xlat := { (mapped []).xlat with records := [faultRec] } }
    let l : Loc := { pkg := none, pa := 0x20003000 + 64 * 63, key := 0 }; let m : Loc := { pkg := none, pa := 0x20002010, key := 0 }; let s1 := { s with mem := s.mem.store l.key l.pa (faultRec.bytes 63 s.now) }
    s.xlat.records.find? (fun r => decide (r.asid = 1)) = some faultRec ∧ none'.faultQueue 1 = none ∧ s.faultQueue 1 = some (0x40003000, 6, 63, 0) ∧ full.faultQueue 1 = some (0x40003000, 6, 64, 0) ∧
    s.xlate none 1 (0x40003000 + BitVec.ofNat 55 (64 * (63 % 2 ^ 6))) needW = .ok l ∧ l.pa % 64 = 0 ∧ s.mem.poison = [] ∧ s1.xlate none 1 (BitVec.ofNat 55 (s.desc 1 32 7) + 16) needW = .ok m ∧ m.pa / 64 ≠ l.pa / 64 ∧
    m.pa % 64 + 8 ≤ 64 ∧ full.xlat.records.all (fun r => decide (r.asid ≠ 1 ∨ r.kind < 3)) = true ∧
    sees (exec (.faultRecordWrite 1) none') (fun t => decide (t.xlat.records = [] ∧ t.mgmt.errcnt = 1)) = true ∧
    sees (exec (.faultRecordWrite 1) s) (fun t => decide (t.xlat.records = [] ∧ t.little 0 0x20002010 8 = 64 ∧ t.readByte 0 0x20003FC0 = (faultRec.bytes 63 s.now).getD 0 0)) = true ∧
    (match exec (.faultRecordWrite 1) full with | .refused _ => true | _ => false) = true := by decide +kernel

/-- The package is ready. -/
def ready (s : State) : State := { s with mgmt := { s.mgmt with bootst := 0xF } }

/-- The page of 0x8000_0000 waits for a verdict. -/
def withPending (w : Waiter) (s : State) : State := { s with xlat := { s.xlat with pending := [{ asid := 1, page := 0x8000, waiters := [w] }] } }

theorem witness_FaultQueuesAndVerdicts_verdict : let id : TaskId := { asid := 1, record := 0x40000000, member := 0 }; let s := ready (withPending (.task id) (mapped []))
    let sv : Saved := { task := id, t := TaskState.reset, mail := [], reason := .translation, fault := some { cause := .translation, addr := 0x80000000, slot := 0, opnd := 1 }, deliver := none, waits := some 0x8000, pad := [], core := 0, time := 0 }
    let u := { s with core := Core.reset, sched := { s.sched with saved := [sv] } }; let q : PendingPage := { asid := 1, page := 0x8000, waiters := [.task id] }
    let r := (copyCmd .cpy 1 0 (.replicate _ 0)).begin; let v := ready (withPending (.engine id 2 0) (withC (some { r with missing := some { va := 0x80000000, slot := 4, opnd := 1, elem := 0, wr := false, full := false } }) [] (mapped [])))
    (mapped []).mgmtOpen = false ∧ u.mgmtOpen = true ∧ u.xlat.pending.find? (fun q => q.is 1 0x8000) = some q ∧ s.desc 1 32 7 = 0 ∧ q.waiters = [.task id] ∧ u.savingCore id = none ∧
    v.xlat.pending.any (fun q => q.is 1 0x8000) = true ∧ (v.taskOf id).isSome = true ∧ (v.core.t.missOf 2 0).isSome = true ∧
    sees (exec (.verdictProtection 1 0x8000) u) (fun t => decide (t.xlat.pending = [] ∧ t.sched.saved.map (·.waits) = [none] ∧ t.sched.saved.map (fun z => z.deliver.map (·.cause)) = [some .protection])) = true ∧
    sees (exec (.verdictRetry 1 0x8000) u) (fun t => decide (t.sched.saved.map (·.deliver) = [none])) = true ∧
    sees (exec (.verdictDrop 1 0x8000) v) (fun t => decide (t.xlat.pending = [] ∧ t.xlat.records.map (·.kind) = [4])) = true ∧
    sees (exec (.verdictRetry 1 0x8000) v) (fun t => decide (t.xlat.records = [] ∧ (t.core.t.ce0.run.map (·.missing)) = some none)) = true := by decide +kernel

/-- Core 0 is idle, its lit plane holds image 7 with an SCW first, and the record at 0x4000_0080 of this image is READY. -/
def readyTask (img : Nat) : State :=
  let s := record 1 2 img 0 0 0 0 (poke 0x1028 8 0x55 (mapped []))
  { s with core := { Core.reset with lit := { Plane.reset with code := [(0, 0xE0000000)], base := 0x200, clen := 64, image := 7, state := .loaded } }
           sched := { s.sched with recs := [{ task := { asid := 1, record := 0x40000080, member := 0 }, die := 0, rt := 0, ready := true, pin := none, port := none, reds := 0, finish := none, live := [], refs := [0x40000100], lackAt := none }] }
           mgmt := { s.mgmt with tsc := 16000 } }

def readyRec : SchedRec :=
  { task := { asid := 1, record := 0x40000080, member := 0 }, die := 0, rt := 0, ready := true, pin := none, port := none, reds := 0, finish := none, live := [], refs := [0x40000100], lackAt := none }

def takes (p : Pick) : Option SchedRec :=
  match p with
  | .run r => some r
  | _ => none

theorem witness_SchedulerWork_free : let s := readyTask 7
    (s.getCore 0).mode = .idle ∧ (s.getCore 0).reserved = none ∧ (s.getCore 0).prefetch = none ∧ (s.getCore 0).l1 = [] ∧ s.migrate (coreDie 0) = s := by decide +kernel

theorem witness_SchedulerWork_pick : let s := readyTask 7
    takes (s.pick 0 (sortBy s.before (s.runQueue (coreDie 0)))) = some readyRec ∧ s.isGang readyRec = false ∧ readyRec.live = [] ∧ s.sched.saved.any (fun v => decide (v.task.asid = 1 ∧ v.task.record = 0x40000080)) = false ∧ s.entryOk readyRec 0 = true := by
  decide +kernel

theorem witness_SchedulerWork_run : sees (exec (.select 0) (readyTask 7)) (fun u => decide (u.core.mode = .running ∧ u.core.t.pc = 0x200 ∧ u.core.t.refs = [0x40000100] ∧ fileGet u.core.t.x 61 = 0x40000080 ∧ u.core.t.sys.srseed = 0x400000D5 ∧ u.sched.recs.map (·.live) = [[0]])) = true := by
  decide +kernel

/-- The image table at 0x5000 gives image 8 a code section of 64 bytes at 0x4000_4000. -/
def withTable (scw : Nat) (s : State) : State :=
  poke 0x1058 7 0x5000 (poke 0x5000 8 0x111100000008 (poke 0x5008 8 0x40004000 (poke 0x5010 8 64 (poke 0x20004000 4 scw s))))

theorem witness_SchedulerWork_image : let late (s : State) : State := { s with sched := { s.sched with recs := s.sched.recs.map fun r => { r with lackAt := some 0 } } }
    let s := late (withTable 0xE0000000 (readyTask 8)); let bad := late (withTable 0 (readyTask 8)); let r := { readyRec with lackAt := some 0 }
    s.schedRec 1 (BitVec.ofNat 55 0x40000080) = some r ∧ r.ready = true ∧ 1000 * s.mgmt.aging.toNat ≤ s.since 0 ∧ s.contextRuns 1 = true ∧ s.imageHeld r = false ∧ s.imageComing r = false ∧
    s.unplaceable r = false ∧ bad.unplaceable r = true ∧ s.loadCore r = some 0 ∧ s.core.loading = none ∧
    sees (exec (.imageLoadStart 1 0x40000080) s) (fun u => decide (u.core.loading.map (·.image) = some 8)) = true ∧
    sees (exec (.imageLoadStart 1 0x40000080) bad) (fun u => decide (u.xlat.records.map (·.kind) = [3] ∧ u.xlat.records.map (·.va) = [0x40004000])) = true := by decide +kernel

theorem witness_SchedulerWork_slice : let s := withT (fun t => { t with sys := { t.sys with tslice := 5 } }) (mapped []); let e := readyTask 7
    let want := { s with sched := e.sched, core := { s.core with lit := e.core.lit }, mem := e.mem }; let g := withT (fun t => { t with sys := { t.sys with preq := 1 } }) s; let y := s.core.t.sys
    let save := { e with core := { e.core with mode := .saving .preempt none none } }
    s.core.mode = .running ∧ bitsOf y.tslice.toNat (8 * y.prio.toNat + 7) (8 * y.prio.toNat) ≠ 0 ∧ y.preq.getLsbD 0 = false ∧ g.core.t.sys.preq.getLsbD 0 = true ∧ g.core.t.sys.preq.getLsbD 1 = false ∧
    save.core.saving = true ∧ takes (save.pick 0 (sortBy save.before (save.runQueue (coreDie 0)))) = some readyRec ∧ save.core.prefetch = none ∧
    (match exec (.timeSliceExpiry 0) s with | .next t => decide (t.core.t.sys.preq = 0) | _ => false) = true ∧
    sees (exec (.timeSliceExpiry 0) want) (fun t => decide (t.core.t.sys.preq = 1 ∧ t.core.t.sys.graceAt = s.mgmt.tsc)) = true ∧ sees (exec (.graceExpiry 0) g) (fun t => decide (t.core.t.sys.preq = 3)) = true ∧
    sees (exec (.select 0) save) (fun t => decide (t.core.prefetch = some readyRec.task)) = true := by decide +kernel

/-- A save is under way on core 0; its record's save word names this area. -/
def saving (area : Nat) (reason : Cause) : State :=
  let s := poke 0x20000048 8 area (mapped [])
  { s with core := { s.core with mode := .saving reason none none } }

/-- A state whose page tables are those of another, with no poison. -/
def SameTables (s u : State) : Prop := u.mem.poison = [] ∧ u.xlat.tlb = [] ∧ u = { s with mem := u.mem, mgmt := u.mgmt } ∧ ∀ a < 0x20000000, u.mem.byte 0 a = s.mem.byte 0 a

theorem activate_only (s : State) (a : Nat) : s.activate a = { s with mgmt := (s.activate a).mgmt } := by unfold State.activate; split <;> rfl

theorem activate_core (s : State) (a : Nat) : (s.activate a).core = s.core := by unfold State.activate; split <;> rfl

theorem sameTables_activate {s u : State} (h : SameTables s u) (a : Nat) : SameTables s (u.activate a) := by
  rw [activate_only]; exact ⟨h.1, h.2.1, congrArg (fun w : State => { w with mgmt := (u.activate a).mgmt }) h.2.2.1, h.2.2.2⟩

theorem sameTables_mem {s u : State} (h : SameTables s u) (m : Mem) (p : m.poison = []) (b : ∀ a < 0x20000000, m.byte 0 a = s.mem.byte 0 a) : SameTables s { u with mem := m } :=
  ⟨p, h.2.1, congrArg (fun w : State => { w with mem := m }) h.2.2.1, b⟩

theorem savedPoison_mem (s : State) (m : Mem) (g : Mgmt) (h : m.poison = s.mem.poison) : ({ s with mem := m, mgmt := g } : State).savedPoison = s.savedPoison := by
  simp only [State.savedPoison, h]; rfl

theorem sameTables_refl {s : State} (p : s.mem.poison = []) (x : s.xlat.tlb = []) : SameTables s s := ⟨p, x, rfl, fun _ _ => rfl⟩

theorem bytes_sameTables {s u : State} (h : SameTables s u) (a n : Nat) (ha : a + n ≤ 0x20000000) : u.mem.bytes 0 a n = s.mem.bytes 0 a n := by
  induction n generalizing a with
  | zero => rfl
  | succ k ih => simp only [Mem.bytes, h.2.2.2 a (by omega), ih (a + 1) (by omega)]

theorem leafTable_of_block {u : State} {asid : Nat} {va : VAddr} {w1 w2 : Nat} (d : u.descOf asid ≠ none)
    (h1 : u.phys (u.desc asid 8 7 % 2 ^ 52 + 8 * (va.toNat / 2 ^ 42 % 8192)) 8 = w1) (k1 : w1 % 4 = 1)
    (h2 : u.phys (bitsOf w1 51 16 * 0x1_0000 + 8 * (va.toNat / 2 ^ 29 % 8192)) 8 = w2) (k2 : w2 % 4 ≠ 1) : u.leafTable asid va = none := by
  simp only [State.leafTable, if_neg d, h1, if_pos k1, Option.bind_some, h2, if_neg k2]

theorem xlate_sameTables {u : State} (h : SameTables (saving 0x40010000 .preempt) u) (va : VAddr) (l : 0x40000000 ≤ va.toNat) (r : va.toNat < 0x60000000) :
    u.xlate none 1 va needW = .ok { pkg := none, pa := va.toNat - 0x20000000, key := 0 } := by
  have p (a n : Nat) (ha : a + n ≤ 0x20000000) : u.phys a n = (saving 0x40010000 .preempt).phys a n := by simp only [State.phys, bytes_sameTables h a n ha]
  have d : u.descOf 1 = some 0x1000 := by simp only [State.descOf, congrArg State.sched h.2.2.1]; decide +kernel
  have e1 : u.desc 1 8 7 % 2 ^ 52 = 0x20000 := by
    simp only [State.desc, d, p (0x1000 + 8) 7 (by omega)]; decide +kernel
  have e2 : u.phys 0x20000 8 = 0x30001 := by rw [p _ _ (by omega)]; decide +kernel
  have e3 : u.phys 0x30010 8 = 0x2000001F := by rw [p _ _ (by omega)]; decide +kernel
  have i1 : va.toNat / 2 ^ 42 % 8192 = 0 := by omega
  have i2 : va.toNat / 2 ^ 29 % 8192 = 2 := by omega
  have k (a : Nat) (ha : a < 0x200_0000_0000) : u.physOk a = true := by simp only [State.physOk, if_pos ha]
  have w : u.walk 1 va = .ok { pa := 0x20000000 + va.toNat % 2 ^ 29 / 0x10000 * 0x10000, key := 0, pkg := none, r := true, w := true, x := true } := by
    have z (a : Nat) : u.mem.poisoned a 8 = false := by simp [Mem.poisoned, h.1]
    have w2 : u.walkFrom [29, 16] 0x30000 va.toNat = .ok { pa := 0x20000000 + va.toNat % 2 ^ 29 / 0x10000 * 0x10000, key := 0, pkg := none, r := true, w := true, x := true } := by
      rw [State.walkFrom, i2]; simp only [z, k 0x30010 (by omega), Nat.reduceMul, Nat.reduceAdd, e3]; simp [bitsOf]
    rw [State.walk, if_neg (by simp [d]), e1, State.walkFrom, i1]; simp only [z, k 0x20000 (by omega), Nat.reduceMul, Nat.reduceAdd, e2]; simpa [bitsOf] using w2
  have lt : u.leafTable 1 va = none :=
    leafTable_of_block (w1 := 0x30001) (w2 := 0x2000001F) (by simp [d]) (by rw [e1, i1]; exact e2) (by decide) (by rw [i2]; exact e3) (by decide)
  have rc : u.walkRun 1 va = u.walk 1 va := by simp only [State.walkRun, State.runChoice, State.runPages, lt]
  have q : placeOf va = .mapped := by simp only [placeOf]; rw [if_neg (by omega), if_pos (by omega)]
  simp only [State.xlate, q, State.pageOf, h.2.1, List.find?_nil, rc, w, needW]
  have : 0x20000000 + va.toNat % 2 ^ 29 / 0x10000 * 0x10000 + va.toNat % 0x10000 = va.toNat - 0x20000000 := by omega
  rw [this]
  simp [k (va.toNat - 0x20000000) (by omega)]

theorem savePut_sameTables (k : Nat) (bs : List Byte) {u : State} (h : SameTables (saving 0x40010000 .preempt) u) (va : VAddr) (l : 0x40000000 ≤ va.toNat) (r : va.toNat + 64 * k ≤ 0x60000000) :
    (u.savePut 1 k va bs).2 = none ∧ SameTables (saving 0x40010000 .preempt) (u.savePut 1 k va bs).1 := by
  induction k generalizing u va bs with
  | zero => exact ⟨rfl, h⟩
  | succ k ih =>
    have a : u.agentWrite none 1 va (bs.take 64) needW = .ok ({ u with mem := u.mem.store 0 (va.toNat - 0x20000000) (bs.take 64) }.activate (va.toNat - 0x20000000)) := by
      simp [State.agentWrite, xlate_sameTables h va l (by omega), Mem.storeDiscards, h.1]
    have t : SameTables (saving 0x40010000 .preempt) ({ u with mem := u.mem.store 0 (va.toNat - 0x20000000) (bs.take 64) }.activate (va.toNat - 0x20000000)) := by
      apply sameTables_activate
      refine sameTables_mem h _ ?_ fun b hb => ?_
      · simp [Mem.store_of_clean _ _ _ _ h.1, h.1]
      · show (u.mem.store 0 _ _).byte 0 b = _
        rw [Mem.byte_store_of_clean _ _ _ _ _ h.1, if_neg (by omega), h.2.2.2 b hb]
    have v : (va + 64).toNat = va.toNat + 64 := by rw [BitVec.toNat_add]; simp; omega
    simp only [State.savePut, a]
    exact ih (bs.drop 64) t (va + 64) (by omega) (by omega)

theorem saveAll_sameTables (ps : List (Nat × List Byte)) {u : State} (h : SameTables (saving 0x40010000 .preempt) u)
    (r : ∀ p ∈ ps, p.1 + p.2.length ≤ 0x100000) : (u.saveAll 1 0x40010000 ps).2 = none ∧ SameTables (saving 0x40010000 .preempt) (u.saveAll 1 0x40010000 ps).1 := by
  induction ps generalizing u with
  | nil => exact ⟨rfl, h⟩
  | cons p ps ih =>
    have b := r p List.mem_cons_self
    have v : (0x40010000 + BitVec.ofNat 55 p.1 : VAddr).toNat = 0x40010000 + p.1 := by
      rw [BitVec.toNat_add, BitVec.toNat_ofNat, Nat.mod_eq_of_lt (show p.1 < 2 ^ 55 by omega)]; simp; omega
    have q := savePut_sameTables ((p.2.length + 63) / 64) p.2 h (0x40010000 + BitVec.ofNat 55 p.1) (by omega) (by omega)
    rw [State.saveAll]
    generalize hx : u.savePut 1 ((p.2.length + 63) / 64) (0x40010000 + BitVec.ofNat 55 p.1) p.2 = x at q
    obtain ⟨s1, o⟩ := x
    obtain ⟨rfl, t⟩ : o = none ∧ SameTables (saving 0x40010000 .preempt) s1 := q
    exact ih t fun p hp => r p (List.mem_cons_of_mem _ hp)

theorem length_leBytes (k v : Nat) : (leBytes k v).length = k := by
  induction k generalizing v with
  | zero => rfl
  | succ k ih => simp [leBytes, ih]

theorem length_flatten_leBytes {α : Type} (k : Nat) (f : α → Nat) (x : List α) : (x.map fun v => leBytes k (f v)).flatten.length = x.length * k := by
  induction x with
  | nil => simp
  | cons a x ih => simp only [List.map_cons, List.flatten_cons, List.length_append, ih, List.length_cons, length_leBytes]; ring

theorem filledSection_length (v : State) (off n : Nat) (bs : List Byte) : (v.filledSection off n bs).1 = off ∧ (v.filledSection off n bs).2.length = n := by
  refine ⟨rfl, ?_⟩
  simp only [State.filledSection, State.openSection, codedBytes, List.length_append, List.length_take, List.length_map, List.length_range]; omega

theorem saveWords_length (m : MatEngine) : m.saveWords.length = 16 := by
  unfold MatEngine.saveWords; cases m.run <;> simp

/-- Without dirty banks and without an extent, the sections lie in the first MiB of the save area. -/
theorem saveSections_fit (v : State) (c : v.core.t.splen = 0) (b : ∀ i, (v.core.t.banks.getD i AccBank.reset).dirty = false) :
    ∀ p ∈ v.saveSections, p.1 + p.2.length ≤ 0x100000 := by
  intro p hp
  have f : ((List.range 4).filter fun i => (v.core.t.banks.getD i AccBank.reset).dirty) = [] := by simp only [b, List.filter_false]
  have sec (off n : Nat) (bs : List Byte) (h : off + n ≤ 0x100000) (e : p = v.filledSection off n bs) : p.1 + p.2.length ≤ 0x100000 := by
    rw [e, (filledSection_length v off n bs).1, (filledSection_length v off n bs).2]; exact h
  have opn (off n : Nat) (h : off + n ≤ 0x100000) (e : p = (off, v.openSection off n)) : p.1 + p.2.length ≤ 0x100000 := by
    rw [e]; simpa only [State.openSection, codedBytes, List.length_map, List.length_range] using h
  simp only [State.saveSections, f, List.map_nil, List.append_nil, List.mem_append, List.mem_cons, List.not_mem_nil, or_false] at hp
  obtain ((((h | h | h | h | h | h | h | h | h | h | h | h) | h) | h) | h) := hp
  · subst h; rw [length_flatten_leBytes]; simp; try omega
  · subst h; rw [length_flatten_leBytes]; simp; try omega
  · exact opn _ _ (by decide) h
  · exact sec _ _ _ (by decide) h
  · exact sec _ _ _ (by decide) h
  · exact opn _ _ (by decide) h
  · subst h; rw [length_flatten_leBytes]; simp; try omega
  · subst h; rw [length_flatten_leBytes, List.length_append, saveWords_length, saveWords_length]; exact (by decide : 0x840 + (16 + 16) * 8 ≤ 0x100000)
  · subst h; rw [length_flatten_leBytes]; simp; try omega
  · exact sec _ _ _ (by decide) h
  · exact opn _ _ (by decide) h
  · exact opn _ _ (by decide) h
  · obtain ⟨i, hi, h⟩ := List.mem_map.mp h
    exact sec _ _ _ (by have := List.mem_range.mp hi; omega) h.symm
  · obtain ⟨i, hi, h⟩ := List.mem_map.mp h
    exact sec _ _ _ (by have := List.mem_range.mp hi; omega) h.symm
  · subst h; rw [State.extentBytes, c]; exact (by decide : 0xB0000 + 0 ≤ 0x100000)

/-- A write into the save area's first line succeeds, and leaves the page tables. -/
theorem agentWrite_sameTables (bs : List Byte) {u : State} (h : SameTables (saving 0x40010000 .preempt) u) :
    ∃ v, u.agentWrite none 1 (0x40010000 + 16) bs needW = .ok v ∧ SameTables (saving 0x40010000 .preempt) v ∧ v.core = u.core := by
  obtain ⟨a, ha, lo⟩ : ∃ a, (0x40010000 + 16 : VAddr).toNat - 0x20000000 = a ∧ 0x20000000 ≤ a := ⟨0x20010010, by decide, by decide⟩
  refine ⟨{ u with mem := u.mem.store 0 a bs }.activate a, ?_, sameTables_activate (sameTables_mem h _ ?_ fun b hb => ?_) a, activate_core { u with mem := u.mem.store 0 a bs } a⟩
  · simp only [State.agentWrite, xlate_sameTables h (0x40010000 + 16) (by decide) (by decide), Mem.storeDiscards, h.1, List.any_nil, Bool.false_eq_true, if_false, ha]
  · simp only [Mem.store_of_clean _ _ _ _ h.1, Mem.poison_putBytes, h.1]
  · show (u.mem.store 0 a bs).byte 0 b = _
    rw [Mem.byte_store_of_clean _ _ _ _ _ h.1, if_neg (by omega), h.2.2.2 b hb]

theorem writeSave_sameTables {s : State} (t : SameTables (saving 0x40010000 .preempt) s) (a : s.saveAt s.core.t.id = 0x40010000) (i : s.core.t.id.asid = 1) (c : s.core.t.splen = 0)
    (d : s.core.t.banks = [.reset, .reset, .reset, .reset]) (n : (saving 0x40010000 .preempt).savedPoison = []) : (s.writeSave .preempt).2 = none := by
  unfold State.writeSave
  simp only [a, i]
  obtain ⟨v, hv, tv, cv⟩ := agentWrite_sameTables (s.saveHeader false .preempt) t
  simp only [hv]
  have f : ∀ i, (v.core.t.banks.getD i AccBank.reset).dirty = false := by
    rw [cv, d]; intro i; match i with | 0 | 1 | 2 | 3 => rfl | _ + 4 => rfl
  have c' : v.core.t.splen = 0 := by rw [cv, c]
  have q := saveAll_sameTables v.saveSections tv (saveSections_fit v c' f)
  generalize v.saveAll 1 0x40010000 v.saveSections = x at q ⊢
  obtain ⟨s1, o⟩ := x
  obtain ⟨rfl, t1⟩ : o = none ∧ SameTables (saving 0x40010000 .preempt) s1 := q
  obtain ⟨w, hw, -, -⟩ := agentWrite_sameTables (s1.saveHeader true .preempt) t1
  have z : v.savedPoison = [] := by rw [tv.2.2.1, savedPoison_mem _ _ _ (tv.1.trans (by decide +kernel)), n]
  simp only [z, State.poisonArea, List.foldl_nil, hw]

theorem writeSave_saving : ((saving 0x40010000 .preempt).writeSave .preempt).2 = none :=
  writeSave_sameTables (sameTables_refl (by decide +kernel) (by decide +kernel)) (by decide +kernel) (by decide +kernel) (by decide +kernel) (by decide +kernel) (by decide +kernel)

theorem witness_SavesAndEnds_save : let s := (saving 0x40010000 .preempt).switchTo 0
    s.core.mode = .saving .preempt none none ∧ s.core.pausedAll = true ∧ s.saveHalted s.core.t.id = false ∧ s.core.t.sys.ecl = false ∧
    ((s.modCore fun c => c.forgetAsks).flushL1).writesStuck = false ∧ (((s.modCore fun c => c.forgetAsks).flushL1).writeSave .preempt).2 = none := by
  have e : (((saving 0x40010000 .preempt).switchTo 0).modCore fun c => c.forgetAsks).flushL1 = saving 0x40010000 .preempt := by decide +kernel
  exact ⟨by decide +kernel, by decide +kernel, by decide +kernel, by decide +kernel, by decide +kernel, (congrArg (fun u : State => (u.writeSave .preempt).2) e).trans writeSave_saving⟩

theorem witness_SavesAndEnds_miss : let s := (saving 0x80000000 .preempt).switchTo 0; let w := ((s.modCore fun c => c.forgetAsks).flushL1).writeSave .preempt
    s.core.pausedAll = true ∧ s.saveHalted s.core.t.id = false ∧ s.core.t.sys.ecl = false ∧ ((s.modCore fun c => c.forgetAsks).flushL1).writesStuck = false ∧ w.2 = some (.miss, 0x80000010) ∧ w.1.pendingFull s.core.t.id.asid 0x80000010 = false ∧
    sees (exec (.saveComplete 0) s) (fun t => decide (t.core.mode = .saving .preempt none none ∧ t.xlat.pending.map (·.page) = [0x8000])) = true := by decide +kernel

theorem witness_SavesAndEnds_load : let s := withTable 0xE0000000 (readyTask 8)
    let load (img : BitVec 32) : State := { s with core := { (mapped []).core with loading := some { image := img, tag := some ({ asid := 1, record := 0x40000000, member := 0 }, 3), asid := 1 }, t := { (mapped []).core.t with comp := { (mapped []).core.t.comp with held := 8 } } } }
    ((load 8).core.loading).isSome = true ∧ (match s.loadImage 1 8 with | .ok _ => true | .error _ => false) = true ∧ (match s.loadImage 1 9 with | .ok _ => false | .error e => decide (e.1 = .format)) = true ∧
    sees (exec (.planeLoadComplete 0) (load 8)) (fun u => decide (u.core.shadow.state = .loaded ∧ u.core.shadow.code = [(0, 0xE0000000)] ∧ u.core.shadow.fmt0 = 0x11 ∧ u.core.t.comp.ctb = 8 ∧ u.core.t.comp.held = 0 ∧ u.core.t.comp.cte = 0)) = true ∧
    sees (exec (.planeLoadComplete 0) (load 9)) (fun u => decide (u.core.shadow.state = .empty ∧ u.core.t.comp.cte = 8 ∧ u.core.loading = none)) = true := by decide +kernel

theorem witness_SavesAndEnds_eclipse : let s := withT (fun t => { t with sys := { t.sys with ecl := true }, refs := [0x40000080] }) (record 1 (5 + 2 ^ 10) 0 (2 * 2 ^ 32) 0 0 0 (mapped [(1, 5)])); let w := { s with core := { s.core with bundle := { s.core.bundle with held := true, bounded := true } } }; let busy := withC (some (copyCmd .cpy 1 0 (.replicate _ 0)).begin) [] { s with core := { s.core with mode := .saving .preempt none none } }
    busy.core.t.sys.ecl = true ∧ busy.core.saving = true ∧ busy.core.t.commandsGone = false ∧ sees (exec (.eclipseReclaim 0) busy) (fun t => decide (t.core.mode = .eclipsing)) = true ∧
    (w.switchTo 0).core.t.commandsGone = true ∧ (w.switchTo 0).core.t.sys.ecl = true ∧ (w.switchTo 0).core.mode = .running ∧ (w.switchTo 0).core.pendTrap = none ∧
    sees (exec (.eclipseReclaim 0) w) (fun t => decide (t.core.mode = .idle ∧ t.core.t.refs = [] ∧ t.recGet 1 0x40000080 28 4 = 1)) = true := by decide +kernel

theorem witness_SavesAndEnds_finish : let at' (e : EndKind) : State := { readyTask 7 with sched := { (readyTask 7).sched with recs := [{ readyRec with ready := false, finish := some e, port := some 3 }] } }
    ∀ e ∈ [EndKind.done, .eclipsed, .stopped], (at' e).coresOf 1 0x40000080 = [] ∧ (at' e).commandsOf 1 0x40000080 = false ∧ ((at' e).schedRec 1 0x40000080).map (fun q => (q.finish, q.reds, q.live)) = some (some e, 0, []) ∧ (at' e).recGet 1 0x40000080 64 8 = 0 ∧
      sees (exec (.taskFinish 1 0x40000080) (at' e)) (fun u => decide (u.sched.recs = [] ∧ (u.portOf 3).done = 1 ∧ u.recGet 1 0x40000080 0 1 = match e with
        | .done => 5
        | .eclipsed => 6
        | .stopped => 2)) = true := by decide +kernel

theorem witness_PowerAndErrorMonitoring : let s := bench []; let t := (List.replicate 47 300).concat 440
    t.length = 48 ∧ (6000 : Nat) < 2 ^ 16 ∧ (∀ x ∈ t, x < 4096) ∧
    sees (exec (.dimmerUpdate 65535 t) s) (fun u => decide (u.power.g = 13 ∧ u.power.high = true ∧ u.power.tripped = true ∧ (u.clusterOf 47).d = 0 ∧ (u.clusterOf 0).d = 13 ∧ (u.clusterOf 47).thr = true ∧ (u.clusterOf 0).thr = false)) = true ∧
    sees (exec .governorWindowEnd { s with power := { s.power with power := .rated, counts := [], pending := some (9, 90) } }) (fun u => decide (u.power.tm = 9 ∧ u.power.tp = 90 ∧ (u.clusterOf 5).step = 1)) = true := by decide +kernel

theorem witness_PowerAndErrorMonitoring_scrub : let s := bench []; let p := { s with mem := { s.mem with poison := [0x40] } }
    s.scrubExists .dram 0x40 = true ∧ s.scrubPoisoned .dram 0x40 = false ∧ p.scrubPoisoned .dram 0x40 = true ∧ s.scrubExists (.afterglow 5) 4095 = true ∧ s.scrubPoisoned (.afterglow 5) 4095 = false ∧
    sees (exec (.scrub .dram 0x40 .uncorrectable) s) (fun u => decide (u.mem.poison = [0x40] ∧ (u.glowOf (placeOfScrub .dram 0x40).die).records.map (fun r => r.2.type) = [1])) = true ∧
    sees (exec (.scrub .dram 0x40 .corrected) s) (fun u => decide (mapGet 0 u.power.counts (placeOfScrub .dram 0x40).array = 1)) = true ∧
    (let q := { s with power := { s.power with counts := [((placeOfScrub .dram 0x40).array, 3)] } }
     clusterOfArray (placeOfScrub .dram 0x40).array = none ∧ mapGet 0 q.power.counts (placeOfScrub .dram 0x40).array + 1 = max 1 q.power.tm.toNat ∧ (4 : Nat) ≠ max 1 q.power.tp.toNat ∧
     sees (exec (.scrub .dram 0x40 .corrected) q) (fun u => decide ((u.glowOf (placeOfScrub .dram 0x40).die).records.map (fun r => r.2.type) = [5])) = true) := by decide +kernel

theorem witness_PowerAndErrorMonitoring_register : let s := { bench [] with agenda := [.regError 575 1023 3] }
    (575 : Nat) < 576 ∧ (1023 : Nat) < 1024 ∧ (3 : Nat) < 5 ∧
    sees (step s) (fun u => decide ((u.getCore 575).t.regPoison = [1023] ∧ (u.glowOf 3).records.map (fun r => (r.2.type, r.2.a, r.2.b)) = [(1, 0x40000000000FFF, 2)])) = true := by decide +kernel

theorem witness_PowerAndErrorMonitoring_read : let s := { bench [] with agenda := [.readError (.scalar 575 63) .uncorrectable] }
    s.agenda = [.readError (.scalar 575 63) .uncorrectable] ∧ (0 : Nat) < 63 ∧ (63 : Nat) < 64 ∧ sees (step s) (fun u => decide ((u.getCore 575).t.regPoison = [1087] ∧ (u.glowOf 3).records.map (fun r => r.2.type) = [1])) = true := by decide +kernel

theorem witness_PowerAndErrorMonitoring_rows : let s := bench []; let h := { s with mgmt := { s.mgmt with heldBanks := [7], rowCounts := [(7, 3)] } }
    h.mgmt.heldBanks.contains 7 = true ∧ (s.glowOf 5).state = .recording ∧ ({ s with glow := s.glow.set 5 { s.glowOf 5 with state := .frozen } }.glowOf 5).state ≠ .recording ∧
    sees (exec (.holdbackEnd 7) h) (fun u => decide (u.mgmt.heldBanks = [])) = true ∧ sees (exec (.regularRefresh 7) h) (fun u => decide (mapGet 0 u.mgmt.rowCounts 7 = 0)) = true ∧
    sees (exec (.freezeSignal 5 0 3) s) (fun u => decide ((u.glowOf 5).state = .post 256 ∧ (u.glowOf 5).records.map (fun r => r.2.type) = [11])) = true := by decide +kernel

/-- A packet of package 0x1000, in another pod, for this one. -/
def packet (sp : PacketSpec) : Packet := mkPacket 0x1000 { sp with dst := 0 } 0 0 0 0 false

set_option maxRecDepth 20000 in
theorem witness_PacketsDelivered_write : let s := bench []; let p := packet { type := 0, tc := 1, eng := 5, dst := 0, pa := 0x2000003C, len := 4, payload := [1, 2, 3, 4] }
    (147 < 148 ∧ p.sound = true ∧ p.type = 0 ∧ p.dst = s.pkgId ∧ s.fabric.lost.contains p.src = false ∧ p.seq = (s.dstFlow p.eng p.src p.tc).next ∧ (s.dstFlow p.eng p.src p.tc).held = [] ∧ (s.dstFlow p.eng p.src p.tc).unacked < 7) ∧
    (s.physOk p.pa = true ∧ s.mem.poisoned p.pa p.len = false ∧ p.pa % 64 + p.len ≤ 64) ∧ p.len ≤ p.payload.length ∧
    sees (exec (.writePacket 147 p) s) (fun u => decide (u.little 0 0x2000003C 4 = 0x04030201 ∧ (u.dstFlow 5 0x1000 1).next = 1)) = true := by decide +kernel

theorem witness_PacketsDelivered_red : let s := poke 0x20000010 8 5 (bench []); let p := packet { type := 5, tc := 0, eng := 5, dst := 0, pa := 0x20000010, len := 8, op := 0x10, opnd := 7, payload := [] }
    p.sound = true ∧ p.type = 5 ∧ p.bad = [] ∧ p.seq = (s.dstFlow p.eng p.src p.tc).next ∧ s.physOk p.pa = true ∧ s.mem.poisoned p.pa 8 = false ∧ p.pa % 64 + 8 ≤ 64 ∧ (∀ i < 32, (s.collOf i).run = none) ∧
    sees (exec (.redPacket 3 p) s) (fun u => decide (u.little 0 0x20000010 8 = amoResult 0 64 5 7 0 % 2 ^ 64)) = true := by decide +kernel

theorem witness_PacketsDelivered_atomic : let s := poke 0x20000030 8 5 (bench []); let p := packet { type := 3, tc := 0, eng := 5, dst := 0, pa := 0x20000030, len := 16, op := 0x21, opnd := 7, payload := [] }
    p.sound = true ∧ p.type = 3 ∧ p.bad = [] ∧ p.seq = (s.dstFlow p.eng p.src p.tc).next ∧ s.physOk p.pa = true ∧ s.mem.poisoned p.pa 16 = false ∧ p.pa % 64 + 16 ≤ 64 ∧ s.resultsHeld (fabricDie (some 3)) < 131072 ∧ s.noPermit p = false ∧
    sees (exec (.atomicPacket 3 p) s) (fun u => decide (u.little 0 0x20000030 16 = amoResult 1 128 5 7 0 % 2 ^ 128 ∧ (u.dstFlow 5 0x1000 0).results = [{ seq := 0, old := 5, bad := false, die := fabricDie (some 3) }])) = true := by decide +kernel

theorem witness_PacketsDelivered_parked : let s := bench []; let p := packet { type := 3, tc := 0, eng := 5, dst := 0, pa := 0x20000030, len := 0, op := 0, opnd := 0, payload := [] }
    p.sound = true ∧ p.type = 3 ∧ p.bad = [] ∧ s.resultsHeld (fabricDie (some 3)) < 131072 ∧ s.noPermit p = true ∧
    sees (exec (.atomicPacket 3 p) s) (fun u => decide (u.sched.permits.map (·.pa) = [0x20000030] ∧ (u.dstFlow 5 0x1000 0).results = [])) = true := by decide +kernel

theorem witness_PacketsDelivered_read : let s := poke 0x20000010 8 5 (bench []); let p := packet { type := 1, tc := 0, eng := 5, dst := 0, pa := 0x20000010, len := 8 }
    p.sound = true ∧ p.type = 1 ∧ p.bad = [] ∧ p.seq = (s.dstFlow p.eng p.src p.tc).next ∧ s.flowFull p.eng p.src p.tc = false ∧
    sees (exec (.readPacket 3 p) s) (fun u => decide ((u.srcFlow 5 0x1000 0).descs.length = 1)) = true := by decide +kernel

set_option maxRecDepth 20000 in
theorem witness_PacketsDelivered_data : let a : Ask := { pkg := 0x1000, pa := 0x30, len := 2, seq := 0, atomic := false, live := true, val := none, bad := false }; let s := { bench [] with core := { (bench []).core with asks := [a] } }
    let p := packet { type := 2, tc := 0, eng := 1152, dst := 0, pa := 0x30, len := 2, payload := [8, 9] }
    p.sound = true ∧ p.type = 2 ∧ 1152 ≤ p.eng ∧ p.eng < 1728 ∧ engCore p.eng = 0 ∧ s.core.asks = [a] ∧ s.ghosts 0 = [] ∧ a.pkg = p.src ∧ p.len ≤ p.payload.length ∧ firstSeq (s.core.netReads p.src p.pa p.len) = some a.seq ∧ s.core.fills = [] ∧
    sees (exec (.rdataPacket 3 p) s) (fun u => decide (u.core.asks.map (·.val) = [some [8, 9]])) = true := by decide +kernel

set_option maxRecDepth 20000 in
theorem witness_PacketsDelivered_line : let f : Fetched := { pkg := 0x1000, pa := 0x40, seq := 0, data := none, bad := [] }; let r := { (copyCmd .cpy 1 0 (.replicate _ 0)).begin with fetched := [f] }; let s := withC (some r) [] (bench [])
    let p := packet { type := 2, tc := 0, eng := 0, dst := 0, pa := 0x40, len := 64, payload := List.replicate 64 7 }
    p.sound = true ∧ p.type = 2 ∧ p.eng < 1152 ∧ s.ghosts 0 = [] ∧ s.rereaders p.eng = [] ∧ r.cmd.kind.readClass = p.tc ∧ (s.core.t.ce false).run = some r ∧ f.pkg = p.src ∧ f.pa = p.pa ∧ p.len = 64 ∧ p.len ≤ p.payload.length ∧
    sees (exec (.rdataPacket 3 p) s) (fun u => decide ((u.core.t.ce0.run.map fun r => r.fetched.map (·.data.isSome)) = some [true])) = true := by decide +kernel

set_option maxRecDepth 20000 in
theorem witness_PacketsDelivered_chunk : let s := bench []; let p := packet { type := 6, tc := 2, eng := 1735, dst := 0, len := 64, op := 7, payload := List.replicate 64 1 }; let late := { s with colls := s.colls.set 7 { s.collOf 7 with ordinal := 1 } }
    p.sound = true ∧ p.type = 6 ∧ Packet.collEngine p = 7 ∧ (s.collOf 7).run = none ∧ ordBefore (Packet.ordinal p) (s.collOf 7).ordinal = false ∧ s.earlyBytes 7 + p.len ≤ 0x10_0000 ∧ ordBefore (Packet.ordinal p) (late.collOf 7).ordinal = true ∧
    sees (exec (.chunkPacket 3 p) s) (fun u => decide ((u.collOf 7).early.length = 1)) = true ∧ sees (exec (.chunkPacket 3 p) late) (fun u => decide ((u.collOf 7).early = [])) = true := by decide +kernel

/-- One unacknowledged packet of core 2 to package 0x1000, whose package is suspect. -/
def oneSent (w : Option Waiter) : State :=
  let s := bench []; let d : Descriptor := { seq := 0, tries := 1, timeouts := 0, die := 0, packet := mkPacket 0 { type := 0, tc := 0, eng := 5, dst := 0x1000, pa := 64, len := 1, payload := [1] } 0 0 0 0 false, source := none, refetch := [], owner := w }
  { s with fabric := { s.fabric with sources := [{ eng := 5, dst := 0x1000, tc := 0, next := 1, route := 0, rseq := 1, descs := [d] }], suspects := [{ pkg := 0x1000, route := 0, probes := 100 }] } }

set_option maxRecDepth 20000 in
theorem witness_AnswersAndForwarding_ack : let s := oneSent none; let p := mkPacket 0x1000 { type := 7, tc := 0, eng := 5, dst := 0 } 1 0 0 0 false
    p.sound = true ∧ p.dst = s.pkgId ∧ p.type = 7 ∧ s.fabric.lost.contains p.src = false ∧ (s.srcFlow p.eng p.src p.tc).descs.all (fun d => d.owner = none) = true ∧ s.xlat.words = [] ∧ (s.srcFlow p.eng p.src p.tc).descs.length = 1 ∧
    sees (exec (.ackPacket 3 p) s) (fun u => decide ((u.srcFlow 5 0x1000 0).descs = [] ∧ u.fabric.suspects = [])) = true := by decide +kernel

set_option maxRecDepth 20000 in
theorem witness_AnswersAndForwarding_aresult : let a : Ask := { pkg := 0x1000, pa := 0x30, len := 8, seq := 0, atomic := true, live := true, val := none, bad := false }; let s := { oneSent none with core := { (oneSent none).core with asks := [a] } }
    let p := mkPacket 0x1000 { type := 4, tc := 0, eng := 1152, dst := 0, opnd := 513 } 0 0 0 0 false
    p.sound = true ∧ p.type = 4 ∧ 1152 ≤ p.eng ∧ s.xlat.words = [] ∧ engCore p.eng = 0 ∧ s.core.asks = [a] ∧ a.pkg = p.src ∧ a.seq = p.seq ∧ (s.srcFlow p.eng p.src p.tc).descs.all (fun d => d.owner = none) = true ∧
    sees (exec (.aresultPacket 3 p) s) (fun u => decide (u.core.asks.map (fun a => a.val.map (·.take 3)) = [some [1, 2, 0]])) = true := by decide +kernel

set_option maxRecDepth 20000 in
theorem witness_AnswersAndForwarding_permit : let r := { (copyCmd .cpyw 1 0 (.replicate _ 0)).begin with asked := some (0x1000, 0) }; let s := withC (some r) [] (oneSent none)
    let p := mkPacket 0x1000 { type := 4, tc := 0, eng := 0, dst := 0, opnd := 1 } 0 0 0 0 false
    p.sound = true ∧ p.type = 4 ∧ p.eng < 1152 ∧ (s.core.t.ce false).run = some r ∧ r.asked = some (p.src, p.seq) ∧ p.bad = [] ∧ (s.srcFlow p.eng p.src p.tc).descs.all (fun d => d.owner = none) = true ∧ s.xlat.words = [] ∧
    sees (exec (.aresultPacket 3 p) s) (fun u => decide (u.core.t.ce0.run.map (fun r => (r.permit, r.asked)) = some (true, none))) = true := by decide +kernel

set_option maxRecDepth 20000 in
theorem witness_AnswersAndForwarding_probe : let s := oneSent none; let p := mkPacket 0x1000 { type := 9, tc := 3, eng := 0, dst := 0 } 1 0 0 0 false; let p0 := mkPacket 0x1000 { type := 9, tc := 3, eng := 0, dst := 0 } 0 0 0 0 false; let b := mkPacket 1 { type := 8, tc := 3, eng := 0, dst := 0 } 0 0 0 0 false
    let q := { s with fabric := { s.fabric with silent := [3, 4], suspects := [] } }
    p.sound = true ∧ p.type = 9 ∧ p.seq ≠ 0 ∧ p0.sound = true ∧ p0.type = 9 ∧ p0.seq = 0 ∧ b.sound = true ∧ b.type = 8 ∧ s.fabric.suspects.any (fun v => decide (v.pkg = p.src)) = true ∧ q.fabric.suspects.any (fun v => decide (v.pkg = p.src)) = false ∧
    sees (exec (.probePacket 3 p) s) (fun u => decide (u.fabric.suspects = [] ∧ u.fabric.sent = [])) = true ∧ sees (exec (.probePacket 3 p0) q) (fun u => decide (u.fabric.sent.length = 1)) = true ∧
    sees (exec (.beaconPacket 3 b) q) (fun u => decide (u.fabric.silent = [4])) = true := by decide +kernel

set_option maxRecDepth 20000 in
theorem witness_AnswersAndForwarding_forward : let s := bench []; let p := mkPacket 0x1000 { type := 1, tc := 0, eng := 5, dst := 0x2000, pa := 64, len := 8 } 0 0 0 0 false; let old := p.setField 19 6 63; let bad := p.setField 0 4 2
    p.sound = true ∧ p.dst ≠ s.pkgId ∧ p.hops + 1 < 64 ∧ (s.firstPort p.dst p.order p.dirs p.eng p.tc).isSome = true ∧ old.sound = true ∧ 64 ≤ old.hops + 1 ∧ bad.sound = false ∧
    sees (exec (.packetForward 3 p) s) (fun u => decide (u.fabric.sent.map (fun q => q.2.hops) = [1])) = true ∧ sees (exec (.packetForward 3 old) s) (fun u => decide (u.fabric.sent = [])) = true ∧
    sees (exec (.packetForward 3 bad) s) (fun u => decide (u.fabric.portErr = [(3, 1)])) = true := by decide +kernel

set_option maxRecDepth 20000 in
theorem witness_LinksAndPeers : let s := oneSent none; let p := mkPacket 0 { type := 8, tc := 3, eng := 0, dst := 1 } 0 0 0 0 false; let f : DstFlow := { eng := 5, src := 0x1000, tc := 0, next := 3, held := [], results := [], unacked := 3 }
    let u := { s with fabric := { s.fabric with sent := [(2, p)], dests := [f] }, mgmt := { s.mgmt with pod := 0x001 } }
    (2, p) ∈ u.fabric.sent ∧ nth? u.fabric.dests 0 = some f ∧ f.unacked ≠ 0 ∧ (descAt 0 u.fabric.sources).isSome = true ∧ (∀ q ∈ (descAt 0 u.fabric.sources).toList, q.1 = u.srcFlow q.1.eng q.1.dst q.1.tc) ∧ u.fabric.down.contains 147 = false ∧ u.portUp 2 = true ∧ u.extent (2 / 48) > 1 ∧
    u.fabric.suspects.find? (fun v => decide (v.pkg = 0x1000)) = some { pkg := 0x1000, route := 0, probes := 100 } ∧ (0x1000 : Nat) ≠ u.pkgId ∧ (∀ i < 32, (u.collOf i).run = none) := by decide +kernel

set_option maxRecDepth 20000 in
theorem witness_LinksAndPeers_steps : let s := oneSent none; let p := mkPacket 0 { type := 8, tc := 3, eng := 0, dst := 1 } 0 0 0 0 false; let f : DstFlow := { eng := 5, src := 0x1000, tc := 0, next := 3, held := [], results := [], unacked := 3 }
    let u := { s with fabric := { s.fabric with sent := [(2, p)], dests := [f] }, mgmt := { s.mgmt with pod := 0x001 } }
    sees (exec (.packetAgeDiscard 2 p) u) (fun t => decide (t.fabric.sent = [])) = true ∧ sees (exec (.ackSend 0) u) (fun t => decide ((t.dstFlow 5 0x1000 0).unacked = 0 ∧ t.fabric.sent.length = 2)) = true ∧
    sees (exec (.retxTimeout 0) u) (fun t => decide ((t.srcFlow 5 0x1000 0).descs.map (fun d => (d.tries, d.packet.field 12 1)) = [(2, 1)])) = true ∧ sees (exec (.beaconMiss 2) u) (fun t => decide (t.fabric.silent = [2])) = true ∧
    sees (exec .beaconSend u) (fun t => decide (t.fabric.sent.length = 49)) = true ∧ sees (exec (.probeSend 0x1000) u) (fun t => decide (t.fabric.suspects.map (·.route) = [1])) = true ∧
    sees (exec (.peerLostDeclare 0x1000) u) (fun t => decide (t.fabric.lost = [0x1000] ∧ t.fabric.suspects = [])) = true ∧ sees (exec (.lostDeclaration 0x1000) u) (fun t => decide ((t.fabric.sources.map (·.descs)) = [[]])) = true := by decide +kernel

/-- The ready package, context 1 running behind launch port 2, and no task on any core. -/
def hosted : State :=
  let s := ready (mapped [])
  { s with core := Core.reset, mgmt := { s.mgmt with ports := s.mgmt.ports.set 2 { s.mgmt.ports[2] with ctx := 1 } } }

theorem witness_HostAccessesAndContexts_memory : let s := hosted; let a := spBase + 0x10_0000 * 575 + 0xFFFF0
    s.mgmtOpen = true ∧ s.physOk 0x20000040 = true ∧ (0x20000040 : Nat) % 64 = 0 ∧ s.mem.poisoned 0x20000040 64 = false ∧ (0x20000040 : Nat) < spBase ∧ s.physOk a = true ∧ a % 16 = 0 ∧ ¬a < spBase ∧
    s.physOk (ringBase + 0x40) = true ∧ sees (exec (.hostMemoryAccess true (ringBase + 0x40) 4 0x1FFFFFFFF) s) (fun u => decide (u.little 0 (ringBase + 0x40) 4 = 0xFFFFFFFF)) = true ∧
    sees (exec (.hostScratchpadAccess true a 16 (2 ^ 127)) s) (fun u => decide (u.little 0 a 16 = 2 ^ 127)) = true := by decide +kernel

theorem witness_HostAccessesAndContexts_launch : let s := hosted; let w : Word := 0x40000080; let bad : Word := 0x40000084; let r := { s with sched := { s.sched with recs := [{ readyRec with task := { readyRec.task with record := 0x40000100 } }] } }
    (2 : Nat) < 4 ∧ bitsOf w.toNat 6 2 = 0 ∧ bitsOf w.toNat 63 55 = 0 ∧ s.descOf 1 ≠ none ∧ s.launchable 1 0x40000080 0 false = true ∧ bitsOf bad.toNat 6 2 ≠ 0 ∧
    sees (exec (.launch 2 w) s) (fun u => decide ((u.portOf 2).accepted = 1 ∧ u.sched.recs.map (·.port) = [some 2] ∧ u.sched.recs.map (·.die) = [2])) = true ∧
    sees (exec (.launch 2 bad) r) (fun u => decide ((u.portOf 2).errors = 1 ∧ (u.portOf 2).latched = bad)) = true := by decide +kernel

theorem witness_HostAccessesAndContexts_drop : let s0 := record 1 (5 + 2 ^ 10) 0 (2 * 2 ^ 32) 0 0 0 hosted; let s : State := { s0 with sched := { s0.sched with hostRefs := [(1, 0x40000080)] } }; let w : Word := 0x40000080; let l : Loc := { pkg := none, pa := 0x20000080, key := 0 }
    s0.sched.hostRefs.contains (1, 0x40000080) = false ∧ s.sched.hostRefs.contains (1, 0x40000080) = true ∧ w.toNat % 128 = 0 ∧ w.toNat < 2 ^ 55 ∧ s.xlate none 1 0x40000080 needRW = .ok l ∧ bitsOf (s.recGet 1 0x40000080 0 8) 10 10 = 1 ∧ 1 < s.recGet 1 0x40000080 28 4 ∧
    sees (exec (.launchDrop 2 w) s) (fun u => decide (u.recGet 1 0x40000080 28 4 = 1 ∧ u.sched.hostRefs = [])) = true := by decide +kernel

theorem witness_HostAccessesAndContexts_halt : let s := { hosted with sched := { hosted.sched with recs := (readyTask 7).sched.recs }, mem := (readyTask 7).mem }; let h := { s with mgmt := { s.mgmt with halting := [1], hlist := 0x6000, hlen := 0 } }; let e := { h with sched := { h.sched with recs := [] } }
    let t := { s with core := (mapped []).core }
    s.descOf 1 ≠ none ∧ s.descOf 2 = none ∧ hosted.holdsRecords 1 = false ∧ s.holdsRecords 1 = true ∧ h.mgmt.halting.find? h.drained = some 1 ∧ h.sched.queues = [] ∧ h.mgmt.hlist.toNat % 8 = 0 ∧ h.mem.poison = [] ∧
    e.haltRecords 1 = [] ∧ h.mgmt.hlen.toNat < (h.haltRecords 1).length ∧ e.mgmt.halting.find? e.drained = some 1 ∧ 0 ∈ t.liveCores ∧ (t.getCore 0).mode = .running ∧ (t.getCore 0).t.id.asid = 1 ∧
    (∀ d ∈ [(0x1000 : Nat)], d % 128 = 0 ∧ d < 2 ^ 52 ∧ s.physOk d = true) ∧
    sees (exec .haltDrainDone h) (fun u => decide (u.mgmt.haltst = BitVec.ofNat 64 (1 + 2 ^ 36))) = true ∧ sees (exec .haltDrainDone e) (fun u => decide (u.mgmt.haltst = 1 ∧ u.mgmt.halting = [])) = true ∧
    sees (exec (.halt 1) t) (fun u => decide (u.core.t.sys.preq.getLsbD 1 = true ∧ u.mgmt.halting = [1])) = true ∧ sees (exec (.contextDelete 1) hosted) (fun u => decide (u.sched.contexts = [])) = true := by decide +kernel

theorem witness_HostAccessesAndContexts_resume : let s := poke 0x6000 8 1 (poke 0x6008 8 0x40000080 (record 1 2 7 0 0 0 0 hosted)); let h := { s with sched := { s.sched with contexts := [{ asid := 1, desc := 0x1000, halted := true, moved := false }] } }; let v := record 1 4 7 0 0 0 0 h
    h.mgmtOpen = true ∧ (h.portOf 2).ctx = 1 ∧ h.descOf 1 ≠ none ∧ (h.knownAs [0x40000080]).getD 1 = 1 ∧ (v.knownAs [0x40000080]).getD 1 = 1 ∧ h.haltList (h.phys 0x6000 8) 0x6008 = [0x40000080] ∧ h.xlat.pending = [] ∧ [(0x40000080 : VAddr)].Nodup ∧ h.sched.saved = [] ∧ v.haltList (v.phys 0x6000 8) 0x6008 = [0x40000080] ∧ v.recGet 1 0x40000080 0 1 = stSaved ∧
    sees (exec (.resume 2 0x6000) v) (fun u => decide (u.sched.recs.map (·.ready) = [true])) = true ∧
    sees (exec (.resume 2 0x6000) h) (fun u => decide (u.contextRuns 1 = true ∧ u.sched.recs.map (·.ready) = [true] ∧ u.sched.recs.map (·.die) = [2])) = true := by decide +kernel

theorem witness_ManagementWrites : let s := hosted; let i := { s with xlat := { s.xlat with inval := some { asid := 1, page := some 0x4000, older := 0 }, tlb := [{ asid := 1, page := 0x4000, pte := { pa := 0, key := 0, pkg := none, r := true, w := true, x := true } }, { asid := 2, page := 0x4000, pte := { pa := 0, key := 0, pkg := none, r := true, w := true, x := true } }] } }
    let a := { s with mgmt := { s.mgmt with attestBuf := some 0x7000, bootst := 0x20000F } }; let w : Word := 0x16
    s.mgmtOpen = true ∧ s.xlat.inval = none ∧ i.xlat.inval.map (·.older) = some 0 ∧ a.mgmt.attestBuf = some 0x7000 ∧ (0x7000 : Nat) % 64 = 0 ∧ a.mem.poison = [] ∧
    a.mgmt.bootst.getLsbD 21 = true ∧ s.mgmt.bootst.getLsbD 21 = false ∧ w.toNat % 4 < 3 ∧ w.toNat / 4 % 4 < 3 ∧ w.toNat / 16 % 8 < 5 ∧ w.toNat < 256 ∧ (5 : Nat) < 6 ∧
    sees (exec .tlbinvDone i) (fun u => decide (u.xlat.tlb.map (·.asid) = [2] ∧ u.xlat.inval = none)) = true ∧ sees (exec (.tlbinvPage 1) s) (fun u => decide (u.xlat.inval = some { asid := 1, page := some 0, older := 0 })) = true ∧
    sees (exec (.tlbinvPage 1) i) (fun u => decide (u.mgmt.errcnt = 1)) = true ∧ sees (exec (.mgmtWrite 0x40050 256) s) (fun u => decide (u.mgmt.aging = 16 ∧ u.mgmt.errcnt = 1)) = true ∧
    sees (exec (.mgmtWrite 0x40050 255) s) (fun u => decide (u.mgmt.aging = 255)) = true ∧ sees (exec (.modeWrite 3) s) (fun u => decide (u.mgmt.errcnt = 1)) = true ∧
    (let r := { s with core := { s.core with mode := .running } }; (∃ m, modesOf w.toNat = some m ∧ m.ring ≠ r.power.modes.ring) ∧ r.anyRunning = true ∧
      sees (exec (.modeWrite w) r) (fun u => decide (u.mgmt.errcnt = 1 ∧ u.power.modes.ring = r.power.modes.ring ∧ u.power.modes ≠ r.power.modes)) = true) ∧ sees (exec (.attest 0x7000) s) (fun u => decide (u.mgmt.attestBuf = some 0x7000)) = true := by
  refine ⟨?_, ?_, ?_, ?_, ?_, ?_, ?_, ?_, ?_, ?_, ?_, ?_, ?_, ?_, ?_, ?_, ?_, ?_, ?_, ⟨⟨_, rfl, ?_⟩, ?_, ?_⟩, ?_⟩ <;> decide +kernel

/-- One walk had started before the invalidation. -/
theorem witness_ManagementWrites_older : let s := { hosted with xlat := { hosted.xlat with inval := some { asid := 1, page := none, older := 1 }, walks := [{ asid := 1, va := 0x80000000, core := 0 }] } }
    s.xlat.inval.map (·.older) = some 1 ∧ (match exec .tlbinvDone s with | .refused _ => true | _ => false) = true ∧ sees (exec (.pageWalkComplete 0) s) (fun u => decide (u.xlat.inval.map (·.older) = some 0)) = true := by decide +kernel

theorem witness_ManagementWrites_read : let s (o n : Nat) : State := { hosted with agenda := [.mgmtRead o n], power := { hosted.power with clusters := hosted.power.clusters.set 47 { hosted.clusterOf 47 with tj := 0xABC, lock := true } } }
    (s 0x70040 8).agenda = [.mgmtRead 0x70040 8] ∧ (0x70040 : Nat) ∈ [0x10, 0x40000, 0x40008, 0x40010, 0x40020, 0x40028, 0x40030, 0x40038, 0x40048, 0x50018, 0x70000, 0x70040] ∧ (47 : Nat) < 48 ∧ (0x10278 : Nat) = 0x10100 + 8 * 47 ∧ (4 : Nat) ≠ 8 ∧ (0x10101 : Nat) % 8 ≠ 0 ∧
    sees (step (s 0x70040 8)) (fun u => decide (u.mgmt.answer = List.replicate 8 0 ∧ u.mgmt.errcnt = 1)) = true ∧
    sees (step (s 0 8)) (fun u => decide (u.mgmt.answer = [0xF, 0, 0, 0, 0, 0, 0, 0] ∧ u.mgmt.errcnt = 0)) = true ∧
    sees (step (s 0x10278 8)) (fun u => decide (u.mgmt.answer = [0xBC, 0xFA, 0, 0x10, 0xF, 0, 0, 0])) = true := by decide +kernel

/-- A list of two records; and a SAVED record whose save was made here. -/
theorem witness_HostAccessesAndContexts_saves : let h : State := { hosted with sched := { hosted.sched with contexts := [{ asid := 1, desc := 0x1000, halted := true, moved := false }] } }
    let two := poke 0x6000 8 2 (poke 0x6008 8 0x40000080 (poke 0x6010 8 0x40000100 (record 2 2 7 0 0 0 0 (record 1 2 7 0 0 0 0 h)))); let id : TaskId := { asid := 1, record := 0x40000080, member := 0 }
    let z : Saved := { task := id, t := { TaskState.reset with id }, mail := [], reason := .preempt, fault := none, deliver := none, waits := none, pad := [], core := 0, time := 0 }
    let s0 := poke 0x200000C8 8 0x40010000 (poke 0x6000 8 1 (poke 0x6008 8 0x40000080 (record 1 4 7 0 0 0 0 h))); let s : State := { s0 with sched := { s0.sched with saved := [z] } }
    two.haltList (two.phys 0x6000 8) 0x6008 = [0x40000080, 0x40000100] ∧ [(0x40000080 : VAddr), 0x40000100].Nodup ∧ two.sched.saved = [] ∧ two.xlat.pending = [] ∧ s.recGet 1 0x40000080 0 1 = stSaved ∧ s.madeHere z = true ∧
    s0.ownArea id = true ∧ s0.sched.saved = [] ∧ (s.knownAs [0x40000080]).getD 1 = 1 ∧
    sees (exec (.resume 2 0x6000) two) (fun u => decide (u.sched.recs.map (·.ready) = [true, true])) = true ∧ sees (exec (.resume 2 0x6000) s) (fun u => decide (u.sched.saved.length = 1)) = true := by decide +kernel

theorem witness_StartUpAndResets : let s := { bench [] with mgmt := { (bench []).mgmt with bootst := 3 } }; let f := { s with glow := s.glow.set 5 { s.glowOf 5 with state := .frozen } }
    (f.glowOf 5).state = .frozen ∧ s.mgmt.bootst = 3 ∧ (bench []).mgmt.bootst ≠ 3 ∧ (0x40_0000 : Nat) < (0x400001 : Word).toNat % 2 ^ 23 ∧ 1 ≤ (0x400000 : Word).toNat % 2 ^ 23 ∧ (0x400000 : Word).toNat % 2 ^ 23 ≤ 0x40_0000 ∧ (0x800000 : Word).toNat % 2 ^ 23 = 0 ∧
    sees (exec (.bootGo 0x400001) s) (fun u => decide (u.mgmt.bootst = 0x1044)) = true ∧ sees (exec (.bootGo 0x800000) s) (fun u => decide (u.mgmt.bootst = 0x1044)) = true ∧ sees (exec (.bootGo 1) (bench [])) (fun u => decide (u.mgmt.errcnt = 1)) = true ∧
    sees (exec (.bootGo 2) s) (fun u => decide (u.mgmt.bootst = 4 ∧ u.mgmt.bootStore.length = 2)) = true ∧ [exec .coldReset f, exec .warmReset f, exec .supplyLoss f].map (fun o => match o with | .next u => (u.mgmt.bootst.toNat, decide ((u.glowOf 5).state = .frozen)) | _ => (9, false)) = [(1, false), (2, true), (0, false)] ∧
    sees (exec .supplyLoss f) (fun u => decide (u.glowOf 5 = Afterglow.reset ∧ u.core.mode = .idle ∧ u.mgmt.bootst = 0)) = true := by decide +kernel

theorem witness_StartUpAndResets_steps : let s (b : Nat) : State := { bench [] with agenda := [.boot], mgmt := { (bench []).mgmt with bootst := BitVec.ofNat _ b } }
    (∀ b ∈ [1, 2, 4, 5, 6], (s b).agenda = [.boot] ∧ (s b).mgmt.bootst.toNat = b) ∧ sees (step (s 1)) (fun u => decide (u.mgmt.bootst = 2)) = true ∧ sees (step (s 6)) (fun u => decide (u.mgmt.bootst = 0xF)) = true ∧
    sees (step (s 5)) (fun u => decide (u.mgmt.bootst = 6)) = true ∧ sees (step (s 4)) (fun _ => true) = true ∧ sees (step (s 2)) (fun _ => true) = true ∧ (match step (s 3) with | .refused _ => true | _ => false) = true := by decide +kernel

end Sys2Proof.Tests
end

section
/-! PROOF. Memory in canonical form, of the answers that the model's functions give: a state, an outcome, an option or an error. What the rules
below say of an answer is that each state in it has memory in canonical form. A lemma `State.memWf.foo` says that `State.foo` keeps memory
in canonical form, so that the proof for a term of the model is the term's own chain of calls, `h.recSet.modRec` for `(s.recSet ..).modRec ..`. -/

namespace Sys2Proof.Machine

section
variable {s t : State} {α β ε : Type} {ρ : ε → Prop} {π : α → State} {τ : β → State}

/-- The next state of an outcome, if there is one, has memory in canonical form. -/
def Out.memWf (o : Out) : Prop :=
  match o with
  | .next t => t.memWf
  | .fault _ => True
  | .refused _ => True

/-- The state that an optional answer holds, at its place π, has memory in canonical form. -/
def SomeWf (π : α → State) (o : Option α) : Prop :=
  match o with
  | some a => (π a).memWf
  | none => True

/-- The state of an answer that is no error, at its place π, has memory in canonical form. -/
def OkWf (π : α → State) (o : Except ε α) : Prop :=
  match o with
  | .ok a => (π a).memWf
  | .error _ => True

/-- The state that a failed access holds, if it has sent a request, has memory in canonical form. -/
def AccErr.memWf (e : AccErr) : Prop :=
  match e with
  | .held t => t.memWf
  | .exc _ => True
  | .wait => True

/-- The states of an answer, at its place π, and of an error, where ρ finds them, have memory in canonical form. -/
def BothWf (ρ : ε → Prop) (π : α → State) (o : Except ε α) : Prop :=
  match o with
  | .ok a => (π a).memWf
  | .error e => ρ e

/-! ### From an answer to the state in it -/

theorem Out.memWf.of_eq {o : Out} (h : o.memWf) (e : o = .next t) : t.memWf := by subst e; exact h
theorem SomeWf.of_eq {o : Option α} {a : α} (h : SomeWf π o) (e : o = some a) : (π a).memWf := by subst e; exact h
theorem OkWf.of_eq {o : Except ε α} {a : α} (h : OkWf π o) (e : o = .ok a) : (π a).memWf := by subst e; exact h
theorem BothWf.of_ok {o : Except ε α} {a : α} (h : BothWf ρ π o) (e : o = .ok a) : (π a).memWf := by subst e; exact h
theorem BothWf.of_error {o : Except ε α} {x : ε} (h : BothWf ρ π o) (e : o = .error x) : ρ x := by subst e; exact h
theorem State.memWf.of_fst {p : State × α} {a : α} (h : p.1.memWf) (e : p = (s, a)) : s.memWf := by subst e; exact h

/-! ### From a state to the answer that holds it -/

theorem Out.memWf.next (h : s.memWf) : Out.memWf (.next s) := h
theorem SomeWf.none : SomeWf π .none := trivial
theorem SomeWf.mk (h : s.memWf) : SomeWf (·) (some s) := h
theorem SomeWf.fst {a : α} (h : s.memWf) : SomeWf Prod.fst (some (s, a)) := h
theorem OkWf.mk (h : s.memWf) : OkWf (ε := ε) (·) (.ok s) := h
theorem OkWf.fst {a : α} (h : s.memWf) : OkWf (ε := ε) Prod.fst (.ok (s, a)) := h
theorem BothWf.error {x : ε} (h : ρ x) : BothWf ρ π (.error x) := h

/-! ### A choice between two answers -/

section
variable {c : Prop} [Decidable c]

theorem State.memWf.ite (h : s.memWf) (k : t.memWf) : (if c then s else t).memWf := by split <;> assumption
theorem Out.memWf.ite {o p : Out} (h : o.memWf) (k : p.memWf) : Out.memWf (if c then o else p) := by split <;> assumption
theorem SomeWf.ite {o p : Option α} (h : SomeWf π o) (k : SomeWf π p) : SomeWf π (if c then o else p) := by split <;> assumption
theorem OkWf.ite {o p : Except ε α} (h : OkWf π o) (k : OkWf π p) : OkWf π (if c then o else p) := by split <;> assumption
theorem BothWf.ite {o p : Except ε α} (h : BothWf ρ π o) (k : BothWf ρ π p) : BothWf ρ π (if c then o else p) := by split <;> assumption

end

/-! ### What goes on from an answer -/

theorem SomeWf.map {o : Option α} {f : α → β} (h : SomeWf π o) (hf : ∀ a, (π a).memWf → (τ (f a)).memWf) : SomeWf τ (o.map f) := by
  cases o with
  | none => trivial
  | some a => exact hf a h

theorem SomeWf.mapOf {o : Option α} {f : α → State} (hf : ∀ a, (f a).memWf) : SomeWf (·) (o.map f) := by
  cases o with
  | none => trivial
  | some a => exact hf a

theorem SomeWf.bind {o : Option β} {f : β → Option α} (hf : ∀ b, SomeWf π (f b)) : SomeWf π (o.bind f) := by
  cases o with
  | none => trivial
  | some b => exact hf b

theorem SomeWf.filter {o : Option α} {p : α → Bool} (h : SomeWf π o) : SomeWf π (o.filter p) := by
  cases o with
  | none => trivial
  | some a =>
    rw [Option.filter_some]
    exact SomeWf.ite h SomeWf.none

theorem SomeWf.getD {o : Option State} (h : SomeWf (·) o) (k : s.memWf) : (o.getD s).memWf := by
  cases o with
  | none => exact k
  | some t => exact h

theorem SomeWf.findSome {l : List α} {f : α → Option State} (hf : ∀ a, SomeWf (·) (f a)) : SomeWf (·) (l.findSome? f) := by
  induction l with
  | nil => trivial
  | cons a r ih =>
    rw [List.findSome?_cons]
    split
    next e => exact (hf a).of_eq e
    next => exact ih

theorem OkWf.map {o : Except ε α} {f : α → β} (h : OkWf π o) (hf : ∀ a, (π a).memWf → (τ (f a)).memWf) : OkWf τ (o.map f) := by
  cases o with
  | error x => trivial
  | ok a => exact hf a h

theorem BothWf.map {o : Except ε α} {f : α → β} (h : BothWf ρ π o) (hf : ∀ a, (π a).memWf → (τ (f a)).memWf) : BothWf ρ τ (o.map f) := by
  cases o with
  | error x => exact h
  | ok a => exact hf a h

/-! ### Repetition -/

theorem State.memWf.forEach {l : List α} {f : α → State → State} (h : s.memWf) (hf : ∀ a s, s.memWf → (f a s).memWf) :
    (forEach l f s).memWf := by
  induction l generalizing s with
  | nil => exact h
  | cons a r ih => exact ih (hf a s h)

theorem State.memWf.foldl {l : List α} {f : State → α → State} (h : s.memWf) (hf : ∀ s a, s.memWf → (f s a).memWf) :
    (l.foldl f s).memWf := by
  induction l generalizing s with
  | nil => exact h
  | cons a r ih => exact ih (hf s a h)

/-- A fold that carries something beside the state. -/
theorem State.memWf.foldlFst {l : List α} {f : State × β → α → State × β} {b : β} (h : s.memWf)
    (hf : ∀ q a, q.1.memWf → (f q a).1.memWf) : (l.foldl f (s, b)).1.memWf := by
  suffices all : ∀ q : State × β, q.1.memWf → (l.foldl f q).1.memWf from all (s, b) h
  induction l with
  | nil => exact fun _ h => h
  | cons a r ih => exact fun q h => ih _ (hf q a h)

/-! ### The changes of memory, and of the core whose turn it is -/

theorem State.memWf.memStore {slot pa bs} (h : s.memWf) : ({ s with mem := s.mem.store slot pa bs } : State).memWf :=
  Mem.wf_store _ _ _ _ h

theorem State.memWf.memStoreAll {slot ws} (h : s.memWf) : ({ s with mem := s.mem.storeAll slot ws } : State).memWf :=
  Mem.wf_storeAll _ _ _ h

/-- A new generation of the ring's contents changes no cell (R237). -/
theorem State.memWf.newRing (h : s.memWf) : ({ s with mem := s.mem.newRing } : State).memWf := h

/-- Fresh keys change no cell (R360). -/
theorem State.memWf.newKeys {seed} (h : s.memWf) : ({ s with mem := s.mem.newKeys seed } : State).memWf := h

/-- Clearing the SRAM leaves only cells of DRAM (R360). -/
theorem State.memWf.clearSram (h : s.memWf) : ({ s with mem := s.mem.clearSram } : State).memWf := cellsWf_filter _ _ h

theorem State.memWf.setCore {n c} (h : s.memWf) : (s.setCore n c).memWf := by rw [State.memWf, State.setCore_mem]; exact h

theorem State.memWf.switchTo {n} (h : s.memWf) : (s.switchTo n).memWf := by rw [State.memWf, State.switchTo_mem]; exact h

theorem State.memWf.onCore {n f} (h : s.memWf) (hf : ∀ s, s.memWf → (f s).memWf) : (s.onCore n f).memWf :=
  (hf _ h.switchTo).switchTo

end

end Sys2Proof.Machine
end

section
/-! PROOF. Memory stays in canonical form: parts of the state, memory, packets and task records. -/

namespace Sys2Proof.Machine

section
variable {s t : State}

/-! ### Changes of one part of the state (Machine/Base) -/

theorem State.memWf.modCore {f} (h : s.memWf) : (s.modCore f).memWf := h
theorem State.memWf.modT {f : TaskState → TaskState} (h : s.memWf) : (s.modT f).memWf := h
theorem State.memWf.modBundle {f} (h : s.memWf) : (s.modBundle f).memWf := h
theorem State.memWf.modSb {f} (h : s.memWf) : (s.modSb f).memWf := h.modT
theorem State.memWf.modSys {f} (h : s.memWf) : (s.modSys f).memWf := h.modT
theorem State.memWf.modComp {f} (h : s.memWf) : (s.modComp f).memWf := h.modT
theorem State.memWf.modMgmt {f} (h : s.memWf) : (s.modMgmt f).memWf := h
theorem State.memWf.modSched {f} (h : s.memWf) : (s.modSched f).memWf := h
theorem State.memWf.modXlat {f} (h : s.memWf) : (s.modXlat f).memWf := h
theorem State.memWf.modFabric {f} (h : s.memWf) : (s.modFabric f).memWf := h
theorem State.memWf.modPower {f} (h : s.memWf) : (s.modPower f).memWf := h
theorem State.memWf.tick (h : s.memWf) : s.tick.memWf := h

/-! ### Translation and the bytes of memory (Machine/Memory) -/

theorem State.memWf.poisonPa {pa} (h : s.memWf) : (s.poisonPa pa).memWf := h
theorem State.memWf.activate {pa} (h : s.memWf) : (s.activate pa).memWf := h.ite h
theorem State.memWf.walked {asid va} (h : s.memWf) : (s.walked asid va).memWf := h.foldl fun _ _ h => h.activate

theorem State.memWf.noteTlb {asid va} (h : s.memWf) : (s.noteTlb asid va).memWf := by
  unfold State.noteTlb
  split
  · refine h.ite ?_
    split
    · exact h.walked.modXlat
    · exact h
  · exact h

theorem State.memWf.touch {fuel win asid va n} (h : s.memWf) : (s.touch fuel win asid va n).memWf := by
  induction fuel generalizing s va n with
  | zero => exact h
  | succ f ih =>
    unfold State.touch
    refine h.ite (ih ?_)
    split
    · exact h.noteTlb.activate
    · exact h

theorem State.memWf.touchAll {l} (h : s.memWf) : (s.touchAll l).memWf := h.foldl fun _ _ h => h.touch

theorem State.memWf.agentWrite {win asid va bs need} (h : s.memWf) : OkWf (·) (s.agentWrite win asid va bs need) := by
  unfold State.agentWrite
  split
  · split
    · trivial
    · exact OkWf.ite trivial h.memStore.activate
  · trivial

theorem State.memWf.agentPut {asid k va bs} (h : s.memWf) : OkWf (·) (s.agentPut asid k va bs) := by
  induction k generalizing s va bs with
  | zero => exact h
  | succ j ih =>
    unfold State.agentPut
    split
    · trivial
    next e => exact ih (h.agentWrite.of_eq e)

theorem State.memWf.addRec {r} (h : s.memWf) : (s.addRec r).memWf := h.modXlat
theorem State.memWf.poisonedWrite {va pa} (h : s.memWf) : (s.poisonedWrite va pa).memWf := h.addRec

theorem State.memWf.homeWritePart {key va pa base runs} (h : s.memWf) : (s.homeWritePart key va pa base runs).memWf := by
  have stored : ({ s with mem := runs.foldl (fun m r => m.store key (base + r.1) r.2) s.mem } : State).memWf := Mem.wf_foldl_store _ _ _ _ h
  exact stored.activate.poisonedWrite.ite stored.activate

theorem State.memWf.homeWrite {key pa va bs} (h : s.memWf) : (s.homeWrite key pa va bs).memWf :=
  h.memStore.activate.poisonedWrite.ite h.memStore.activate

theorem State.memWf.agentPartial {win asid va bs} (h : s.memWf) : (s.agentPartial win asid va bs).memWf := by
  unfold State.agentPartial
  dsimp only
  split
  · exact h.ite h.memStore.activate.addRec
  · exact h

theorem State.memWf.agentWalkRec {asid f va wr task} (h : s.memWf) : (s.agentWalkRec asid f va wr task).memWf := by
  unfold State.agentWalkRec
  dsimp only
  split
  · exact h.addRec
  · exact h.addRec
  · exact h

theorem State.memWf.ctxWrite {asid va n v} (h : s.memWf) : (s.ctxWrite asid va n v).memWf := by
  unfold State.ctxWrite
  split
  next e => exact h.agentWrite.of_eq e
  · exact h.agentPartial
  · exact h.agentWalkRec

/-! ### Sending packets (Machine/Packet) -/

theorem State.memWf.setSrcFlow {f} (h : s.memWf) : (s.setSrcFlow f).memWf := h.modFabric

theorem State.memWf.emit {port p} (h : s.memWf) : (s.emit port p).memWf := by
  unfold State.emit
  split
  · exact h
  · exact h.modFabric

theorem State.memWf.send {sp owner source} (h : s.memWf) : (s.send sp owner source).memWf := h.setSrcFlow.emit
theorem State.memWf.sendMasked {sp skip} (h : s.memWf) : (s.sendMasked sp skip).memWf := h.send
theorem State.memWf.sendPlain {sp seq} (h : s.memWf) : (s.sendPlain sp seq).memWf := h.emit

/-! ### Task records, references and the end of a task (Machine/Records) -/

theorem State.memWf.setGlow {die g} (h : s.memWf) : (s.setGlow die g).memWf := h

theorem State.memWf.glowEvent {die type loc a b} (h : s.memWf) : (s.glowEvent die type loc a b).memWf := by
  unfold State.glowEvent
  dsimp only
  split
  · exact h
  · exact h.setGlow

theorem State.memWf.recSet {asid rec off n v} (h : s.memWf) : (s.recSet asid rec off n v).memWf := h.ctxWrite
theorem State.memWf.modRec {asid rec f} (h : s.memWf) : (s.modRec asid rec f).memWf := h.modSched
theorem State.memWf.noteImages (h : s.memWf) : s.noteImages.memWf := h.modSched
theorem State.memWf.makeReady {asid rec} (h : s.memWf) : (s.makeReady asid rec).memWf := h.recSet.modRec.noteImages

theorem State.memWf.tdec {asid rec k pin} (h : s.memWf) : (s.tdec asid rec k pin).2.memWf := by
  unfold State.tdec
  extract_lets old r s1 s2 s3
  have h2 : s2.memWf := h.recSet.recSet.ite h.recSet
  have ready : (s2.makeReady asid rec).memWf := h2.makeReady
  refine State.memWf.ite ?_ h2
  split
  · exact ready
  · exact ready.modRec.noteImages

theorem State.memWf.stopRec {id e1 epc} (h : s.memWf) : (s.stopRec id e1 epc).memWf := h.addRec

theorem State.memWf.kind4 {id core slot opnd elem wr st bundle va} (h : s.memWf) : (s.kind4 id core slot opnd elem wr st bundle va).memWf :=
  h.addRec

theorem State.memWf.dropRed {r st} (h : s.memWf) : (s.dropRed r st).memWf := (h.ite h.ctxWrite).addRec.modRec
theorem State.memWf.countField {asid off f} (h : s.memWf) : (s.countField asid off f).memWf := h.ite h.ctxWrite
theorem State.memWf.missOn {asid va w r} (h : s.memWf) : (s.missOn asid va w r).memWf := h.modXlat.ite h.modXlat.addRec.countField

theorem State.memWf.pokeSmall {v} (h : s.memWf) : (s.pokeSmall v).memWf := by
  unfold State.pokeSmall
  refine State.memWf.ite ?_ h
  split
  next e => exact h.agentPut.of_eq e
  · exact h

theorem State.memWf.pokeTask {id} (h : s.memWf) : (s.pokeTask id).memWf := h.forEach fun _ _ h => h.pokeSmall

theorem State.memWf.completeTag {id t1 bad} (h : s.memWf) : (s.completeTag id t1 bad).memWf :=
  (h.forEach fun _ _ h => h.setCore).modSched.pokeTask

theorem State.memWf.settleBarriers (h : s.memWf) : s.settleBarriers.memWf := (h.forEach fun _ _ h => h.completeTag).modSched
theorem State.memWf.modPort {d f} (h : s.memWf) : (s.modPort d f).memWf := h.modMgmt

theorem State.memWf.finishNow {asid rec} (h : s.memWf) : (s.finishNow asid rec).memWf := by
  unfold State.finishNow
  split
  · exact h
  extract_lets s1 nt s2 s3
  have h1 : s1.memWf := h.recSet.ite (h.recSet.ite h)
  have h2 : s2.memWf := h1.ite h1.tdec
  have h3 : s3.memWf := by
    dsimp only [s3]
    split
    · exact h2
    · exact h2.modPort
  exact h3.modSched

theorem State.memWf.forgetRecord {asid rec} (h : s.memWf) : (s.forgetRecord asid rec).memWf := h

theorem State.memWf.finish {asid rec k} (h : s.memWf) : (s.finish asid rec k).memWf := by
  unfold State.finish
  extract_lets quiet s1 s2
  have h1 : s1.memWf := by
    dsimp only [s1]
    split
    · exact h
    · exact h.recSet.ite h
    · exact h.recSet
  have h2 : s2.memWf := h1.forgetRecord.modRec
  exact h2.finishNow.ite h2

theorem State.memWf.modQueue {asid block f} (h : s.memWf) : (s.modQueue asid block f).memWf := h.modSched
theorem State.memWf.creditSpill (h : s.memWf) : s.creditSpill.memWf := h.modSched
theorem State.memWf.returnToken {asid k} (h : s.memWf) : (s.returnToken asid k).memWf := h.modQueue.creditSpill
theorem State.memWf.leaveGang {id} (h : s.memWf) : (s.leaveGang id).memWf := h.modSched.settleBarriers

theorem State.memWf.dropSavedOf {asid f} (h : s.memWf) : (s.dropSavedOf asid f).1.memWf := by
  unfold State.dropSavedOf
  dsimp only
  exact (h.forEach fun _ _ h => h.returnToken).modSched.forEach fun _ _ h => h.leaveGang

theorem State.memWf.dropRef {asid f} (h : s.memWf) : (s.dropRef asid f).1.memWf := by
  unfold State.dropRef
  extract_lets cons s1 st q refs s2
  have h1 : s1.memWf := h.recSet
  have hq : q.1.memWf := h1.dropSavedOf
  have h2 : s2.memWf := hq.modRec
  split
  · exact h1
  split
  · exact h2.forEach fun _ _ h => h.onCore fun _ h => h.modSys
  · dsimp only
    exact h2.modRec.finish

theorem State.memWf.dropRefs {asid fuel fs} (h : s.memWf) : (s.dropRefs asid fuel fs).memWf := by
  fun_induction State.dropRefs with
  | case1 => exact h
  | case2 => exact h
  | case3 _ _ _ _ _ ih => exact ih h.dropRef

theorem State.memWf.freeHeld (h : s.memWf) : s.freeHeld.memWf := (h.forEach fun _ _ h => h.returnToken).modCore.modSched.modT.leaveGang
theorem State.memWf.dropHeld (h : s.memWf) : s.dropHeld.memWf := h.modT.dropRefs
theorem State.memWf.modCluster {k f} (h : s.memWf) : (s.modCluster k f).memWf := h.modPower

theorem State.memWf.writeBackPart {l j} (h : s.memWf) : (s.writeBackPart l j).memWf := by
  unfold State.writeBackPart
  dsimp only
  split
  · exact h
  · split
    · exact h.homeWritePart
    · exact h.kind4.ite h.sendMasked

theorem State.memWf.writeBackLine {l} (h : s.memWf) : (s.writeBackLine l).memWf := h.forEach fun _ _ h => h.writeBackPart

theorem State.memWf.writeBackEach {ls} (h : s.memWf) : (s.writeBackEach ls).1.memWf := by
  refine h.foldlFst fun q l h => ?_
  split
  · exact h
  · exact h.writeBackLine

theorem State.memWf.writeBack {sel drop} (h : s.memWf) : (s.writeBack sel drop).memWf := h.writeBackEach.modCore
theorem State.memWf.flushL1 (h : s.memWf) : s.flushL1.memWf := h.writeBack
theorem State.memWf.drainPoint {m} (h : s.memWf) : (s.drainPoint m).memWf := h.flushL1.modCluster.modCore

theorem State.memWf.memberEnds {id k} (h : s.memWf) : (s.memberEnds id k).memWf := by
  unfold State.memberEnds
  dsimp only
  split
  · exact h.modRec
  · exact h.modRec.finish.ite h.modRec

theorem State.memWf.leaveCommands (h : s.memWf) : s.leaveCommands.memWf := h.ite h.modSched.modT

theorem State.memWf.stopTask {e1 epc} (h : s.memWf) : (s.stopTask e1 epc).memWf := by
  unfold State.stopTask
  exact h.recSet.freeHeld.dropHeld.stopRec.leaveCommands.drainPoint.memberEnds

/-! ### Flags (Machine/Flags) -/

theorem State.memWf.countSat {t1 n} (h : s.memWf) : (s.countSat t1 n).memWf := h.ite h.modBundle
theorem State.memWf.census {t1 h1} (h : s.memWf) : (s.census t1 h1).memWf := h.modBundle
theorem State.memWf.useRandom (h : s.memWf) : s.useRandom.memWf := h.modBundle
theorem State.memWf.setVflags {m} (h : s.memWf) : (s.setVflags m).memWf := h.modSys

end

end Sys2Proof.Machine
end

section
/-! PROOF. Memory stays in canonical form: registers, traps, loads and stores, and the scalar and vector instructions of a core. -/

namespace Sys2Proof.Machine

section
variable {s t : State}

/-! ### Registers, traps, loads and stores of a core (Machine/Ops) -/

theorem State.memWf.setX {r v n} (h : s.memWf) : (s.setX r v n).memWf := h.ite h.modT
theorem State.memWf.setS {r v n} (h : s.memWf) : (s.setS r v n).memWf := h.setX
theorem State.memWf.setPair {r v n} (h : s.memWf) : (s.setPair r v n).memWf := h.setX.setX
theorem State.memWf.setP {r v n} (h : s.memWf) : (s.setP r v n).memWf := h.ite h.modT
theorem State.memWf.setV {r v n} (h : s.memWf) : (s.setV r v n).memWf := h.modT
theorem State.memWf.renewV {r m} (h : s.memWf) : (s.renewV r m).memWf := h.modT
theorem State.memWf.when {g} {f : State → State} (h : s.memWf) (hf : ∀ s, s.memWf → (f s).memWf) : (s.when g f).memWf := (hf _ h).ite h
theorem State.memWf.hold (h : s.memWf) : s.hold.memWf := h
theorem State.memWf.waitHere (h : s.memWf) : s.waitHere.memWf := h

theorem State.memWf.landFar {f} (h : s.memWf) : (s.landFar f).memWf := by
  unfold State.landFar
  dsimp only
  split
  · exact h.modT.setX
  · exact h.modT.setPair
  · exact h.modT.modT
  · exact h.modT.setP
  · exact (h.modT.setPair.ite h.modT.setX).setP

theorem State.memWf.landNth {k} (h : s.memWf) : (s.landNth k).memWf := by
  unfold State.landNth
  split
  · exact h
  · exact h.modSb.landFar

theorem State.memWf.landReady {l} (h : s.memWf) : (s.landReady l).memWf := by
  induction l generalizing s with
  | nil => exact h
  | cons f r ih =>
    unfold State.landReady
    split
    · exact h
    · exact ih h.landNth

theorem State.memWf.settle (h : s.memWf) : s.settle.memWf := h.landReady.modSb
theorem State.memWf.noteEpc {epc} (h : s.memWf) : (s.noteEpc epc).memWf := h.modSys
theorem State.memWf.noteFault {e1 epc} (h : s.memWf) : (s.noteFault e1 epc).memWf := h.modSys.modT

theorem State.memWf.enterTrap {e1 epc} (h : s.memWf) : (s.enterTrap e1 epc).memWf := by
  unfold State.enterTrap
  refine h.stopTask.ite ?_
  dsimp only
  split
  · exact h.noteFault.stopTask
  · exact h.noteFault.modSys.modT

theorem State.memWf.trapOrWait {e1 epc} (h : s.memWf) : (s.trapOrWait e1 epc).memWf := h.settle.modCore.ite h.settle.enterTrap
theorem State.memWf.startSave {reason fault} (h : s.memWf) : (s.startSave reason fault).memWf := h.settle.modSched.modCore
theorem State.memWf.takeMiss {e1 epc} (h : s.memWf) : (s.takeMiss e1 epc).memWf := h.hold.ite h.missOn.noteEpc.startSave

theorem State.memWf.takeFeature {e1 epc} (h : s.memWf) : (s.takeFeature e1 epc).memWf :=
  (h.noteFault.recSet.forEach fun _ _ h => h.onCore fun _ h => h.modSys).startSave

theorem State.memWf.takeException {e1 epc} (h : s.memWf) : (s.takeException e1 epc).memWf := by
  unfold State.takeException
  split
  · exact h.takeMiss
  · exact h.trapOrWait.ite h.takeFeature
  · exact h.glowEvent.trapOrWait
  · split
    · exact h.kind4.trapOrWait
    · exact h.trapOrWait

theorem State.memWf.raise {e1} (h : s.memWf) : (s.raise e1).memWf := h.takeException.modBundle.modCore
theorem State.memWf.fault {c opnd} (h : s.memWf) : (s.fault c opnd).memWf := h.raise
theorem State.memWf.faultAt {c opnd a} (h : s.memWf) : (s.faultAt c opnd a).memWf := h.raise
theorem State.memWf.returnFromTrap (h : s.memWf) : s.returnFromTrap.memWf := h.modSys.modT

theorem State.memWf.askFor {sp poison} (h : s.memWf) : BothWf AccErr.memWf Prod.snd (s.askFor sp poison) := by
  unfold State.askFor
  dsimp only
  split
  · split
    · exact BothWf.ite trivial h
    · trivial
  · exact BothWf.ite trivial h.send.modCore

theorem State.memWf.l1Add {n} (h : s.memWf) : (s.l1Add n).memWf := by
  unfold State.l1Add
  refine State.memWf.modCore ?_
  split
  · exact h
  · exact h.writeBack

theorem State.memWf.askFill {l p va pref} (h : s.memWf) : SomeWf Prod.snd (s.askFill l p va pref) := by
  unfold State.askFill
  dsimp only
  split
  · exact h
  · exact SomeWf.ite trivial h.send.modCore

theorem State.memWf.loadRemote {l p va n opA opP elem} (h : s.memWf) :
    BothWf AccErr.memWf Loaded.state (s.loadRemote l p va n opA opP elem) := by
  unfold State.loadRemote
  refine BothWf.ite (BothWf.ite trivial (State.memWf.noteTlb h)) (BothWf.ite trivial ?_)
  split
  · trivial
  next e => exact BothWf.ite (h.noteTlb.askFill.of_eq e) (h.noteTlb.askFill.of_eq e)

theorem State.memWf.load {va n opA opP elem} (h : s.memWf) : BothWf AccErr.memWf Loaded.state (s.load va n opA opP elem) := by
  unfold State.load
  dsimp only
  split
  · refine BothWf.ite (BothWf.ite trivial h) ?_
    split
    · exact h.loadRemote
    · split
      · exact BothWf.ite trivial h.noteTlb
      · exact BothWf.ite trivial (BothWf.ite trivial h.noteTlb.activate.l1Add)
  · trivial

theorem State.memWf.storeInto {own va bs opA elem} (h : s.memWf) : BothWf AccErr.memWf Prod.fst (s.storeInto own va bs opA elem) := by
  unfold State.storeInto
  split
  · exact BothWf.ite h (BothWf.ite trivial h.noteTlb.l1Add)
  · trivial

theorem State.memWf.storeOwn {own} (h : s.memWf) : (s.storeOwn own).memWf := h.memStoreAll.forEach fun _ _ h => h.poisonedWrite

theorem State.memWf.store {va bs opA elem} (h : s.memWf) : BothWf AccErr.memWf (·) (s.store va bs opA elem) := by
  unfold State.store
  dsimp only
  split
  · exact BothWf.ite h.homeWrite (BothWf.ite trivial h.noteTlb.l1Add)
  · trivial

theorem State.memWf.accFail {e} (h : s.memWf) (k : e.memWf) : (s.accFail e).memWf := by
  cases e with
  | exc x => exact h.raise
  | wait => exact h.hold
  | held t => exact State.memWf.hold k

theorem State.memWf.homeRead {va n opA opP} (h : s.memWf) : BothWf AccErr.memWf Prod.snd (s.homeRead va n opA opP) := by
  unfold State.homeRead
  dsimp only
  split
  · split
    · exact BothWf.ite (BothWf.ite trivial h) (BothWf.ite trivial h.noteTlb.activate.modCore)
    · refine BothWf.ite trivial ?_
      split
      next e => exact BothWf.error (h.askFor.of_error e)
      next e => exact (h.askFor.of_ok e).noteTlb.modCore
  · trivial

theorem State.memWf.addFarParts {val exc ext parts} (h : s.memWf) : (s.addFarParts val exc ext parts).memWf := h.modT
theorem State.memWf.addFar {val exc ext} (h : s.memWf) : (s.addFar val exc ext).memWf := h.addFarParts
theorem State.memWf.deliverX {d l e1 ext} (h : s.memWf) : (s.deliverX d l e1 ext).memWf := h.addFarParts.ite h.setX
theorem State.memWf.deliverPair {d l e1} (h : s.memWf) : (s.deliverPair d l e1).memWf := h.addFarParts.ite h.setPair
theorem State.memWf.deliverFar {d v va} (h : s.memWf) : (s.deliverFar d v va).memWf := h.addFar
theorem State.memWf.release {obj} (h : s.memWf) : (s.release obj).memWf := h.writeBack

theorem State.memWf.afterWrites {u : State} {f : State → State} (h : s.memWf) (hf : ∀ s, s.memWf → (f s).memWf) :
    (u.afterWrites s f).memWf :=
  h.hold.ite (hf _ h)

theorem State.memWf.afterFlush {f : State → State} (h : s.memWf) (hf : ∀ s, s.memWf → (f s).memWf) : (s.afterFlush f).memWf :=
  h.hold.ite (hf _ h)

theorem State.memWf.acquire {obj} (h : s.memWf) : (s.acquire obj).memWf := h.writeBack
theorem State.memWf.releaseAll (h : s.memWf) : s.releaseAll.memWf := h.writeBack

/-! ### The completion of a bundle (Machine/Bundle) -/

theorem State.memWf.scw {w} (h : s.memWf) : (s.scw w).memWf := h.takeException.ite (h.modCore.modT.takeException.ite h.modCore.modT)
theorem State.memWf.headLogic {h1} (h : s.memWf) : (s.headLogic h1).memWf := h.ite h.setP
theorem State.memWf.renewed {h1} (h : s.memWf) : (s.renewed h1).memWf := h.ite h.modT
theorem State.memWf.completeWith {h1} (h : s.memWf) : (s.completeWith h1).memWf := h.headLogic.modT.modT.renewed.modSb.modCore
theorem State.memWf.completeBundle (h : s.memWf) : s.completeBundle.memWf := h.completeWith

theorem State.memWf.endBundle (h : s.memWf) : s.endBundle.memWf := by
  unfold State.endBundle
  refine h.ite (h.completeBundle.modT.ite ?_)
  split
  · exact h.completeBundle
  · exact h.completeBundle.trapOrWait

theorem State.memWf.completeUntested (h : s.memWf) : s.completeUntested.memWf := h.completeBundle.modT
theorem State.memWf.beginBundle {d} (h : s.memWf) : (s.beginBundle d).memWf := by simpa only [State.memWf, State.beginBundle] using h

/-! ### Scalar results (Machine/Scalar) -/

theorem State.memWf.putX {g d v n} (h : s.memWf) : (s.putX g d v n).memWf := h.when fun _ h => h.setX
theorem State.memWf.putP {g p v} (h : s.memWf) : (s.putP g p v).memWf := h.when fun _ h => h.setP

/-! ### Scalar loads and stores (Machine/ScalarMem) -/

theorem State.memWf.scalarLoad {g t1 b o n ext} (h : s.memWf) : (s.scalarLoad g t1 b o n ext).memWf := by
  unfold State.scalarLoad
  refine h.when fun s h => h.faultAt.ite ?_
  split
  next e => exact h.accFail (h.load.of_error e)
  next e => exact (h.load.of_ok e).deliverX

theorem State.memWf.scalarStore {g t1 b o n} (h : s.memWf) : (s.scalarStore g t1 b o n).memWf := by
  unfold State.scalarStore
  refine h.when fun s h => h.faultAt.ite ?_
  split
  next e => exact h.accFail (h.store.of_error e)
  next e => exact h.store.of_ok e

theorem execLdq_memWf {g t1 b o} (h : s.memWf) : (execLdq g t1 b o s).memWf := by
  unfold execLdq
  refine h.when fun s h => h.faultAt.ite ?_
  split
  next e => exact h.accFail (h.load.of_error e)
  next e => exact (h.load.of_ok e).deliverPair

theorem execStq_memWf {g t1 b o} (h : s.memWf) : (execStq g t1 b o s).memWf := by
  unfold execStq
  refine h.when fun s h => h.faultAt.ite ?_
  split
  next e => exact h.accFail (h.store.of_error e)
  next e => exact h.store.of_ok e

theorem execZln_memWf {g b o} (h : s.memWf) : (execZln g b o s).memWf := by
  unfold execZln
  refine h.when fun s h => h.faultAt.ite ?_
  split
  next e => exact h.accFail (h.store.of_error e)
  next e => exact h.store.of_ok e

/-! ### Jumps and loops (Machine/Control) -/

theorem State.memWf.setRedirect {r} (h : s.memWf) : (s.setRedirect r).memWf := h.modBundle
theorem State.memWf.branchTo {a opnd} (h : s.memWf) : (s.branchTo a opnd).memWf := h.setRedirect.ite h.faultAt
theorem State.memWf.jumpTo {w} (h : s.memWf) : (s.jumpTo w).memWf := h.faultAt.ite h.branchTo
theorem State.memWf.linked {u : State} {d} (h : s.memWf) : (u.linked s d).memWf := h.ite h.setX

theorem State.memWf.startLoop {k len total limit stages} (h : s.memWf) : (s.startLoop k len total limit stages).memWf := by
  unfold State.startLoop
  refine h.fault.ite (h.fault.ite (h.fault.ite (h.faultAt.ite ((h.faultAt.ite h.modT.setRedirect).ite ?_))))
  dsimp only
  split <;> exact h.modT.setRedirect

/-! ### Vector arithmetic (Machine/VecAlu) -/

theorem State.memWf.putV {m d v n} (h : s.memWf) : (s.putV m d v n).memWf := h.ite h.setV.renewV
theorem State.memWf.putLanes {g w d n f} (h : s.memWf) : (s.putLanes g w d n f).memWf := h.putV
theorem State.memWf.vbin {g w d a b n f} (h : s.memWf) : (s.vbin g w d a b n f).memWf := h.putLanes
theorem State.memWf.vun {g w d a n f} (h : s.memWf) : (s.vun g w d a n f).memWf := h.putLanes
theorem State.memWf.vcmp {g w p a b f} (h : s.memWf) : (s.vcmp g w p a b f).memWf := h.ite h.setP

/-! ### Vector conversion (Machine/VecConv) -/

theorem State.memWf.useIf {mode m} (h : s.memWf) : (s.useIf mode m).memWf := h.useRandom.ite h
theorem State.memWf.vred {g w d a b m ident op} (h : s.memWf) : (s.vred g w d a b m ident op).memWf := h.setV.renewV
theorem State.memWf.pushRq {e1} (h : s.memWf) : (s.pushRq e1).memWf := h.modComp

/-! ### Vector streams (Machine/VecSpecial) -/

theorem State.memWf.setStream {n bs} (h : s.memWf) : (s.setStream n bs).memWf := h.modT
theorem State.memWf.dropStream {n k} (h : s.memWf) : (s.dropStream n k).memWf := h.setStream.modT

theorem execVspush_memWf {g w n a} (h : s.memWf) : (execVspush g w n a s).memWf := by
  unfold execVspush
  dsimp only
  split
  · exact h.raise
  · exact h.ite h.setStream

/-! ### Vector routines (Machine/Routines) -/

theorem State.memWf.routine {g} {w} {bad} {srcs} {f : State → State} (h : s.memWf) (hf : ∀ s, s.memWf → (f s).memWf) :
    (s.routine g w bad srcs f).memWf := by
  unfold State.routine
  refine h.fault.ite (h.ite ?_)
  split
  · exact h.raise
  · exact hf _ h

theorem execVexp_memWf {g d a b} (h : s.memWf) : (execVexp g d a b s).memWf := by
  unfold execVexp
  exact h.routine fun _ h => h.putV

theorem execVrcp_memWf {g d a b} (h : s.memWf) : (execVrcp g d a b s).memWf := by
  unfold execVrcp
  exact h.routine fun _ h => h.putV.setVflags.ite h.putV

theorem execVrsq_memWf {g d a b} (h : s.memWf) : (execVrsq g d a b s).memWf := by
  unfold execVrsq
  exact h.routine fun _ h => h.putV.setVflags.ite h.putV

theorem execVdiv_memWf {g d a b} (h : s.memWf) : (execVdiv g d a b s).memWf := by
  unfold execVdiv
  exact h.routine fun _ h => h.putV.setVflags.ite h.putV

theorem execVopt_memWf {g d a b} (h : s.memWf) : (execVopt g d a b s).memWf := by
  unfold execVopt
  refine h.routine fun s h => ?_
  extract_lets ls act on s1 optp s2
  have h2 : s2.memWf := h.putV.putV.putV.countSat.countSat.countSat
  exact h2.setVflags.ite h2

/-! ### Vector loads and stores (Machine/VecMem) -/

theorem State.memWf.loadElems {e al addr on} (h : s.memWf) : BothWf AccErr.memWf VLoaded.state (s.loadElems e al addr on) := by
  induction on generalizing s with
  | nil => exact h
  | cons i r ih =>
    unfold State.loadElems
    refine BothWf.ite trivial ?_
    split
    next e => exact BothWf.error (h.load.of_error e)
    next l e =>
      have hl : l.state.memWf := h.load.of_ok e
      split
      · split
        · trivial
        · exact hl
      next e => exact BothWf.error ((ih hl).of_error e)
      next q e =>
        have hq : q.state.memWf := (ih hl).of_ok e
        exact hq

theorem State.memWf.partLines {e1 addr on} (h : s.memWf) : (s.partLines e1 addr on).memWf := by
  unfold State.partLines
  split
  · exact h
  · exact h.modCore

theorem State.memWf.loadVec {e1 al addr on} (h : s.memWf) : BothWf AccErr.memWf VLoaded.state (s.loadVec e1 al addr on) :=
  h.partLines.loadElems

theorem State.memWf.storeElems {own al addr val on} (h : s.memWf) : BothWf AccErr.memWf (·) (s.storeElems own al addr val on) := by
  induction on generalizing s own with
  | nil => exact h.storeOwn
  | cons i r ih =>
    unfold State.storeElems
    refine BothWf.ite trivial ?_
    split
    next e => exact BothWf.error (h.storeInto.of_error e)
    next e => exact ih (h.storeInto.of_ok e)

theorem State.memWf.vload {g w d addr} (h : s.memWf) : (s.vload g w d addr).memWf := by
  unfold State.vload
  refine Out.memWf.ite h ?_
  dsimp only
  split
  next e => exact h.accFail (h.loadVec.of_error e)
  next e => exact (h.loadVec.of_ok e).addFarParts.ite (h.loadVec.of_ok e).putV

theorem State.memWf.vstore {g w d addr} (h : s.memWf) : (s.vstore g w d addr).memWf := by
  unfold State.vstore
  dsimp only
  split
  next e => exact h.accFail (h.storeElems.of_error e)
  next e => exact h.storeElems.of_ok e

theorem State.memWf.tile {w} {base} {p} {f : State → Out} (h : s.memWf) (hf : ∀ s, s.memWf → (f s).memWf) : (s.tile w base p f).memWf :=
  Out.memWf.ite h.fault (Out.memWf.ite h.faultAt (hf _ h))

theorem execVldb_memWf {g w d a b} (h : s.memWf) : (execVldb g w d a b s).memWf := by
  unfold execVldb
  dsimp only
  split
  · exact h
  · split
    next e => exact h.accFail (h.loadVec.of_error e)
    next e => exact (h.loadVec.of_ok e).addFarParts.ite (h.loadVec.of_ok e).putV

theorem execVldp_memWf {g p a b} (h : s.memWf) : (execVldp g p a b s).memWf := by
  unfold execVldp
  refine h.when fun s h => ?_
  dsimp only
  split
  next e => exact h.accFail (h.loadVec.of_error e)
  next e => exact (h.loadVec.of_ok e).addFarParts.ite (h.loadVec.of_ok e).setP

theorem execVstp_memWf {g p a b} (h : s.memWf) : (execVstp g p a b s).memWf := by
  unfold execVstp
  refine h.when fun s h => ?_
  dsimp only
  split
  next e => exact h.accFail (h.storeElems.of_error e)
  next e => exact h.storeElems.of_ok e

end

end Sys2Proof.Machine
end

section
/-! PROOF. Memory stays in canonical form: collectives, matrix engines and copy engines. -/

namespace Sys2Proof.Machine

section
variable {s t : State}

/-! ### What the engines share (Machine/Engines) -/

theorem State.memWf.engWriteLine {eng owner from' asid va bs} (h : s.memWf) : OkWf (·) (s.engWriteLine eng owner from' asid va bs) := by
  unfold State.engWriteLine
  split
  · split
    · exact h.noteTlb.homeWrite.modCore
    · exact OkWf.ite trivial (OkWf.ite trivial h.noteTlb.send.modCore)
  · trivial

theorem State.memWf.askLine {eng tc asid pkg key pa} (h : s.memWf) : SomeWf (·) (s.askLine eng tc asid pkg key pa) :=
  SomeWf.ite trivial h.send

theorem State.memWf.engMiss {p before} (h : s.memWf) : SomeWf Prod.fst (s.engMiss p before) :=
  (SomeWf.ite SomeWf.none (SomeWf.fst h)).ite (SomeWf.fst h.missOn)

theorem State.memWf.engEndRec {p st} (h : s.memWf) : (s.engEndRec p st).memWf := h.addRec.ite h

theorem State.memWf.modTask {id} {f : TaskState → TaskState} (h : s.memWf) : (s.modTask id f).memWf :=
  (h.forEach fun _ _ h => h.setCore).modSched

theorem State.memWf.setBarrier {n off b} (h : s.memWf) : (s.setBarrier n off b).memWf := h.memStore
theorem State.memWf.barsDone {bs} (h : s.memWf) : (s.barsDone bs).memWf := h.forEach fun _ _ h => h.setBarrier
theorem State.memWf.closeHere {c bad} (h : s.memWf) : (s.closeHere c bad).memWf := h.barsDone.modCore.modT
theorem State.memWf.dropWrittenOf {id seq} (h : s.memWf) : (s.dropWrittenOf id seq).memWf := h.forEach fun _ _ h => h.setCore

theorem State.memWf.pokeSlot {v c i} (h : s.memWf) : SomeWf (·) (s.pokeSlot v c i) := by
  unfold State.pokeSlot
  dsimp only
  split
  · trivial
  · split
    · trivial
    next e => exact h.agentWrite.of_eq e

theorem State.memWf.pokeBar {v off} (h : s.memWf) : SomeWf (·) (s.pokeBar v off) := by
  unfold State.pokeBar
  dsimp only
  split
  · trivial
  · split
    · trivial
    next e => exact h.agentWrite.of_eq e

theorem State.memWf.owe {v f} (h : s.memWf) : (s.owe v f).memWf := h.modSched

theorem State.memWf.lateSlots {v c} (h : s.memWf) : (s.lateSlots v c).memWf := by
  unfold State.lateSlots
  refine h.forEach fun _ s h => ?_
  split
  next e => exact (h.pokeSlot.ite SomeWf.none).of_eq e
  · exact h.owe.ite h

theorem State.memWf.lateBar {v b} (h : s.memWf) : (s.lateBar v b).memWf := by
  unfold State.lateBar
  refine h.setBarrier.ite (h.ite ?_)
  split
  next e => exact (h.pokeBar.ite SomeWf.none).of_eq e
  · exact h.owe

theorem State.memWf.lateEffects {v c} (h : s.memWf) : (s.lateEffects v c).memWf := (h.lateSlots.forEach fun _ _ h => h.lateBar).pokeTask

theorem State.memWf.closeFor {id c bad} (h : s.memWf) : (s.closeFor id c bad).memWf := by
  unfold State.closeFor
  split
  · exact h.modTask.lateEffects
  · exact h.barsDone.dropWrittenOf.modTask

theorem State.memWf.closeCommand {late c bad} (h : s.memWf) : (s.closeCommand late c bad).memWf := by
  unfold State.closeCommand
  split
  · exact h.closeHere
  · exact h.modT.lateEffects

/-- The state that a written or sent completion word leaves has memory in canonical form. -/
def WordOut.memWf (o : WordOut) : Prop :=
  match o with
  | .written s => s.memWf
  | .sent s => s.memWf
  | _ => True

theorem WordOut.memWf.of_written {o : WordOut} (h : o.memWf) (e : o = .written s) : s.memWf := by subst e; exact h

theorem WordOut.memWf.of_sent {o : WordOut} (h : o.memWf) (e : o = .sent s) : s.memWf := by subst e; exact h

theorem State.memWf.putWord {asid a v w} (h : s.memWf) : (s.putWord asid a v w).memWf := by
  unfold State.putWord
  split
  · split
    · split
      · trivial
      · exact h.noteTlb.homeWrite.modCore
    · split
      · trivial
      · split
        · trivial
        · exact h.noteTlb.send.modCore
  · split <;> trivial

theorem State.memWf.parkWord {w} (h : s.memWf) : (s.parkWord w).memWf := h.modXlat

theorem State.memWf.endCommand {d late} (h : s.memWf) : SomeWf (·) (s.endCommand d late) := by
  unfold State.endCommand
  split
  · exact h.closeCommand
  next a v _ =>
    dsimp only
    split
    next e => exact (h.putWord.of_written e).closeCommand
    next e => exact h.putWord.of_sent e
    · exact h.parkWord
    · exact SomeWf.ite .none h.missOn
    · exact h.addRec.closeCommand

theorem notEnabled_memWf {name} : (notEnabled name).memWf := by
  unfold notEnabled
  trivial

theorem SomeWf.enabledOr {name o} (h : SomeWf (·) o) : (enabledOr name o).memWf := by
  unfold Machine.enabledOr
  split
  · exact h
  · trivial

theorem State.memWf.asSaved {v} {f : State → Option State} (h : s.memWf) (hf : ∀ s, s.memWf → SomeWf (·) (f s)) :
    SomeWf (·) (s.asSaved v f) := by
  refine SomeWf.map (hf _ ?_) fun t k => State.memWf.pokeTask (State.memWf.modSched ?_)
  · exact h
  · exact k

theorem State.memWf.orSaved {p} {f : Saved → State → Option State} (h : s.memWf) (hf : ∀ v s, s.memWf → SomeWf (·) (f v s)) :
    SomeWf (·) (s.orSaved p f) :=
  SomeWf.findSome fun v => h.asSaved (hf v)

theorem State.memWf.asTask {id} {core} {f : State → Option State} (h : s.memWf) (hf : ∀ s, s.memWf → SomeWf (·) (f s)) :
    SomeWf (·) (s.asTask id core f) := by
  unfold State.asTask
  dsimp only
  split
  · exact (hf _ h.switchTo).map fun _ h => h.switchTo
  · exact (h.switchTo.asSaved fun _ h => hf _ h).map fun _ h => h.switchTo

theorem State.memWf.atCore {n name} {f : State → Option State} (h : s.memWf) (hf : ∀ s, s.memWf → SomeWf (·) (f s)) :
    (s.atCore n name f).memWf :=
  Out.memWf.ite trivial (SomeWf.map (hf _ h.switchTo) fun _ h => h.switchTo).enabledOr

theorem State.memWf.atEngine {n} {name} {f : State → Option State} (h : s.memWf) (hf : ∀ s, s.memWf → SomeWf (·) (f s)) :
    (s.atEngine n name f).memWf := by
  unfold State.atEngine
  refine h.atCore fun s h => ?_
  split
  next e => exact (hf _ h).of_eq e
  · exact h.orSaved fun _ _ h => hf _ h

/-! ### Collectives (Machine/Collect) -/

theorem State.memWf.setColl {n c} (h : s.memWf) : (s.setColl n c).memWf := h
theorem State.memWf.setCollRun {n r} (h : s.memWf) : (s.setCollRun n r).memWf := h.setColl

theorem State.memWf.netWriteLine {eng owner asid va bs} (h : s.memWf) : OkWf (·) (s.netWriteLine eng owner asid va bs) := by
  unfold State.netWriteLine
  split
  · split
    · exact h.noteTlb.homeWrite
    · exact OkWf.ite trivial (OkWf.ite trivial h.send)
  · trivial

theorem State.memWf.netWrite {fuel eng owner asid va bs} (h : s.memWf) : OkWf (·) (s.netWrite fuel eng owner asid va bs) := by
  induction fuel generalizing s va bs with
  | zero => exact h
  | succ f ih =>
    unfold State.netWrite
    refine OkWf.ite h ?_
    dsimp only
    split
    · trivial
    next e => exact ih (h.netWriteLine.of_eq e)

theorem State.memWf.collRec {r m kind st} (h : s.memWf) : (s.collRec r m kind st).memWf := h.addRec

theorem State.memWf.collFailed {n r f va opnd wr} (h : s.memWf) : SomeWf (·) (s.collFailed n r f va opnd wr) := by
  unfold State.collFailed
  dsimp only
  split
  · exact SomeWf.ite h.setCollRun h.missOn.setCollRun
  · exact (h.collRec.ite h).setCollRun
  · exact h.askLine.map fun _ h => h.setCollRun
  · trivial

theorem State.memWf.collMoved {n x} (h : SomeWf (·) x) : SomeWf (·) (s.collMoved n x) := h.filter
theorem State.memWf.touchChunk {r b c} (h : s.memWf) : (s.touchChunk r b c).memWf := h.touch

theorem State.memWf.settleChunk {n r b c sum members sats} (h : s.memWf) : OkWf (·) (s.settleChunk n r b c sum members sats) := by
  unfold State.settleChunk
  refine OkWf.ite ?_ h.setCollRun
  dsimp only
  split
  · trivial
  next e => exact (h.netWrite.of_eq e).setCollRun

theorem State.memWf.takeChunk {n r b c data members} (h : s.memWf) : OkWf (·) (s.takeChunk n r b c data members) := by
  unfold State.takeChunk
  dsimp only
  split
  · exact (OkWf.ite (OkWf.mk h) h.settleChunk).ite (h.settleChunk.ite (h.settleChunk.ite (h.settleChunk.ite (OkWf.mk h))))
  · refine h.settleChunk.ite ?_
    split
    · trivial
    · exact h.touchChunk.settleChunk

theorem State.memWf.beginChunk {n r b c} (h : s.memWf) : OkWf (·) (s.beginChunk n r b c) := by
  unfold State.beginChunk
  split
  · trivial
  · exact h.touchChunk.settleChunk

theorem State.memWf.collTried {n r x} (h : s.memWf) (k : OkWf (·) x) : SomeWf (·) (s.collTried n r x) := by
  unfold State.collTried
  split
  · exact k
  · exact h.collFailed

theorem State.memWf.sendChunk {n r} (h : s.memWf) : SomeWf (·) (s.sendChunk n r) := by
  unfold State.sendChunk
  split
  · trivial
  · split
    · trivial
    · exact h.send.setCollRun

theorem State.memWf.takeEarly {n r ready} (h : s.memWf) : SomeWf (·) (s.takeEarly n r ready) := by
  unfold State.takeEarly
  dsimp only
  split
  · trivial
  · exact SomeWf.ite h.setCollRun.setColl ((h.collFailed.map fun _ h => h.setColl).ite
      (h.collTried (h.tick.takeChunk.map fun _ h => h.setColl)))

theorem State.memWf.startOwn {n r ready} (h : s.memWf) : SomeWf (·) (s.startOwn n r ready) := by
  unfold State.startOwn
  dsimp only
  split
  · trivial
  · exact h.collTried h.beginChunk

theorem State.memWf.readyBits {n r} (h : s.memWf) : BothWf (SomeWf (·)) Prod.fst (s.readyBits n r) := by
  unfold State.readyBits
  dsimp only
  split
  · exact h.touch.setCollRun
  · exact h
  · exact BothWf.ite (BothWf.error (SomeWf.none.ite h.collFailed)) h
  · exact h.collFailed

theorem State.memWf.collOnce {n} (h : s.memWf) : SomeWf (·) (s.collOnce n) := by
  refine State.memWf.collMoved ?_
  split
  · trivial
  refine SomeWf.none.ite ?_
  split
  next e => exact h.sendChunk.of_eq e
  split
  next e => exact h.readyBits.of_error e
  next s1 r1 ready e =>
    have h1 : s1.memWf := h.readyBits.of_ok e
    split
    next e => exact h1.takeEarly.of_eq e
    split
    next e => exact h1.startOwn.of_eq e
    exact SomeWf.none.ite h1

theorem State.memWf.collGo {n fuel} (h : s.memWf) : (s.collGo n fuel).memWf := by
  induction fuel generalizing s with
  | zero => exact h
  | succ k ih =>
    unfold State.collGo
    split
    · exact h
    next e => exact ih (h.collOnce.of_eq e)

theorem State.memWf.collTick {n} (h : s.memWf) : (s.collTick n).memWf := h.collGo
theorem State.memWf.tickHandle {pa} (h : s.memWf) : (s.tickHandle pa).memWf := h.forEach fun _ _ h => h.collTick

/-! ### Matrix instructions (Machine/Matrix) -/

theorem State.memWf.whenRoom {e1} {f : State → State} (h : s.memWf) (hf : ∀ s, s.memWf → (f s).memWf) : (s.whenRoom e1 f).memWf :=
  (hf _ h).ite h.hold

theorem State.memWf.queueMat {e1 c reads writes} (h : s.memWf) : (s.queueMat e1 c reads writes).memWf := h.modT

theorem State.memWf.issueCall {gang r c p e1} (h : s.memWf) : (s.issueCall gang r c p e1).memWf := by
  unfold State.issueCall
  refine h.hold.ite (h.fault.ite (h.fault.ite (h.fault.ite (h.fault.ite ?_))))
  split
  · exact h.raise
  · extract_lets base foot s1 s2
    have h2 : s2.memWf := State.memWf.ite h.queueMat.modT h.queueMat
    exact h2.modComp.ite h2

theorem State.memWf.specCmd {e1 k v} (h : s.memWf) : (s.specCmd e1 k v).memWf := h.queueMat.modT

/-! ### Matrix engines (Machine/MatrixEngine) -/

theorem State.memWf.wrSpan {fuel eng owner from' va bs} (h : s.memWf) : OkWf (·) (s.wrSpan fuel eng owner from' va bs) := by
  induction fuel generalizing s va bs with
  | zero => exact h
  | succ f ih =>
    unfold State.wrSpan
    refine OkWf.ite h ?_
    dsimp only
    split
    · trivial
    next e => exact ih (h.engWriteLine.of_eq e)

theorem State.memWf.modMe {e1 f} (h : s.memWf) : (s.modMe e1 f).memWf := h.modT
theorem State.memWf.setRun {e1 r} (h : s.memWf) : (s.setRun e1 r).memWf := h.modMe
theorem State.memWf.mrpClear {e1} (h : s.memWf) : (s.mrpClear e1).memWf := h.modMe
theorem State.memWf.endMat {e1 r st} (h : s.memWf) : (s.endMat e1 r st).memWf := h.mrpClear.setRun

theorem State.memWf.matFailed {e1 r f p pipe moved} (h : s.memWf) : SomeWf (·) (s.matFailed e1 r f p pipe moved) := by
  unfold State.matFailed
  dsimp only
  split
  · refine h.engMiss.map fun _ h => ?_
    split
    · exact h.setRun
    · exact h.setRun.modMe
  · exact h.engEndRec.endMat
  · exact h.askLine.map fun _ h => h.setRun
  · exact SomeWf.ite h.setRun trivial

theorem State.memWf.stagingLoad {e1 isB} (h : s.memWf) : SomeWf (·) (s.stagingLoad e1 isB) := by
  unfold State.stagingLoad
  dsimp only
  split
  · trivial
  · split
    · trivial
    · refine SomeWf.ite trivial ?_
      split
      · exact h.mrpClear.touchAll.setRun
      · exact h.mrpClear.touchAll.matFailed

theorem State.memWf.accldRow {e1 r} (h : s.memWf) : OkWf Prod.fst (s.accldRow e1 r) := by
  unfold State.accldRow
  dsimp only
  split
  · trivial
  · exact h.touchAll.modMe

theorem State.memWf.accstRow {e1 r} (h : s.memWf) : OkWf Prod.fst (s.accstRow e1 r) := by
  unfold State.accstRow
  refine OkWf.ite trivial ?_
  dsimp only
  split
  · trivial
  next e => exact h.wrSpan.of_eq e

theorem State.memWf.xferRows {n e r} (h : s.memWf) : (s.xferRows n e r).1.1.memWf := by
  induction n generalizing s r with
  | zero => exact h
  | succ k ih =>
    unfold State.xferRows
    split
    · exact h
    next e => exact ih ((h.accstRow.ite h.accldRow).of_eq e)

theorem State.memWf.xferGo {e1 r} (h : s.memWf) : SomeWf (·) (s.xferGo e1 r) := by
  unfold State.xferGo
  dsimp only
  split
  · exact h.xferRows.setRun
  · exact h.xferRows.matFailed

theorem State.memWf.acceptMat {e} (h : s.memWf) : SomeWf (·) (s.acceptMat e) := by
  unfold State.acceptMat
  dsimp only
  split
  · refine SomeWf.none.ite (SomeWf.ite h.modMe.setRun.endMat ?_)
    split
    iterate 6 exact h.modMe.setRun
    · split
      next e => exact h.modMe.setRun.xferGo.of_eq e
      · exact h.modMe.setRun
    · split
      next e => exact h.modMe.setRun.xferGo.of_eq e
      · exact h.modMe.setRun
    · exact h.modMe.setRun.modT
  · trivial

theorem State.memWf.microDone {e1 r w} (h : s.memWf) : (s.microDone e1 r w).memWf := (h.endMat.ite h.setRun).ite h.setRun

theorem State.memWf.micro {e1} {op} {f : State → MatRun → BitVec 64 → Option State} (h : s.memWf)
    (hf : ∀ s b c, s.memWf → SomeWf (·) (f s b c)) : SomeWf (·) (s.micro e1 op f) := by
  unfold State.micro
  dsimp only
  split
  · trivial
  · exact SomeWf.ite trivial (SomeWf.ite trivial (SomeWf.ite h.engEndRec.endMat (SomeWf.ite h.endMat (hf _ _ _ h))))

theorem State.memWf.microSeq {e1 op f} (h : s.memWf) : SomeWf (·) (s.microSeq e1 op f) := h.micro fun _ _ _ h => h.microDone

theorem State.memWf.microLoad {e1 isB} (h : s.memWf) : SomeWf (·) (s.microLoad e1 isB) :=
  h.micro fun _ _ _ h => SomeWf.ite trivial h.microDone

theorem execMicroMac_memWf {c e1} (h : s.memWf) : (execMicroMac c e1 s).memWf := by
  unfold execMicroMac
  refine h.atEngine fun s h => h.micro fun s _ _ h => SomeWf.ite trivial ?_
  dsimp only
  split
  · exact h.endMat
  · exact h.endMat
  · split
    · exact h.setRun
    · trivial

theorem State.memWf.scatRow {e1 r w} (h : s.memWf) : OkWf Prod.fst (s.scatRow e1 r w) := by
  unfold State.scatRow
  dsimp only
  split
  · trivial
  · refine OkWf.ite h (OkWf.ite trivial ?_)
    split
    · trivial
    · split
      · trivial
      next e => exact (h.wrSpan.of_eq e).touchAll

theorem State.memWf.addvRow {e1 r} (h : s.memWf) : OkWf Prod.fst (s.addvRow e1 r) := by
  unfold State.addvRow
  dsimp only
  split
  · trivial
  · exact OkWf.ite trivial h.touchAll.modMe

theorem State.memWf.regionRows {n e r w} (h : s.memWf) : (s.regionRows n e r w).1.1.memWf := by
  induction n generalizing s r with
  | zero => exact h
  | succ k ih =>
    unfold State.regionRows
    split
    · exact h
    next e => exact ih ((h.scatRow.ite h.addvRow).of_eq e)

theorem State.memWf.microRegion {e1 op} (h : s.memWf) : SomeWf (·) (s.microRegion e1 op) := by
  unfold State.microRegion
  refine h.micro fun s _ _ h => SomeWf.ite trivial ?_
  dsimp only
  split
  · exact h.mrpClear.regionRows.microDone
  · exact h.mrpClear.regionRows.matFailed

theorem execMicroReserved_memWf {c e1} (h : s.memWf) : (execMicroReserved c e1 s).memWf := by
  unfold execMicroReserved
  refine h.atEngine fun s h => ?_
  dsimp only
  split
  · trivial
  · exact SomeWf.ite trivial (SomeWf.ite h.endMat trivial)

theorem execMacStepComplete_memWf {c e1} (h : s.memWf) : (execMacStepComplete c e1 s).memWf := by
  unfold execMacStepComplete
  refine h.atEngine fun s h => ?_
  dsimp only
  split
  · trivial
  · split
    · trivial
    · exact SomeWf.ite h.engEndRec.endMat (SomeWf.ite h.modMe.endMat (SomeWf.ite h.modMe.setRun h.modMe.setRun))

theorem State.memWf.completeMat {e1 r st late} (h : s.memWf) : SomeWf (·) (s.completeMat e1 r st late) := by
  unfold State.completeMat
  refine SomeWf.ite trivial ?_
  dsimp only
  split
  · refine (State.memWf.modMe ?_).modT
    split
    · exact h.modMe
    · exact h
  · refine (State.memWf.modMe ?_).endCommand
    split
    · exact h.modMe
    · exact h

theorem State.memWf.matDone {e late} (h : s.memWf) : SomeWf (·) (s.matDone e late) := by
  unfold State.matDone
  split
  · trivial
  split
  · exact h.completeMat
  refine SomeWf.ite h.completeMat (SomeWf.none.ite ?_)
  split
  · trivial
  next s1 hs1 =>
    have h1 : s1.memWf := h.xferGo.of_eq hs1
    split
    · split
      · exact h1.completeMat
      · exact h1
    · exact h1

theorem execMatrixCommandComplete_memWf {c e1} (h : s.memWf) : (execMatrixCommandComplete c e1 s).memWf := by
  unfold execMatrixCommandComplete
  refine h.atCore fun s h => ?_
  split
  next e => exact h.matDone.of_eq e
  · exact h.orSaved fun _ _ h => h.matDone

/-! ### Queues and atomics at their home (Machine/Objects) -/

theorem State.memWf.reserve {q} (h : s.memWf) : SomeWf Prod.fst (s.reserve q) := by
  unfold State.reserve
  refine SomeWf.ite h.modQueue ?_
  dsimp only
  split
  · exact h.modSched.modQueue
  · split
    · trivial
    · exact h.modSched.modQueue

theorem State.memWf.perform {q seq} (h : s.memWf) : (s.perform q seq).memWf := h.modQueue

theorem State.memWf.amoHome {key pa op bytes v c} (h : s.memWf) : (s.amoHome key pa op bytes v c).1.memWf := by
  unfold State.amoHome
  dsimp only
  exact h.memStore.activate

/-! ### Copy instructions (Machine/Copy) -/

theorem State.memWf.whenQueue {f : State → State} (h : s.memWf) (hf : ∀ s, s.memWf → (f s).memWf) : (s.whenQueue f).memWf :=
  h.hold.ite (hf _ h)

theorem State.memWf.queueCopy {c foot tag} (h : s.memWf) : (s.queueCopy c foot tag).memWf := by
  unfold State.queueCopy
  dsimp only
  split
  · exact h.modT
  · exact h.modT.modComp

theorem State.memWf.issueCopy {kind ctl opr addS addD} (h : s.memWf) : (s.issueCopy kind ctl opr addS addD).memWf :=
  h.whenQueue fun _ h => h.fault.ite (h.fault.ite (h.fault.ite (h.fault.ite (h.queueCopy.useRandom.ite h.queueCopy))))

/-! ### Copy engines (Machine/CopyEngine) -/

theorem State.memWf.modCe {e1 f} (h : s.memWf) : (s.modCe e1 f).memWf := h.modT
theorem State.memWf.retireRun {e1 r st} (h : s.memWf) : (s.retireRun e1 r st).memWf := h.modCe

theorem State.memWf.copyFailed {e1 r f p} (h : s.memWf) : SomeWf (·) (s.copyFailed e1 r f p) := by
  unfold State.copyFailed
  dsimp only
  split
  · exact h.engMiss.map fun _ h => h.modCe
  · exact h.engEndRec.retireRun
  · exact h.askLine.map fun _ h => h.modCe
  · trivial

theorem State.memWf.writePieces {e seq pos ps} (h : s.memWf) : OkWf (·) (s.writePieces e seq pos ps) := by
  induction ps generalizing s with
  | nil => exact h
  | cons p r ih =>
    unfold State.writePieces
    split
    · trivial
    next e => exact ih (h.wrSpan.of_eq e)

theorem State.memWf.writeTargets {e seq pos ts ps} (h : s.memWf) : OkWf (·) (s.writeTargets e seq pos ts ps) := by
  induction ts generalizing s with
  | nil => exact h
  | cons n r ih =>
    unfold State.writeTargets
    split
    · trivial
    next e => exact ih (h.writePieces.of_eq e)

theorem State.memWf.arrive {bs n} (h : s.memWf) : (s.arrive bs n).1.memWf := h.foldlFst fun _ _ h => h.setBarrier

theorem State.memWf.pushTile {e1 r} (h : s.memWf) : (s.pushTile e1 r).1.memWf := by
  unfold State.pushTile
  dsimp only
  split
  · split
    · dsimp only
      exact h.release
    · dsimp only
      exact h.release.perform
  · dsimp only
    exact h

theorem State.memWf.endTile {e1 r} (h : s.memWf) : OkWf Prod.fst (s.endTile e1 r) := by
  unfold State.endTile
  split
  · split
    · trivial
    next e => exact (h.writePieces.of_eq e).pushTile
  · exact h

theorem State.memWf.goOn {e1 r} (h : s.memWf) : (s.goOn e1 r).memWf := h.retireRun.ite h.modCe

theorem State.memWf.writeGranule {e r g} (h : s.memWf) : OkWf (·) (s.writeGranule e r g) := by
  unfold State.writeGranule
  dsimp only
  split
  · trivial
  next s1 written =>
    have h1 : s1.memWf := by
      split at written
      · exact h.writeTargets.of_eq written
      · exact h.writePieces.of_eq written
    have arrived : (if g.bytes = 0 then (s1, false) else s1.arrive (s1.barriersOf r.cmd) g.bytes).1.memWf := by
      split
      · exact h1
      · exact h1.arrive
    split
    · trivial
    next ended => exact ((OkWf.ite arrived.endTile (OkWf.fst arrived)).of_eq ended).goOn

theorem State.memWf.takeEntry {r} (h : s.memWf) : OkWf Prod.fst (s.takeEntry r) := by
  unfold State.takeEntry
  split
  · trivial
  · refine OkWf.ite trivial ?_
    split
    · trivial
    next e => exact h.reserve.of_eq e

theorem State.memWf.copyStep {e} (h : s.memWf) : SomeWf (·) (s.copyStep e) := by
  unfold State.copyStep
  split
  · trivial
  refine SomeWf.none.ite (SomeWf.ite h.retireRun (SomeWf.none.ite (SomeWf.ite (SomeWf.none.ite h.pushTile.goOn) (SomeWf.none.ite ?_))))
  split
  · exact h.retireRun
  next s1 r1 entered =>
    have h1 : s1.memWf := (h.takeEntry.ite (OkWf.fst h)).of_eq entered
    split
    · exact h1.modCe.copyFailed
    split
    · exact h1.modCe.copyFailed
    next e => exact h1.touchAll.writeGranule.of_eq e

theorem State.memWf.takePermit {key pa} (h : s.memWf) : (s.takePermit key pa).memWf := h.memStore.activate
theorem State.memWf.dropUnwanted (h : s.memWf) : s.dropUnwanted.memWf := h.modSched

theorem State.memWf.requestPermit {e1 r l} (h : s.memWf) : SomeWf (·) (s.requestPermit e1 r l) :=
  SomeWf.ite h.dropUnwanted.takePermit.modSched.modCe (SomeWf.ite trivial h.dropUnwanted.modSched)

theorem State.memWf.askPermit {e1} (h : s.memWf) : SomeWf (·) (s.askPermit e1) := by
  unfold State.askPermit
  dsimp only
  split
  · trivial
  · refine SomeWf.ite trivial ?_
    split
    · split
      · exact h.copyFailed.ite h.noteTlb.requestPermit
      · exact h.copyFailed.ite (SomeWf.ite trivial h.send.modCe)
    · exact h.copyFailed

theorem State.memWf.startCopy {e1 c} (h : s.memWf) : SomeWf (·) (s.startCopy e1 c) :=
  SomeWf.ite (SomeWf.mk h.modCe.retireRun) (SomeWf.ite (SomeWf.mk h.modCe.retireRun)
  (SomeWf.ite (SomeWf.mk h.modCe.retireRun) ((SomeWf.ite (SomeWf.mk h.modCe.modCe) (SomeWf.mk h.modCe.retireRun)).ite (SomeWf.mk h.modCe))))

theorem State.memWf.handOn {e1 r} (h : s.memWf) : SomeWf (·) (s.handOn e1 r) := by
  unfold State.handOn
  dsimp only
  split
  · exact h.copyFailed
  · exact SomeWf.ite h.touchAll.modCe.setColl (SomeWf.ite trivial h.touchAll.modCe.setColl)

theorem State.memWf.copyStart {e1} (h : s.memWf) : SomeWf (·) (s.copyStart e1) := by
  unfold State.copyStart
  refine SomeWf.ite trivial ?_
  dsimp only
  split
  · exact h.modCe.modCe
  · split
    · exact SomeWf.ite trivial (h.modCe.startCopy.ite h.modCe.modCe.handOn)
    · refine SomeWf.ite trivial (h.handOn.ite (SomeWf.ite ?_ trivial))
      split
      · exact h.copyFailed
      · exact h.touchAll.modCe
    · trivial

theorem State.memWf.modFlight {e1 k f} (h : s.memWf) : (s.modFlight e1 k f).memWf := h.modCe

theorem State.memWf.returnPermit {e1 k c} (h : s.memWf) : SomeWf (·) (s.returnPermit e1 k c) := by
  unfold State.returnPermit
  dsimp only
  split
  · split
    · exact SomeWf.ite h.addRec.modFlight h.memStore.modFlight
    · exact SomeWf.ite h.modFlight (SomeWf.ite trivial h.send.modFlight)
  · split
    · exact h.engMiss.map fun _ h => h.modFlight
    · exact h.addRec.modFlight
    · trivial

theorem State.memWf.copyDone {e1 k late} (h : s.memWf) : SomeWf (·) (s.copyDone e1 k late) := by
  unfold State.copyDone
  dsimp only
  split
  · trivial
  · exact SomeWf.ite trivial (h.returnPermit.ite h.modCe.endCommand)

theorem execCopyCommandComplete_memWf {c e1 k} (h : s.memWf) : (execCopyCommandComplete c e1 k s).memWf := by
  unfold execCopyCommandComplete
  refine h.atCore fun s h => ?_
  split
  next e => exact h.copyDone.of_eq e
  · exact h.orSaved fun _ _ h => h.copyDone

theorem State.memWf.setReady {a k} (h : s.memWf) : OkWf (·) (s.setReady a k) := by
  unfold State.setReady
  dsimp only
  split
  · split
    · exact OkWf.ite trivial h.noteTlb.amoHome
    · exact OkWf.ite trivial (OkWf.ite trivial h.noteTlb.send)
  · trivial

theorem State.memWf.dropSignal {n g} (h : s.memWf) : (s.dropSignal n g).memWf := h.setColl
theorem State.memWf.endSignal {n g} (h : s.memWf) : (s.endSignal n g).memWf := h.dropSignal.modT
theorem State.memWf.setSignal {n g m} (h : s.memWf) : (s.setSignal n g m).memWf := h.setColl

theorem State.memWf.signalFailed {n g f va} (h : s.memWf) : SomeWf (·) (s.signalFailed n g f va) := by
  unfold State.signalFailed
  dsimp only
  split
  · exact (SomeWf.ite SomeWf.none (SomeWf.mk h.setSignal)).ite (SomeWf.mk h.missOn.setSignal)
  · exact h.engEndRec.endSignal
  · trivial

theorem State.memWf.landSignal {n g} (h : s.memWf) : SomeWf (·) (s.landSignal n g) := by
  unfold State.landSignal
  refine SomeWf.none.ite (SomeWf.none.ite (SomeWf.ite (SomeWf.none.ite h.writeBack) ?_))
  split
  · exact h.signalFailed
  next s2 ready =>
    have h2 : s2.memWf := h.writeBack.setReady.of_eq ready
    split
    · exact h2.endSignal.ite h2.endSignal.tickHandle
    · exact h2.endSignal

theorem execReadyBitSet_memWf {c e} (h : s.memWf) : (execReadyBitSet c e s).memWf :=
  (SomeWf.findSome fun _ => h.asTask fun _ h => h.landSignal).enabledOr

end

end Sys2Proof.Machine
end

section
/-! PROOF. Memory stays in canonical form: atomics, synchronization, tasks and system registers. -/

namespace Sys2Proof.Machine

section
variable {s t : State}

/-! ### Atomics and reductions (Machine/Atomics) -/

/-- The state after an atomic, or after the request of a failed access, has memory in canonical form. -/
def AmoPlace.memWf (o : AmoPlace) : Prop :=
  match o with
  | .done s _ => s.memWf
  | .fails e => e.memWf
  | .remote _ _ => True

theorem AmoPlace.memWf.of_done {o : AmoPlace} {n : Nat} (h : o.memWf) (e : o = .done s n) : s.memWf := by subst e; exact h

theorem AmoPlace.memWf.of_fails {o : AmoPlace} {x : AccErr} (h : o.memWf) (e : o = .fails x) : x.memWf := by subst e; exact h

theorem State.memWf.amo {va op bytes v c} (h : s.memWf) : (s.amo va op bytes v c).memWf := by
  unfold State.amo
  dsimp only
  split
  · split
    · split
      · trivial
      · exact h.noteTlb.amoHome.modCore
    · split <;> trivial
  · trivial

theorem State.memWf.atomic {g op z d a b} (h : s.memWf) : (s.atomic g op z d a b).memWf := by
  refine h.when fun s h => State.memWf.ite h.faultAt (h.hold.ite ?_)
  split
  next e => exact h.accFail (h.amo.of_fails e)
  next e => exact (h.amo.of_done e).addFar
  split
  next e => exact h.accFail (h.askFor.of_error e)
  next e => exact (h.askFor.of_ok e).modCore.addFar

theorem State.memWf.reduction {g op z a b} (h : s.memWf) : (s.reduction g op z a b).memWf :=
  h.when fun _ h => h.faultAt.ite (h.hold.ite h.modCore.modRec)

/-! ### Synchronization (Machine/Sync) -/

theorem State.memWf.memObject {o} {f : State → State} (h : s.memWf) (hf : ∀ s, s.memWf → (f s).memWf) : (s.memObject o f).memWf :=
  h.fault.ite (h.faultAt.ite (hf _ h))

theorem execAcq_memWf {g d a} (h : s.memWf) : (execAcq g d a s).memWf := by
  unfold execAcq
  refine h.when fun s h => h.memObject fun s h => ?_
  split
  next e => exact h.accFail (h.homeRead.of_error e)
  next e => exact (h.homeRead.of_ok e).acquire.afterFlush fun _ h => h.deliverFar

theorem execRel_memWf {g d a} (h : s.memWf) : (execRel g d a s).memWf := by
  refine h.when fun s h => h.memObject fun s h => ?_
  dsimp only
  split
  next e => exact h.accFail (h.amo.of_fails e)
  refine h.release.afterWrites fun s h => ?_
  split
  next e => exact h.accFail (h.amo.of_fails e)
  next e => exact (h.amo.of_done e).deliverFar
  split
  next e => exact h.accFail (h.askFor.of_error e)
  next e => exact (h.askFor.of_ok e).modCore.deliverFar

theorem State.memWf.syncLoad {va} (h : s.memWf) : BothWf AccErr.memWf Prod.snd (s.syncLoad va) := by
  unfold State.syncLoad
  split
  · exact h.homeRead.ite (h.load.map fun _ h => h)
  · trivial

theorem execLdacq_memWf {g d a _k} (h : s.memWf) : (execLdacq g d a _k s).memWf := by
  unfold execLdacq
  refine h.when fun s h => h.faultAt.ite ?_
  split
  next e => exact h.accFail (h.syncLoad.of_error e)
  next e => exact (h.syncLoad.of_ok e).flushL1.afterFlush fun _ h => h.deliverFar

theorem execStrel_memWf {g t1 a k} (h : s.memWf) : (execStrel g t1 a k s).memWf := by
  unfold execStrel
  refine h.when fun s h => h.faultAt.ite ?_
  split
  next e => exact h.accFail (h.store.of_error e)
  · extract_lets s1 s2
    have h1 : s1.memWf := h.ite h.writeBack
    have h2 : s2.memWf := h1.release.ite h1
    refine h2.hold.ite ?_
    split
    next e => exact h.accFail (h2.store.of_error e)
    next e => exact (h2.store.of_ok e).writeBack

theorem State.memWf.range {g a b drop} (h : s.memWf) : (s.range g a b drop).memWf :=
  h.when fun _ h => h.fault.ite (h.ite (h.writeBack.afterFlush fun _ h => h))

theorem State.memWf.regionEntry {i} (h : s.memWf) : (s.regionEntry i).memWf := h.ite h.memStore.activate

theorem execBind_memWf {g d a b} (h : s.memWf) : (execBind g d a b s).memWf := by
  unfold execBind
  refine h.when fun s h => h.fault.ite (h.fault.ite (h.fault.ite ?_))
  split
  · exact h.fault
  · exact h.regionEntry.modSched.setX

theorem State.memWf.acquireTag {t1} (h : s.memWf) : (s.acquireTag t1).memWf := h.acquire.forEach fun _ _ h => h.acquire
theorem State.memWf.acquireTags {m} (h : s.memWf) : (s.acquireTags m).memWf := h.forEach fun _ _ h => h.acquireTag

theorem execFfr_memWf {g d a} (h : s.memWf) : (execFfr g d a s).memWf := by
  unfold execFfr
  refine h.when fun s h => ?_
  split
  · exact h.setX
  · exact h.acquireTag.afterFlush fun _ h => h.setX

theorem execRqpop_memWf {g d} (h : s.memWf) : (execRqpop g d s).memWf := by
  unfold execRqpop
  refine h.when fun s h => ?_
  split
  · exact h.fault
  · split
    · exact h.modComp.setX
    · exact h.modCore.waitHere

theorem State.memWf.ownBarrier {x} {f : State → Nat → State} (h : s.memWf) (hf : ∀ s b, s.memWf → (f s b).memWf) :
    (s.ownBarrier x f).memWf := by
  unfold State.ownBarrier
  split
  · exact h.fault
  · exact h.fault.ite (hf _ _ h)

theorem State.memWf.acquireBarrier {off} (h : s.memWf) : (s.acquireBarrier off).memWf := h.acquire.acquire

theorem State.memWf.observeBarrier {d off} (h : s.memWf) : (s.observeBarrier d off).memWf :=
  h.faultAt.ite (h.acquireBarrier.afterFlush fun _ h => h.setX)

theorem State.memWf.arriveAt {lvl t1} (h : s.memWf) : (s.arriveAt lvl t1).memWf :=
  h.modComp.modComp.ite (h.modComp.modComp.ite (h.modComp.ite h.modComp.modSched).modSched.settleBarriers)

theorem State.memWf.makeQueue {l q} (h : s.memWf) : (s.makeQueue l q).memWf := (h.ite h.memStore.modCore).modSched

theorem execQmake_memWf {g d a} (h : s.memWf) : (execQmake g d a s).memWf := by
  refine h.when fun s h => h.fault.ite ?_
  split
  · refine h.fault.ite ?_
    split
    next e => exact h.accFail (h.homeRead.of_error e)
    next e =>
      split
      · exact h.fault
      · exact (h.homeRead.of_ok e).makeQueue.deliverFar
  · exact h.raise

theorem State.memWf.queueNamed {xh} {cursor} {f : State → Queue → State} (h : s.memWf) (hf : ∀ s b, s.memWf → (f s b).memWf) :
    (s.queueNamed xh cursor f).memWf := by
  unfold State.queueNamed
  split
  · exact h.fault
  · exact h.fault.ite (hf _ _ h)

theorem State.memWf.queueFor {xh} {cursor} {f : State → Queue → State} (h : s.memWf) (hf : ∀ s b, s.memWf → (f s b).memWf) :
    (s.queueFor xh cursor f).memWf :=
  h.queueNamed fun _ _ h => h.fault.ite (hf _ _ h)

theorem State.memWf.homeFail {f va} (h : s.memWf) : (s.homeFail f va).memWf := by
  unfold State.homeFail
  split
  iterate 4 exact h.raise
  · exact h.hold
  · exact h.hold

theorem State.memWf.pushInto {q v} (h : s.memWf) : BothWf State.memWf Prod.fst (s.pushInto q v) := by
  unfold State.pushInto
  split
  · exact h.fault
  next reserved =>
    dsimp only
    split
    · exact h.homeFail
    next e => exact (h.reserve.of_eq reserved).wrSpan.of_eq e

theorem State.memWf.pushed {q seq} (h : s.memWf) : (s.pushed q seq).memWf := h.ite h.perform

theorem execQpush_memWf {g d a b} (h : s.memWf) : (execQpush g d a b s).memWf := by
  refine h.when fun s h => h.queueFor fun s q h => ?_
  split
  next e => exact h.pushInto.of_error e
  refine h.release.afterWrites fun s h => ?_
  split
  next e => exact h.pushInto.of_error e
  next e => exact (h.pushInto.of_ok e).pushed.deliverFar

theorem execQpop_memWf {g d a} (h : s.memWf) : (execQpop g d a s).memWf := by
  unfold execQpop
  refine h.when fun s h => h.queueFor fun s _ h => h.fault.ite ?_
  dsimp only
  split
  · exact h.deliverFar
  · exact h.acquire.writeBack.afterFlush fun _ h => h.modQueue.modT.deliverFar

theorem execQfree_memWf {g a} (h : s.memWf) : (execQfree g a s).memWf := by
  unfold execQfree
  refine h.when fun s h => h.queueNamed fun s _ h => ?_
  dsimp only
  split
  · exact h.fault
  · exact h.modT.returnToken

theorem State.memWf.mailRelease {n number m} (h : s.memWf) : (s.mailRelease n number m).memWf := h.releaseAll.ite h.release

theorem State.memWf.deliver {n k m v} (h : s.memWf) : (s.deliver n k m v).memWf := by
  unfold State.deliver
  dsimp only
  split
  · exact h.setCore
  · exact h.setCore.tdec

theorem execMbsend_memWf {g d a b} (h : s.memWf) : (execMbsend g d a b s).memWf := by
  unfold execMbsend
  refine h.when fun s h => h.fault.ite ?_
  dsimp only
  split
  · exact h.deliverFar
  · exact h.deliverFar.ite (h.deliverFar.ite (h.deliverFar.ite (h.mailRelease.afterWrites fun _ h => h.deliver.deliverFar)))

theorem State.memWf.poisonPair {d bad} (h : s.memWf) : (s.poisonPair d bad).memWf := h.modT

theorem execMbrecv_memWf {g d p k} (h : s.memWf) : (execMbrecv g d p k s).memWf := by
  unfold execMbrecv
  refine h.when fun s h => h.fault.ite ?_
  split
  · exact h.setP
  · exact h.acquire.afterFlush fun _ h => h.modCore.setPair.setP.poisonPair

/-! ### Tasks (Machine/Tasks) -/

theorem State.memWf.recordAt {name} {xr} {opP} {s' : State} (h : s.memWf) (h1 : s'.memWf) : (s.recordAt name xr opP s').memWf := by
  unfold State.recordAt
  refine Out.memWf.ite h.faultAt (Out.memWf.ite h.faultAt ?_)
  split
  · split
    · exact Out.memWf.ite h.raise trivial
    · exact Out.memWf.ite h.faultAt (Out.memWf.ite h.raise h1)
  · exact h.raise

theorem State.memWf.seenRecord {va} (h : s.memWf) : (s.seenRecord va).memWf := by
  unfold State.seenRecord
  split
  · exact h.noteTlb.activate.modCore
  · exact h

theorem State.memWf.enroll {asid va kind fut parent die port} (h : s.memWf) : (s.enroll asid va kind fut parent die port).memWf := by
  unfold State.enroll
  extract_lets w w' s1 s2 r s3
  have h1 : s1.memWf := h.recSet.recSet.recSet
  have h3 : s3.memWf := (h1.recSet.ite h1).modSched
  exact h3.makeReady.ite h3

theorem State.memWf.spawn {name xr kind fut} (h : s.memWf) : (s.spawn name xr kind fut).memWf :=
  h.recordAt (h.seenRecord.faultAt.ite (h.faultAt.ite (h.releaseAll.afterWrites fun _ h => (h.seenRecord.modT.ite h.seenRecord).enroll)))

theorem State.memWf.fgetResult {d p va w} (h : s.memWf) : (s.fgetResult d p va w).memWf :=
  (h.flushL1.afterFlush fun _ h => h.addFar).ite h.seenRecord.addFar

theorem execFget_memWf {g d a p} (h : s.memWf) : (execFget g d a p s).memWf := by
  unfold execFget
  refine h.when fun s h => h.faultAt.ite ?_
  split
  · split
    · exact h.raise.ite h.noteTlb.fgetResult
    · refine h.raise.ite ?_
      split
      next e => exact h.accFail (h.askFor.of_error e)
      next e => exact (h.askFor.of_ok e).noteTlb.fgetResult
  · exact h.raise

theorem State.memWf.ending {f : State → State} (h : s.memWf) (hf : ∀ s, s.memWf → (f s).memWf) : (s.ending f).memWf :=
  h.waitHere.ite (h.raise.ite ((h.releaseAll.hold.ite h.releaseAll.waitHere).ite (hf _ h.releaseAll.completeBundle)))

theorem State.memWf.endTask {id result} (h : s.memWf) : (s.endTask id result).memWf := by
  unfold State.endTask
  refine (State.memWf.freeHeld ?_).leaveCommands.drainPoint.memberEnds.dropHeld
  split
  · exact h.releaseAll
  · exact h.releaseAll.recSet.ite h.releaseAll

theorem State.memWf.continueTask {id entry dep} (h : s.memWf) : (s.continueTask id entry dep).memWf := by
  unfold State.continueTask
  extract_lets refs s1 s2 s3
  have h1 : s1.memWf := h.releaseAll.recSet.recSet.freeHeld
  have h3 : s3.memWf := h1.modT.modRec.leaveCommands.drainPoint.forgetRecord
  exact h3.makeReady.ite h3.recSet

theorem State.memWf.claim {asid rec} (h : s.memWf) : (s.claim asid rec).2.memWf := by
  unfold State.claim
  dsimp only
  split
  · dsimp only
    exact h.recSet
  · dsimp only
    exact h

theorem State.memWf.request {d xq range} (h : s.memWf) : (s.request d xq range).memWf := h.modSb

theorem State.memWf.cancelLoad {n} (h : s.memWf) : (s.cancelLoad n).memWf := by
  unfold State.cancelLoad
  refine State.memWf.setCore ?_
  split
  · exact h.completeTag
  · exact h

theorem State.memWf.startLoad {n l} (h : s.memWf) : (s.startLoad n l).memWf := h.cancelLoad.setCore.noteImages

/-! ### System registers (Machine/System) -/

theorem State.memWf.modFaults {f} (h : s.memWf) : (s.modFaults f).memWf := h.modSys
theorem State.memWf.modLoop {f} (h : s.memWf) : (s.modLoop f).memWf := h.modT

theorem State.memWf.sysWrite {r v} (h : s.memWf) : (s.sysWrite r v).memWf := by
  unfold State.sysWrite
  split
  iterate 7 exact h.modFaults
  iterate 4 exact h.modSys
  · exact h.modCore
  iterate 10 exact h.modLoop
  · exact h

theorem execSwr_memWf {g a r} (h : s.memWf) : (execSwr g a r s).memWf := by
  unfold execSwr
  refine h.when fun s h => ?_
  split
  · exact h.fault
  · exact h.fault
  · exact h.sysWrite.ite h.fault
  · exact h.sysWrite

end

end Sys2Proof.Machine
end

section
/-! PROOF. Memory stays in canonical form: power, the events of a core, scheduling and saves. -/

namespace Sys2Proof.Machine

section
variable {s t : State}

/-! ### Power, errors and scrubbing (Machine/Power) -/

theorem State.memWf.veto {k p} (h : s.memWf) : (s.veto k p).memWf := h.modCluster.glowEvent

theorem State.memWf.corrected {p} (h : s.memWf) : (s.corrected p).memWf := by
  unfold State.corrected
  extract_lets n s1 tm tp s2
  have h2 : s2.memWf := h.modPower.glowEvent.ite h.modPower
  split
  · exact h2.glowEvent.ite h2
  · extract_lets s3
    have h3 : s3.memWf := h2.veto.ite h2
    exact h3.glowEvent.ite h3

theorem State.memWf.uncorrected {p a} (h : s.memWf) : (s.uncorrected p a).memWf := h.glowEvent
theorem State.memWf.poisonReg {n w} (h : s.memWf) : (s.poisonReg n w).memWf := h.setCore
theorem State.memWf.regError {n w opd} (h : s.memWf) : (s.regError n w opd).memWf := h.poisonReg.glowEvent

theorem State.memWf.scrubPoison {x a} (h : s.memWf) : (s.scrubPoison x a).memWf := by
  unfold State.scrubPoison
  dsimp only
  split
  · exact h.poisonPa
  · exact h.poisonPa
  · exact h.poisonPa
  · exact h.setCore
  · exact h.setCore
  · exact h.setCore
  · exact h.setGlow

theorem execScrub_memWf {x a r} (h : s.memWf) : (execScrub x a r s).memWf := by
  unfold execScrub
  refine notEnabled_memWf.ite (Out.memWf.ite h ?_)
  split
  · exact h
  · exact h.corrected
  · exact h.scrubPoison.uncorrected

theorem State.memWf.poisonL1 {n k w} (h : s.memWf) : SomeWf (·) (s.poisonL1 n k w) := by
  unfold State.poisonL1
  dsimp only
  split
  · trivial
  · refine SomeWf.ite h.setCore ?_
    split
    · exact h.setCore.poisonPa
    · exact SomeWf.ite trivial h.setCore.send

theorem State.memWf.poisonRead {p} (h : s.memWf) : SomeWf (·) (s.poisonRead p) := by
  cases p with
  | scrubbed x a => exact h.scrubPoison
  | vector n w => exact h.poisonReg
  | scalar n r => exact h.poisonReg
  | predicate n w => exact h.poisonReg
  | l1 n k w => exact h.poisonL1
  | stream n k w => exact h.setCore
  | mailbox n k i => exact h.setCore
  | returnQueue n k => exact h.setCore
  | loopBuffer n k => exact h.setCore
  | store pkg x f k =>
    cases x with
    | retry => exact h.modFabric
    | reorder => exact h.modFabric
    | result => exact h.modFabric
    | pending => exact h.setColl

theorem State.memWf.readError {p r} (h : s.memWf) : (s.readError p r).memWf := by
  unfold State.readError
  refine Out.memWf.ite trivial ?_
  split
  · exact h
  · exact h.corrected
  · split
    · trivial
    next e => exact (h.poisonRead.of_eq e).uncorrected

theorem State.memWf.mgmtError (h : s.memWf) : s.mgmtError.memWf := h.modMgmt

theorem State.memWf.whenReady {f : State → State} (h : s.memWf) (hf : ∀ s, s.memWf → (f s).memWf) : (s.whenReady f).memWf :=
  (hf _ h).ite h.mgmtError

theorem execThresholdWrite_memWf {w} (h : s.memWf) : (execThresholdWrite w s).memWf := h.whenReady fun _ h => h.modPower
theorem execRowThresholdWrite_memWf {w} (h : s.memWf) : (execRowThresholdWrite w s).memWf := h.whenReady fun _ h => h.modMgmt.ite h

theorem execModeWrite_memWf {w} (h : s.memWf) : (execModeWrite w s).memWf := by
  refine h.whenReady fun s h => ?_
  split
  · exact h.mgmtError
  have counted {c : Prop} [Decidable c] : (if c then s.mgmtError else s).memWf := h.mgmtError.ite h
  exact (counted.ite counted.newRing).glowEvent.modPower

/-! ### Events of a core (Machine/CoreEvents) -/

theorem State.memWf.undoTo {u k} (h : s.memWf) : (s.undoTo u k).memWf := h

theorem State.memWf.badLoad {k f e1} (h : s.memWf) : (s.badLoad k f e1).memWf := by
  unfold State.badLoad
  dsimp only
  split
  · exact h.undoTo.modCore.takeException
  · exact h.undoTo.modCore.modCore
  · exact h.undoTo.modCore

theorem execLoadLand_memWf {c k r} (h : s.memWf) : (execLoadLand c k r s).memWf := by
  unfold execLoadLand
  refine h.atCore fun s h => ?_
  dsimp only
  split
  · trivial
  · refine SomeWf.ite trivial ?_
    split
    · exact h.landNth
    · exact h.landNth.corrected
    · exact SomeWf.ite trivial h.poisonPa.uncorrected.badLoad
    · trivial

theorem execReturnQueueLand_memWf {c k} (h : s.memWf) : (execReturnQueueLand c k s).memWf := by
  unfold execReturnQueueLand
  refine h.atCore fun s h => ?_
  split
  · trivial
  · exact SomeWf.ite h.modComp trivial

theorem State.memWf.nextTile {q} (h : s.memWf) : (s.nextTile q).2.memWf := by
  unfold State.nextTile
  dsimp only
  split
  · split
    · dsimp only
      exact h.seenRecord.claim
    · dsimp only
      exact h.seenRecord.claim
  · split
    · dsimp only
      exact h
    · split
      · dsimp only
        exact h
      · dsimp only
        refine (State.memWf.modQueue ?_).returnToken
        split
        · exact h.modCore
        · exact h

theorem execNxtreqAnswer_memWf {c} (h : s.memWf) : (execNxtreqAnswer c s).memWf := by
  unfold execNxtreqAnswer
  refine h.atCore fun s h => ?_
  dsimp only
  split
  · trivial
  · exact h.nextTile.modT

theorem State.memWf.redDone {r} (h : s.memWf) : (s.redDone r).memWf := h.modRec

theorem State.memWf.performRed {r eng l} (h : s.memWf) : SomeWf (·) (s.performRed r eng l) := by
  unfold State.performRed
  split
  · exact SomeWf.ite h.dropRed h.amoHome.redDone
  · exact SomeWf.ite h.dropRed (SomeWf.ite trivial h.send)

theorem State.memWf.parkRed {r} (h : s.memWf) : SomeWf (·) (s.parkRed r) := SomeWf.ite trivial h.missOn.modXlat.countField
theorem State.memWf.redWalkRec {r st} (h : s.memWf) : (s.redWalkRec r st).memWf := h.kind4

theorem State.memWf.translateRed {win eng r} (h : s.memWf) : SomeWf (·) (s.translateRed win eng r) := by
  unfold State.translateRed
  split
  · exact h.noteTlb.performRed
  · exact h.parkRed
  · exact h.dropRed
  · exact h.redWalkRec.dropRed
  · exact h.redWalkRec.dropRed

theorem State.memWf.followRed {r} (h : s.memWf) : SomeWf (·) (s.followRed r) := h.parkRed.ite trivial
theorem State.memWf.unpark {r} (h : s.memWf) : (s.unpark r).memWf := h.modXlat.countField
theorem State.memWf.replayRed {r} (h : s.memWf) : SomeWf (·) (s.replayRed r) := h.unpark.translateRed

theorem execRedTranslate_memWf {c} (h : s.memWf) : (execRedTranslate c s).memWf := by
  refine h.atCore fun s h => ?_
  split
  next e => exact (SomeWf.bind fun _ => h.replayRed).of_eq e
  · trivial
  · exact SomeWf.ite h.modCore.followRed h.modCore.translateRed

theorem State.memWf.prefetchLine {w} (h : s.memWf) : (s.prefetchLine w).memWf := by
  unfold State.prefetchLine
  refine h.ite ?_
  dsimp only
  split
  · split
    · exact h.ite h.activate.l1Add
    · refine h.ite ?_
      split
      · exact h
      next e => exact h.askFill.of_eq e
  · exact h

theorem State.memWf.installFill {f bs bad} (h : s.memWf) : (s.installFill f bs bad).memWf := h.ite h.l1Add

theorem State.memWf.setFar {l} (h : s.memWf) : (s.setFar l).memWf := by
  unfold State.setFar
  dsimp only
  split
  · exact h.modSb
  · split
    · exact h.modSb
    · split
      · exact h.modSb
      · exact h.modSb.badLoad

theorem State.memWf.landLine {pkg seq bs bad} (h : s.memWf) : (s.landLine pkg seq bs bad).memWf := by
  unfold State.landLine
  dsimp only
  split
  · exact h
  · exact h.modCore.installFill.setFar

theorem State.memWf.loseLines {pkg} (h : s.memWf) : (s.loseLines pkg).memWf := h.modCore.setFar

theorem execPageWalkComplete_memWf {k} (h : s.memWf) : (execPageWalkComplete k s).memWf := by
  unfold execPageWalkComplete
  dsimp only
  split
  · exact notEnabled_memWf
  · refine h.modXlat.onCore fun s h => ?_
    split
    · exact h.noteTlb.prefetchLine
    · exact h
    · exact h
    · exact h.kind4
    · exact h.kind4

theorem execL1Eviction_memWf {c k} (h : s.memWf) : (execL1Eviction c k s).memWf := by
  unfold execL1Eviction
  refine h.atCore fun s h => ?_
  split
  · trivial
  · exact SomeWf.ite trivial h.writeBack

/-! ### Scheduling (Machine/Sched) -/

theorem State.memWf.dropSaved {r} (h : s.memWf) : (s.dropSaved r).memWf := h.forgetRecord.dropSavedOf.modRec.dropRefs
theorem State.memWf.stopRecord {r c va} (h : s.memWf) : (s.stopRecord r c va).memWf := h.recSet.dropSaved.addRec.finish

theorem State.memWf.restorePad {n base bs bad} (h : s.memWf) : (s.restorePad n base bs bad).memWf := by
  refine State.memWf.foldl ?_ fun _ _ h => h.poisonPa
  exact Mem.wf_store _ _ _ _ h

theorem State.memWf.clearCore {img gang} (h : s.memWf) : (s.clearCore img gang).memWf := h.flushL1.modCore

theorem State.memWf.placeMember {id n refs} (h : s.memWf) : (s.placeMember id n refs).memWf := by
  unfold State.placeMember
  refine h.modCluster.modSched.onCore fun s h => ?_
  dsimp only
  split
  · exact h.clearCore.modCore
  · split
    · exact h.clearCore.restorePad.modCore
    · exact h.clearCore.restorePad.modCore.enterTrap

theorem State.memWf.failRestore {r f va} (h : s.memWf) : (s.failRestore r f va).memWf := by
  unfold State.failRestore
  dsimp only
  split
  · exact h.ite h.missOn.modSched
  · exact h.agentWalkRec.stopRecord

theorem State.memWf.dispatch {r cores} (h : s.memWf) : (s.dispatch r cores).memWf := by
  unfold State.dispatch
  dsimp only
  split
  · exact h.failRestore
  · exact h.stopRecord.ite (h.recSet.modRec.forEach fun _ _ h => h.placeMember)

theorem State.memWf.migrateOne {r} (h : s.memWf) : (s.migrateOne r).memWf := by
  unfold State.migrateOne
  refine h.ite ?_
  split
  · exact h.modRec.noteImages
  · exact h.stopRecord

theorem State.memWf.migrate {die} (h : s.memWf) : (s.migrate die).memWf := h.forEach fun _ _ h => h.migrateOne
theorem State.memWf.unreserve {t1} (h : s.memWf) : (s.unreserve t1).memWf := h.forEach fun _ _ h => h.setCore
theorem State.memWf.reserveCore {t1 n} (h : s.memWf) : (s.reserveCore t1 n).memWf := h.setCore
theorem State.memWf.rob {r g} (h : s.memWf) : (s.rob r g).memWf := h.ite (h.ite (h.unreserve.forEach fun _ _ h => h.reserveCore))
theorem State.memWf.tryGang {r} (h : s.memWf) : (s.tryGang r).memWf := h.dispatch.unreserve.ite h
theorem State.memWf.reserveGang {r n} (h : s.memWf) : (s.reserveGang r n).memWf := (h.reserveCore.forEach fun _ _ h => h.rob).tryGang
theorem State.memWf.splitFails {r f va wr} (h : s.memWf) : (s.splitFails r f va wr).memWf := h.addRec

theorem State.memWf.splitFor {n} (h : s.memWf) : (s.splitFor n).memWf := by
  unfold State.splitFor
  dsimp only
  split
  · exact h
  · refine h.ite ?_
    split
    · exact h.splitFails
    · split
      · exact h.splitFails
      · exact h.splitFails
      · split
        · exact h.splitFails
        next e => exact ((h.agentPut.of_eq e).recSet.ite (h.agentPut.of_eq e).recSet.recSet).memStore.modSched.dispatch

theorem State.memWf.selectAt {n} (h : s.memWf) : (s.selectAt n).memWf := by
  unfold State.selectAt
  dsimp only
  split
  · exact h.migrate.dispatch
  · exact h.migrate.reserveGang
  · exact h.migrate.splitFor

theorem State.memWf.takePrefetch {n t1} (h : s.memWf) : (s.takePrefetch n t1).memWf := by
  unfold State.takePrefetch
  dsimp only
  split
  · exact h.setCore
  · exact h.setCore.dispatch.ite h.setCore

theorem State.memWf.retryGang {n t1} (h : s.memWf) : (s.retryGang n t1).memWf := by
  unfold State.retryGang
  dsimp only
  split
  · exact h.setCore
  · exact h.tryGang.ite h.setCore

theorem execSelect_memWf {c} (h : s.memWf) : (execSelect c s).memWf := by
  unfold execSelect
  refine notEnabled_memWf.ite ?_
  extract_lets u k
  have hu : u.memWf := (h.onCore fun _ h => h.flushL1).ite h
  refine Out.memWf.ite ?_ (Out.memWf.ite ?_ notEnabled_memWf)
  · split
    · exact hu.retryGang
    · exact hu.takePrefetch
    · exact hu.selectAt
  · split
    · exact hu.migrate.setCore
    · exact hu.migrate.reserveGang
    · exact hu.migrate

theorem State.memWf.preempt {id f} (h : s.memWf) : (s.preempt id f).memWf := h.forEach fun _ _ h => h.onCore fun _ h => h.modSys

/-! ### Saves and plane loads (Machine/Saves) -/

theorem State.memWf.poisonArea {asid at' l} (h : s.memWf) : (s.poisonArea asid at' l).memWf := by
  unfold State.poisonArea
  refine h.foldl fun s _ h => ?_
  split
  · exact h.ite h.poisonPa
  · exact h

theorem State.memWf.savePut {asid k va bs} (h : s.memWf) : (s.savePut asid k va bs).1.memWf := by
  induction k generalizing s va bs with
  | zero => exact h
  | succ j ih =>
    unfold State.savePut
    split
    · exact h
    next e => exact ih (h.agentWrite.of_eq e)

theorem State.memWf.saveAll {asid at' ps} (h : s.memWf) : (s.saveAll asid at' ps).1.memWf := by
  induction ps generalizing s with
  | nil => exact h
  | cons p r ih =>
    unfold State.saveAll
    split
    next e => exact h.savePut.of_fst e
    next e => exact ih (h.savePut.of_fst e)

theorem State.memWf.writeSave {reason} (h : s.memWf) : (s.writeSave reason).1.memWf := by
  unfold State.writeSave
  dsimp only
  split
  · exact h
  next opened =>
    split
    next e => exact (h.agentWrite.of_eq opened).saveAll.of_fst e
    next e =>
      have h2 := (h.agentWrite.of_eq opened).saveAll.of_fst e
      split
      · exact h2
      next e => exact h2.poisonArea.agentWrite.of_eq e

theorem State.memWf.requeue {id held} (h : s.memWf) : (s.requeue id held).memWf := by
  unfold State.requeue
  dsimp only
  split
  · exact h
  · exact h.ite ((h.recSet.modRec.noteImages.ite h.makeReady).ite h.recSet)

theorem State.memWf.saveGang {id} (h : s.memWf) : (s.saveGang id).memWf := h.forEach fun _ _ h => h.onCore fun _ h => h.modSys

theorem State.memWf.saved {reason fault v} (h : s.memWf) : (s.saved reason fault v).memWf := by
  unfold State.saved
  extract_lets id w base sv s1 s2
  have h1 : s1.memWf := (h.forEach fun _ _ h => h.setCore).modSched
  have h2 : s2.memWf := h1.modCore.ite h1
  exact h2.drainPoint.saveGang.requeue

theorem State.memWf.saveFails {f va} (h : s.memWf) : SomeWf (·) (s.saveFails f va) := by
  unfold State.saveFails
  dsimp only
  split
  · exact SomeWf.ite trivial h.missOn
  · exact h.agentWalkRec.stopTask

theorem State.memWf.eclipseFinish (h : s.memWf) : s.eclipseFinish.memWf := h.freeHeld.drainPoint.memberEnds.dropHeld
theorem State.memWf.eclipseEnd (h : s.memWf) : s.eclipseEnd.memWf := h.modCore.eclipseFinish.ite h.modCore

theorem execSaveComplete_memWf {c} (h : s.memWf) : (execSaveComplete c s).memWf := by
  unfold execSaveComplete
  refine h.atCore fun s h => ?_
  dsimp only
  split
  · refine SomeWf.ite trivial (SomeWf.ite h.eclipseEnd (SomeWf.ite trivial ?_))
    split
    next e => exact (h.modCore.flushL1.writeSave.of_fst e).saved
    next e => exact (h.modCore.flushL1.writeSave.of_fst e).saveFails
  · trivial

theorem State.memWf.touchCode {asid fuel va n} (h : s.memWf) : (s.touchCode asid fuel va n).memWf := by
  induction fuel generalizing s va n with
  | zero => exact h
  | succ j ih =>
    unfold State.touchCode
    refine h.ite (ih ?_)
    split
    · exact h.noteTlb.activate
    · exact h

theorem State.memWf.touchTable {n a img} (h : s.memWf) : (s.touchTable n a img).memWf := by
  induction n generalizing s a with
  | zero => exact h
  | succ k ih =>
    unfold State.touchTable
    exact h.activate.ite (ih h.activate)

theorem State.memWf.touchImage {asid img} (h : s.memWf) : (s.touchImage asid img).memWf := by
  unfold State.touchImage
  dsimp only
  split
  · exact h.touchTable
  · exact h.touchTable.ite h.touchTable.touchCode.touchCode

theorem execPlaneLoadComplete_memWf {c} (h : s.memWf) : (execPlaneLoadComplete c s).memWf := by
  unfold execPlaneLoadComplete
  refine notEnabled_memWf.ite ?_
  split
  · exact notEnabled_memWf
  extract_lets q bad s0 s1 k
  have h0 : s0.memWf := by
    dsimp only [s0]
    clear_value q
    split
    · exact h.touchImage.agentWalkRec
    · exact h.touchImage
  have h1 : s1.memWf := by
    dsimp only [s1]
    split
    · exact h0
    · exact h0.completeTag
  exact h1.setCore.noteImages

theorem execImageLoadStart_memWf {a t1} (h : s.memWf) : (execImageLoadStart a t1 s).memWf := by
  unfold execImageLoadStart
  dsimp only
  split
  · exact notEnabled_memWf
  · refine notEnabled_memWf.ite (Out.memWf.ite h.stopRecord ?_)
    split
    · exact notEnabled_memWf
    · exact h.startLoad

end

end Sys2Proof.Machine
end

section
/-! PROOF. Memory stays in canonical form: faults, the fabric, monitors and the host. -/

namespace Sys2Proof.Machine

section
variable {s t : State}

/-! ### Fault records and verdicts (Machine/Faults) -/

theorem State.memWf.countLost {a} (h : s.memWf) : (s.countLost a).memWf := by
  unfold State.countLost
  refine h.ite ?_
  split
  · exact h
  · exact h.ctxWrite

theorem State.memWf.dropRec {p} (h : s.memWf) : (s.dropRec p).memWf := h.modXlat
theorem State.memWf.loseRec {a} (h : s.memWf) : (s.loseRec a).memWf := h.countLost.modMgmt
theorem State.memWf.glowFault {r seq} (h : s.memWf) : (s.glowFault r seq).memWf := h.ite h.glowEvent

theorem execFaultRecordWrite_memWf {a} (h : s.memWf) : (execFaultRecordWrite a s).memWf := by
  unfold execFaultRecordWrite
  dsimp only
  split
  · exact notEnabled_memWf
  · split
    · exact h.loseRec.dropRec
    · refine Out.memWf.ite ?_ (Out.memWf.ite h.countLost.dropRec notEnabled_memWf)
      split
      · exact h.loseRec.dropRec
      next e => exact (h.agentWrite.of_eq e).ctxWrite.glowFault.dropRec

theorem State.memWf.release' {id f} (h : s.memWf) : (s.release' id f).memWf := h.modSched.requeue

theorem State.memWf.taskVerdict {page v id} (h : s.memWf) : (s.taskVerdict page v id).memWf := by
  unfold State.taskVerdict
  dsimp only
  split
  · exact h.onCore fun _ h => h.stopTask
  · split
    · exact h.stopRecord
    · exact h
  · exact h.setCore
  · exact h.release'
  · exact h.setCore
  · exact h.release'

theorem State.memWf.verdictRec {id m bundle img st} (h : s.memWf) : (s.verdictRec id m bundle img st).memWf := h.addRec

theorem State.memWf.engineVerdict {v id eng seq} (h : s.memWf) : (s.engineVerdict v id eng seq).memWf := by
  unfold State.engineVerdict
  split
  · exact h
  · split
    · exact h.modTask
    · exact h.modTask.verdictRec

theorem State.memWf.collVerdict {v n} (h : s.memWf) : (s.collVerdict v n).memWf := by
  unfold State.collVerdict
  dsimp only
  split
  · exact h
  · split
    · exact h
    · split
      · exact h.setColl.collTick
      · exact h.setColl.verdictRec

theorem State.memWf.signalVerdict {v id seq} (h : s.memWf) : (s.signalVerdict v id seq).memWf := by
  unfold State.signalVerdict
  dsimp only
  split
  · exact h
  · split
    · exact ((h.asTask fun _ h => SomeWf.mk h.endSignal).getD h).verdictRec
    · exact h.setSignal

theorem State.memWf.redVerdict {v r} (h : s.memWf) : (s.redVerdict v r).memWf := by
  unfold State.redVerdict
  split
  · exact h.unpark.dropRed
  · split
    next e => exact (SomeWf.ite SomeWf.none h.replayRed).of_eq e
    · exact h.modXlat

theorem State.memWf.goWord {id a val c bundle img} (h : s.memWf) : (s.goWord id a val c bundle img).memWf := by
  unfold State.goWord
  dsimp only
  split
  next e => exact (h.switchTo.putWord.of_written e).switchTo.closeFor
  next e => exact (h.switchTo.putWord.of_sent e).switchTo
  · exact h.parkWord
  · exact h.parkWord.ite h.missOn
  · exact h.closeFor.verdictRec

theorem State.memWf.goWords (h : s.memWf) : s.goWords.memWf := by
  unfold State.goWords
  refine h.modXlat.forEach fun _ s h => ?_
  split
  · exact h.goWord
  · exact h

theorem State.memWf.wordVerdict {v id a val c bundle img} (h : s.memWf) : (s.wordVerdict v id a val c bundle img).memWf := by
  unfold State.wordVerdict
  split
  · exact h.closeFor.verdictRec
  · exact h.goWord

theorem State.memWf.saveVerdict {v id} (h : s.memWf) : (s.saveVerdict v id).memWf := by
  unfold State.saveVerdict
  dsimp only
  split
  · exact h
  · exact h.onCore fun _ h => h.stopTask
  · exact h.modSched
  · split
    · exact h
    · exact h.stopRecord

theorem State.memWf.waiterVerdict {page v w} (h : s.memWf) : (s.waiterVerdict page v w).memWf := by
  unfold State.waiterVerdict
  split
  · exact h.taskVerdict
  · exact h.engineVerdict
  · exact h.collVerdict
  · exact h.signalVerdict
  · exact h.redVerdict
  · exact h.wordVerdict
  · exact h.saveVerdict
  · exact h

theorem State.memWf.verdict {a p v} (h : s.memWf) : (s.verdict a p v).memWf := by
  unfold State.verdict
  refine h.whenReady fun s h => ?_
  dsimp only
  split
  · exact h.mgmtError
  · exact h.modXlat.countField.forEach fun _ _ h => h.waiterVerdict

/-! ### Events of the collective engine (Machine/CollEvents) -/

theorem State.memWf.readHandle {n r} (h : s.memWf) : SomeWf (·) (s.readHandle n r) := by
  unfold State.readHandle
  dsimp only
  split
  · exact h.collFailed
  · refine SomeWf.ite h.setCollRun ?_
    split
    · exact h.collFailed
    · exact SomeWf.ite h.setCollRun h.setColl.collTick

theorem State.memWf.collStart {n} (h : s.memWf) : SomeWf (·) (s.collStart n) := by
  unfold State.collStart
  dsimp only
  split
  · exact SomeWf.ite trivial (SomeWf.ite (SomeWf.ite (State.memWf.collOnce h) trivial) (State.memWf.collMoved (State.memWf.readHandle h)))
  · exact h.setColl.readHandle
  · trivial

theorem State.memWf.completeFor {id c st sats} (h : s.memWf) : (s.completeFor id c st sats).memWf := by
  unfold State.completeFor
  dsimp only
  split
  · exact h.closeFor
  · exact h.goWord

theorem State.memWf.collDone {n} (h : s.memWf) : SomeWf (·) (s.collDone n) := by
  unfold State.collDone
  dsimp only
  split
  · trivial
  · split
    · exact h.setColl.completeFor
    · refine SomeWf.ite trivial (SomeWf.ite h.setColl.completeFor ?_)
      split
      · exact State.memWf.collMoved (State.memWf.collFailed h)
      next e => exact (h.netWrite.of_eq e).setColl.completeFor

/-! ### The fabric (Machine/Fabric) -/

theorem State.memWf.setDstFlow {f} (h : s.memWf) : (s.setDstFlow f).memWf := h.modFabric
theorem State.memWf.sendAck {f} (h : s.memWf) : (s.sendAck f).memWf := h.setDstFlow.sendPlain
theorem State.memWf.sendResult {f seq old bad} (h : s.memWf) : (s.sendResult f seq old bad).memWf := h.sendPlain
theorem State.memWf.remoteWriteRec {p} (h : s.memWf) : (s.remoteWriteRec p).memWf := h.addRec

theorem State.memWf.performWrite {p} (h : s.memWf) : (s.performWrite p).memWf := by
  refine h.ite (State.memWf.forEach (State.memWf.ite ?_ ?_) fun _ _ h => h.poisonPa)
  · exact h.memStore.activate.remoteWriteRec.ite h.memStore.activate
  · exact h.memStoreAll.activate.remoteWriteRec.ite h.memStoreAll.activate

theorem State.memWf.performRedPacket {p} (h : s.memWf) : (s.performRedPacket p).memWf := h.ite (h.dropRed.ite h.amoHome.tickHandle)

theorem State.memWf.performAtomic {p} (h : s.memWf) : (s.performAtomic p).1.memWf := by
  unfold State.performAtomic
  dsimp only
  split
  · dsimp only
    exact h
  · dsimp only
    exact h.amoHome

theorem State.memWf.parkPermit {p die} (h : s.memWf) : (s.parkPermit p die).memWf := h.modSched
theorem State.memWf.performRead {p} (h : s.memWf) : SomeWf (·) (s.performRead p) := SomeWf.ite trivial h.activate.send
theorem State.memWf.modGhosts {n} {f : TaskState → TaskState} (h : s.memWf) : (s.modGhosts n f).memWf := h.modSched
theorem State.memWf.setDesc {f d} (h : s.memWf) : (s.setDesc f d).memWf := h.setSrcFlow

theorem State.memWf.retransmit {f d} (h : s.memWf) : (s.retransmit f d).memWf := by
  unfold State.retransmit
  dsimp only
  split
  · exact h.setDesc.emit
  · exact h.setDesc
  · exact h.setDesc.askLine.getD h.setDesc

theorem State.memWf.landRereads {eng pkg seq bs bad} (h : s.memWf) : (s.landRereads eng pkg seq bs bad).memWf :=
  h.forEach fun _ _ h => h.retransmit

theorem State.memWf.performData {p} (h : s.memWf) : (s.performData p).memWf := by
  unfold State.performData
  refine State.memWf.ite ?_ (State.memWf.ite ?_ (h.setColl.collTick.ite h))
  · dsimp only
    split
    · exact h
    · exact h.setCore.modGhosts.landRereads.ite h.setCore.modGhosts
  · dsimp only
    split
    · exact h
    · exact h.setCore.modGhosts.onCore fun _ h => h.landLine

theorem State.memWf.performChunk {p} (h : s.memWf) : SomeWf (·) (s.performChunk p) := SomeWf.ite h (SomeWf.ite trivial h.setColl.collTick)

theorem State.memWf.deliverPacket {f port p} (h : s.memWf) : SomeWf Prod.fst (s.deliverPacket f port p) := by
  unfold State.deliverPacket
  dsimp only
  split
  · exact h.performWrite
  · exact h.performRead.map fun _ h => h
  · exact h.performData
  · exact SomeWf.ite trivial (SomeWf.ite h.parkPermit h.performAtomic.sendResult)
  · exact h.performRedPacket
  · exact h.performChunk.map fun _ h => h

theorem State.memWf.deliverMarked {f port p} (h : s.memWf) : SomeWf Prod.fst (s.deliverMarked f port p) := by
  unfold State.deliverMarked
  refine h.deliverPacket.ite ?_
  split
  · exact SomeWf.ite trivial h.send
  · exact SomeWf.ite trivial h.sendResult
  · exact h.dropRed
  · exact h.deliverPacket

theorem State.memWf.afterDelivery {f} (h : s.memWf) : (s.afterDelivery f).1.memWf := by
  unfold State.afterDelivery
  dsimp only
  split
  · dsimp only
    exact h.sendAck
  · dsimp only
    exact h

theorem State.memWf.drainHeld {f fuel} (h : s.memWf) : (s.drainHeld f fuel).1.memWf := by
  induction fuel generalizing s f with
  | zero => exact h
  | succ k ih =>
    unfold State.drainHeld
    split
    · exact h
    split
    · exact h
    next e => exact ih (h.deliverMarked.of_eq e).afterDelivery

theorem State.memWf.arriveIn {f port p} (h : s.memWf) : (s.arriveIn f port p).memWf := by
  unfold State.arriveIn
  refine State.memWf.ite ?_ (State.memWf.ite ?_ (h.sendAck.ite (h.setDstFlow.ite h.setDstFlow)))
  · dsimp only
    split
    · exact h.setDstFlow
    next e => exact (h.deliverMarked.of_eq e).afterDelivery.drainHeld.setDstFlow
  · split
    · exact h.setDstFlow.sendResult
    · exact h.sendAck

theorem State.memWf.arrivePacket {port p} (h : s.memWf) : (s.arrivePacket port p).memWf := h.drainHeld.arriveIn
theorem State.memWf.discard {port} (h : s.memWf) : (s.discard port).memWf := h.modFabric

theorem State.memWf.inbound {name} {type} {port} {p} {f : State → State} (h : s.memWf) (hf : ∀ s, s.memWf → (f s).memWf) :
    (s.inbound name type port p f).memWf :=
  notEnabled_memWf.ite (Out.memWf.ite h.discard (notEnabled_memWf.ite (Out.memWf.ite h (hf _ h))))

theorem execAckSend_memWf {k} (h : s.memWf) : (execAckSend k s).memWf := by
  unfold execAckSend
  dsimp only
  split
  · exact notEnabled_memWf
  · exact (notEnabled_memWf.ite (Out.memWf.next h.drainHeld.setDstFlow)).ite (Out.memWf.next h.drainHeld.sendAck)

theorem State.memWf.pushAcked {asid queue seq} (h : s.memWf) : (s.pushAcked asid queue seq).memWf := by
  unfold State.pushAcked
  split
  · exact h
  · exact h.pushed

theorem State.memWf.acked {w} (h : s.memWf) : (s.acked w).memWf := by
  unfold State.acked
  split
  · exact h.redDone
  · exact h.collTick
  · exact h.closeFor
  · exact h.pushAcked
  · exact h

theorem State.memWf.freeDescs {eng dst tc p} (h : s.memWf) : (s.freeDescs eng dst tc p).memWf :=
  (h.setSrcFlow.forEach fun _ _ h => h.acked).goWords

theorem State.memWf.clearSuspect {q} (h : s.memWf) : (s.clearSuspect q).memWf := h.modFabric

theorem State.memWf.permitAnswer {p} (h : s.memWf) : (s.permitAnswer p).memWf := by
  unfold State.permitAnswer
  extract_lets e take s1
  have h1 : s1.memWf := h.switchTo
  have taken (u : State) (hu : u.memWf) : SomeWf (·) (take u) := by
    dsimp only [take]
    split
    · trivial
    · exact SomeWf.none.ite (SomeWf.ite hu.modCe hu.copyFailed)
  have found (o : State → Option State) (ho : ∀ u, u.memWf → SomeWf (·) (o u)) : SomeWf (·) (match o s1 with
      | .some t => .some t
      | .none => s1.orSaved (·.ended) fun _ => o) := by
    split
    next e => exact (ho s1 h1).of_eq e
    · exact h1.orSaved fun _ => ho
  split
  next e => exact ((found take taken).of_eq e).switchTo
  split
  · exact h
  · exact h.send.ite h

theorem State.memWf.grantPermit (h : s.memWf) : SomeWf (·) s.grantPermit :=
  SomeWf.mapOf fun _ => h.dropUnwanted.takePermit.modSched.setDstFlow.sendResult

theorem execPermitGrant_memWf {c e1} (h : s.memWf) : (execPermitGrant c e1 s).memWf := by
  unfold execPermitGrant
  refine h.atEngine fun s h => ?_
  split
  next e => exact h.askPermit.of_eq e
  · exact h.grantPermit

theorem State.memWf.resend {f d} (h : s.memWf) : (s.resend f d).memWf := h.retransmit
theorem State.memWf.suspect {q} (h : s.memWf) : (s.suspect q).memWf := h.ite h.modFabric
theorem State.memWf.takeFailover {eng} (h : s.memWf) : (s.takeFailover eng).memWf := h.setCore.ite h

theorem execRetxTimeout_memWf {k} (h : s.memWf) : (execRetxTimeout k s).memWf := by
  unfold execRetxTimeout
  dsimp only
  split
  · exact notEnabled_memWf
  · exact (h.takeFailover.suspect.ite h.takeFailover).resend

theorem State.memWf.reroute (h : s.memWf) : s.reroute.memWf := h.forEach fun _ _ h => h.setSrcFlow.forEach fun _ _ h => h.resend

theorem execPacketForward_memWf {n p} (h : s.memWf) : (execPacketForward n p s).memWf := by
  unfold execPacketForward
  refine notEnabled_memWf.ite (Out.memWf.ite h.discard (notEnabled_memWf.ite (Out.memWf.ite h ?_)))
  split
  · exact notEnabled_memWf
  · exact h.emit

theorem State.memWf.sendProbe {q route seq} (h : s.memWf) : (s.sendProbe q route seq).memWf := h.emit

theorem execProbeSend_memWf {q} (h : s.memWf) : (execProbeSend q s).memWf := by
  unfold execProbeSend
  split
  · exact notEnabled_memWf
  · exact h.sendProbe.modFabric

theorem State.memWf.relinkOne {n b c} (h : s.memWf) : (s.relinkOne n b c).memWf := by
  unfold State.relinkOne
  dsimp only
  split
  · exact h
  · split
    · exact h.setCollRun.ite h
    · exact h.ite ((h.collTried h.settleChunk).getD h)

theorem State.memWf.relink {n} (h : s.memWf) : (s.relink n).memWf := by
  unfold State.relink
  dsimp only
  split
  · exact h
  · exact h.ite (h.forEach fun _ _ h => h.relinkOne).collTick

theorem State.memWf.lostWrite {p} (h : s.memWf) : (s.lostWrite p).memWf := h.addRec

theorem State.memWf.losePacket {d} (h : s.memWf) : (s.losePacket d).memWf := by
  unfold State.losePacket
  dsimp only
  split
  · exact h.dropRed
  · exact h.modTask
  · exact h.closeFor.verdictRec
  · exact h.lostWrite.pushAcked
  · exact h
  · exact h.lostWrite.ite (h.dropRed.ite h)

theorem State.memWf.forgetPeer {q} (h : s.memWf) : (s.forgetPeer q).memWf := h.modSched.modFabric
theorem State.memWf.loseBarriers (h : s.memWf) : s.loseBarriers.memWf := (h.forEach fun _ _ h => h.completeTag).modSched

theorem State.memWf.declareLost {q} (h : s.memWf) : (s.declareLost q).memWf := by
  unfold State.declareLost
  extract_lets s1 ds s2 s3 s4 s5 s6
  have h3 : s3.memWf := h.clearSuspect.modFabric.modFabric.forEach fun _ _ h => h.losePacket
  have h4 : s4.memWf := h3.forEach fun _ _ h => h.setCore.onCore fun _ h => h.loseLines
  have h6 : s6.memWf := (h4.forEach fun _ _ h => h.setColl).forgetPeer
  exact (h6.goWords.loseBarriers.ite h6.goWords).forEach fun _ _ h => h.relink

theorem State.memWf.tellLost {q} (h : s.memWf) : (s.tellLost q).memWf := h.modFabric

theorem execPeerLostDeclare_memWf {q} (h : s.memWf) : (execPeerLostDeclare q s).memWf := by
  unfold execPeerLostDeclare
  split
  · exact notEnabled_memWf
  · exact notEnabled_memWf.ite h.glowEvent.tellLost.declareLost

/-! ### Monitors (Machine/Monitor) -/

theorem State.memWf.trip {k tj} (h : s.memWf) : (s.trip k tj).memWf := h.glowEvent.modPower

theorem execDimmerUpdate_memWf {p t1} (h : s.memWf) : (execDimmerUpdate p t1 s).memWf := by
  unfold execDimmerUpdate
  refine notEnabled_memWf.ite ?_
  extract_lets m l g high hot s1 s2 s3 s4
  have h2 : s2.memWf := h.modPower.forEach fun _ _ h => h.modCluster
  have h3 : s3.memWf := h2.ite h2.glowEvent
  have h4 : s4.memWf := by
    dsimp only [s4]
    split
    · exact h3.ite h3.trip
    · exact h3
  exact h4.ite (h4.forEach fun _ _ h => h.tryGang)

theorem State.memWf.freezeAt {d o q} (h : s.memWf) : (s.freezeAt d o q).memWf := by
  unfold State.freezeAt
  dsimp only
  split
  · exact h.setGlow
  · exact h

/-! ### The host (Machine/Host) -/

theorem State.memWf.answer {bs} (h : s.memWf) : (s.answer bs).memWf := h.modMgmt
theorem State.memWf.hostDiscard {wr n} (h : s.memWf) : (s.hostDiscard wr n).memWf := h.mgmtError.ite h.mgmtError.answer

theorem State.memWf.hostAccess {wr a n v} (h : s.memWf) : (s.hostAccess wr a n v).memWf :=
  (h.activate.memStore.ite h.activate.answer).ite (h.ite h.answer)

theorem State.memWf.doLaunch {d w} (h : s.memWf) : (s.doLaunch d w).memWf := h.modPort.ite (h.enroll.modPort.modSched.ite h.enroll.modPort)

theorem State.memWf.doDrop {d w} (h : s.memWf) : (s.doDrop d w).memWf := by
  unfold State.doDrop
  dsimp only
  split
  · exact h.ite h.modSched.dropRefs
  · exact h

theorem State.memWf.doRegister {w} (h : s.memWf) : (s.doRegister w).memWf := h.mgmtError.ite h.modSched
theorem State.memWf.doDelete {w} (h : s.memWf) : (s.doDelete w).memWf := h.mgmtError.ite h.modSched
theorem State.memWf.doHalt {w} (h : s.memWf) : (s.doHalt w).memWf := h.mgmtError.ite (h.modSched.forEach fun _ _ h => h.setCore).modMgmt

theorem State.memWf.writeQueues {asid} (h : s.memWf) : (s.writeQueues asid).memWf := by
  unfold State.writeQueues
  refine h.forEach fun _ s h => ?_
  split
  next e => exact h.agentWrite.of_eq e
  · exact h

theorem State.memWf.putList {pa l} (h : s.memWf) : (s.putList pa l).memWf := by
  induction l generalizing s pa with
  | nil => exact h
  | cons a r ih => exact ih h.memStore

theorem execHaltDrainDone_memWf (h : s.memWf) : (execHaltDrainDone s).memWf := by
  unfold execHaltDrainDone
  dsimp only
  split
  · exact notEnabled_memWf
  · exact h.writeQueues.memStore.putList.modMgmt

theorem State.memWf.rename {old new} (h : s.memWf) : (s.rename old new).memWf := h.modSched
theorem State.memWf.adoptSave {asid rec'} (h : s.memWf) : (s.adoptSave asid rec').memWf := h.ite h.modSched
theorem State.memWf.dropSave {asid rec'} (h : s.memWf) : (s.dropSave asid rec').memWf := h.dropSavedOf.dropRefs
theorem State.memWf.adoptRecord {asid rec'} (h : s.memWf) : (s.adoptRecord asid rec').memWf := h.ite h.modSched

theorem State.memWf.resumeRecord {d asid rec'} (h : s.memWf) : (s.resumeRecord d asid rec').memWf :=
  (h.adoptRecord.adoptSave.ite h.adoptRecord.dropSave).recSet.modSched.makeReady

theorem State.memWf.dropPending {asid} (h : s.memWf) : (s.dropPending asid).memWf := h.ite h.modXlat.countField

theorem State.memWf.doResume {d w} (h : s.memWf) : (s.doResume d w).memWf :=
  Out.memWf.ite h.mgmtError (h.dropPending.dropPending.rename.modSched.forEach fun _ _ h => h.resumeRecord)

theorem State.memWf.doInvalidate {w} (h : s.memWf) : (s.doInvalidate w).memWf := h.mgmtError.ite h.modXlat

theorem execTlbinvDone_memWf (h : s.memWf) : (execTlbinvDone s).memWf := by
  unfold execTlbinvDone
  split
  · exact notEnabled_memWf
  · exact notEnabled_memWf.ite h.modXlat

theorem State.memWf.doAdmit {w} (h : s.memWf) : (s.doAdmit w).memWf := h.modFabric

theorem State.memWf.doKey {w} (h : s.memWf) : (s.doKey w).memWf := by
  unfold State.doKey
  dsimp only
  split
  · exact h.mgmtError
  · exact h

theorem State.memWf.doAttest {w} (h : s.memWf) : (s.doAttest w).memWf := h.mgmtError.ite h.modMgmt

theorem execAttestDone_memWf (h : s.memWf) : (execAttestDone s).memWf := by
  unfold execAttestDone
  split
  · exact notEnabled_memWf
  · exact h.memStore.modMgmt

theorem State.memWf.mgmtRead {o n} (h : s.memWf) : (s.mgmtRead o n).memWf := by
  unfold State.mgmtRead
  refine h.hostDiscard.ite ?_
  split
  · exact h.answer
  · exact h.hostDiscard

theorem State.memWf.atStep {k} (h : s.memWf) : (s.atStep k).memWf := h.modMgmt

theorem State.memWf.bootStep (h : s.memWf) : s.bootStep.memWf := by
  unfold State.bootStep
  split
  · exact h.atStep
  · dsimp only
    split
    · exact h.newKeys.modMgmt
    · exact h.newKeys.atStep
  · exact h.modMgmt
  · exact h.clearSram.modFabric.atStep
  · exact h.atStep
  · trivial

theorem State.memWf.doBoot {w} (h : s.memWf) : (s.doBoot w).memWf := h.mgmtError.ite (h.modMgmt.ite h.modMgmt)
theorem State.memWf.restart (h : s.memWf) : s.restart.memWf := h

theorem State.memWf.doVerdict {w} (h : s.memWf) : (s.doVerdict w).memWf := by
  unfold State.doVerdict
  refine Out.memWf.ite h.mgmtError ?_
  split <;> exact h.verdict

theorem State.memWf.setField {ok f} (h : s.memWf) : (s.setField ok f).memWf := h.modMgmt.ite h.mgmtError

theorem State.memWf.portWrite {d o w} (h : s.memWf) : (s.portWrite d o w).memWf := by
  unfold State.portWrite
  split
  · exact h.doLaunch
  · exact h.modPort
  · exact h.doDrop
  · exact h.mgmtError

theorem State.memWf.plainWrite {o w} (h : s.memWf) : (s.plainWrite o w).memWf := by
  unfold State.plainWrite
  dsimp only
  split
  · exact h.doRegister
  · exact h.doDelete
  · exact h.doHalt
  · exact h.doInvalidate
  iterate 6 exact h.setField
  · exact h.doAdmit
  · exact h.setField
  · exact h.doKey
  · exact h.doAttest
  · exact h.mgmtError

theorem State.memWf.mgmtWrite {o w} (h : s.memWf) : (s.mgmtWrite o w).memWf :=
  (execModeWrite_memWf h).ite ((execThresholdWrite_memWf h).ite
  ((execRowThresholdWrite_memWf h).ite (h.doVerdict.ite
  (h.doResume.ite (Out.memWf.ite h.modCluster (Out.memWf.ite h.setGlow (Out.memWf.ite h.portWrite h.plainWrite)))))))

end

end Sys2Proof.Machine
end

section
/-! PROOF. Memory stays in canonical form: the meaning of every instruction and event. -/

namespace Sys2Proof.Machine

section
variable {s t : State}

/-- Every instruction and every event keeps memory in canonical form. -/
theorem exec_memWf {i} (h : s.memWf) : Out.memWf (exec i s) := by
  cases i <;> dsimp only [exec]
  case nop => exact h.completeWith
  case add | sub | and | or | xor | andn | orn | sll | srl | sra | rol | ror | mul | mulh | mulhu | div | divu | rem | remu | min
      | max | minu | maxu | adds | subs | slt | sltu | seq | clz | ctz | popc | brev | bswap | sextb | sexth | sextw | ptox | pcnt
      | addi | andi | ori | xori | slli | srli | srai | lih | mpr | mrpg | erd => exact h.putX
  case peq | pne | plt | pge | pltu | pgeu | xtop => exact h.putP
  case ldb | ldbu | ldh | ldhu | ldw | ldwu | ldd => exact h.scalarLoad
  case ldq => exact execLdq_memWf h
  case stb | sth | stw | std => exact h.scalarStore
  case stq => exact execStq_memWf h
  case prf => exact h.when fun _ h => h.ite h.modXlat
  case zln => exact execZln_memWf h
  case br => exact h.when fun _ h => h.branchTo
  case call => exact h.when fun _ h => h.branchTo.linked
  case jr => exact h.when fun _ h => h.jumpTo
  case jalr => exact h.when fun _ h => h.jumpTo.linked
  case loop | loopi | loopp => exact h.when fun _ h => h.startLoop
  case lexit => exact h.when fun _ h => h.ite h.modT.setRedirect
  case vadd | vsub | vadds | vsubs | vaddsu | vsubsu | vmul | vmulh | vmulhu | vmulq | vmin | vmax | vminu | vmaxu | vand | vor | vxor
      | vandn | vsll | vsrl | vsra | vavg | vbmm | vpdep | vpext | vbperm => exact h.vbin
  case vabs | vneg | vcls | vpopc => exact h.vun
  case vmov | vq4p => exact h.putV
  case vsel => exact h.setV.renewV
  case vcmpeq | vcmpne | vcmplt | vcmple | vcmpltu | vcmpleu => exact h.vcmp
  case vnarrow => exact Out.memWf.ite h.fault (Out.memWf.ite h h.putV.countSat.census.useIf)
  case vwiden | vcb4 => exact Out.memWf.ite h.fault h.putLanes
  case vshrr | vsshr => exact Out.memWf.ite h.fault h.putV.useIf
  case vsplat | viota | vq4u | vperm | vslide => exact h.putLanes
  case vextr => exact h.when fun _ h => h.fault.ite h.setS
  case vinsr => exact Out.memWf.ite h.fault h.putV
  case vredadd | vredmax | vredmin | vredor => exact h.vred
  case vtorq => exact h.when fun _ h => h.fault.ite (h.fault.ite h.pushRq)
  case vcens => exact Out.memWf.ite h.fault (Out.memWf.ite h (h.census.countSat.ite h.census))
  case vexp => exact execVexp_memWf h
  case vrcp => exact execVrcp_memWf h
  case vrsq => exact execVrsq_memWf h
  case vdiv => exact execVdiv_memWf h
  case vopt => exact execVopt_memWf h
  case vspush => exact execVspush_memWf h
  case vspop => exact Out.memWf.ite h h.putV.dropStream.setP
  case vsflush => exact h.when fun _ h => h.setS.setStream
  case vslen => exact h.when fun _ h => h.setS
  case vld | vlds | vldx => exact h.vload
  case vst | vsts | vstx => exact h.vstore
  case vldt => exact h.tile fun _ h => h.vload
  case vstt => exact h.tile fun _ h => h.vstore
  case vldb => exact execVldb_memWf h
  case vldp => exact execVldp_memWf h
  case vstp => exact execVstp_memWf h
  case mpw | tsclr => exact h.when fun _ h => h.modT
  case mcfg => exact h.when fun _ h => h.fault.ite (h.fault.ite h.modT)
  case mdrain => exact h.when fun _ h => h.setX.modT.ite h.waitHere
  case mcall | mcallg => exact h.when fun _ h => h.issueCall
  case mspec => exact h.when fun _ h => h.whenRoom fun _ h => h.fault.ite h.specCmd
  case mcommit | mdiscard => exact h.when fun _ h => h.whenRoom fun _ h => h.specCmd.ite h.fault
  case mzero => exact h.when fun _ h => h.whenRoom fun _ h => h.fault.ite h.queueMat
  case maccld => exact h.when fun _ h => h.whenRoom fun _ h => h.fault.ite (h.fault.ite h.queueMat)
  case maccst => exact h.when fun _ h => h.whenRoom fun _ h => h.fault.ite (h.fault.ite (h.queueMat.useRandom.ite h.queueMat))
  case mucw => exact h.when fun _ h => h.fault.ite ((h.fault.ite h.modCore).ite (h.fault.ite h.modCore))
  case mucr => exact h.when fun _ h => h.fault.ite h.setX
  case mstat => exact h.when fun _ h => h.whenRoom fun _ h => h.fault.ite h.queueMat.pushRq
  case erw => exact h.when fun _ h => h.modT.ite (h.fault.ite (h.modT.ite h.modMgmt))
  case cpy | cpym | cpyx | cpyw => exact h.when fun _ h => h.issueCopy
  case cpyc => exact h.when fun _ h => h.modT.setX
  case coll => exact h.when fun _ h => h.whenQueue fun _ h => h.fault.ite (h.fault.ite (h.fault.ite (h.fault.ite h.queueCopy)))
  case csig => exact h.when fun _ h => h.whenQueue fun _ h => h.fault.ite (h.fault.ite h.queueCopy)
  case acq => exact execAcq_memWf h
  case rel => exact execRel_memWf h
  case bind => exact execBind_memWf h
  case unbind => exact h.when fun _ h => h.regionEntry.modSched.ite h.fault
  case fence => exact h.when fun _ h => (h.ite h.flushL1).hold.ite (h.ite h.flushL1)
  case qmake => exact execQmake_memWf h
  case qpush => exact execQpush_memWf h
  case qpop => exact execQpop_memWf h
  case qfree => exact execQfree_memWf h
  case mbsend => exact execMbsend_memWf h
  case mbrecv => exact execMbrecv_memWf h
  case mbbind => exact h.when fun _ h => h.fault.ite (h.fault.ite (h.modCore.ite h.modCore))
  case sbarm => exact h.when fun _ h => h.ownBarrier fun _ _ h => h.fault.ite h.setBarrier
  case sbwait => exact h.when fun _ h => h.ownBarrier fun _ _ h => h.waitHere.ite h.observeBarrier
  case sbtst => exact h.when fun _ h => h.ownBarrier fun _ _ h => h.observeBarrier
  case dbar => exact h.when fun _ h => h.fault.ite (h.release.afterWrites fun _ h => h.arriveAt)
  case waitany | waitall => exact h.when fun _ h => h.fault.ite ((h.acquireTags.afterFlush fun _ h => h.setX).ite h.waitHere)
  case ffr => exact execFfr_memWf h
  case tagclr => exact h.when fun _ h => h.modComp
  case rqpop => exact execRqpop_memWf h
  case ldacq => exact execLdacq_memWf h
  case strel => exact execStrel_memWf h
  case invr | wbr => exact h.range
  case tspawn | tspawnr | tspawng | fspawn => exact h.spawn.ite h
  case fref =>
    exact Out.memWf.ite h (h.recordAt (h.seenRecord.fault.ite (h.seenRecord.fault.ite (h.seenRecord.fault.ite h.seenRecord.recSet.modT))))
  case fdrop => exact Out.memWf.ite h (h.recordAt (h.seenRecord.fault.ite h.seenRecord.modT.dropRefs))
  case fget => exact execFget_memWf h
  case tdec =>
    exact Out.memWf.ite h (Out.memWf.ite h.fault (h.recordAt (h.releaseAll.afterWrites fun _ h => h.seenRecord.tdec.deliverFar)))
  case tcont => exact h.when fun _ h => h.waitHere.ite (h.fault.ite (h.fault.ite (h.fault.ite (h.ending fun _ h => h.continueTask))))
  case tend => exact h.when fun _ h => h.ending fun _ h => h.endTask
  case tyield => exact h.when fun _ h => h.ite h.completeUntested.startSave
  case rnext => exact Out.memWf.ite h (h.recordAt (h.fault.ite h.seenRecord.claim.addFar))
  case nxtreq => exact Out.memWf.ite h ((h.recordAt (h.fault.ite h.request)).ite (h.queueFor fun _ _ h => h.request))
  case pload => exact h.when fun _ h => h.fault.ite (h.fault.ite (h.modComp.modComp.ite h.modComp.startLoad))
  case pswap => exact h.when fun _ h => h.fault.ite h.completeUntested.startSave.modCore
  case tsrd | srd | feat => exact h.when fun _ h => h.setX
  case tswr => exact h.when fun _ h => h.fault.ite h.modT
  case swr => exact execSwr_memWf h
  case trap => exact h.when fun _ h => h.completeUntested.trapOrWait
  case eret => exact h.when fun _ h => h.fault.ite (h.raise.ite (h.raise.ite h.modBundle.completeUntested.returnFromTrap))
  case aadd | amin | amax | aminu | amaxu | aand | aor | axor | aswap | acas | aadds => exact h.atomic
  case redadd | redmin | redmax | redadds | redor => exact h.reduction
  case loadLand => exact execLoadLand_memWf h
  case returnQueueLand => exact execReturnQueueLand_memWf h
  case matrixCommandAccept => exact h.atEngine fun _ h => h.acceptMat
  case microEnd => exact h.atEngine fun _ h => h.micro fun _ _ _ h => SomeWf.ite trivial h.endMat
  case microNop | microSetm | microSeti | microAddi | microBnz | microJmp | microChk => exact h.atEngine fun _ h => h.microSeq
  case microLda | microLdb => exact h.atEngine fun _ h => h.microLoad
  case microMac => exact execMicroMac_memWf h
  case microZero => exact h.atEngine fun _ h => h.micro fun _ _ _ h => SomeWf.ite trivial (h.ite h.modMe).microDone
  case microScat | microAddv => exact h.atEngine fun _ h => h.microRegion
  case microReserved => exact execMicroReserved_memWf h
  case stagingLoadComplete => exact h.atEngine fun _ h => h.stagingLoad
  case macStepComplete => exact execMacStepComplete_memWf h
  case matrixCommandComplete => exact execMatrixCommandComplete_memWf h
  case copyCommandStart => exact h.atEngine fun _ h => h.copyStart
  case permitGrant => exact execPermitGrant_memWf h
  case copyGranuleWrite => exact h.atEngine fun _ h => h.copyStep
  case copyCommandComplete => exact execCopyCommandComplete_memWf h
  case collectiveStart => exact notEnabled_memWf.ite h.collStart.enabledOr
  case readyBitSet => exact execReadyBitSet_memWf h
  case collectiveComplete => exact notEnabled_memWf.ite h.collDone.enabledOr
  case nxtreqAnswer => exact execNxtreqAnswer_memWf h
  case redTranslate => exact execRedTranslate_memWf h
  case pageWalkComplete => exact execPageWalkComplete_memWf h
  case faultRecordWrite => exact execFaultRecordWrite_memWf h
  case verdictRetry | verdictTranslation | verdictProtection | verdictDrop => exact h.verdict
  case select => exact execSelect_memWf h
  case imageLoadStart => exact execImageLoadStart_memWf h
  case planeLoadComplete => exact execPlaneLoadComplete_memWf h
  case timeSliceExpiry => exact notEnabled_memWf.ite (notEnabled_memWf.ite (Out.memWf.ite h.preempt h))
  case graceExpiry => exact notEnabled_memWf.ite (Out.memWf.ite h.preempt notEnabled_memWf)
  case saveComplete => exact execSaveComplete_memWf h
  case eclipseReclaim =>
    exact h.atCore fun _ h => (SomeWf.ite (SomeWf.mk h.eclipseFinish) SomeWf.none).ite (SomeWf.ite (SomeWf.mk h.eclipseEnd) SomeWf.none)
  case taskFinish => exact Out.memWf.ite h.finishNow notEnabled_memWf
  case dimmerUpdate => exact execDimmerUpdate_memWf h
  case governorWindowEnd => exact (h.ite (h.forEach fun _ _ h => h.modCluster)).modPower
  case scrub => exact execScrub_memWf h
  case freezeSignal => exact notEnabled_memWf.ite h.freezeAt
  case holdbackEnd => exact Out.memWf.ite h.modMgmt notEnabled_memWf
  case regularRefresh => exact h.modMgmt
  case writePacket | readPacket | rdataPacket | atomicPacket | redPacket | chunkPacket => exact h.inbound fun _ h => h.arrivePacket
  case aresultPacket => exact h.inbound fun _ h => (h.permitAnswer.ite h.setCore).clearSuspect.freeDescs
  case ackPacket => exact h.inbound fun _ h => h.clearSuspect.freeDescs
  case beaconPacket => exact h.inbound fun _ h => h.modFabric.settleBarriers
  case probePacket => exact h.inbound fun _ h => h.sendProbe.ite h.clearSuspect
  case packetForward => exact execPacketForward_memWf h
  case packetAgeDiscard => exact Out.memWf.ite h.modFabric notEnabled_memWf
  case ackSend => exact execAckSend_memWf h
  case retxTimeout => exact execRetxTimeout_memWf h
  case portDown => exact notEnabled_memWf.ite h.modFabric.glowEvent.reroute
  case beaconSend => exact h.ite (h.forEach fun _ _ h => h.emit)
  case beaconMiss => exact notEnabled_memWf.ite h.modFabric.reroute
  case probeSend => exact execProbeSend_memWf h
  case peerLostDeclare => exact execPeerLostDeclare_memWf h
  case lostDeclaration => exact notEnabled_memWf.ite h.declareLost
  case hostMemoryAccess | hostScratchpadAccess => exact h.hostAccess.ite h.hostDiscard
  case launch => exact notEnabled_memWf.ite (h.whenReady fun _ h => h.doLaunch)
  case launchDrop => exact notEnabled_memWf.ite (h.whenReady fun _ h => h.doDrop)
  case contextRegister => exact h.whenReady fun _ h => h.doRegister
  case contextDelete => exact h.whenReady fun _ h => h.doDelete
  case halt => exact h.whenReady fun _ h => h.doHalt
  case haltDrainDone => exact execHaltDrainDone_memWf h
  case resume => exact notEnabled_memWf.ite (h.doResume.ite h.mgmtError)
  case tlbinvPage => exact notEnabled_memWf.ite (h.whenReady fun _ h => h.doInvalidate)
  case tlbinvAsid => exact (h.whenReady fun _ h => h.doInvalidate).ite notEnabled_memWf
  case tlbinvDone => exact execTlbinvDone_memWf h
  case packageAdmit => exact h.whenReady fun _ h => h.doAdmit
  case modeWrite => exact execModeWrite_memWf h
  case thresholdWrite => exact h.whenReady fun _ h => h.modPower
  case rowThresholdWrite => exact h.whenReady fun _ h => h.modMgmt.ite h
  case afterglowRun => exact notEnabled_memWf.ite (h.whenReady fun _ h => h.setGlow)
  case keyLoad => exact h.whenReady fun _ h => h.doKey
  case attest => exact h.whenReady fun _ h => h.doAttest
  case attestDone => exact execAttestDone_memWf h
  case bootGo => exact h.doBoot
  case mgmtWrite => exact Out.memWf.ite h.mgmtError (Out.memWf.ite h.doBoot (h.mgmtWrite.ite h.mgmtError))
  case coldReset | warmReset => exact h.restart
  case supplyLoss => exact h.restart.newKeys
  case l1Eviction => exact execL1Eviction_memWf h

end

end Sys2Proof.Machine
end

section
/-! PROOF. Memory stays in canonical form: the issue of a bundle, the schedule and a step; O6. -/

namespace Sys2Proof.Machine

section
variable {s begun : State}

theorem State.memWf.atSlot {k} (h : s.memWf) : (s.atSlot k).memWf := h.modBundle

theorem State.memWf.waitAt {q} (h : s.memWf) : (s.waitAt q).memWf := by
  have ran : Out.memWf (exec q.2 (s.atSlot q.1)) := exec_memWf h.atSlot
  unfold State.waitAt
  split
  next e => exact (ran.of_eq e).ite h.hold
  · exact ran

/-- What trying a bundle's slots has found faults into a state whose memory is in canonical form. -/
def Tried.badWf (t : Tried) : Prop := ∀ o, t.bad = some o → o.memWf

theorem Tried.badWf.getD {t : Tried} {o : Out} (h : t.badWf) (k : o.memWf) : (t.bad.getD o).memWf := by
  cases e : t.bad with
  | none => exact k
  | some p => exact h p e

theorem Tried.badWf.withBad {t : Tried} {o : Out} (h : t.badWf) (k : o.memWf) :
    Tried.badWf { t with bad := some (t.bad.getD o) } := by
  rintro p ⟨⟩
  exact h.getD k

/-- The state of the bundle's start is what a fault that is found goes to, so nothing is asked of the state that is tried. -/
theorem State.memWf.tryFrom {l r} (h : begun.memWf) (hr : r.badWf) : (begun.tryFrom s l r).badWf := by
  induction l generalizing s r with
  | nil => exact hr
  | cons q l ih =>
    unfold State.tryFrom
    split
    · split
      · split
        · exact ih hr
        · exact ih hr
      · split
        · exact ih hr
        · exact ih (hr.withBad h.raise)
    · exact ih (hr.withBad trivial)
    · exact ih (hr.withBad trivial)

theorem Tried.start_badWf : Tried.start.badWf := fun _ e => nomatch e

theorem State.memWf.probe {l} (h : s.memWf) : ∀ o, s.probe l = some o → o.memWf := by
  have bad : (s.tryFrom s l .start).badWf := h.tryFrom Tried.start_badWf
  unfold State.probe
  dsimp only
  split
  · rintro _ ⟨⟩; exact h.waitAt
  next e => rintro _ ⟨⟩; exact bad _ e
  · rintro _ ⟨⟩; exact h.waitAt
  · exact fun _ e => nomatch e

theorem State.memWf.effects {l} (h : s.memWf) (hb : begun.memWf) : (s.effects begun l).memWf := by
  induction l generalizing s with
  | nil => exact h.endBundle
  | cons q l ih =>
    unfold State.effects
    split
    next e =>
      have ran := (exec_memWf h.atSlot).of_eq e
      split
      · exact ran.modBundle.ite hb.hold
      · split
        · exact ih ran
        · exact hb.raise
    · trivial
    · trivial

theorem State.memWf.runSlots {d} (h : s.memWf) : (s.runSlots d).memWf := by
  unfold State.runSlots
  split
  · exact exec_memWf h
  · split
    next e =>
      have ran := (exec_memWf h.atSlot).of_eq e
      exact ran.ite ran.endBundle
    · trivial
    · trivial
  · split
    next e => exact h.probe _ e
    · exact h.modBundle.effects h

theorem State.memWf.endWait (h : s.memWf) : s.endWait.memWf := (h.eclipseEnd.ite (h.startSave.ite h)).ite h

theorem State.memWf.runTail {d} (h : s.memWf) : (s.runTail d).memWf := h.modBundle.effects h.modBundle

theorem State.memWf.runPoisoned {d k} (h : s.memWf) : (s.runPoisoned d k).memWf := by
  unfold State.runPoisoned
  split
  · exact h.waitAt
  · exact (h.tryFrom Tried.start_badWf).getD h.raise

theorem State.memWf.runNear {d} (h : s.memWf) : (s.runNear d).memWf := by
  unfold State.runNear
  split
  · exact h.runSlots
  · exact h.runPoisoned

theorem Out.memWf.ended {o : Out} (h : o.memWf) : (ended o).memWf := by
  cases o with
  | next s => exact State.memWf.endWait h
  | fault f => trivial
  | refused f => trivial

theorem State.memWf.runBundle {d} (h : s.memWf) : (s.runBundle d).memWf :=
  Out.memWf.ite h.eclipseEnd (h.runTail.ite (Out.memWf.ite h.takeException
    (Out.memWf.ite (Out.memWf.ite h.beginBundle.hold h.beginBundle.runNear.ended) h.beginBundle.runSlots.ended)))

theorem State.memWf.fetch (h : s.memWf) : s.fetch.memWf := by
  unfold State.fetch
  dsimp only
  split
  · exact h.takeException
  · refine Out.memWf.ite h.scw ?_
    split
    · exact h.takeException
    · exact h.runBundle

theorem State.memWf.issue (h : s.memWf) : s.issue.memWf := by
  unfold State.issue
  dsimp only
  split
  · exact Out.memWf.ite h.settle.hold h.modCore.enterTrap
  · split
    · exact h.modT.trapOrWait
    · exact Out.memWf.ite (h.ite h.modT).startSave (h.ite h.modT).fetch

/-- Each of some events of the schedule keeps memory in canonical form. -/
def EventsKeep (l : List (State → Out)) : Prop := ∀ f ∈ l, ∀ s, s.memWf → (f s).memWf

theorem EventsKeep.firstEvent {l} (hl : EventsKeep l) (h : s.memWf) : SomeWf (·) (firstEvent l s) := by
  induction l with
  | nil => trivial
  | cons f r ih =>
    obtain ⟨hf, hr⟩ := List.forall_mem_cons.mp hl
    unfold Machine.firstEvent
    split
    next e => exact (hf s h).of_eq e
    · exact ih hr
    · exact ih hr

theorem EventsKeep.append {l r} (hl : EventsKeep l) (hr : EventsKeep r) : EventsKeep (l ++ r) :=
  List.forall_mem_append.mpr ⟨hl, hr⟩

theorem EventsKeep.cons {f l} (hf : ∀ s, s.memWf → (f s).memWf) (hl : EventsKeep l) : EventsKeep (f :: l) :=
  List.forall_mem_cons.mpr ⟨hf, hl⟩

theorem EventsKeep.map {α : Type} {l : List α} {f : α → State → Out} (hf : ∀ a s, s.memWf → (f a s).memWf) : EventsKeep (l.map f) :=
  List.forall_mem_map.mpr fun a _ => hf a

theorem EventsKeep.flatMap {α : Type} {l : List α} {f : α → List (State → Out)} (hf : ∀ a, EventsKeep (f a)) :
    EventsKeep (l.flatMap f) := by
  intro g m
  obtain ⟨a, _, k⟩ := List.mem_flatMap.mp m
  exact hf a g k

/-- Events of the operation table are meanings of instructions. -/
theorem eventsKeep_exec {l : List Instr} : EventsKeep (l.map exec) := EventsKeep.map fun _ _ h => exec_memWf h

theorem eventsKeep_matEvents {c e} : EventsKeep (matEvents c e) :=
  eventsKeep_exec (l := [.matrixCommandComplete c e, .macStepComplete c e, .stagingLoadComplete c e false, .stagingLoadComplete c e true,
    .matrixCommandAccept c e, .microEnd c e, .microNop c e, .microSetm c e, .microSeti c e, .microAddi c e, .microBnz c e, .microJmp c e,
    .microLda c e, .microLdb c e, .microMac c e, .microZero c e, .microScat c e, .microAddv c e, .microChk c e, .microReserved c e])

theorem eventsKeep_copyEvents {c e} : EventsKeep (copyEvents c e) :=
  eventsKeep_exec (l := [.copyCommandComplete c e 0, .copyCommandStart c e, .permitGrant c e, .copyGranuleWrite c e, .readyBitSet c e])

theorem eventsKeep_coreEvents {c} : EventsKeep (coreEvents c) := by
  have loads : EventsKeep [execLoadLand c 0 .clean, execNxtreqAnswer c] := eventsKeep_exec (l := [.loadLand c 0 .clean, .nxtreqAnswer c])
  have queues : EventsKeep ((List.range 16).map (execReturnQueueLand c)) := EventsKeep.map fun _ _ h => execReturnQueueLand_memWf h
  have reds : EventsKeep [execRedTranslate c] := eventsKeep_exec (l := [.redTranslate c])
  have ends : EventsKeep [execSaveComplete c, execEclipseReclaim c, execPlaneLoadComplete c] :=
    eventsKeep_exec (l := [.saveComplete c, .eclipseReclaim c, .planeLoadComplete c])
  exact ((((((loads.append queues).append reds).append eventsKeep_matEvents).append eventsKeep_matEvents).append eventsKeep_copyEvents).append
    eventsKeep_copyEvents).append ends

theorem State.memWf.selectNow {c} (h : s.memWf) : (selectNow c s).memWf := by
  have ran : Out.memWf (execSelect c s) := execSelect_memWf h
  unfold Machine.selectNow
  split
  next e => exact notEnabled_memWf.ite (ran.of_eq e)
  · exact ran

theorem eventsKeep_packageEvents : EventsKeep s.packageEvents := by
  unfold State.packageEvents
  have colls : EventsKeep ((List.range 32).flatMap fun n => [execCollectiveStart n, execCollectiveComplete n]) :=
    EventsKeep.flatMap fun n => eventsKeep_exec (l := [.collectiveStart n, .collectiveComplete n])
  have singles : EventsKeep [execPageWalkComplete 0, execAckSend 0, execTlbinvDone, execHaltDrainDone, execAttestDone] :=
    eventsKeep_exec (l := [.pageWalkComplete 0, .ackSend 0, .tlbinvDone, .haltDrainDone, .attestDone])
  refine .append (.append (.append (.append (.append (.append (.cons (fun _ h => h.bootStep) colls) ?_) ?_) singles) ?_) ?_) ?_
  · exact .map fun r _ h => exec_memWf (i := .taskFinish r.task.asid r.task.record.toNat) h
  · exact .map fun r _ h => exec_memWf (i := .faultRecordWrite r.asid) h
  · exact .map fun b _ h => exec_memWf (i := .holdbackEnd b) h
  · exact .map fun r _ h => exec_memWf (i := .imageLoadStart r.task.asid r.task.record.toNat) h
  · split
    · exact .map fun _ _ h => h.selectNow
    · exact fun _ m => nomatch m

theorem State.memWf.nextInternal (h : s.memWf) : SomeWf (·) s.nextInternal := by
  have here : SomeWf (·) (firstEvent (coreEvents s.cur) s) := eventsKeep_coreEvents.firstEvent h
  have there : SomeWf (·) (firstEvent ((s.others.map (·.1)).flatMap coreEvents) s) :=
    (EventsKeep.flatMap fun _ => eventsKeep_coreEvents).firstEvent h
  unfold State.nextInternal
  split
  next e => exact here.of_eq e
  · split
    next e => exact there.of_eq e
    · exact eventsKeep_packageEvents.firstEvent h

theorem State.memWf.turn {n} (h : s.memWf) : (s.turn n).memWf := Out.memWf.ite trivial (h.switchTo.issue.ite h.switchTo)

theorem State.memWf.passTurn (h : s.memWf) : s.passTurn.memWf := by
  unfold State.passTurn
  split
  · exact h
  · exact h.switchTo

theorem State.memWf.afterIssue (h : s.memWf) : s.afterIssue.memWf := ((h.nextInternal.getD h).ite h).passTurn

theorem State.memWf.eventDue (h : s.memWf) : SomeWf (·) s.eventDue := h.nextInternal.ite .none

theorem State.memWf.idleTurn (h : s.memWf) : s.idleTurn.memWf := by
  unfold State.idleTurn
  refine Out.memWf.ite ?_ ?_
  · split
    next e => exact (eventsKeep_packageEvents.firstEvent h).of_eq e
    · trivial
  · split
    next e => exact (h.eventDue.of_eq e).passTurn
    · refine Out.memWf.ite ?_ ?_
      · split
        next e => exact (h.issue.of_eq e).afterIssue
        · exact h.issue
      · split
        next e => exact (h.nextInternal.of_eq e).passTurn
        · split
          · exact h.turn
          · exact h

theorem State.memWf.pass (h : s.memWf) : s.pass.memWf := h

/-- An agenda's remaining entries hold no memory. -/
theorem State.memWf.withAgenda {r} (h : s.memWf) : ({ s with agenda := r } : State).memWf := h

theorem State.memWf.advance (h : s.memWf) : s.advance.memWf := by
  unfold State.advance
  split
  · exact h.idleTurn
  · exact Out.memWf.ite (Out.memWf.ite trivial (exec_memWf h.withAgenda)) trivial
  · exact Out.memWf.ite h.withAgenda.turn trivial
  · exact h.withAgenda.freezeAt
  · exact h.withAgenda.mgmtRead
  · exact Out.memWf.ite h.withAgenda.regError trivial
  · exact h.withAgenda.readError
  · exact h.withAgenda.bootStep

theorem step_memWf (h : s.memWf) : Out.memWf (step s) := h.pass.advance

end

end Sys2Proof.Machine
end

section
/-! PROOF. O6. -/

namespace Sys2Proof.Machine

/-- Settles O6. -/
theorem memoryCanonicalKept : Obligations.MemoryCanonicalKept := fun _ _ h e => (step_memWf h).of_eq e

end Sys2Proof.Machine
end

section
/-! PROOF. The step of a core that issues a bundle, and the step of an event. -/

namespace Sys2Proof.Machine

section
variable {s : State} {hw : Code} {d : Decoded} {e : Instr} {r : List Move}

/-- A core runs a task and is about to issue the bundle that decodes from its program counter: no trap, saturation test or
forced save is due, no bundle's last slot waits, and the bundle is not reclaimed, does not overrun its segment and is not interlocked (R31, R43, R59, R60, R90, R226). -/
structure Core.Issues (c : Core) (hw : Code) (d : Decoded) : Prop where
  running : c.mode = .running
  noTrap : c.pendTrap = none
  noSat : c.t.satPend = []
  noTail : c.bundle.tail = false
  noForcedSave : c.t.sys.preq.getLsbD 1 = false
  fetched : c.fetchWord c.t.pc = .ok hw
  notScw : Code.cls hw ≠ 0xE#4
  decoded : c.decodeBundle hw = .ok d
  notReclaimed : (c.t.sys.ecl && d.reclaims) = false
  inSegment : c.t.seg.overrun d.head.wait = false
  free : c.t.interlocked d = false

/-- An outcome whose next state, if there is one, goes on by f. -/
def Out.goOn (o : Out) (f : State → State) : Out :=
  match o with
  | .next t => .next (f t)
  | .fault x => .fault x
  | .refused x => .refused x

theorem Out.goOn_goOn {o : Out} {f g : State → State} : (o.goOn f).goOn g = o.goOn fun t => g (f t) := by
  cases o with
  | next t => rfl
  | fault x => rfl
  | refused x => rfl

theorem State.modT_clearSat (h : s.core.t.satPend = []) : (s.modT fun t => { t with satPend := [] }) = s := by
  have same : { s.core.t with satPend := [] } = s.core.t := by rw [← h]
  rw [State.modT, same]

theorem State.runSlots_single {k i} (h : d.slots = [(k, i)]) :
    s.runSlots d = Out.goOn (exec i (s.atSlot k)) fun t => if t.settled then t else t.endBundle := by
  rw [State.runSlots, h]
  rfl

theorem State.runSlots_empty (h : d.slots = []) : s.runSlots d = exec (nopOf d.head) s := by
  rw [State.runSlots, h]

theorem State.runBundle_of_issues (h : s.core.Issues hw d) : s.runBundle d = ((s.beginBundle d).runSlots d).goOn State.endWait := by
  simp only [State.runBundle, h.notReclaimed, h.noTail, h.inSegment, h.free, Bool.false_eq_true, if_false]
  rfl

theorem State.fetch_of_issues (h : s.core.Issues hw d) : s.fetch = s.runBundle d := by
  simp only [State.fetch, h.fetched, h.decoded, if_neg h.notScw]

/-- With no command's saturation pending there is nothing to test, and clearing the pending list changes nothing (R106). -/
theorem State.issue_of_issues (h : s.core.Issues hw d) : s.issue = s.fetch := by
  have noTest : satExc s.core.t.ts [] = none := rfl
  simp only [State.issue, h.noTrap, h.noSat, noTest, ite_self, h.noForcedSave, State.modT_clearSat h.noSat, Bool.false_and,
    Bool.false_eq_true, if_false]

theorem State.issue_eq_goOn (h : s.core.Issues hw d) : s.issue = ((s.beginBundle d).runSlots d).goOn State.endWait := by
  rw [State.issue_of_issues h, State.fetch_of_issues h, State.runBundle_of_issues h]

theorem State.turn_of_issues (h : s.core.Issues hw d) (on : s.power.tripped = false) : s.turn s.cur = s.issue := by
  simp only [State.turn, State.switchTo_cur, on, h.running, Bool.false_eq_true, if_false, if_true]

theorem State.idleTurn_of_issues (h : s.core.Issues hw d) (on : s.power.tripped = false) (quiet : s.eventDue = none) :
    s.idleTurn = s.issue.goOn State.afterIssue := by
  simp only [State.idleTurn, on, quiet, h.running, Bool.false_eq_true, if_false, if_true]
  cases s.issue with
  | next t => rfl
  | fault x => rfl
  | refused x => rfl

theorem step_event (h : s.agenda = .event e :: r) (he : Instr.isEvent e = true) :
    step s = if s.power.tripped = true ∧ Instr.onCore e = true then .fault .coreClocksStopped else exec e { s.pass with agenda := r } := by
  have head : s.pass.agenda = .event e :: r := h
  have power : s.pass.power = s.power := rfl
  simp only [step, State.advance, head, he, power, Bool.and_eq_true, if_true]

theorem step_core (h : s.agenda = .core s.cur :: r) (hn : s.cur < 576) : step s = State.turn { s.pass with agenda := r } s.cur := by
  have head : s.pass.agenda = .core s.cur :: r := h
  simp only [step, State.advance, head, hn, if_true]

theorem step_empty (h : s.agenda = []) : step s = s.pass.idleTurn := by
  have empty : s.pass.agenda = [] := h
  simp only [step, State.advance, empty]

theorem step_core_issues (h : s.core.Issues hw d) (on : s.power.tripped = false) (ha : s.agenda = .core s.cur :: r) (hn : s.cur < 576) :
    step s = ((State.beginBundle { s.pass with agenda := r } d).runSlots d).goOn State.endWait := by
  have at' : Core.Issues (State.core { s.pass with agenda := r }) hw d := h
  rw [step_core ha hn, ← State.issue_eq_goOn at']
  exact State.turn_of_issues at' on

theorem step_empty_issues (h : s.core.Issues hw d) (on : s.power.tripped = false) (ha : s.agenda = []) (quiet : s.pass.eventDue = none) :
    step s = ((s.pass.beginBundle d).runSlots d).goOn State.afterTurn := by
  have at' : s.pass.core.Issues hw d := h
  rw [step_empty ha, State.idleTurn_of_issues at' on quiet, State.issue_eq_goOn at', Out.goOn_goOn]
  rfl

end

end Sys2Proof.Machine
end

section
/-! PROOF. O4. -/

namespace Sys2Proof.Machine

/-- Settles O4. -/
theorem stepRunsDecoded : Obligations.StepRunsDecoded := by
  refine ⟨fun s e r => step_event,
    fun s hw d on running noTrap noSat noTail noForcedSave fetched notScw decoded notReclaimed inSegment free => ?_⟩
  have h : s.core.Issues hw d :=
    ⟨running, noTrap, noSat, noTail, noForcedSave, fetched, notScw, decoded, notReclaimed, inSegment, free⟩
  refine ⟨fun r ha hn => ⟨fun k i single => ?_, fun empty => ?_⟩, fun ha quiet => ⟨fun k i single => ?_, fun empty => ?_⟩⟩
  · rw [step_core_issues h on ha hn, State.runSlots_single single, Out.goOn_goOn]
    rfl
  · rw [step_core_issues h on ha hn, State.runSlots_empty empty]
    rfl
  · rw [step_empty_issues h on ha quiet, State.runSlots_single single, Out.goOn_goOn]
    rfl
  · rw [step_empty_issues h on ha quiet, State.runSlots_empty empty]
    rfl

end Sys2Proof.Machine
end

section
/-! PROOF. O7 and O12: scalar results in a register or a predicate. -/

namespace Sys2Proof.Machine

/-! ### A result from the value that is put -/

theorem ResultX.of_putX {s : State} {g : BitVec 4} {d : BitVec 6} {v w : Word} {n : Nat} {o : Out} (ho : o = s.putX g d v n) (hv : v = w) :
    ResultX g d w n s o := by
  subst ho hv; exact s.putX_result g d v n

theorem ResultP.of_putP {s : State} {g p : BitVec 4} {v w : Pred} {o : Out} (ho : o = s.putP g p v) (hv : v = w) : ResultP g p w s o := by
  subst ho hv; exact s.putP_result g p v

/-! ### The values of R62, R67 and R69 -/

theorem slt_iff (a b : Word) : a.slt b = true ↔ a.toInt < b.toInt := by simp [BitVec.slt]
theorem ult_iff (a b : Word) : a.ult b = true ↔ a.toNat < b.toNat := by simp [BitVec.ult]

/-- Where a strict and a weak comparison choose differently, the values are equal. -/
theorem minS_eq (a b : Word) : minS a b = if a.toInt ≤ b.toInt then a else b := by
  simp only [minS, slt_iff]
  split
  · rw [if_pos (by omega)]
  · split
    · exact (BitVec.eq_of_toInt_eq (by omega)).symm
    · rfl

theorem maxS_eq (a b : Word) : maxS a b = if a.toInt ≤ b.toInt then b else a := by
  simp only [maxS, slt_iff]
  split
  · rw [if_pos (by omega)]
  · split
    · exact BitVec.eq_of_toInt_eq (by omega)
    · rfl

theorem minU_eq (a b : Word) : minU a b = if a.toNat ≤ b.toNat then a else b := by
  simp only [minU, ult_iff]
  split
  · rw [if_pos (by omega)]
  · split
    · exact (BitVec.eq_of_toNat_eq (by omega)).symm
    · rfl

theorem maxU_eq (a b : Word) : maxU a b = if a.toNat ≤ b.toNat then b else a := by
  simp only [maxU, ult_iff]
  split
  · rw [if_pos (by omega)]
  · split
    · exact BitVec.eq_of_toNat_eq (by omega)
    · rfl

theorem boolWord_slt (a b : Word) : boolWord (a.slt b) = if a.toInt < b.toInt then 1 else 0 := by simp only [boolWord, slt_iff]
theorem boolWord_ult (a b : Word) : boolWord (a.ult b) = if a.toNat < b.toNat then 1 else 0 := by simp only [boolWord, ult_iff]
theorem boolWord_decide (p : Prop) [Decidable p] : boolWord (decide p) = if p then 1 else 0 := by simp only [boolWord, decide_eq_true_eq]

/-- A shift amount that decode admits is its own sign extension (R69). -/
theorem toNat_imm9 {m : BitVec 9} (h : m.toNat < 64) : (imm9 m).toNat = m.toNat := by
  have hm : m.msb = false := by rw [BitVec.msb_eq_decide, decide_eq_false_iff_not]; omega
  rw [imm9, BitVec.signExtend_eq_setWidth_of_msb_false hm, BitVec.toNat_setWidth]
  omega

theorem shiftLeft_imm9 (a : Word) {m : BitVec 9} (h : m.toNat < 64) : shiftLeft a (imm9 m) = a <<< m.toNat := by
  rw [shiftLeft, toNat_imm9 h, if_pos h]

theorem shiftRight_imm9 (a : Word) {m : BitVec 9} (h : m.toNat < 64) : shiftRight a (imm9 m) = a >>> m.toNat := by
  rw [shiftRight, toNat_imm9 h, if_pos h]

theorem shiftArith_imm9 (a : Word) {m : BitVec 9} (h : m.toNat < 64) : shiftArith a (imm9 m) = a.sshiftRight m.toNat := by
  rw [shiftArith, toNat_imm9 h, show m.toNat.min 63 = m.toNat from Nat.min_eq_left (by omega)]

/-- A shift amount outside 0 to 63 is refused at decode (R69). -/
theorem operandFault_shift {m : BitVec 9} (h : 64 ≤ m.toNat) (g : BitVec 4) (d a : BitVec 6) :
    ∀ i ∈ [Instr.slli g d a m, .srli g d a m, .srai g d a m], i.operandFault = some 2 := by
  have hm : 63#9 < m := by rw [BitVec.lt_def]; exact h
  simp [Instr.operandFault, hm]

/-- A result for x0 changes nothing (R10). -/
theorem State.putX_zero (s : State) (g : BitVec 4) (v : Word) (n : Nat) : s.putX g 0#6 v n = .next s := by
  simp [State.putX, State.when]

/-- Settles O7: each meaning puts one value, which is the one that R62, R69 and R70 name. -/
theorem scalarResults : Obligations.ScalarResults := by
  refine ⟨fun s g d a b => ?_, fun s g d a m n => ?_⟩
  · exact ⟨.of_putX rfl rfl, .of_putX rfl rfl, .of_putX rfl rfl, .of_putX rfl rfl, .of_putX rfl rfl, .of_putX rfl rfl, .of_putX rfl rfl,
      .of_putX rfl (minS_eq _ _), .of_putX rfl (maxS_eq _ _), .of_putX rfl (minU_eq _ _), .of_putX rfl (maxU_eq _ _), .of_putX rfl rfl,
      .of_putX rfl rfl, .of_putX rfl (boolWord_slt _ _), .of_putX rfl (boolWord_ult _ _), .of_putX rfl (boolWord_decide _)⟩
  · exact ⟨.of_putX rfl rfl, .of_putX rfl rfl, .of_putX rfl rfl, .of_putX rfl rfl,
      fun h => ⟨.of_putX rfl (shiftLeft_imm9 _ h), .of_putX rfl (shiftRight_imm9 _ h), .of_putX rfl (shiftArith_imm9 _ h)⟩,
      fun h => operandFault_shift h g d a, .of_putX rfl rfl, State.putX_zero _ _ _ _⟩

/-! ### Predicates -/

theorem predAll_decide (p : Prop) [Decidable p] : predAll (decide p) = if p then BitVec.allOnes 256 else 0 := by
  simp only [predAll, decide_eq_true_eq]

theorem predAll_slt (a b : Word) : predAll (a.slt b) = if a.toInt < b.toInt then BitVec.allOnes 256 else 0 := by simp only [predAll, slt_iff]
theorem predAll_ult (a b : Word) : predAll (a.ult b) = if a.toNat < b.toNat then BitVec.allOnes 256 else 0 := by simp only [predAll, ult_iff]

theorem predAll_not_slt (a b : Word) : predAll (!a.slt b) = if b.toInt ≤ a.toInt then BitVec.allOnes 256 else 0 := by
  simp only [predAll, Bool.not_eq_true', ← Bool.not_eq_true, slt_iff, Int.not_lt]

theorem predAll_not_ult (a b : Word) : predAll (!a.ult b) = if b.toNat ≤ a.toNat then BitVec.allOnes 256 else 0 := by
  simp only [predAll, Bool.not_eq_true', ← Bool.not_eq_true, ult_iff, Nat.not_lt]

/-- Replacing lanes 64k to 64k + 63 leaves the other lanes (R68). -/
theorem getLsbD_predPart (p : Pred) (k : Nat) (v : Word) (hk : k < 4) (i : Nat) (hi : i < 256) :
    (predPart p k v).getLsbD i = if i / 64 = k then v.getLsbD (i % 64) else p.getLsbD i := by
  have h64 : i - 64 * k < 256 := by omega
  simp only [predPart, BitVec.getLsbD_or, BitVec.getLsbD_and, BitVec.getLsbD_not, BitVec.getLsbD_shiftLeft, BitVec.getLsbD_setWidth,
    BitVec.getLsbD_allOnes, hi, h64, decide_true, Bool.true_and]
  split
  · rename_i h
    have h1 : ¬ i < 64 * k := by omega
    have h2 : i - 64 * k = i % 64 := by omega
    have h3 : i % 64 < 64 := by omega
    simp [h1, h2, h3]
  · rename_i h
    by_cases h1 : i < 64 * k
    · simp [h1]
    · have h2 : ¬ i - 64 * k < 64 := by omega
      simp [h1, h2, BitVec.getLsbD_of_ge v (i - 64 * k) (by omega)]

/-- The count of the one bits among the low n. -/
theorem popNat_eq_length_filter (n v : Nat) : popNat n v = ((List.range n).filter fun i => v.testBit i).length := by
  induction n with
  | zero => rfl
  | succ n ih =>
    rw [popNat, ih, List.range_succ, List.filter_append, List.length_append, Nat.add_comm]
    by_cases h : v / 2 ^ n % 2 = 1
    · simp [Nat.testBit_eq_decide_div_mod_eq, h]
    · simp [Nat.testBit_eq_decide_div_mod_eq, h]; omega

/-- The predicate moves' limits at decode (R68). -/
theorem operandFault_predMoves (g p : BitVec 4) (d a k : BitVec 6) (h : 4 ≤ k.toNat) :
    (Instr.ptox g d p k).operandFault = some 2 ∧ (p ≠ 0 → (Instr.xtop g p a k).operandFault = some 2) := by
  have hk : 3#6 < k := by rw [BitVec.lt_def]; exact h
  constructor
  · simp [Instr.operandFault, hk]
  · intro (hp : ¬p = 0#4)
    simp [Instr.operandFault, hk, hp]

/-- Settles O12. -/
theorem predicateResults : Obligations.PredicateResults := by
  refine ⟨fun s g p q d a k => ⟨fun hk => ⟨_, .of_putX rfl rfl, fun i hi => ?_⟩, fun hk => ⟨_, .of_putP rfl rfl, fun i hi => ?_⟩,
    .of_putX rfl ?_, operandFault_predMoves g p d a k, rfl⟩, fun s g p a b => ⟨?_, ?_⟩⟩
  · simp [hi]
  · exact getLsbD_predPart _ _ _ hk i hi
  · simp only [popNat_eq_length_filter, BitVec.testBit_toNat, BitVec.getLsbD_and]
  · exact ⟨.of_putP rfl (predAll_decide _), .of_putP rfl (predAll_decide _), .of_putP rfl (predAll_slt _ _), .of_putP rfl (predAll_not_slt _ _),
      .of_putP rfl (predAll_ult _ _), .of_putP rfl (predAll_not_ult _ _)⟩
  · simp [Instr.operandFault]

end Sys2Proof.Machine
end

section
/-! PROOF. O19: the value of each lane operation (R116). -/

namespace Sys2Proof.Machine

/-! ### Lanes as numbers -/

theorem Width.bits_pos (w : Width) : 0 < Width.bits w := by cases w <;> decide

theorem laneS_eq (n : Nat) (v : VecReg) (l : Nat) : laneS n v l = sgn n (lane n v l) := by
  have h := (v.extractLsb' (n * l) n).isLt
  rw [laneS, BitVec.toInt_eq_toNat_cond, sgn, lane, Nat.mod_eq_of_lt h]
  rcases n with _ | n
  · simp
  · have : 2 * (v.extractLsb' ((n + 1) * l) (n + 1)).toNat < 2 ^ (n + 1) ↔ (v.extractLsb' ((n + 1) * l) (n + 1)).toNat < 2 ^ (n + 1 - 1) := by
      rw [Nat.pow_succ, Nat.add_sub_cancel]; omega
    simp only [this]

theorem State.opLane_lt (s : State) (n : Nat) (b : VOpnd) (l : Nat) : s.opLane n b l < 2 ^ n := by
  cases b with
  | v r => exact lane_lt _ _ _
  | x r => exact Nat.mod_lt _ (by positivity)

/-! ### Patterns -/

theorem pat_lt (n : Nat) (x : Int) : pat n x < 2 ^ n := by
  have h := Int.emod_lt_of_pos x (show (0 : Int) < 2 ^ n by positivity)
  have h0 := Int.emod_nonneg x (show (2 ^ n : Int) ≠ 0 by positivity)
  unfold pat
  zify
  omega

theorem pat_natCast_mod (n x : Nat) : pat n x = x % 2 ^ n := by rw [pat]; norm_cast

/-- A pattern is the number that has it, where there is one. -/
theorem pat_natCast {n x : Nat} (h : x < 2 ^ n) : pat n x = x := by rw [pat_natCast_mod, Nat.mod_eq_of_lt h]

theorem pat_add_pow (n : Nat) (x : Int) : pat n (x + 2 ^ n) = pat n x := by rw [pat, Int.add_emod_right, pat]

/-- The signed value of n bits is the number or the number less 2^n. -/
theorem sgn_cases {n v : Nat} (h : v < 2 ^ n) : sgn n v = if v < 2 ^ (n - 1) then (v : Int) else (v : Int) - 2 ^ n := by
  rw [sgn, Nat.mod_eq_of_lt h]; push_cast; rfl

theorem pat_sgn {n v : Nat} (h : v < 2 ^ n) : pat n (sgn n v) = v := by
  rw [sgn_cases h]
  split
  · exact pat_natCast h
  · rw [← pat_add_pow, sub_add_cancel]; exact pat_natCast h

theorem pow_pred {n : Nat} (hn : 0 < n) : 2 ^ n = 2 * 2 ^ (n - 1) := by
  obtain ⟨k, rfl⟩ := Nat.exists_eq_succ_of_ne_zero hn.ne'
  rw [Nat.succ_sub_one, Nat.pow_succ, Nat.mul_comm]

/-- The range of a signed lane. -/
theorem sgn_range {n v : Nat} (hn : 0 < n) (h : v < 2 ^ n) : -(2 ^ (n - 1) : Int) ≤ sgn n v ∧ sgn n v ≤ 2 ^ (n - 1) - 1 := by
  have hp : (2 ^ n : Int) = 2 * 2 ^ (n - 1) := by exact_mod_cast pow_pred hn
  have h' : (v : Int) < 2 ^ n := by exact_mod_cast h
  rw [sgn_cases h]
  split
  · rename_i hv
    have : (v : Int) < 2 ^ (n - 1) := by exact_mod_cast hv
    omega
  · rename_i hv
    have : (2 ^ (n - 1) : Int) ≤ v := by exact_mod_cast Nat.le_of_not_lt hv
    omega

/-! ### The functions of R116 -/

theorem lanePat_sub {n x y : Nat} (hy : y < 2 ^ n) : lanePat n ((x : Int) - y) = (x + 2 ^ n - y) % 2 ^ n := by
  have e : ((x + 2 ^ n - y : Nat) : Int) = (x : Int) - y + 2 ^ n := by
    rw [Nat.cast_sub (by omega)]; push_cast; ring
  rw [lanePat, ← pat_add_pow, ← e, pat_natCast_mod]

theorem laneSatU_add (n x y : Nat) : laneSatU n ((x : Int) + y) = min (2 ^ n - 1) (x + y) := by
  have hp : 0 < 2 ^ n := by positivity
  have e : satU n ((x : Int) + y) = (min (2 ^ n - 1) (x + y) : Nat) := by
    rw [satU, max_eq_right (by have : (1 : Int) ≤ 2 ^ n := by exact_mod_cast hp
                               omega)]
    push_cast [Nat.cast_sub hp]; rfl
  rw [laneSatU, e, pat_natCast (by omega)]

theorem laneSatU_sub {n x : Nat} (y : Nat) (hx : x < 2 ^ n) : laneSatU n ((x : Int) - y) = x - y := by
  have hx' : (x : Int) < 2 ^ n := by exact_mod_cast hx
  have e : satU n ((x : Int) - y) = (x - y : Nat) := by rw [satU]; omega
  rw [laneSatU, e, pat_natCast (by omega)]

theorem asr_eq_ediv (x : Int) (k : Nat) : asr x k = x / 2 ^ k := Int.fdiv_eq_ediv_of_nonneg x (by positivity)

/-- The high half of a product's pattern. -/
theorem laneMulHigh_eq (n : Nat) (x : Int) : laneMulHigh n x = pat (2 * n) x / 2 ^ n := by
  have hp : (0 : Int) < 2 ^ n := by positivity
  have e : (2 ^ (2 * n) : Int) = 2 ^ n * 2 ^ n := by rw [Nat.two_mul, pow_add]
  have hm : x % (2 ^ n * 2 ^ n) / 2 ^ n = x / 2 ^ n % 2 ^ n := by
    rw [Int.emod_def x, ← Int.ediv_ediv_of_nonneg hp.le, mul_assoc, Int.sub_mul_ediv_left _ _ hp.ne', Int.emod_def]
  have h0 : 0 ≤ x % (2 ^ n * 2 ^ n) := Int.emod_nonneg _ (by positivity)
  rw [laneMulHigh, asr_eq_ediv, pat, pat, e, ← hm]
  lift x % (2 ^ n * 2 ^ n) to ℕ using h0 with y
  norm_cast

theorem min_pat {n x y : Nat} (hx : x < 2 ^ n) (hy : y < 2 ^ n) :
    (if sgn n y < sgn n x then y else x) = pat n (min (sgn n x) (sgn n y)) := by
  split
  · rw [min_eq_right (by omega), pat_sgn hy]
  · rw [min_eq_left (by omega), pat_sgn hx]

theorem max_pat {n x y : Nat} (hx : x < 2 ^ n) (hy : y < 2 ^ n) :
    (if sgn n x < sgn n y then y else x) = pat n (max (sgn n x) (sgn n y)) := by
  split
  · rw [max_eq_right (by omega), pat_sgn hy]
  · rw [max_eq_left (by omega), pat_sgn hx]

/-- Where the complement of y is taken of n bits, a number of n bits keeps those in which it differs from y. -/
theorem land_compl {n x y : Nat} (hx : x < 2 ^ n) (hy : y < 2 ^ n) : x &&& (2 ^ n - 1 - y) = x &&& (x ^^^ y) := by
  apply Nat.eq_of_testBit_eq
  intro k
  have e : 2 ^ n - 1 - y = 2 ^ n - (y + 1) := by omega
  simp only [Nat.testBit_and, Nat.testBit_xor, e, Nat.testBit_two_pow_sub_succ hy]
  by_cases hk : k < n
  · cases x.testBit k <;> cases y.testBit k <;> simp [hk]
  · have : x.testBit k = false := Nat.testBit_lt_two_pow (lt_of_lt_of_le hx (Nat.pow_le_pow_right (by decide) (by omega)))
    simp [this]

theorem laneSatS_abs {n : Nat} (v : Nat) (hn : 0 < n) : laneSatS n (sgn n v).natAbs = min (2 ^ (n - 1) - 1) (sgn n v).natAbs := by
  have hp : 0 < 2 ^ (n - 1) := by positivity
  have hp2 := pow_pred hn
  have e : satS n ((sgn n v).natAbs : Int) = (min (2 ^ (n - 1) - 1) (sgn n v).natAbs : Nat) := by
    rw [satS, max_eq_right (by have : (1 : Int) ≤ 2 ^ (n - 1) := by exact_mod_cast hp
                               omega)]
    push_cast [Nat.cast_sub hp]; rfl
  rw [laneSatS, e, pat_natCast (by omega)]

theorem satS_neg {n v : Nat} (hn : 0 < n) (h : v < 2 ^ n) : satS n (-sgn n v) = min (2 ^ (n - 1) - 1) (-sgn n v) := by
  have hp : (0 : Int) < 2 ^ (n - 1) := by positivity
  obtain ⟨_, h2⟩ := sgn_range hn h
  rw [satS, max_eq_right (by omega)]

/-! ### Leading zeros, and leading bits equal to the sign -/

/-- The leading zeros of n bits: the bits counted are clear, and the next one is set. -/
theorem clzNat_spec (n v : Nat) : clzNat n v ≤ n ∧ (∀ k < clzNat n v, v.testBit (n - 1 - k) = false) ∧
    (clzNat n v < n → v.testBit (n - 1 - clzNat n v) = true) := by
  induction n with
  | zero => simp [clzNat]
  | succ n ih =>
    obtain ⟨hle, hclear, hset⟩ := ih
    rw [clzNat]
    by_cases h : v / 2 ^ n % 2 = 1
    · rw [if_pos h]
      exact ⟨by omega, fun k hk => absurd hk (Nat.not_lt_zero k), fun _ => by simp [Nat.testBit_eq_decide_div_mod_eq, h]⟩
    · rw [if_neg h]
      refine ⟨by omega, fun k hk => ?_, fun hlt => ?_⟩
      · rcases k with _ | k
        · simp [Nat.testBit_eq_decide_div_mod_eq, h]
        · rw [show n + 1 - 1 - (k + 1) = n - 1 - k by omega]; exact hclear k (by omega)
      · rw [show n + 1 - 1 - (1 + clzNat n v) = n - 1 - clzNat n v by omega]; exact hset (by omega)

/-- The top bit is the sign. -/
theorem testBit_top {n v : Nat} (hn : 0 < n) (h : v < 2 ^ n) : v.testBit (n - 1) = decide (sgn n v < 0) := by
  have hp := pow_pred hn
  have hv : (v : Int) < 2 ^ n := by exact_mod_cast h
  rw [sgn_cases h, Nat.testBit_eq_decide_div_mod_eq]
  split
  · rename_i hlt
    rw [Nat.div_eq_of_lt hlt]; simp
  · rename_i hlt
    have : v / 2 ^ (n - 1) = 1 := by
      have h1 : v / 2 ^ (n - 1) < 2 := Nat.div_lt_of_lt_mul (by omega)
      have h2 : 1 ≤ v / 2 ^ (n - 1) := (Nat.one_le_div_iff (by positivity)).2 (by omega)
      omega
    rw [this]; simp [hv]

/-- The bits of a number, or of its complement if its top bit is set, after which leading zeros are leading bits equal to the sign. -/
theorem clsInt_spec {n v : Nat} (hn : 0 < n) (h : v < 2 ^ n) : clsInt n (sgn n v) < n ∧
    (∀ k ≤ clsInt n (sgn n v), v.testBit (n - 1 - k) = decide (sgn n v < 0)) ∧
    (clsInt n (sgn n v) + 1 < n → v.testBit (n - 2 - clsInt n (sgn n v)) ≠ decide (sgn n v < 0)) := by
  have htop : decide (v / 2 ^ (n - 1) % 2 = 1) = decide (sgn n v < 0) := by rw [← testBit_top hn h, Nat.testBit_eq_decide_div_mod_eq]
  have hcompl : ∀ k < n, (2 ^ n - 1 - v).testBit k = !v.testBit k := fun k hk => by
    rw [show 2 ^ n - 1 - v = 2 ^ n - (v + 1) by omega, Nat.testBit_two_pow_sub_succ h]; simp [hk]
  -- u has a zero at its top, and its bits are v's, turned over where v is negative
  obtain ⟨u, hc, hu⟩ : ∃ u, clsInt n (sgn n v) = clzNat n u - 1 ∧ ∀ k < n, u.testBit k = (v.testBit k ^^ decide (sgn n v < 0)) := by
    by_cases hs : sgn n v < 0
    · refine ⟨2 ^ n - 1 - v, ?_, fun k hk => by simp [hcompl k hk, hs]⟩
      simp only [hs, decide_true, decide_eq_true_eq] at htop
      simp only [clsInt, pat_sgn h, htop, if_true]
    · refine ⟨v, ?_, fun k hk => by simp [hs]⟩
      simp only [hs, decide_false, decide_eq_false_iff_not] at htop
      simp only [clsInt, pat_sgn h, htop, if_false]
  obtain ⟨hle, hclear, hset⟩ := clzNat_spec n u
  have hpos : 0 < clzNat n u := by
    by_contra h0
    have h0 : clzNat n u = 0 := by omega
    have := hset (by omega)
    rw [h0, Nat.sub_zero, hu _ (by omega), testBit_top hn h] at this
    simp at this
  rw [hc]
  refine ⟨by omega, fun k hk => ?_, fun hlt => ?_⟩
  · have := hclear k (by omega)
    rw [hu _ (by omega)] at this
    simpa using this
  · have := hset (by omega)
    rw [show n - 1 - clzNat n u = n - 2 - (clzNat n u - 1) by omega, hu _ (by omega)] at this
    simpa using this

/-! ### Results in lanes -/

/-- Only what a value leaves modulo 2^n counts, and only in the lanes there are. -/
theorem ResultV.congr {s : State} {g : BitVec 4} {w : Width} {d : BitVec 5} {f h : Nat → Nat} {n : Nat} {o : Out} (r : ResultV g w d f n s o)
    (e : ∀ l < Width.lanes w, f l % 2 ^ Width.bits w = h l % 2 ^ Width.bits w) : ResultV g w d h n s o := by
  obtain ⟨t, ho, hl, hland, honly⟩ := r
  exact ⟨t, ho, fun l hlt => by rw [hl l hlt, e l hlt], hland, honly⟩

theorem ResultV.of_putLanes {s : State} {g : BitVec 4} {w : Width} {d : BitVec 5} {f h : Nat → Nat} {n : Nat} {o : Out}
    (ho : o = s.putLanes g w d n f) (e : ∀ l < Width.lanes w, f l % 2 ^ Width.bits w = h l % 2 ^ Width.bits w) : ResultV g w d h n s o := by
  subst ho; exact (s.putLanes_result g w d n f).congr e

/-- An operation on va and vb, from its value on numbers of n bits. -/
theorem ResultV.of_vbin {s : State} {g : BitVec 4} {w : Width} {d a : BitVec 5} {b : VOpnd} {n : Nat} {F : Nat → Nat → Nat → Nat} {h : Nat → Nat}
    {o : Out} (ho : o = s.vbin g w d a b n F)
    (e : ∀ l, ∀ x < 2 ^ Width.bits w, ∀ y < 2 ^ Width.bits w, lane (Width.bits w) (s.rdV a) l = x → s.opLane (Width.bits w) b l = y →
      F (Width.bits w) x y % 2 ^ Width.bits w = h l % 2 ^ Width.bits w) : ResultV g w d h n s o :=
  .of_putLanes ho fun l _ => e l _ (lane_lt _ _ _) _ (s.opLane_lt _ _ _) rfl rfl

/-- An operation on va, from its value on numbers of n bits. -/
theorem ResultV.of_vun {s : State} {g : BitVec 4} {w : Width} {d a : BitVec 5} {n : Nat} {F : Nat → Nat → Nat} {h : Nat → Nat} {o : Out}
    (ho : o = s.vun g w d a n F)
    (e : ∀ l, ∀ x < 2 ^ Width.bits w, lane (Width.bits w) (s.rdV a) l = x → F (Width.bits w) x % 2 ^ Width.bits w = h l % 2 ^ Width.bits w) :
    ResultV g w d h n s o :=
  .of_putLanes ho fun l _ => e l _ (lane_lt _ _ _) rfl

/-- A register is what its lanes build. -/
theorem vecOf_lanes (w : Width) (v : VecReg) : vecOf (Width.bits w) ((List.range (Width.lanes w)).map (lane (Width.bits w) v)) = v := by
  apply BitVec.eq_of_getLsbD_eq
  intro i hi
  have hb := Width.bits_pos w
  have hk : i % Width.bits w < Width.bits w := Nat.mod_lt _ hb
  have hl : i / Width.bits w < Width.lanes w := by
    apply Nat.div_lt_of_lt_mul; cases w <;> exact hi
  have e := lane_vecOf (Width.bits w) ((List.range (Width.lanes w)).map (lane (Width.bits w) v)) (i / Width.bits w) (Width.lane_end w _ hl)
  rw [List.getElem?_map, List.getElem?_range hl, Option.map_some, Option.getD_some, Nat.mod_eq_of_lt (lane_lt _ _ _)] at e
  have := congrArg (fun z => z.testBit (i % Width.bits w)) e
  rwa [lane_testBit _ _ _ _ hk, lane_testBit _ _ _ _ hk, Nat.div_add_mod] at this

/-- A whole register put under the lanes' activity. -/
theorem State.putV_result (s : State) (g : BitVec 4) (w : Width) (d : BitVec 5) (v : VecReg) (n : Nat) :
    ResultV g w d (lane (Width.bits w) v) n s (.next (s.putV (s.lanesOn g w) d v n)) := by
  have h := s.putLanes_result g w d n (lane (Width.bits w) v)
  rwa [State.putLanes, vecOf_lanes] at h

/-- Settles O19: each operation's value on two numbers of n bits is the one of R116's table. -/
theorem laneArithmetic : Obligations.LaneArithmetic := by
  intro s g w d a b
  have hn := Width.bits_pos w
  simp only [exec, laneS_eq]
  refine ⟨.of_vbin rfl ?add, .of_vbin rfl ?sub, .of_vbin rfl ?adds, .of_vbin rfl ?subs, .of_vbin rfl ?addsu, .of_vbin rfl ?subsu, .of_vbin rfl ?mul,
    .of_vbin rfl ?mulh, .of_vbin rfl ?mulhu, fun m => .of_vbin rfl ?mulq, .of_vbin rfl ?min, .of_vbin rfl ?max, .of_vbin rfl ?minu,
    .of_vbin rfl ?maxu, .of_vbin rfl ?and, .of_vbin rfl ?or, .of_vbin rfl ?xor, .of_vbin rfl ?andn, .of_vun rfl ?abs, .of_vun rfl ?neg,
    .of_vbin rfl ?avg, .of_vbin rfl ?avgu, s.putV_result g w d _ 2, ⟨_, .of_vun rfl ?cls, fun l _ => clsInt_spec hn (lane_lt _ _ l)⟩,
    .of_vun rfl ?popc⟩
  case add | adds | subs | mul | mulhu | mulq | minu | maxu | and | or | xor | avgu => rintro l _ hx _ hy rfl rfl; rfl
  case sub => rintro l _ hx _ hy rfl rfl; rw [lanePat_sub hy, Nat.mod_mod]
  case addsu => rintro l _ hx _ hy rfl rfl; rw [laneSatU_add]
  case subsu => rintro l _ hx _ hy rfl rfl; rw [laneSatU_sub _ hx]
  case mulh => rintro l _ hx _ hy rfl rfl; rw [laneMulHigh_eq]
  case min => rintro l _ hx _ hy rfl rfl; rw [min_pat hx hy]
  case max => rintro l _ hx _ hy rfl rfl; rw [max_pat hx hy]
  case andn => rintro l _ hx _ hy rfl rfl; exact congrArg (· % _) (land_compl hx hy)
  case abs => rintro l _ hx rfl; rw [laneSatS_abs _ hn]
  case neg => rintro l _ hx rfl; rw [laneSatS, satS_neg hn hx]
  case avg => rintro l _ hx _ hy rfl rfl; simp only [Bool.false_eq_true, if_false, lanePat, asr_eq_ediv, pow_one]
  case cls => rintro l _ hx rfl; rfl
  case popc => rintro l _ hx rfl; rw [popNat_eq_length_filter]

end Sys2Proof.Machine
end

section
/-! PROOF. O21: lane selection, compares into a predicate, and bit logic (R118, R119, R133 to R135). -/

namespace Sys2Proof.Machine

/-! ### Masks -/

theorem laneMask_ne_zero {w : Width} {g : Pred} {l : Nat} (hl : l < Width.lanes w) (ha : active w g l = true) : laneMask w g ≠ 0 := by
  intro hm
  have hi : Width.bytes w * l < 256 := by cases w <;> simp only [Width.bytes, Width.lanes] at * <;> omega
  have h := laneMask_getLsbD w g (Width.bytes w * l) hi
  rw [Nat.mul_div_cancel_left _ (Width.bytes_pos w), ha, hm] at h
  simp at h

theorem Width.div_bytes_lt (w : Width) {i : Nat} (hi : i < 256) : i / Width.bytes w < Width.lanes w := by
  apply Nat.div_lt_of_lt_mul; cases w <;> exact hi

theorem OnlyP.refl (p : BitVec 4) (s : State) : OnlyP p s s := ⟨rfl, rfl, fun _ _ => ⟨rfl, rfl⟩, SameMemory.of_mem rfl⟩

/-! ### Selection and compares -/

/-- Every element is written, from one of the two (R118). -/
theorem State.vsel_answers (s : State) (g : BitVec 4) (w : Width) (d a : BitVec 5) (b : VOpnd) :
    Answers (execVsel g w d a b s) fun t => OnlyV d s t ∧ fileGet t.core.t.sb.landV (physV s.core.old.vrb d) = s.core.t.sb.cyc + 2 ∧
      ∀ l < Width.lanes w, lane (Width.bits w) (t.curV d) l =
        if active w (s.rdP g) l then lane (Width.bits w) (s.rdV a) l else s.opLane (Width.bits w) b l := by
  refine ⟨_, rfl, State.setV_only s d _ 2 _, fileGet_filePut_self _ _ _, fun l hl => ?_⟩
  rw [State.curV_renewV, State.curV_setV_self, State.lanesOn, lane_mergeV w _ _ _ l hl, lane_vecOf _ _ _ (Width.lane_end w l hl),
    List.getElem?_map, List.getElem?_range hl, Option.map_some, Option.getD_some, Nat.mod_eq_of_lt (s.opLane_lt _ _ _)]

/-- A compare writes the byte lanes of the active elements and leaves the others (R119). -/
theorem State.vcmp_answers {s : State} {g : BitVec 4} {w : Width} {p : BitVec 4} {a : BitVec 5} {b : VOpnd} {F : Nat → Nat → Nat → Bool} {o : Out}
    (hp : p ≠ 0) (f : Nat → Bool) (ho : o = s.vcmp g w p a b F)
    (e : ∀ l, F (Width.bits w) (lane (Width.bits w) (s.rdV a) l) (s.opLane (Width.bits w) b l) = f l) :
    Answers o fun t => OnlyP p s t ∧
      ((∃ l < Width.lanes w, active w (s.rdP g) l = true) → fileGet t.core.t.sb.landP p = s.core.t.sb.cyc + 1) ∧
      ∀ i < 256, (t.pNow p).getLsbD i = if active w (s.rdP g) (i / Width.bytes w) then f (i / Width.bytes w) else (s.pNow p).getLsbD i := by
  subst ho
  have hp' : ¬p = 0#4 := hp
  refine ⟨_, rfl, ?_⟩
  by_cases hm : s.lanesOn g w = 0
  · have none : ∀ l < Width.lanes w, active w (s.rdP g) l = false := fun l hl => by
      by_contra ha; exact laneMask_ne_zero hl (Bool.not_eq_false _ ▸ ha) hm
    rw [if_pos hm]
    refine ⟨OnlyP.refl p s, fun ⟨l, hl, ha⟩ => absurd (none l hl) (by simp [ha]), fun i hi => ?_⟩
    simp [none _ (Width.div_bytes_lt w hi)]
  · rw [if_neg hm]
    obtain ⟨hval, hland, honly⟩ := State.setP_gives s p
      ((predOf (Width.bytes w) ((List.range (Width.lanes w)).map fun l =>
        F (Width.bits w) (lane (Width.bits w) (s.rdV a) l) (s.opLane (Width.bits w) b l)) &&& s.lanesOn g w) ||| (s.curP p &&& ~~~s.lanesOn g w))
    refine ⟨honly, fun _ => hland hp, fun i hi => ?_⟩
    rw [hval, if_neg hp]
    simp only [BitVec.getLsbD_or, BitVec.getLsbD_and, BitVec.getLsbD_not, hi, decide_true, Bool.true_and, State.lanesOn,
      laneMask_getLsbD w _ i hi, predOf_getLsbD _ _ i hi (Width.bytes_pos w), List.getElem?_map, List.getElem?_range (Width.div_bytes_lt w hi),
      Option.map_some, Option.getD_some, e, State.curP, State.pNow]
    cases active w (s.rdP g) (i / Width.bytes w) <;> simp [hp']

/-! ### Numbers from bits -/

theorem testBit_natOfBits (bs : List Bool) (k : Nat) : (natOfBits bs).testBit k = bs[k]?.getD false := by
  induction bs generalizing k with
  | nil => simp [natOfBits]
  | cons b r ih =>
    rcases k with _ | k
    · cases b <;> simp [natOfBits, Nat.testBit_zero, Nat.add_mod]
    · have : (natOfBits (b :: r)) / 2 = natOfBits r := by
        rw [natOfBits]; split <;> omega
      rw [Nat.testBit_succ, this, ih, List.getElem?_cons_succ]

theorem natOfBits_lt (bs : List Bool) : natOfBits bs < 2 ^ bs.length := by
  induction bs with
  | nil => simp [natOfBits]
  | cons b r ih =>
    rw [natOfBits, List.length_cons, Nat.pow_succ]
    split <;> omega

/-! ### Bit matrices (R133) -/

theorem foldl_xor (p : Nat → Bool) (ks : List Nat) (c : Bool) :
    ks.foldl (fun c k => c ^^ p k) c = (c ^^ decide ((ks.filter p).length % 2 = 1)) := by
  induction ks generalizing c with
  | nil => simp
  | cons k r ih =>
    rw [List.foldl_cons, ih, List.filter_cons]
    by_cases hk : p k
    · rw [if_pos hk, List.length_cons, hk]
      rcases Nat.mod_two_eq_zero_or_one (r.filter p).length with h | h <;> cases c <;> simp [h, Nat.add_mod]
    · simp [hk]

theorem foldl_or (p : Nat → Bool) (ks : List Nat) (c : Bool) : ks.foldl (fun c k => c || p k) c = (c || decide (ks.filter p ≠ [])) := by
  induction ks generalizing c with
  | nil => simp
  | cons k r ih =>
    rw [List.foldl_cons, ih, List.filter_cons]
    cases p k <;> simp

/-- A bit of a product: the sum modulo 2, or the OR, of the products of a row and a column. -/
theorem testBit_bmm (or : Bool) (x y : Nat) {i j : Nat} (hi : i < 8) (hj : j < 8) : (bmm or x y).testBit (8 * i + j) =
    (let column := (List.range 8).filter fun k => x.testBit (8 * i + k) && y.testBit (8 * k + j)
     if or then decide (column ≠ []) else decide (column.length % 2 = 1)) := by
  have hlt : 8 * i + j < 64 := by omega
  have h1 : (8 * i + j) / 8 = i := by omega
  have h2 : (8 * i + j) % 8 = j := by omega
  rw [bmm, testBit_natOfBits, List.getElem?_map, List.getElem?_range hlt, Option.map_some, Option.getD_some, h1, h2, bmmBit]
  cases or
  · exact (foldl_xor _ _ _).trans (Bool.false_xor _)
  · exact (foldl_or _ _ _).trans (Bool.false_or _)

/-! ### Extracting and depositing bits (R134) -/

/-- The number of ones of a mask below bit j. -/
def rank (m j : Nat) : Nat := ((List.range j).filter m.testBit).length

theorem rank_succ (m j : Nat) : rank m (j + 1) = (if m % 2 = 1 then 1 else 0) + rank (m / 2) j := by
  have h : (fun x => m.testBit (x + 1)) = (m / 2).testBit := by funext k; exact Nat.testBit_succ m k
  rw [rank, List.range_succ_eq_map, List.filter_cons, List.filter_map]
  simp only [Nat.testBit_zero, decide_eq_true_eq, Function.comp_def, Nat.succ_eq_add_one, h]
  split
  · rw [List.length_cons, List.length_map, Nat.add_comm]; rfl
  · rw [List.length_map, Nat.zero_add]; rfl

theorem testBit_two_mul_add (b x k : Nat) (hb : b < 2) : (b + 2 * x).testBit (k + 1) = x.testBit k := by
  rw [Nat.testBit_succ]; congr 1; omega

/-- The bits that the mask selects stand at the bottom, in order, and nothing above them. -/
theorem pext_spec (n a m : Nat) : pext n a m < 2 ^ rank m n ∧ ∀ j < n, m.testBit j = true → (pext n a m).testBit (rank m j) = a.testBit j := by
  induction n generalizing a m with
  | zero => exact ⟨Nat.one_pos, fun j hj => absurd hj (Nat.not_lt_zero j)⟩
  | succ n ih =>
    obtain ⟨hlt, hbit⟩ := ih (a / 2) (m / 2)
    rw [pext, rank_succ]
    by_cases h : m % 2 = 1
    · rw [if_pos h, if_pos h, Nat.add_comm 1, Nat.pow_succ]
      refine ⟨by omega, fun j hj hm => ?_⟩
      rcases j with _ | j
      · simp [rank, Nat.testBit_zero, Nat.add_mod]
      · rw [rank_succ, if_pos h, Nat.add_comm 1, testBit_two_mul_add _ _ _ (Nat.mod_lt _ Nat.two_pos), Nat.testBit_succ a]
        exact hbit j (by omega) (by rwa [← Nat.testBit_succ])
    · rw [if_neg h, if_neg h, Nat.zero_add]
      refine ⟨hlt, fun j hj hm => ?_⟩
      rcases j with _ | j
      · rw [Nat.testBit_zero, decide_eq_true_eq] at hm; exact absurd hm h
      · rw [rank_succ, if_neg h, Nat.zero_add, Nat.testBit_succ a]
        exact hbit j (by omega) (by rwa [← Nat.testBit_succ])

/-- The low bits stand at the places that the mask selects. -/
theorem testBit_pdep (n a m j : Nat) (hj : j < n) : (pdep n a m).testBit j = (m.testBit j && a.testBit (rank m j)) := by
  induction n generalizing a m j with
  | zero => exact absurd hj (Nat.not_lt_zero j)
  | succ n ih =>
    rw [pdep]
    by_cases h : m % 2 = 1
    · rw [if_pos h]
      rcases j with _ | j
      · simp [rank, Nat.testBit_zero, Nat.add_mod, h]
      · rw [rank_succ, if_pos h, Nat.add_comm 1, testBit_two_mul_add _ _ _ (Nat.mod_lt _ Nat.two_pos), ih _ _ _ (by omega), Nat.testBit_succ m,
          Nat.testBit_succ a]
    · rw [if_neg h]
      rcases j with _ | j
      · simp [Nat.testBit_zero, h]
      · have := testBit_two_mul_add 0 (pdep n a (m / 2)) j Nat.two_pos
        rw [Nat.zero_add] at this
        rw [rank_succ, if_neg h, Nat.zero_add, this, ih _ _ _ (by omega), Nat.testBit_succ m]

/-! ### Chosen bits (R135) -/

theorem bperm_lt (x i : Nat) : bperm x i < 256 := by
  have h := natOfBits_lt ((List.range 8).map fun j => decide (i / 256 ^ j % 256 < 64) && x.testBit (i / 256 ^ j % 256))
  rwa [List.length_map, List.length_range] at h

theorem testBit_bperm (x i : Nat) {j : Nat} (hj : j < 8) :
    (bperm x i).testBit j = (decide (i / 256 ^ j % 256 < 64) && x.testBit (i / 256 ^ j % 256)) := by
  rw [bperm, testBit_natOfBits, List.getElem?_map, List.getElem?_range hj, Option.map_some, Option.getD_some]

/-- Settles O21. -/
theorem selectCompareAndLogic : Obligations.SelectCompareAndLogic := by
  refine ⟨fun s g w d a b => ⟨s.vsel_answers g w d a b, fun p => ⟨fun hp => ?_, ?_⟩⟩, fun s g w d a b => ?_⟩
  · simp only [List.forall_mem_cons, List.not_mem_nil, false_implies, implies_true, and_true, laneS_eq]
    dsimp only [exec]
    exact ⟨State.vcmp_answers hp _ rfl fun _ => rfl, State.vcmp_answers hp _ rfl fun _ => rfl, State.vcmp_answers hp _ rfl fun _ => rfl,
      State.vcmp_answers hp _ rfl fun _ => rfl, State.vcmp_answers hp _ rfl fun _ => rfl, State.vcmp_answers hp _ rfl fun _ => rfl⟩
  · simp [Instr.operandFault]
  · refine ⟨fun l => bmm false (lane 64 (s.rdV a) l) (s.opLane 64 b l), fun l => bmm true (lane 64 (s.rdV a) l) (s.opLane 64 b l),
      fun l => pext (Width.bits w) (lane (Width.bits w) (s.rdV a) l) (s.opLane (Width.bits w) b l),
      fun l => pdep (Width.bits w) (lane (Width.bits w) (s.rdV a) l) (s.opLane (Width.bits w) b l),
      fun l => bperm (lane 64 (s.rdV a) l) (s.opLane 64 b l), ?_⟩
    dsimp only [exec]
    refine ⟨.of_vbin rfl ?xr, .of_vbin rfl ?or, .of_vbin rfl ?ext, .of_vbin rfl ?dep, .of_vbin rfl ?per, fun l _ i hi j hj => ?_, fun l _ => ?_,
      fun l _ => ⟨bperm_lt _ _, fun j hj => testBit_bperm _ _ hj⟩⟩
    case xr | or | ext | dep | per => rintro l _ hx _ hy rfl rfl; rfl
    · exact ⟨testBit_bmm false _ _ hi hj, testBit_bmm true _ _ hi hj⟩
    · obtain ⟨hlt, hbit⟩ := pext_spec (Width.bits w) (lane (Width.bits w) (s.rdV a) l) (s.opLane (Width.bits w) b l)
      exact ⟨hlt, fun j hj => ⟨hbit j hj, testBit_pdep _ _ _ _ hj⟩⟩

end Sys2Proof.Machine
end

section
/-! PROOF. O24: four-bit codes and element choice (R123, R136, R137). -/

namespace Sys2Proof.Machine

/-! ### Halves of lanes, and pairs of registers -/

theorem lane_eq_div_mod (n : Nat) (v : VecReg) (l : Nat) : lane n v l = v.toNat / 2 ^ (n * l) % 2 ^ n := by
  rw [lane, BitVec.extractLsb'_toNat, Nat.shiftRight_eq_div_pow]

/-- A lane of twice the width holds two lanes, the lower one first (R95). -/
theorem lane_two_mul (n : Nat) (v : VecReg) (l : Nat) : lane (2 * n) v l = lane n v (2 * l) + 2 ^ n * lane n v (2 * l + 1) := by
  have e1 : 2 * n * l = n * (2 * l) := by ring
  have e2 : n * (2 * l + 1) = n * (2 * l) + n := by ring
  have e3 : 2 ^ (2 * n) = 2 ^ n * 2 ^ n := by rw [Nat.two_mul, pow_add]
  rw [lane_eq_div_mod, lane_eq_div_mod, lane_eq_div_mod, e1, e2, e3, pow_add, ← Nat.div_div_eq_div_mul, Nat.mod_mul]

/-- A byte of a register pair is the lower register's or the upper one's. -/
theorem toInt_pair_byte (hi lo : VecReg) (i : Nat) :
    ((hi ++ lo).extractLsb' (8 * i) 8).toInt = if i < 256 then laneS 8 lo i else laneS 8 hi (i - 256) := by
  split
  · rw [extract_lo _ _ _ _ (by omega), laneS]
  · rw [extract_hi _ _ _ _ (by omega), laneS, show 8 * i - 2048 = 8 * (i - 256) by omega]

/-- A register built from four-bit values holds two of them in each byte. -/
theorem lane_byte_vecOf_four {f : Nat → Nat} (hf : ∀ i, f i < 16) {j : Nat} (hj : j < 256) :
    lane 8 (vecOf 4 ((List.range 512).map f)) j = f (2 * j) + 16 * f (2 * j + 1) := by
  have nibble : ∀ i < 512, lane 4 (vecOf 4 ((List.range 512).map f)) i = f i := fun i hi => by
    rw [lane_vecOf 4 _ i (by omega), List.getElem?_map, List.getElem?_range hi, Option.map_some, Option.getD_some]
    exact Nat.mod_eq_of_lt (hf i)
  rw [show 8 = 2 * 4 from rfl, lane_two_mul, nibble _ (by omega), nibble _ (by omega)]; rfl

/-- An entry of a codebook (R96), as a lane of a register that holds it. -/
theorem codebook_entry (cb : BitVec 128) {k : Nat} (hk : k < 16) : (cb.extractLsb' (8 * k) 8).toNat = lane 8 (cb.setWidth 2048) k := by
  refine congrArg BitVec.toNat (BitVec.eq_of_getLsbD_eq fun i hi => ?_)
  have h : 8 * k + i < 2048 := by omega
  simp [hi, h]

/-- The element that an index chooses (R136, R137). -/
theorem State.tableElem_eq (s : State) (w : Width) (a : BitVec 5) (m : Bool) (x : Int) : s.tableElem w a m x =
    (let len : Int := Width.lanes w
     if x < 0 then 0 else if x < len then lane (Width.bits w) (s.rdV a) x.toNat
     else if m = true ∧ x < 2 * len then lane (Width.bits w) (s.rdV (a + 1)) (x.toNat - Width.lanes w) else 0) := by
  have h : (x - (Width.lanes w : Int)).toNat = x.toNat - Width.lanes w := by omega
  simp only [State.tableElem, h]

/-- VCB4 with a legal parameter (R123). -/
theorem State.vcb4_result (s : State) (g : BitVec 4) (d a b : BitVec 5) (m : Bool) (h : (s.rdS b).toNat < 64) :
    ResultV g .byte d (fun l => lane 8 ((fileGet s.core.old.ts (BitVec.ofNat 6 (s.rdS b).toNat)).cb.setWidth 2048)
      (lane 4 (s.rdV a) ((if m then 256 else 0) + l))) 2 s (execVcb4 g d a b m s) := by
  have hp : paramBad (s.rdS b) 6 = false := by
    rw [paramBad, decide_eq_false_iff_not, not_not]; exact Nat.div_eq_of_lt h
  have hx : (s.rdS b).extractLsb' 0 6 = BitVec.ofNat 6 (s.rdS b).toNat := BitVec.eq_of_toNat_eq (by simp)
  refine .of_putLanes (by simp only [execVcb4, hp, Bool.false_eq_true, if_false, hx]; rfl) fun l _ => ?_
  rw [codebook_entry _ (lane_lt 4 _ _)]

/-- Settles O24. -/
theorem codesAndPermutes : Obligations.CodesAndPermutes := by
  refine ⟨fun s g d a b m => ⟨s.vcb4_result g d a b m, fun hp => ?_, ?_, ?_⟩, fun s g w d a b m => ?_⟩
  · have bad : paramBad (s.rdS b) 6 = true := by
      rw [paramBad, decide_eq_true_eq]; exact (Nat.div_pos hp (by decide)).ne'
    exact if_pos bad
  · refine (s.putV_result g .byte d _ 2).congr fun j hj => congrArg (· % _) ?_
    simp only [toInt_pair_byte]
    exact lane_byte_vecOf_four (fun i => pat_lt 4 _) hj
  · simp only [laneS_eq]
    exact .of_putLanes rfl fun _ _ => rfl
  · dsimp only [exec]
    exact ⟨.of_putLanes rfl fun l _ => by rw [s.tableElem_eq], .of_putLanes rfl fun l _ => by rw [s.tableElem_eq]⟩

end Sys2Proof.Machine
end

section
/-! PROOF. O3 and O39: words that the manual spells out, a bundle of one slot, and the values of reset. -/

namespace Sys2Proof.Machine

/-! ### A bundle of one slot (R26, R43) -/

theorem Core.fetchWords_one {c : Core} {a : VAddr} {w : Code} (h : c.fetchWord a = .ok w) : c.fetchWords a 1 = .ok [w] := by
  simp only [Core.fetchWords, h]

theorem decodeSlots_one {k : Nat} {w : Code} {i : Instr} (h : decodeInSlot k w = .ok i) : decodeSlots [(k, w)] = .ok [(k, i)] := by
  simp only [decodeSlots, h]

theorem Core.decodeBundle_one {c : Core} {hw w : Code} {h : Header} {k : Nat} {i : Instr} (head : decodeHeader hw = .ok h)
    (slots : slotsOf h.mask = [k]) (fetched : c.fetchWord (c.t.pc + 4) = .ok w) (decoded : decodeInSlot k w = .ok i)
    (apart : conflicts h [(k, i)] = false) (inside : c.t.loop.crossed c.t.pc (c.t.pc + 8) = false) (present : absentUnit c.feat [(k, i)] = none) :
    c.decodeBundle hw = .ok { head := h, words := [hw, w], slots := [(k, i)], next := c.t.pc + 8 } := by
  have one := Core.fetchWords_one fetched
  have dec := decodeSlots_one decoded
  have next : BitVec.ofNat 55 (4 + 4 * 1) = 8 := rfl
  simp only [Core.decodeBundle, head, slots, List.length_cons, List.length_nil, Nat.zero_add, one, List.zip_cons_cons, List.zip_nil_left, dec,
    next, apart, inside, Bool.or_self, Bool.false_eq_true, if_false, present]

/-- Settles O3. -/
theorem decodeWords : Obligations.DecodeWords := by
  refine ⟨?_, fun c hw w h k i head slots fetched decoded apart inside present =>
    Core.decodeBundle_one head slots fetched decoded apart inside present⟩
  decide

theorem fileGet_replicate {n : Nat} {α : Type} (a : α) (i : BitVec n) : fileGet (Vector.replicate (2 ^ n) a : File n α) i = a :=
  Vector.getElem_replicate i.isLt

/-- Settles O39: each value is the one that `State.reset` writes. -/
theorem resetValues : Obligations.ResetValues := by
  refine ⟨rfl, rfl, rfl, rfl, rfl, rfl, rfl, rfl, fun n => fileGet_replicate _ n, rfl, rfl, rfl, rfl, rfl, rfl, rfl, ?dom, ?loop, rfl, rfl, rfl, rfl,
    rfl, rfl, rfl, rfl, rfl, rfl, rfl, rfl, rfl, rfl, rfl, rfl, rfl, rfl, rfl, rfl, rfl, rfl, rfl, rfl, rfl, rfl, ?glow, rfl, rfl, rfl, rfl, rfl, rfl⟩
  case dom => intro k; exact Vector.getElem_replicate k.isLt
  case loop => intro k; exact ⟨Vector.getElem_replicate k.isLt, Vector.getElem_replicate k.isLt, Vector.getElem_replicate k.isLt⟩
  case glow =>
    intro d
    have h : State.reset.glow[d] = Afterglow.reset := Vector.getElem_replicate d.isLt
    rw [h]
    exact ⟨rfl, rfl, rfl⟩

end Sys2Proof.Machine
end

section
/-! PROOF. O26: what a bundle that completes in line leaves, and the SATURATION trap (R102, R104 to R107). -/

namespace Sys2Proof.Machine

/-! ### A bundle that completes in line -/

/-- A redirect that leads to the next position and changes no loop register. -/
def InLine (s : State) (r : Redirect) : Prop := r = .eret ∨ r = .none ∧ s.core.t.loop.innermost = none

theorem TaskState.loopEnd_of_no_loop {t : TaskState} (h : t.loop.innermost = none) (fresh fuel : Nat) (pos : VAddr) :
    t.loopEnd fresh fuel pos = { t with pc := pos } := by
  cases fuel with
  | zero => rfl
  | succ n => simp only [TaskState.loopEnd, h]

theorem InLine.redirect {s : State} {r : Redirect} (h : InLine s r) {t : TaskState} (ht : t.loop = s.core.t.loop) (fresh : Nat) (next : VAddr) :
    t.redirect fresh r next = { t with pc := next } := by
  obtain rfl | ⟨rfl, hl⟩ := h
  · rfl
  · exact TaskState.loopEnd_of_no_loop (by rw [ht, hl]) _ _ _

theorem InLine.modT_redirect {s u : State} {r : Redirect} (h : InLine s r) (hu : u.core.t.loop = s.core.t.loop)
    {sats census : List (BitVec 6 × Nat)} {fresh : Nat} {next : VAddr} : (u.modT fun t => (t.applyCounts sats census).redirect fresh r next) =
      u.modT fun t => { t with ts := (t.applyCounts sats census).ts, pc := next } := by
  simp only [State.modT, h.redirect (t := u.core.t.applyCounts sats census) hu]
  rfl

/-- The renewal of poisoned words touches nothing but the two lists of them (R307). -/
theorem State.renewed_eq (s : State) (h : Header) :
    ∃ rp sp, s.renewed h = s.modT fun t => { t with regPoison := rp, streamPoison := sp } := by
  unfold State.renewed
  split
  · exact ⟨s.core.t.regPoison, s.core.t.streamPoison, rfl⟩
  · exact ⟨_, _, rfl⟩

/-- The header's predicate logic touches nothing but a predicate (R28). -/
theorem State.headLogic_eq (s : State) (h : Header) : ∃ p landP, (h.plop = 0 → p = s.core.t.p) ∧
    s.headLogic h = s.modT fun t => { t with p, sb := { t.sb with landP } } := by
  unfold State.headLogic
  split
  · exact ⟨s.core.t.p, s.core.t.sb.landP, fun _ => rfl, rfl⟩
  · rename_i hp
    unfold State.setP
    split
    · exact ⟨s.core.t.p, s.core.t.sb.landP, fun _ => rfl, rfl⟩
    · exact ⟨_, _, fun h0 => absurd h0 hp, rfl⟩

/-- What a bundle that goes on in line leaves as it completes: its counts, its position, predicates, scoreboard, Mirror accounting and poison. -/
theorem State.completeWith_inLine {s : State} (h : InLine s s.core.bundle.redirect) (hd : Header) :
    ∃ p sb seg rp sp buf asks stallc, (hd.plop = 0 → p = s.core.t.p) ∧ (s.core.t.sb.far = [] → sb.far = []) ∧ sb.nxt = s.core.t.sb.nxt ∧
      stallc = (if s.core.bundle.redirect.stalls then s.core.stallc + 1 else s.core.stallc) ∧
      s.completeWith hd = { s with core := { s.core with
        t := { s.core.t with ts := (s.core.t.applyCounts s.core.bundle.sats s.core.bundle.census).ts, pc := s.core.bundle.next,
                             p, sb, seg, regPoison := rp, streamPoison := sp }
        srctr := s.core.srctr + BitVec.ofNat 64 s.core.bundle.random, stallc, buf, asks, bundle := { s.core.bundle with complete := true } } } := by
  obtain ⟨p, landP, hp, hhead⟩ := s.headLogic_eq hd
  unfold State.completeWith
  simp only [hhead]
  rw [h.modT_redirect]
  case hu => rfl
  obtain ⟨rp, sp, hr⟩ := State.renewed_eq (State.modT (State.modT (s.modT fun t => { t with p, sb := { t.sb with landP } }) _) _) hd
  rw [hr]
  refine ⟨_, _, _, _, _, _, _, _, hp, fun hf => ?_, ?_, rfl, rfl⟩
  · simp only [State.modT, Scoreboard.harden, TaskState.applyCounts]
    split <;> simp [hf]
  · simp only [State.modT, Scoreboard.harden, TaskState.applyCounts]
    split <;> rfl

/-! ### Counts and census values slot by slot (R104, R107) -/

/-- A register of a file after a list of changes is changed by those of its own number. -/
theorem fileGet_foldl_filePut {n : Nat} {α β : Type} (c : α → β → α) (l : List (BitVec n × β)) (f : File n α) (i : BitVec n) :
    fileGet (l.foldl (fun f e => filePut f e.1 (c (fileGet f e.1) e.2)) f) i = ((l.filter fun e => e.1 = i).map (·.2)).foldl c (fileGet f i) := by
  induction l generalizing f with
  | nil => rfl
  | cons e r ih =>
    rw [List.foldl_cons, ih]
    by_cases h : e.1 = i
    · subst h; simp
    · simp [h, fileGet_filePut_ne _ _ _ _ (Ne.symm h)]

/-- Counts add up, and stop at 2^32 - 1. -/
theorem ScaleSlot.foldl_count (l : List Nat) (t : ScaleSlot) :
    (l.foldl ScaleSlot.count t).satc.toNat = min 0xFFFFFFFF (t.satc.toNat + l.sum) ∧
      l.foldl ScaleSlot.count t = { t with satc := (l.foldl ScaleSlot.count t).satc } := by
  induction l generalizing t with
  | nil => exact ⟨by have := t.satc.isLt; simp; omega, rfl⟩
  | cons n r ih =>
    obtain ⟨hsum, hrest⟩ := ih (t.count n)
    rw [List.foldl_cons]
    refine ⟨?_, hrest⟩
    rw [hsum, List.sum_cons, ScaleSlot.count, BitVec.toNat_ofNat, Nat.mod_eq_of_lt (by omega)]
    omega

/-- Census values leave the least. -/
theorem ScaleSlot.foldl_record (l : List Nat) (t : ScaleSlot) :
    (l.foldl ScaleSlot.record t).census.toNat = l.foldl min t.census.toNat ∧
      l.foldl ScaleSlot.record t = { t with census := (l.foldl ScaleSlot.record t).census } := by
  induction l generalizing t with
  | nil => exact ⟨rfl, rfl⟩
  | cons n r ih =>
    obtain ⟨hmin, hrest⟩ := ih (t.record n)
    rw [List.foldl_cons]
    refine ⟨?_, hrest⟩
    have := t.census.isLt
    rw [hmin, List.foldl_cons, ScaleSlot.record, BitVec.toNat_ofNat, Nat.mod_eq_of_lt (by omega)]

/-- The scale slot of a number after a bundle's counts and census values. -/
theorem TaskState.applyCounts_slot (t : TaskState) (sats census : List (BitVec 6 × Nat)) (i : BitVec 6) :
    let x := fileGet t.ts i; let y := fileGet (t.applyCounts sats census).ts i
    y.satc.toNat = min 0xFFFFFFFF (x.satc.toNat + ((sats.filter fun e => e.1 = i).map (·.2)).sum) ∧
      y.census.toNat = ((census.filter fun e => e.1 = i).map (·.2)).foldl min x.census.toNat ∧ y = { x with satc := y.satc, census := y.census } := by
  intro x y
  have hy : y = ((census.filter fun e => e.1 = i).map (·.2)).foldl ScaleSlot.record
      (((sats.filter fun e => e.1 = i).map (·.2)).foldl ScaleSlot.count x) :=
    (fileGet_foldl_filePut ScaleSlot.record census _ i).trans (by rw [fileGet_foldl_filePut ScaleSlot.count sats t.ts i])
  obtain ⟨hsum, hcount⟩ := ScaleSlot.foldl_count ((sats.filter fun e => e.1 = i).map (·.2)) x
  rw [hcount] at hy
  obtain ⟨hmin, hrecord⟩ := ScaleSlot.foldl_record ((census.filter fun e => e.1 = i).map (·.2))
    { x with satc := (((sats.filter fun e => e.1 = i).map (·.2)).foldl ScaleSlot.count x).satc }
  rw [← hy] at hmin hrecord
  exact ⟨by rw [hrecord]; exact hsum, hmin, by rw [hrecord]⟩

/-! ### The SATURATION trap (R105) -/

/-- The trap names the lowest slot over its threshold, and the earliest instruction that counted against it. -/
theorem satExc_eq {ts : File 6 ScaleSlot} {q : List (BitVec 3 × BitVec 6)} {t : BitVec 6} {k : BitVec 3} (hmem : (k, t) ∈ q)
    (hover : (fileGet ts t).exceeds = true) (hk : k.toNat < 6)
    (first : ∀ e ∈ q, (fileGet ts e.2).exceeds = true → t ≤ e.2 ∧ (e.2 = t → k ≤ e.1)) :
    satExc ts q = some { cause := .saturation, slot := k, opnd := 4, elem := t.setWidth 16 } := by
  have lowest : ((List.range 64).find? fun i => q.any fun e => decide (e.2.toNat = i) && (fileGet ts e.2).exceeds) = some t.toNat := by
    rw [List.find?_range_eq_some]
    refine ⟨List.any_eq_true.2 ⟨(k, t), hmem, by simp [hover]⟩, List.mem_range.2 t.isLt, fun j hj => ?_⟩
    simp only [Bool.not_eq_true', List.any_eq_false, Bool.and_eq_true, decide_eq_true_eq, not_and]
    rintro e he rfl hover
    have := (first e he hover).1
    rw [BitVec.le_def] at this
    omega
  have earliest : ((List.range 6).find? fun i => q.any fun e => decide (e.2.toNat = t.toNat) && decide (e.1.toNat = i)) = some k.toNat := by
    rw [List.find?_range_eq_some]
    refine ⟨List.any_eq_true.2 ⟨(k, t), hmem, by simp⟩, List.mem_range.2 hk, fun j hj => ?_⟩
    simp only [Bool.not_eq_true', List.any_eq_false, Bool.and_eq_true, decide_eq_true_eq, not_and]
    rintro e he het rfl
    have het : e.2 = t := BitVec.eq_of_toNat_eq het
    have := (first e he (het ▸ hover)).2 het
    rw [BitVec.le_def] at this
    omega
  have hk' : BitVec.ofNat 3 k.toNat = k := by simp
  have ht' : BitVec.ofNat 16 t.toNat = t.setWidth 16 := BitVec.eq_of_toNat_eq (by simp)
  simp only [satExc, lowest, earliest, hk', ht']

/-- Settles O26. -/
theorem countsAtCompletion : Obligations.CountsAtCompletion := by
  intro s b hnone hloop
  have inLine : InLine s s.core.bundle.redirect := .inr ⟨hnone, hloop⟩
  obtain ⟨p, sb, seg, rp, sp, buf, asks, stallc, -, -, -, -, e⟩ := State.completeWith_inLine inLine s.core.bundle.head
  have ts : s.completeBundle.core.t.ts = (s.core.t.applyCounts b.sats b.census).ts := by rw [State.completeBundle, e]
  have th : s.completeBundle.core.t.sys.th = s.core.t.sys.th := by rw [State.completeBundle, e]
  have slots : s.completeBundle.core.bundle.satSlots = b.satSlots := by rw [State.completeBundle, e]
  refine ⟨fun t => ?_, by rw [State.completeBundle, e], fun hth hc => ?_, fun t k hth hc hmem hover hk first => ?_⟩
  · rw [ts]; exact s.core.t.applyCounts_slot b.sats b.census t
  · have hc : s.core.bundle.complete = false := hc
    simp only [State.endBundle, hc, th, hth, slots, Bool.false_eq_true, if_false, if_true]
  · have hc : s.core.bundle.complete = false := hc
    simp only [State.endBundle, hc, th, hth, slots, Bool.false_eq_true, if_false, satExc_eq hmem hover hk first]

end Sys2Proof.Machine
end

section
/-! PROOF. O16: taking an exception, TRAP and ERET (R31, R60, R91, R231, R232). -/

namespace Sys2Proof.Machine

/-! ### Trap entry with nothing due -/

/-- The scoreboard when every result due has landed and none is far. -/
def Scoreboard.settled (b : Scoreboard) : Scoreboard :=
  { b with landX := b.landX.map (min b.cyc), landV := b.landV.map (min b.cyc), landP := b.landP.map (min b.cyc) }

theorem State.settle_eq {s : State} (h : s.core.t.sb.far = []) : s.settle = s.modSb Scoreboard.settled := by
  rw [State.settle, h]; rfl

/-- The handler depends on the running task's context and on the lit plane alone. -/
theorem State.handler_congr {s u : State} (hs : u.sched = s.sched) (hm : u.mem = s.mem) (hl : u.core.lit = s.core.lit)
    (hid : u.core.t.id = s.core.t.id) : u.handler = s.handler := by
  have hscw : u.core.isScw = s.core.isScw := by funext a; simp only [Core.isScw, Core.codeAt, hl]
  simp only [State.handler, State.desc, State.descOf, State.phys, hs, hm, hl, hid, hscw]
  congr

/-- Trap entry, outside a handler, with no result due and a handler to reach (R231). -/
theorem State.trapOrWait_enters {s : State} {e : Exc} {epc a : VAddr} (hth : s.core.t.sys.th = false) (hfar : s.core.t.sb.far = [])
    (hnxt : s.core.t.sb.nxt = []) (ha : s.handler = some a) : let u := s.trapOrWait e epc
    u.core.t.sys = { s.core.t.sys with th := true, segstate := (s.core.t.seg.atTrap e.cause).pack, faults := e.regs epc s.core.lit.image } ∧
      u.core.t.pc = a ∧ u.core.t.seg = Segment.reset ∧ u.core.mode = s.core.mode ∧ u.core.t.x = s.core.t.x ∧ u.core.t.v = s.core.t.v ∧
      u.core.t.p = s.core.t.p ∧ u.core.t.ts = s.core.t.ts ∧ u.core.t.loop = s.core.t.loop ∧ u.core.t.comp = s.core.t.comp ∧ u.mem = s.mem := by
  have due : (s.modSb Scoreboard.settled).resultsDue = false := by
    show (!(s.core.t.sb.far.isEmpty && s.core.t.sb.nxt.isEmpty)) = false
    rw [hfar, hnxt]; rfl
  have th : (s.modSb Scoreboard.settled).core.t.sys.th = false := hth
  have handler : (s.modSb Scoreboard.settled).handler = some a := by
    rw [State.handler_congr (s := s) (u := s.modSb _) rfl rfl rfl rfl, ha]
  simp only [State.trapOrWait, State.settle_eq hfar, due, Bool.false_eq_true, if_false, State.enterTrap, th, handler]
  simp only [State.noteFault, State.modSys, State.modSb, State.modT, and_self]

/-- Every cause but a miss, a missing unit and a mismatch enters the handler at once, or with its record (R231). -/
theorem State.takeException_eq {s : State} {e : Exc} {epc : VAddr} (h1 : e.cause ≠ .translation) (h2 : e.cause ≠ .featureAbsent)
    (h3 : e.cause ≠ .mirror) (h4 : e.rec4 = none) : s.takeException e epc = s.trapOrWait e epc := by
  unfold State.takeException
  split
  · exact absurd ‹_› h1
  · exact absurd ‹_› h2
  · exact absurd ‹_› h3
  · simp only [h4]

/-! ### TRAP and ERET -/

/-- A bundle that goes on in line and has no predicate logic, complete and with its counts still to be tested. -/
theorem State.completeUntested_inLine {s : State} (h : InLine s s.core.bundle.redirect) (hp : s.core.bundle.head.plop = 0) :
    let u := s.completeUntested
    u.core.t.x = s.core.t.x ∧ u.core.t.v = s.core.t.v ∧ u.core.t.p = s.core.t.p ∧ u.core.t.sys = s.core.t.sys ∧ u.core.t.loop = s.core.t.loop ∧
      u.core.t.kept = s.core.t.kept ∧ u.core.t.id = s.core.t.id ∧ u.core.t.pc = s.core.bundle.next ∧ u.core.lit = s.core.lit ∧ u.sched = s.sched ∧
      u.mem = s.mem ∧ (s.core.t.sb.far = [] → u.core.t.sb.far = []) ∧ u.core.t.sb.nxt = s.core.t.sb.nxt ∧
      u.core.stallc = if s.core.bundle.redirect.stalls then s.core.stallc + 1 else s.core.stallc := by
  obtain ⟨p, sb, seg, rp, sp, buf, asks, stallc, hpred, hfar, hnxt, hstall, e⟩ := State.completeWith_inLine h s.core.bundle.head
  have eu : s.completeUntested = (s.completeWith s.core.bundle.head).modT fun t => { t with satPend := t.satPend ++ s.core.bundle.satSlots } := rfl
  rw [eu, e]
  exact ⟨rfl, rfl, hpred hp, rfl, rfl, rfl, rfl, rfl, rfl, rfl, rfl, hfar, hnxt, hstall⟩

/-- TRAP with its guard set (R231). -/
theorem State.trap_answers {s : State} {g : BitVec 4} {k : BitVec 12} {a : VAddr} (hg : s.guard g = true) (hth : s.core.t.sys.th = false)
    (hfar : s.core.t.sb.far = []) (hnxt : s.core.t.sb.nxt = []) (ha : s.handler = some a) (hr : s.core.bundle.redirect = .none)
    (hl : s.core.t.loop.innermost = none) (hp : s.core.bundle.head.plop = 0) : Answers (execTrap g k s) fun u =>
      u.core.t.sys.faults.epc = s.core.bundle.next ∧ u.core.t.sys.faults.fcause = 18 ∧ u.core.t.sys.faults.felem = k.setWidth 16 ∧
      u.core.t.sys.th = true ∧ u.core.t.pc = a ∧ u.core.t.x = s.core.t.x ∧ u.core.t.v = s.core.t.v ∧ u.core.t.p = s.core.t.p ∧ SameMemory s u := by
  obtain ⟨hx, hv, hpr, hsys, -, -, hid, hpc, hlit, hsched, hmem, hfar', hnxt', -⟩ := State.completeUntested_inLine (.inr ⟨hr, hl⟩) hp
  have handler : s.completeUntested.handler = some a := (State.handler_congr hsched hmem hlit hid).trans ha
  refine ⟨_, State.when_on s g _ hg, ?_⟩
  obtain ⟨esys, epc, -, -, ex, ev, ep, -, -, -, emem⟩ := State.trapOrWait_enters
    (e := { cause := .trap, addr := 0, slot := 0, opnd := 7, elem := k.zeroExtend 16 }) (epc := s.completeUntested.core.t.pc)
    (by rw [hsys, hth]) (hfar' hfar) (hnxt'.trans hnxt) handler
  refine ⟨?_, ?_, ?_, ?_, epc, ex.trans hx, ev.trans hv, ep.trans hpr, SameMemory.of_mem (emem.trans hmem)⟩ <;> rw [esys]
  · exact hpc
  all_goals rfl

/-- ERET in a handler, with its guard set (R91, R232). -/
theorem State.eret_answers {s : State} {g : BitVec 4} (hg : s.guard g = true) (hth : s.core.old.sys.th = true) (hseg : s.closing.fails = false)
    (hepc : s.core.resumable s.core.old.sys.faults.epc = true) (hp : s.core.bundle.head.plop = 0) : Answers (execEret g s) fun u =>
      u.core.t.sys = { s.core.t.sys with th := false } ∧ u.core.t.pc = s.core.t.sys.faults.epc ∧
      u.core.t.seg = unpackSegment s.core.t.sys.segstate s.core.t.kept ∧ u.core.stallc = s.core.stallc + 1 ∧
      u.core.t.x = s.core.t.x ∧ u.core.t.v = s.core.t.v ∧ u.core.t.p = s.core.t.p ∧ u.core.t.loop = s.core.t.loop ∧ SameMemory s u := by
  obtain ⟨hx, hv, hpr, hsys, hloop, hkept, -, -, -, -, hmem, -, -, hstall⟩ :=
    State.completeUntested_inLine (s := s.modBundle fun b => { b with redirect := .eret }) (.inl rfl) hp
  refine ⟨_, State.when_on s g _ hg, ?_⟩
  simp only [hth, hseg, hepc, Bool.true_eq_false, Bool.false_eq_true, if_false, State.returnFromTrap]
  simp only [State.modT, State.modSys, hx, hv, hpr, hsys, hloop, hkept, hstall]
  exact ⟨rfl, rfl, rfl, rfl, rfl, rfl, rfl, rfl, SameMemory.of_mem hmem⟩

/-- Settles O16. -/
theorem exceptions : Obligations.Exceptions := by
  dsimp only [Obligations.Exceptions, exec]
  refine ⟨fun s e a h1 h2 h3 h4 hth hfar hnxt ha => ?_, fun s g k => ⟨fun hg => ⟨State.when_off s g _ hg, State.when_off s g _ hg⟩,
    fun a hg hth hfar hnxt ha hr hl hp => State.trap_answers hg hth hfar hnxt ha hr hl hp,
    fun hg hth hseg hepc hp => State.eret_answers hg hth hseg hepc hp, fun hg hth => ⟨s.openOpnd, ?_⟩⟩⟩
  · obtain ⟨esys, epc, eseg, emode, ex, ev, ep, ets, eloop, ecomp, emem⟩ :=
      State.trapOrWait_enters (e := e) (epc := s.core.bundle.header) hth hfar hnxt ha
    have seg : s.core.t.seg.atTrap e.cause = s.core.t.seg := if_neg h3
    rw [seg] at esys
    simp only [State.raise, State.takeException_eq h1 h2 h3 h4]
    exact ⟨esys, epc, congrArg Segment.isOpen eseg, rfl, emode, ex, ev, ep, ets, eloop, ecomp, SameMemory.of_mem emem⟩
  · refine (State.when_on s g _ hg).trans ?_
    simp only [hth, if_true]
    rfl

end Sys2Proof.Machine
end

section
/-! PROOF. O27: stream buffers (R138 to R141). -/

namespace Sys2Proof.Machine

/-! ### Lists and bytes -/

theorem nth?_eq_getElem? {α : Type} (l : List α) (k : Nat) : nth? l k = l[k]? := by
  induction l generalizing k with
  | nil => simp [nth?]
  | cons a r ih => rcases k with _ | k <;> simp [nth?, ih]

theorem leNat_lt (bs : List Byte) : leNat bs < 256 ^ bs.length := by
  induction bs with
  | nil => simp [leNat]
  | cons b r ih =>
    have := b.isLt
    rw [leNat, List.length_cons, Nat.pow_succ]
    omega

/-- A few bytes fit in a lane of as many. -/
theorem leNat_take_lt (w : Width) (bs : List Byte) : leNat (bs.take (Width.bytes w)) < 2 ^ Width.bits w := by
  have e : 2 ^ Width.bits w = 256 ^ Width.bytes w := by rw [Width.bits_eq, Nat.pow_mul]
  rw [e]
  exact lt_of_lt_of_le (leNat_lt _) (Nat.pow_le_pow_right (by decide) (by simp))

/-- The lane mask of a predicate built from elements is that predicate. -/
theorem active_predOf (w : Width) (f : Nat → Bool) {l : Nat} (hl : l < Width.lanes w) :
    active w (predOf (Width.bytes w) ((List.range (Width.lanes w)).map f)) l = f l := by
  have hb := Width.bytes_pos w
  have hi : Width.bytes w * l < 256 := by
    rw [← Width.lanes_bytes w, Nat.mul_comm]; exact Nat.mul_lt_mul_of_pos_right hl hb
  rw [active, predOf_getLsbD _ _ _ hi hb, Nat.mul_div_cancel_left _ hb, List.getElem?_map, List.getElem?_range hl, Option.map_some, Option.getD_some]

theorem laneMask_predOf (w : Width) (f : Nat → Bool) :
    laneMask w (predOf (Width.bytes w) ((List.range (Width.lanes w)).map f)) = predOf (Width.bytes w) ((List.range (Width.lanes w)).map f) :=
  congrArg (predOf (Width.bytes w)) (List.map_congr_left fun _ hl => active_predOf w f (List.mem_range.1 hl))

/-! ### A stream buffer -/

@[simp] theorem State.setStream_self (s : State) (n : BitVec 2) (bs : List Byte) : fileGet (s.setStream n bs).core.t.streams n = bs :=
  fileGet_filePut_self _ _ _

theorem State.setStream_ne (s : State) {n j : BitVec 2} (bs : List Byte) (h : j ≠ n) :
    fileGet (s.setStream n bs).core.t.streams j = fileGet s.core.t.streams j := fileGet_filePut_ne _ _ _ _ h

/-- The first active element for which a buffer has no room. -/
theorem room_iff {e len n : Nat} (he : 0 < e) (h : len ≤ 4096) : (4096 - len) / e < n ↔ 4096 < len + e * n := by
  rw [Nat.div_lt_iff_lt_mul he, Nat.mul_comm]; omega

/-- VSPUSH with room (R140). -/
theorem State.vspush_answers {s : State} {g : BitVec 4} {w : Width} {n : BitVec 2} {a : BitVec 5}
    (h : (s.stream n).length + Width.bytes w * (s.lanesOf g w).length ≤ 4096) :
    execVspush g w n a s = .next (if (s.lanesOf g w).isEmpty then s
      else s.setStream n (s.stream n ++ ((s.lanesOf g w).map fun l => leBytes (Width.bytes w) (lane (Width.bits w) (s.rdV a) l)).flatten)) := by
  have none : nth? (s.lanesOf g w) ((4096 - (s.stream n).length) / Width.bytes w) = none := by
    rw [nth?_eq_getElem?, List.getElem?_eq_none_iff, ← Nat.not_lt, room_iff (Width.bytes_pos w) (by omega)]
    omega
  rw [State.lanesOf] at none
  simp only [execVspush, none]
  rfl

/-- VSPUSH past 4,096 bytes (R140). -/
theorem State.vspush_traps {s : State} {g : BitVec 4} {w : Width} {n : BitVec 2} {a : BitVec 5} (h : (s.stream n).length ≤ 4096)
    (full : 4096 < (s.stream n).length + Width.bytes w * (s.lanesOf g w).length) :
    ∃ l, nth? (s.lanesOf g w) ((4096 - (s.stream n).length) / Width.bytes w) = some l ∧
      Traps { s.slotExc .illegalOperand 4 0 with elem := BitVec.ofNat 16 l } s (execVspush g w n a s) := by
  obtain ⟨l, hl⟩ : ∃ l, nth? (s.lanesOf g w) ((4096 - (s.stream n).length) / Width.bytes w) = some l := by
    rw [nth?_eq_getElem?]
    exact ⟨_, List.getElem?_eq_getElem ((room_iff (Width.bytes_pos w) h).2 full)⟩
  refine ⟨l, hl, ?_⟩
  rw [State.lanesOf] at hl
  simp only [execVspush, hl]
  rfl

/-- What VSPOP fills: the elements that are active and lower than the count of those there are. -/
def popFills (w : Width) (g : Pred) (k l : Nat) : Bool := active w g l && decide (below w g l < k)

/-- VSPOP with an active element (R140). -/
theorem State.vspop_eq {s : State} {g : BitVec 4} {w : Width} {d : BitVec 5} {n : BitVec 2} {p : BitVec 4} {m : Bool} (h : s.lanesOf g w ≠ []) :
    let e := Width.bytes w; let k := min (s.lanesOf g w).length ((s.stream n).length / e)
    let filled := (List.range (Width.lanes w)).map (popFills w (s.rdP g) k)
    execVspop g w d n p m s = .next (((s.putV (laneMask w (if m then s.rdP g else predOf e filled)) d
      (vecOf (Width.bits w) ((List.range (Width.lanes w)).map fun l =>
        if below w (s.rdP g) l < k then leNat (((s.stream n).drop (e * below w (s.rdP g) l)).take e) else 0)) 3).dropStream n (e * k)).setP p
      (predOf e filled) 1) := by
  have some : (activeLanes w (s.rdP g)).isEmpty = false := by simpa [State.lanesOf] using h
  simp only [execVspop, some, Bool.false_eq_true, if_false]
  cases m
  · simp only [Bool.false_eq_true, if_false, laneMask_predOf]; rfl
  · rfl

theorem OnlyP.keeps {p : BitVec 4} {s t : State} (h : OnlyP p s t) : t.core.t.x = s.core.t.x ∧ t.core.t.sys = s.core.t.sys ∧ t.core.t.ts = s.core.t.ts ∧
    t.core.t.streams = s.core.t.streams ∧ ∀ r, t.curV r = s.curV r :=
  ⟨congrArg (·.core.t.x) h.1, congrArg (·.core.t.sys) h.1, congrArg (·.core.t.ts) h.1, congrArg (·.core.t.streams) h.1,
    fun r => congrArg (·.curV r) h.1⟩

theorem OnlyV.keeps {d : BitVec 5} {s t : State} (h : OnlyV d s t) : t.core.t.x = s.core.t.x ∧ t.core.t.sys = s.core.t.sys ∧ t.core.t.ts = s.core.t.ts ∧
    t.core.t.streams = s.core.t.streams ∧ t.core.t.sb.cyc = s.core.t.sb.cyc ∧ ∀ r, t.pNow r = s.pNow r :=
  ⟨congrArg (·.core.t.x) h.1, congrArg (·.core.t.sys) h.1, congrArg (·.core.t.ts) h.1, congrArg (·.core.t.streams) h.1,
    congrArg (·.cyc) h.2.1, fun r => congrArg (·.pNow r) h.1⟩

/-- VSPOP with an active element: the bytes it takes, the elements and the predicate it fills, and nothing else (R140). -/
theorem State.vspop_answers {s : State} {g : BitVec 4} {w : Width} {d : BitVec 5} {n : BitVec 2} {p : BitVec 4} {m : Bool} (h : s.lanesOf g w ≠ []) :
    let e := Width.bytes w; let st := s.stream n; let k := min (s.lanesOf g w).length (st.length / e)
    Answers (execVspop g w d n p m s) fun u => (∀ j, j ≠ n → fileGet u.core.t.streams j = fileGet s.core.t.streams j) ∧
      fileGet u.core.t.streams n = st.drop (e * k) ∧
      (∀ l < Width.lanes w, lane (Width.bits w) (u.curV d) l =
        if active w (s.rdP g) l = true then
          if below w (s.rdP g) l < k then leNat ((st.drop (e * below w (s.rdP g) l)).take e) else if m then 0 else lane (Width.bits w) (s.curV d) l
        else lane (Width.bits w) (s.curV d) l) ∧
      (p ≠ 0 → fileGet u.core.t.sb.landP p = s.core.t.sb.cyc + 1 ∧ ∀ i < 256, (u.pNow p).getLsbD i = popFills w (s.rdP g) k (i / e)) ∧
      (∀ r, r ≠ d → u.curV r = s.curV r) ∧ (∀ r, r ≠ p → u.pNow r = s.pNow r) ∧ u.core.t.x = s.core.t.x ∧ u.core.t.sys = s.core.t.sys ∧
      u.core.t.ts = s.core.t.ts ∧ SameMemory s u := by
  intro e st k
  rw [State.vspop_eq h]
  generalize hg' : (if m = true then s.rdP g else predOf e ((List.range (Width.lanes w)).map (popFills w (s.rdP g) k))) = g'
  generalize hv : vecOf (Width.bits w) ((List.range (Width.lanes w)).map fun l =>
    if below w (s.rdP g) l < k then leNat ((st.drop (e * below w (s.rdP g) l)).take e) else 0) = v
  have value : ∀ l < Width.lanes w, lane (Width.bits w) v l =
      if below w (s.rdP g) l < k then leNat ((st.drop (e * below w (s.rdP g) l)).take e) else 0 := fun l hl => by
    rw [← hv, lane_vecOf _ _ _ (Width.lane_end w l hl), List.getElem?_map, List.getElem?_range hl, Option.map_some, Option.getD_some]
    split
    · exact Nat.mod_eq_of_lt (leNat_take_lt w _)
    · exact Nat.zero_mod _
  have onlyV := State.putV_only s (laneMask w g') d v 3
  have lanes := State.putV_lanes s w g' d v 3
  generalize s.putV (laneMask w g') d v 3 = s1 at onlyV lanes ⊢
  obtain ⟨vx, vsys, vts, vstreams, vcyc, vp⟩ := onlyV.keeps
  obtain ⟨pval, pland, onlyP⟩ := State.setP_gives (s1.dropStream n (e * k)) p
    (predOf e ((List.range (Width.lanes w)).map (popFills w (s.rdP g) k)))
  obtain ⟨px, psys, pts, pstreams, pv⟩ := onlyP.keeps
  obtain ⟨-, -, pother, pmem⟩ := onlyP
  obtain ⟨-, -, vother, vmem, -⟩ := onlyV
  refine ⟨_, rfl, fun j hj => ?_, ?_, fun l hl => ?_, fun hp => ⟨(pland hp).trans (congrArg (· + 1) vcyc), fun i hi => ?_⟩,
    fun r hr => (pv r).trans (vother r hr), fun r hr => (pother r hr).1.trans (vp r), px.trans vx, psys.trans vsys, pts.trans vts,
    fun slot pa => (pmem slot pa).trans (vmem slot pa)⟩
  · rw [pstreams]; exact (State.setStream_ne _ _ hj).trans (by rw [vstreams])
  · rw [pstreams]; exact (State.setStream_self _ _ _).trans (by rw [State.stream, vstreams]; rfl)
  · refine (congrArg (lane (Width.bits w) · l) (pv d)).trans ((lanes l hl).trans ?_)
    rw [value l hl, ← hg']
    cases m
    · simp only [Bool.false_eq_true, if_false, e, active_predOf w _ hl, popFills, Bool.and_eq_true, decide_eq_true_eq]
      by_cases ha : active w (s.rdP g) l = true <;> by_cases hk : below w (s.rdP g) l < k <;> simp [ha, hk]
    · simp only [if_true]
  · rw [pval, if_neg hp, predOf_getLsbD _ _ i hi (Width.bytes_pos w), List.getElem?_map, List.getElem?_range (Width.div_bytes_lt w hi)]
    rfl

/-- Settles O27. -/
theorem streamBuffers : Obligations.StreamBuffers := by
  intro s g w d a n p m e st on k alter others
  dsimp only [exec]
  have bits : 8 * e = Width.bits w := (Width.bits_eq w).symm
  rw [bits]
  refine ⟨fun h => ?push, fun h full => State.vspush_traps h full, fun h => ?idle, fun h => State.vspop_answers h, s.putX_result g _ _ 2, ?flush⟩
  case push =>
    refine ⟨_, State.vspush_answers h, ?_⟩
    split
    · rename_i h0
      have h0 : on = [] := List.isEmpty_iff.1 h0
      exact ⟨fun _ _ => rfl, rfl, by rw [h0]; exact (List.append_nil _).symm⟩
    · exact ⟨fun j hj => State.setStream_ne s _ hj, rfl, State.setStream_self s n _⟩
  case idle =>
    have h0 : (activeLanes w (s.rdP g)).isEmpty = true := List.isEmpty_iff.2 h
    simp only [execVspop, h0, if_true]
  case flush =>
    split
    · rename_i hg
      refine ⟨_, State.when_on s g _ hg, fun j hj => (State.setStream_ne _ _ hj).trans ?_, State.setStream_self _ n _, ?_⟩
      · exact congrArg (fun z => fileGet z.core.t.streams j) (State.setX_gives s (d.zeroExtend 6) _ 2).2.2.1
      · have restored : alter ((s.setX (d.zeroExtend 6) (BitVec.ofNat 64 ((s.stream n).length / e)) 2).setStream n []) =
            s.setX (d.zeroExtend 6) (BitVec.ofNat 64 ((s.stream n).length / e)) 2 := by
          unfold State.setX; split <;> rfl
        exact restored ▸ State.setX_gives s (d.zeroExtend 6) (BitVec.ofNat 64 ((s.stream n).length / e)) 2
    · exact State.when_off s g _ (Bool.not_eq_true _ ▸ ‹_›)

end Sys2Proof.Machine
end

section
/-! PROOF. O45: scale slots, system registers and FEAT (R14, R15, R20 to R22, R229, R230). -/

namespace Sys2Proof.Machine

/-! ### The system registers as a table (R20) -/

/-- What each number of R20's table reads, 0 where it lists none. -/
def State.sysTable (s : State) : List Nat :=
  let y := s.core.old.sys; let f := y.faults; let l := s.core.t.loop
  [s.status, f.epc.toNat, f.fcause.toNat, f.faddr.toNat, f.fslot.toNat, f.fopnd.toNat, f.felem.toNat, f.fimg.toNat, y.segstate.toNat,
    s.core.stallc.toNat, s.core.lodc.toNat, s.core.feat.toNat, (s.clusterOf (coreCluster s.cur)).d.toNat, y.tslice.toNat, s.preqNow, y.optp.toNat,
    y.vflags.toNat, y.srseed.toNat, s.core.srctr.toNat, y.dom[0].toNat, y.dom[1].toNat, y.dom[2].toNat, y.dom[3].toNat] ++
  List.replicate 9 0 ++
  [l.lc[0].toNat, l.lc[1].toNat, l.lc[2].toNat, l.lb[0].toNat, l.lb[1].toNat, l.lb[2].toNat, l.ln[0].toNat, l.ln[1].toNat, l.ln[2].toNat,
    l.vrb.toNat, s.core.t.comp.ctb.toNat, s.core.t.comp.cte.toNat]

theorem State.sysRead_eq (s : State) (r : BitVec 12) : s.sysRead r = s.sysTable.getD r.toNat 0 := by
  unfold State.sysRead
  generalize r.toNat = n
  by_cases h : n < 44
  · interval_cases n <;> rfl
  · obtain ⟨k, rfl⟩ := Nat.exists_eq_add_of_le' (Nat.le_of_not_lt h)
    rfl

/-- The state in which a write of the running bundle can be read. -/
def State.afterWrite (s : State) : State := { s with core := { s.core with old := { s.core.old with sys := s.core.t.sys } } }

/-- The registers that software may write, with their widths (R20). -/
def sysWidths : List (Nat × Nat) :=
  [(0x008, 30), (0x001, 55), (0x002, 8), (0x003, 55), (0x004, 3), (0x005, 3), (0x006, 16), (0x007, 32), (0x020, 32), (0x021, 32), (0x022, 32), (0x023, 55),
    (0x024, 55), (0x025, 55), (0x026, 9), (0x027, 9), (0x028, 9), (0x029, 4), (0x00F, 18), (0x010, 2), (0x011, 64), (0x012, 64)]

theorem toNat_extract_low (v : Word) (n : Nat) : (v.extractLsb' 0 n).toNat = v.toNat % 2 ^ n := by simp

theorem toNat_zeros_append (v : Word) : (0#2 ++ v.extractLsb' 0 30).toNat = v.toNat % 2 ^ 30 := by
  rw [BitVec.toNat_append]; simp

theorem State.status_sysWrite (s : State) (r : BitVec 12) (v : Word) : (s.sysWrite r v).afterWrite.status = s.afterWrite.status := by
  unfold State.sysWrite; split <;> rfl

theorem State.preqNow_sysWrite (s : State) (r : BitVec 12) (v : Word) : (s.sysWrite r v).afterWrite.preqNow = s.afterWrite.preqNow := by
  unfold State.sysWrite; split <;> rfl

/-- A write sets the register's own entry of the table, and no other. -/
theorem State.sysTable_sysWrite (s : State) (v : Word) : ∀ z ∈ sysWidths,
    (s.sysWrite (BitVec.ofNat 12 z.1) v).afterWrite.sysTable = s.afterWrite.sysTable.set z.1 (v.toNat % 2 ^ z.2) := by
  have hv : v.toNat % 18446744073709551616 = v.toNat := Nat.mod_eq_of_lt v.isLt
  simp only [sysWidths, List.forall_mem_cons, List.not_mem_nil, false_implies, implies_true, and_true, State.sysTable, State.status_sysWrite,
    State.preqNow_sysWrite, List.cons_append, List.nil_append, List.replicate]
  refine ⟨?_, ?_, ?_, ?_, ?_, ?_, ?_, ?_, ?_, ?_, ?_, ?_, ?_, ?_, ?_, ?_, ?_, ?_, ?_, ?_, ?_, ?_⟩
  all_goals simp [State.sysWrite, State.afterWrite, State.modFaults, State.modSys, State.modLoop, State.modT, State.modCore, State.clusterOf,
    -BitVec.toNat_append, toNat_zeros_append, hv]

/-- A write of a system register leaves the registers of the other files, and memory, as they are. -/
theorem State.sysWrite_frame (s : State) (r : BitVec 12) (v : Word) : let u := s.sysWrite r v
    u.core.t.x = s.core.t.x ∧ u.core.t.v = s.core.t.v ∧ u.core.t.p = s.core.t.p ∧ u.core.t.ts = s.core.t.ts ∧ SameMemory s u := by
  unfold State.sysWrite
  split <;> exact ⟨rfl, rfl, rfl, rfl, SameMemory.of_mem rfl⟩

/-! ### SRD and SWR (R230) -/

/-- A guarded scalar result computed from the state. -/
theorem ResultX.of_when {s : State} {g : BitVec 4} {d : BitVec 6} {w : Word} {n : Nat} {o : Out} (f : State → Word)
    (ho : o = s.when g fun s => s.setX d (f s) n) (hv : f s = w) : ResultX g d w n s o := .of_putX (v := f s) (by rw [ho]; rfl) hv

theorem State.srd_result {s : State} {r : BitVec 12} {n : Nat} (g : BitVec 4) (d : BitVec 6) (h : s.sysRead r = n) :
    ResultX g d (BitVec.ofNat 64 n) 1 s (execSrd g d r s) :=
  .of_when (fun s => BitVec.ofNat 64 (s.sysRead r)) rfl (congrArg (BitVec.ofNat 64) h)

/-- What a write leaves to be read: its own bits in the register, and the other registers as they were. -/
theorem State.sysRead_sysWrite (s : State) (v : Word) {z : Nat × Nat} (hz : z ∈ sysWidths) :
    (s.sysWrite (BitVec.ofNat 12 z.1) v).afterWrite.sysRead (BitVec.ofNat 12 z.1) = v.toNat % 2 ^ z.2 ∧
      ∀ k, k ≠ BitVec.ofNat 12 z.1 → (s.sysWrite (BitVec.ofNat 12 z.1) v).afterWrite.sysRead k = s.afterWrite.sysRead k := by
  have hlt : z.1 < 44 := (by decide : ∀ z ∈ sysWidths, z.1 < 44) z hz
  have hnum : (BitVec.ofNat 12 z.1).toNat = z.1 := by rw [BitVec.toNat_ofNat, Nat.mod_eq_of_lt (by omega)]
  simp only [State.sysRead_eq, State.sysTable_sysWrite s v z hz]
  refine ⟨?_, fun k hk => ?_⟩
  · have : z.1 < s.afterWrite.sysTable.length := hlt
    simp [hnum, this]
  · have : z.1 ≠ k.toNat := fun e => hk (BitVec.eq_of_toNat_eq (by rw [hnum, e]))
    rw [List.getD_eq_getElem?_getD, List.getD_eq_getElem?_getD, List.getElem?_set_ne this]

/-- The access class of a register that software may write: RW for four, TH for the others. -/
theorem sysAccess_writable : ∀ z ∈ sysWidths, sysAccess (BitVec.ofNat 12 z.1) = if 0x00F ≤ z.1 ∧ z.1 ≤ 0x012 then .rw else .th := by decide

theorem State.swr_ro {s : State} {g : BitVec 4} (hg : s.guard g = true) (a : BitVec 6) {r : BitVec 12} (h : sysAccess r = .ro) :
    Traps (s.slotExc .illegalOperand 4 0) s (execSwr g a r s) := (State.when_on s g _ hg).trans (by simp only [h]; rfl)

theorem State.swr_sys {s : State} {g : BitVec 4} (hg : s.guard g = true) (a : BitVec 6) {r : BitVec 12} (h : sysAccess r = .sys) :
    Traps (s.slotExc .protection 4 0) s (execSwr g a r s) := (State.when_on s g _ hg).trans (by simp only [h]; rfl)

theorem State.swr_th_outside {s : State} {g : BitVec 4} (hg : s.guard g = true) (a : BitVec 6) {r : BitVec 12} (h : sysAccess r = .th)
    (hth : s.core.old.sys.th = false) : Traps (s.slotExc .protection 4 0) s (execSwr g a r s) :=
  (State.when_on s g _ hg).trans (by simp only [h, hth, Bool.false_eq_true, if_false]; rfl)

theorem State.swr_writes {s : State} {g : BitVec 4} (hg : s.guard g = true) (a : BitVec 6) {r : BitVec 12}
    (h : sysAccess r = .rw ∨ sysAccess r = .th ∧ s.core.old.sys.th = true) : execSwr g a r s = .next (s.sysWrite r (s.rdX a)) := by
  refine (State.when_on s g _ hg).trans ?_
  obtain h | ⟨h, hth⟩ := h
  · simp only [h]
  · simp only [h, hth, if_true]

/-- A register that software may write here takes its own bits (R20, R230). -/
theorem State.swr_answers {s : State} {g : BitVec 4} (hg : s.guard g = true) (a : BitVec 6) {z : Nat × Nat} (hz : z ∈ sysWidths)
    (may : s.core.old.sys.th = true ∨ 0x00F ≤ z.1 ∧ z.1 ≤ 0x012) : Answers (execSwr g a (BitVec.ofNat 12 z.1) s) fun u =>
      u.afterWrite.sysRead (BitVec.ofNat 12 z.1) = (s.rdX a).toNat % 2 ^ z.2 ∧
      (∀ k, k ≠ BitVec.ofNat 12 z.1 → u.afterWrite.sysRead k = s.afterWrite.sysRead k) ∧
      u.core.t.x = s.core.t.x ∧ u.core.t.v = s.core.t.v ∧ u.core.t.p = s.core.t.p ∧ u.core.t.ts = s.core.t.ts ∧ SameMemory s u := by
  have access := sysAccess_writable z hz
  refine ⟨_, State.swr_writes hg a ?_, (s.sysRead_sysWrite (s.rdX a) hz).1, (s.sysRead_sysWrite (s.rdX a) hz).2, s.sysWrite_frame _ _⟩
  split at access
  · exact .inl access
  · exact .inr ⟨access, may.resolve_right ‹_›⟩

theorem State.preqNow_eq (s : State) : s.preqNow = (let y := s.core.old.sys
    if y.preq.getLsbD 0 = true ∧ y.preq.getLsbD 1 = false then
      y.preq.toNat % 2 ^ 16 + max 1 (10 - (s.mgmt.tsc - y.graceAt).toNat / 1000) * 2 ^ 16 else y.preq.toNat) := by
  simp only [State.preqNow, Bool.and_eq_true, Bool.not_eq_true', bitsOf, pow_zero, Nat.div_one]

/-- The low bits of sys.status: th, a request, an eclipse (R21). -/
theorem State.status_low (s : State) : s.status % 8 =
    (if s.core.old.sys.th then 1 else 0) + (if s.core.old.sys.preq.getLsbD 0 then 2 else 0) + (if s.core.old.sys.ecl then 4 else 0) := by
  have hf : (if s.core.failover then 2 ^ 10 else 0) % 8 = 0 := by split <;> rfl
  have h1 : (if s.core.old.sys.th then 1 else 0) < 2 := by split <;> omega
  have h2 : (if s.core.old.sys.preq.getLsbD 0 then 2 else 0) < 3 := by split <;> omega
  have h3 : (if s.core.old.sys.ecl then 4 else 0) < 5 := by split <;> omega
  simp only [State.status]
  omega

/-! ### Scale slots (R14, R230) -/

theorem slotField_cases : ∀ f : BitVec 6, f.toNat < 7 → f = 0 ∨ f = 1 ∨ f = 2 ∨ f = 3 ∨ f = 4 ∨ f = 5 ∨ f = 6 := by decide

/-- A value that fits in n bits is the extension of its low n bits. -/
theorem zeroExtend_extract {v : Word} {n : Nat} (h : v.toNat < 2 ^ n) : (v.extractLsb' 0 n).zeroExtend 64 = v := by
  apply BitVec.eq_of_toNat_eq
  rw [BitVec.toNat_setWidth, toNat_extract_low, Nat.mod_eq_of_lt h, Nat.mod_eq_of_lt v.isLt]

theorem signExtend_extract {v : Word} (h : -128 ≤ v.toInt ∧ v.toInt ≤ 127) : (v.extractLsb' 0 8).signExtend 64 = v := by
  apply BitVec.eq_of_toInt_eq
  have e := BitVec.toInt_eq_toNat_cond v
  rw [BitVec.toInt_signExtend_of_le (by decide), BitVec.toInt_eq_toNat_cond, toNat_extract_low]
  split at e <;> split <;> omega

/-- A field reads as the value written to it, if it can hold it. -/
theorem ScaleSlot.field_setField {f : BitVec 6} {v : Word} (t : ScaleSlot) (hf : f.toNat < 7) (h : fieldHolds f v = true) :
    (t.setField f v).field f = v := by
  obtain rfl | rfl | rfl | rfl | rfl | rfl | rfl := slotField_cases f hf
  · exact signExtend_extract (of_decide_eq_true h)
  · exact zeroExtend_extract (of_decide_eq_true h)
  · exact zeroExtend_extract (of_decide_eq_true h)
  · exact zeroExtend_extract (of_decide_eq_true h)
  · exact (extract_lo _ v 0 64 (by decide)).trans (by simp)
  · exact (extract_hi v _ 64 64 (by decide)).trans (by simp)
  · exact zeroExtend_extract (of_decide_eq_true h)

/-- The other fields read as before. -/
theorem ScaleSlot.field_setField_ne {f k : BitVec 6} (v : Word) (t : ScaleSlot) (hf : f.toNat < 7) (hk : k.toNat < 7) (h : k ≠ f) :
    (t.setField f v).field k = t.field k := by
  have lo : (t.cb.extractLsb' 64 64 ++ v).extractLsb' 64 64 = t.cb.extractLsb' 64 64 := (extract_hi _ v 64 64 (by decide)).trans (by simp)
  have hi : (v ++ t.cb.extractLsb' 0 64).extractLsb' 0 64 = t.cb.extractLsb' 0 64 := (extract_lo v _ 0 64 (by decide)).trans (by simp)
  obtain rfl | rfl | rfl | rfl | rfl | rfl | rfl := slotField_cases f hf <;>
    obtain rfl | rfl | rfl | rfl | rfl | rfl | rfl := slotField_cases k hk <;>
    simp [ScaleSlot.setField, ScaleSlot.field, lo, hi] at h ⊢

/-- TSWR of a value that the field can hold (R230). -/
theorem State.tswr_answers {s : State} {g : BitVec 4} (hg : s.guard g = true) (n a f : BitVec 6) (hf : f.toNat < 7)
    (h : fieldHolds f (s.rdX a) = true) : Answers (execTswr g n a f s) fun u => ∃ ts, u = { s with core := { s.core with t := { s.core.t with ts } } } ∧
      (fileGet ts n).field f = s.rdX a ∧ (∀ k : BitVec 6, k.toNat < 7 → k ≠ f → (fileGet ts n).field k = (fileGet s.core.t.ts n).field k) ∧
      ∀ m, m ≠ n → fileGet ts m = fileGet s.core.t.ts m := by
  refine ⟨_, State.when_on s g _ hg, filePut s.core.t.ts n ((fileGet s.core.t.ts n).setField f (s.rdX a)), ?_, ?_, fun k hk hne => ?_,
    fun m hm => fileGet_filePut_ne _ _ _ _ hm⟩
  · simp only [h, Bool.true_eq_false, if_false]; rfl
  · rw [fileGet_filePut_self, ScaleSlot.field_setField _ hf h]
  · rw [fileGet_filePut_self, ScaleSlot.field_setField_ne _ _ hf hk hne]

theorem State.tswr_traps {s : State} {g : BitVec 4} (hg : s.guard g = true) (n a f : BitVec 6) (h : fieldHolds f (s.rdX a) = false) :
    Traps (s.slotExc .illegalOperand 1 0) s (execTswr g n a f s) := (State.when_on s g _ hg).trans (by simp only [h, if_true]; rfl)

/-- The figure that a selector of FEAT names (R229). -/
def State.figure (s : State) (k : BitVec 6) : Nat :=
  match k.toNat with
  | 0 => s.core.feat.toNat
  | 1 => s.core.lit.image.toNat
  | 2 => s.core.shadow.image.toNat + (match s.core.shadow.state with
      | .empty => 0
      | .loading => 1
      | .loaded => 2) * 2 ^ 32
  | _ => coreCode s.cur + 4 * 2 ^ 12

theorem State.feat_result {s : State} {k : BitVec 6} {n : Nat} (g : BitVec 4) (d : BitVec 6) (h : s.figure k = n) :
    ResultX g d (BitVec.ofNat 64 n) 1 s (execFeat g d k s) :=
  .of_when (fun s => BitVec.ofNat 64 (s.figure k)) rfl (congrArg (BitVec.ofNat 64) h)

theorem State.scaleWrites_off {s : State} {g : BitVec 4} (n a f : BitVec 6) (hg : s.guard g = false) :
    ∀ i ∈ [Instr.tswr g n a f, .tsclr g n], exec i s = .next s := by
  simp only [List.forall_mem_cons, List.not_mem_nil, false_implies, implies_true, and_true]
  dsimp only [exec]
  exact ⟨State.when_off s g _ hg, State.when_off s g _ hg⟩

/-- Settles O45. -/
theorem systemRegisters : Obligations.SystemRegisters := by
  intro s g d a n f r y q l v
  refine ⟨?srd, s.preqNow_eq, ?status, s.status_low, ?swrOff, ?swr, ?ts, ?tsclr, State.scaleWrites_off n a f, ?units, ?image, ?shadow, ?place⟩ <;>
    dsimp only [exec]
  case srd =>
    refine fun z hz => State.srd_result g d ?_
    revert z
    simp only [List.cons_append, List.nil_append, List.forall_mem_cons, List.not_mem_nil, false_implies, implies_true, and_true]
    and_intros <;> rfl
  case status => exact State.srd_result g d rfl
  case swrOff => exact State.when_off s g _
  case swr =>
    have preq : sysAccess 0x00D = .sys := by decide
    have status : sysAccess 0 = .th := by decide
    have ro : ∀ k ∈ [0x009, 0x00A, 0x00B, 0x00C, 0x00E, 0x013, 0x014, 0x015, 0x016, 0x02A, 0x02B], sysAccess k = .ro := by simp [sysAccess]
    exact fun hg => ⟨fun z hz => ⟨State.swr_answers hg a hz,
        fun hth out => State.swr_th_outside hg a ((sysAccess_writable z hz).trans (if_neg out)) hth⟩,
      fun hth => State.swr_writes hg a (.inr ⟨status, hth⟩), State.swr_sys hg a preq, fun k hk => State.swr_ro hg a (ro k hk)⟩
  case ts =>
    exact fun hf => ⟨.of_when (fun s => (fileGet s.core.old.ts n).field f) rfl rfl, fun hg h => State.tswr_answers hg n a f hf h,
      fun hg h => State.tswr_traps hg n a f h⟩
  case tsclr =>
    exact fun hg => ⟨_, State.when_on s g _ hg, _, rfl, fileGet_filePut_self _ _ _, fun m hm => fileGet_filePut_ne _ _ _ _ hm⟩
  case units | image | place => exact State.feat_result g d rfl
  case shadow =>
    intro c hc
    refine State.feat_result g d ?_
    obtain ⟨h, rfl⟩ | ⟨h, rfl⟩ | ⟨h, rfl⟩ := hc <;> simp only [State.figure, h] <;> rfl

end Sys2Proof.Machine
end

section
/-! PROOF. O31: matrix parameter and status registers, and the microprogram stores (R16, R154, R156, R158, R163, R170). -/

namespace Sys2Proof.Machine

/-! ### Parameters and formats -/

theorem State.engineWrites_off {s : State} {g : BitVec 4} (a d : BitVec 6) (k : BitVec 3) (e : Bool) (hg : s.guard g = false) :
    ∀ i ∈ [Instr.mpw g a k e, .mcfg g a e, .mdrain g d e], exec i s = .next s := by
  simp only [List.forall_mem_cons, List.not_mem_nil, false_implies, implies_true, and_true]
  dsimp only [exec]
  exact ⟨State.when_off s g _ hg, State.when_off s g _ hg, State.when_off s g _ hg⟩

/-- A format code is legal up to 4 (R16). -/
theorem fmtOf_eq_none_iff : ∀ c : BitVec 4, fmtOf c = none ↔ 4 < c.toNat := by decide

theorem fmtCodes_bad_iff (x : Word) :
    (x.toNat / 2 ^ 8 ≠ 0 ∨ fmtOf (x.extractLsb' 0 4) = none ∨ fmtOf (x.extractLsb' 4 4) = none) ↔
      ¬(x.toNat < 256 ∧ x.toNat % 16 ≤ 4 ∧ x.toNat / 16 ≤ 4) := by
  rw [fmtOf_eq_none_iff, fmtOf_eq_none_iff, BitVec.extractLsb'_toNat, BitVec.extractLsb'_toNat, Nat.shiftRight_eq_div_pow, Nat.shiftRight_eq_div_pow]
  omega

/-- MCFG with its guard set: legal formats for a drained engine, or a fault (R156). -/
theorem State.mcfg_eq {s : State} {g : BitVec 4} (hg : s.guard g = true) (a : BitVec 6) (e : Bool) :
    let m := s.core.t.me e; let x := s.rdX a
    execMcfg g a e s = .next (if x.toNat < 256 ∧ x.toNat % 16 ≤ 4 ∧ x.toNat / 16 ≤ 4 then
      if m.drained = false then s.fault .illegalOperand 4 else s.withMe e { m with mfmt := BitVec.ofNat 8 x.toNat } else s.fault .illegalOperand 1) := by
  intro m x
  have low : x.extractLsb' 0 8 = BitVec.ofNat 8 x.toNat := BitVec.eq_of_toNat_eq (by simp)
  refine (State.when_on s g _ hg).trans (congrArg Host.Outcome.next ?_)
  simp only [fmtCodes_bad_iff, ite_not]
  rw [← low]
  rfl

/-! ### MDRAIN (R158) -/

theorem TaskState.matIdle_iff (t : TaskState) (e : Bool) : t.matIdle e = true ↔
    (t.me e).queue = [] ∧ (t.me e).run = none ∧ ∀ h ∈ t.haz, (h.half = none → h.eng ≠ if e then 1 else 0) ∧ ∀ q, h.half = some q → q.1 = e := by
  have each : ∀ h : Hazard, ((match h.half with
      | some (first, _) => first != e
      | none => decide (h.eng = if e then 1 else 0)) = false) ↔ (h.half = none → h.eng ≠ if e then 1 else 0) ∧ ∀ q, h.half = some q → q.1 = e := by
    intro h
    cases h.half with
    | none => simp
    | some q => simp
  simp only [TaskState.matIdle, Bool.and_eq_true, decide_eq_true_eq, Bool.not_eq_true', List.any_eq_false, Bool.not_eq_true, and_assoc]
  exact and_congr_right fun _ => and_congr_right fun _ => forall₂_congr fun h _ => each h

/-- A write of a scalar register and a change of an engine do not meet. -/
theorem State.setX_withMe (s : State) (d : BitVec 6) (v : Word) (n : Nat) (e : Bool) (f : MatEngine → MatEngine) :
    ((s.setX d v n).modT fun t => t.setMe e (f (t.me e))) = (s.withMe e (f (s.core.t.me e))).setX d v n := by
  unfold State.setX
  split
  · rfl
  · cases e <;> rfl

/-- MDRAIN of an engine with nothing in it (R158). -/
theorem State.mdrain_answers {s : State} {g : BitVec 4} (hg : s.guard g = true) (d : BitVec 6) {e : Bool} (idle : s.core.t.matIdle e = true) :
    let m := s.core.t.me e
    Answers (execMdrain g d e s) (GivesX d (BitVec.ofNat 64 (m.firstBad.toNat + m.firstOp.toNat * 2 ^ 8 + m.bad.toNat * 2 ^ 16)) 1
      (s.withMe e { m with firstBad := 0, firstOp := 0, bad := 0, drained := true, mdrained := true })) := by
  refine ⟨_, (State.when_on s g _ hg).trans (congrArg Host.Outcome.next (if_pos idle)), ?_⟩
  rw [State.setX_withMe s d _ 1 e fun m => { m with firstBad := 0, firstOp := 0, bad := 0, drained := true, mdrained := true }]
  exact State.setX_gives _ d _ 1

/-! ### The microprogram stores (R163) -/

theorem Plane.microAt_putMicro_self (p : Plane) (n : Nat) (w : BitVec 64) : (p.putMicro n w).microAt n = w := mapGet_mapSet_self _ _ _ _

theorem Plane.microAt_putMicro_ne (p : Plane) {n j : Nat} (w : BitVec 64) (h : j ≠ n) : (p.putMicro n w).microAt j = p.microAt j :=
  mapGet_mapSet_ne _ _ _ _ _ h

theorem bitsOf_index {i : Nat} (h : i < 1024) : bitsOf i 9 0 = i := by rw [bitsOf]; omega

/-- MUCW of a word of the store, with its guard set. -/
theorem State.mucw_eq {s : State} {g : BitVec 4} {x : BitVec 6} (hg : s.guard g = true) (hi : (s.rdX x).toNat < 1024) (a : BitVec 6) (h e : Bool) :
    execMucw g x a h e s = .next (if h then
        if s.core.loading.isSome then s.fault .illegalOperand 4
        else s.modCore fun c => { c with shadow := c.shadow.putMicro (s.rdX x).toNat (s.rdX a) }
      else if s.core.enginesDrained = false then s.fault .illegalOperand 4
      else s.modCore fun c => { c with lit := c.lit.putMicro (s.rdX x).toNat (s.rdX a) }) := by
  have small : ¬((s.rdX x).toNat / 2 ^ 10 ≠ 0) := by omega
  refine (State.when_on s g _ hg).trans (congrArg Host.Outcome.next ?_)
  simp only [small, if_false, bitsOf_index hi]

/-- MUCR of a word of the store. -/
theorem State.mucr_result {s : State} {x : BitVec 6} (hi : (s.rdX x).toNat < 1024) (g : BitVec 4) (d : BitVec 6) (h e : Bool) :
    ResultX g d ((if h then s.core.shadow else s.core.lit).microAt (s.rdX x).toNat) 2 s (execMucr g d x h e s) := by
  have small : ¬((s.rdX x).toNat / 2 ^ 10 ≠ 0) := by omega
  refine .of_putX (v := (if h then s.core.shadow else s.core.lit).microAt (s.rdX x).toNat) ?_ rfl
  simp only [execMucr, State.putX, State.when, small, if_false, bitsOf_index hi]

/-- Settles O31. -/
theorem matrixRegisters : Obligations.MatrixRegisters := by
  constructor <;> intro s g
  · intro a d k e m x
    refine ⟨State.engineWrites_off a d k e, .of_putX rfl rfl, .of_putX rfl rfl, fun hg => ?_⟩
    dsimp only [exec]
    refine ⟨?mpw, ⟨?cfg, ?badFormat, ?notDrained⟩, ⟨?drain, ?busy⟩⟩
    case mpw =>
      exact ⟨_, State.when_on s g _ hg, _, rfl, fileGet_filePut_self _ _ _, fun j hj => fileGet_filePut_ne _ _ _ _ hj⟩
    case cfg => intro legal hd; rw [State.mcfg_eq hg, if_pos legal, hd, if_neg (by decide)]
    case badFormat => intro bad; exact (State.mcfg_eq hg a e).trans (by rw [if_neg bad]; rfl)
    case notDrained => intro legal hd; exact (State.mcfg_eq hg a e).trans (by rw [if_pos legal, hd, if_pos rfl]; rfl)
    case drain => exact fun idle => State.mdrain_answers hg d ((s.core.t.matIdle_iff e).2 idle)
    case busy =>
      exact fun busy => (State.when_on s g _ hg).trans (congrArg Host.Outcome.next (if_neg fun idle => busy ((s.core.t.matIdle_iff e).1 idle)))
  · intro d x a e i hg
    dsimp only [exec]
    refine ⟨fun hi => ⟨?shadow, ?loading, ?lit, ?running, ?readShadow, ?readLit⟩, fun hi h => ⟨?write, ?read⟩⟩
    case shadow =>
      intro hl
      refine ⟨_, State.mucw_eq hg hi a true e, ?_⟩
      simp only [hl, Option.isSome_none, Bool.false_eq_true, if_false, if_true]
      exact ⟨rfl, rfl, Plane.microAt_putMicro_self _ _ _, fun j hj => Plane.microAt_putMicro_ne _ _ hj, SameMemory.of_mem rfl⟩
    case loading =>
      intro hl
      refine (State.mucw_eq hg hi a true e).trans ?_
      simp only [Option.isSome_iff_ne_none.2 hl, if_true]
      rfl
    case lit =>
      intro hd
      refine ⟨_, State.mucw_eq hg hi a false e, ?_⟩
      simp only [hd, Bool.true_eq_false, Bool.false_eq_true, if_false]
      exact ⟨rfl, rfl, Plane.microAt_putMicro_self _ _ _, fun j hj => Plane.microAt_putMicro_ne _ _ hj, SameMemory.of_mem rfl⟩
    case running =>
      intro hd
      refine (State.mucw_eq hg hi a false e).trans ?_
      simp only [hd, Bool.false_eq_true, if_false, if_true]
      rfl
    case readShadow => exact State.mucr_result hi g d true e
    case readLit => exact State.mucr_result hi g d false e
    case write | read =>
      have big : (s.rdX x).toNat / 2 ^ 10 ≠ 0 := by omega
      exact (State.when_on s g _ hg).trans (congrArg Host.Outcome.next (if_pos big))

end Sys2Proof.Machine
end

section
/-! PROOF. O37: bindings, tags and the return queue (R18, R92, R200, R202, R204, R257). -/

namespace Sys2Proof.Machine

/-! ### What a store leaves as it reads -/

/-- Bringing a line under a key does not change what another line reads as, under any slot. -/
theorem Mem.byte_rekey_line (m : Mem) (slot s' : Nat) {a b : Nat} (h : b / 64 ≠ a / 64) : (m.rekey slot a).byte s' b = m.byte s' b := by
  have out : b ∉ (List.range 64).map (a / 64 * 64 + ·) := by
    simp only [List.mem_map, List.mem_range, not_exists, not_and]
    intro i hi e
    omega
  by_cases hk : mapGet 0 m.lineKey (a / 64) = m.keyAt slot a
  · rw [Mem.rekey, if_pos hk]
  · have cell : mapGet 0 (m.rekey slot a).cells b = mapGet 0 m.cells b := by
      simp only [Mem.rekey, if_neg hk]
      rw [mapGet_setLine (f := m.byte slot), if_neg out]
    have line : mapGet 0 (m.rekey slot a).lineKey (b / 64) = mapGet 0 m.lineKey (b / 64) := by
      simp only [Mem.rekey, if_neg hk]
      exact mapGet_mapSet_ne _ _ _ _ _ h
    rw [Mem.byte, Mem.byte, Mem.keyAt_rekey, line, cell]

theorem Mem.byte_putByte_line (m : Mem) (slot s' : Nat) {a b : Nat} (v : Byte) (h : b / 64 ≠ a / 64) :
    (m.putByte slot a v).byte s' b = m.byte s' b := by
  rw [← Mem.byte_rekey_line m slot s' h]
  have cell : mapGet 0 (mapSet 0 (m.rekey slot a).cells a v) b = mapGet 0 (m.rekey slot a).cells b :=
    mapGet_mapSet_ne _ _ _ _ _ fun e => h (e ▸ rfl)
  simp only [Mem.putByte, Mem.byte, cell]
  rfl

/-- No single write of `n` bytes from `pa` on under `slot` changes how byte `b` reads under `s'`. -/
def Untouched (slot s' b pa n : Nat) : Prop := ∀ a, pa ≤ a → a < pa + n → ∀ (m : Mem) (v : Byte), (m.putByte slot a v).byte s' b = m.byte s' b

/-- A byte of another line is untouched, whatever its slot. -/
theorem Untouched.of_line {slot s' b pa n : Nat} (h : ∀ k < n, b / 64 ≠ (pa + k) / 64) : Untouched slot s' b pa n := fun a lo hi m v =>
  m.byte_putByte_line slot s' v (by have := h (a - pa) (by omega); rwa [show pa + (a - pa) = a by omega] at this)

/-- Another byte of the same slot is untouched. -/
theorem Untouched.of_outside {slot b pa n : Nat} (h : ¬(pa ≤ b ∧ b < pa + n)) : Untouched slot slot b pa n := fun a lo hi m v => by
  have other : b ≠ a := by rintro rfl; exact h ⟨lo, hi⟩
  rw [Mem.byte_putByte, if_neg other]

theorem Untouched.tail {slot s' b pa n : Nat} (h : Untouched slot s' b pa (n + 1)) : Untouched slot s' b (pa + 1) n := fun a lo hi =>
  h a (by omega) (by omega)

theorem Mem.byte_putBytes_of_untouched {slot s' b pa : Nat} {bs : List Byte} (h : Untouched slot s' b pa bs.length) (m : Mem) :
    (m.putBytes slot pa bs).byte s' b = m.byte s' b := by
  induction bs generalizing m pa with
  | nil => rfl
  | cons c r ih => exact (ih h.tail _).trans (h pa le_rfl (by simp) m c)

theorem Mem.byte_storeFrom_of_untouched {slot s' b pa : Nat} {bs : List Byte} (h : Untouched slot s' b pa bs.length) (p n : Nat) (m : Mem) :
    (m.storeFrom slot p n pa bs).byte s' b = m.byte s' b := by
  induction bs generalizing m pa with
  | nil => rfl
  | cons c r ih =>
    simp only [Mem.storeFrom]
    split
    · exact ih h.tail _
    · exact (ih h.tail _).trans (h pa le_rfl (by simp) m c)

/-- A store keeps what its bytes do not touch, whatever poison discards. -/
theorem Mem.byte_store_of_untouched {slot s' b pa : Nat} {bs : List Byte} (h : Untouched slot s' b pa bs.length) (m : Mem) :
    (m.store slot pa bs).byte s' b = m.byte s' b := by
  unfold Mem.store
  split
  · exact Mem.byte_putBytes_of_untouched h m
  · exact Mem.byte_storeFrom_of_untouched h _ _ m

/-! ### Writing back an L1 in which nothing waits -/

theorem State.activate_core (s : State) (pa : Nat) : (s.activate pa).core = s.core := by unfold State.activate; split <;> rfl
theorem State.activate_sched (s : State) (pa : Nat) : (s.activate pa).sched = s.sched := by unfold State.activate; split <;> rfl
theorem State.activate_mem (s : State) (pa : Nat) : (s.activate pa).mem = s.mem := by unfold State.activate; split <;> rfl

theorem State.homeWritePart_core (s : State) (key : Nat) (va : VAddr) (pa base : Nat) (runs : List (Nat × List Byte)) :
    (s.homeWritePart key va pa base runs).core = s.core := by
  unfold State.homeWritePart
  dsimp only
  split <;> exact State.activate_core _ pa

theorem L1Line.dirtyRuns_of_clean {l : L1Line} (h : l.dirty = 0) : l.dirtyRuns = [] := by
  rw [L1Line.dirtyRuns, h]
  refine List.foldr_fixed' (fun i => ?_) _
  exact if_neg (by simp)

/-- A property that every step keeps holds after all of them. -/
theorem forEach_keeps {α : Type} {P : State → Prop} {f : α → State → State} {l : List α} (hf : ∀ a ∈ l, ∀ s, P s → P (f a s)) {s : State}
    (h : P s) : P (forEach l f s) := by
  induction l generalizing s with
  | nil => exact h
  | cons a r ih => exact ih (fun b hb => hf b (List.mem_cons_of_mem _ hb)) (hf a List.mem_cons_self s h)

theorem State.writeBackPart_core {l : L1Line} (h : l.pkg = none ∨ l.dirty = 0) (s : State) (j : Nat) : (s.writeBackPart l j).core = s.core := by
  obtain h | h := h
  · unfold State.writeBackPart
    split
    · rfl
    · simp only [h, State.homeWritePart_core]
  · simp only [State.writeBackPart, L1Line.partRuns, L1Line.dirtyRuns_of_clean h, List.filter_nil]

theorem State.writeBackLine_core {l : L1Line} (h : l.pkg = none ∨ l.dirty = 0) (s : State) : (s.writeBackLine l).core = s.core :=
  forEach_keeps (P := fun u => u.core = s.core) (fun j _ u hu => (State.writeBackPart_core h u j).trans hu) rfl

theorem State.writeBackEach_core {ls : List L1Line} (h : ∀ l ∈ ls, l.pkg = none ∨ l.dirty = 0) (s : State) :
    (s.writeBackEach ls).1.core = s.core := by
  suffices all : ∀ q : State × List L1Line, (ls.foldl (fun q l => if q.1.lineStuck l then (q.1, q.2 ++ [l]) else (q.1.writeBackLine l, q.2)) q).1.core =
      q.1.core from all (s, [])
  induction ls with
  | nil => exact fun _ => rfl
  | cons l r ih =>
    intro q
    refine (ih (fun o ho => h o (List.mem_cons_of_mem _ ho)) _).trans ?_
    dsimp only
    split
    · rfl
    · exact State.writeBackLine_core (h l List.mem_cons_self) q.1

/-- Lines are written back and dropped: what is left is still nothing that waits. -/
theorem L1Here.writeBack {s : State} (h : L1Here s) (sel : L1Line → Bool) : L1Here (s.writeBack sel true) := by
  have same := State.writeBackEach_core (fun l hl => h l (List.mem_of_mem_filter hl)) s (ls := s.core.l1.filter sel)
  intro l hl
  refine h l ?_
  rw [← same]
  exact List.mem_of_mem_filter hl

theorem L1Here.acquire {s : State} (h : L1Here s) (o : Word) : L1Here (s.acquire o) := h.writeBack _

theorem L1Here.acquireTag {s : State} (h : L1Here s) (t : Nat) : L1Here (s.acquireTag t) :=
  forEach_keeps (fun _ _ _ h => h.acquire _) (h.acquire _)

theorem L1Here.acquireTags {s : State} (h : L1Here s) (m : Word) : L1Here (s.acquireTags m) := forEach_keeps (fun t _ _ h => h.acquireTag t) h

theorem L1Here.not_stuck {s : State} (h : L1Here s) : s.writesStuck = false := by
  rw [State.writesStuck, List.any_eq_false]
  intro l hl
  unfold State.lineStuck
  obtain h | h := h l hl
  · simp [h]
  · split <;> simp [h]

/-- With nothing waiting, the flush goes on. -/
theorem L1Here.afterFlush {s : State} (h : L1Here s) (f : State → State) : State.afterFlush s f = f s := by
  rw [State.afterFlush, h.not_stuck, if_neg Bool.false_ne_true]

/-! ### Bindings (R202) -/

/-- Only the 16 bytes of the context's region table at an index change, under the key of that table. -/
theorem State.regionEntry_keeps (s : State) (i : Nat) :
    let entry := s.desc s.core.t.id.asid 16 8 % 2 ^ 52 + 16 * i; let key := bitsOf (s.desc s.core.t.id.asid 0 8) 19 13; let r := s.regionEntry i
    r.core = s.core ∧ r.sched = s.sched ∧ ∀ slot a, Untouched key slot a entry 16 → r.readByte slot a = s.readByte slot a := by
  intro entry key r
  by_cases h : s.descOf s.core.t.id.asid = none ∨ s.physOk entry = false
  · have same : r = s := if_pos h
    rw [same]
    exact ⟨rfl, rfl, fun _ _ _ => rfl⟩
  · let bs := (List.range 16).map fun k => Config.freeByte s.fresh k
    have stored : r = ({ s with mem := s.mem.store key entry bs } : State).activate entry := if_neg h
    have len : bs.length = 16 := by simp only [bs, List.length_map, List.length_range]
    rw [stored, State.activate_core, State.activate_sched]
    refine ⟨rfl, rfl, fun slot a ha => ?_⟩
    rw [State.readByte, State.activate_mem]
    exact Mem.byte_store_of_untouched (len.symm ▸ ha) s.mem

theorem State.objects_off {s : State} {g : BitVec 4} (d a b : BitVec 6) (hg : s.guard g = false) :
    ∀ i ∈ [Instr.bind g d a b, .unbind g a, .waitany g d a, .waitall g d a, .ffr g d a, .tagclr g a, .rqpop g d], exec i s = .next s := by
  simp only [List.forall_mem_cons, List.not_mem_nil, false_implies, implies_true, and_true]
  dsimp only [exec]
  exact ⟨State.when_off s g _ hg, State.when_off s g _ hg, State.when_off s g _ hg, State.when_off s g _ hg, State.when_off s g _ hg,
    State.when_off s g _ hg, State.when_off s g _ hg⟩

theorem bitsOf_zero (v hi : Nat) : bitsOf v hi 0 = v % 2 ^ (hi + 1) := by rw [bitsOf, pow_zero, Nat.div_one, Nat.sub_zero]

theorem bitsOf_41_40 (v : Nat) : bitsOf v 41 40 = v / 2 ^ 40 % 4 := rfl

theorem State.setX_sched (s : State) (d : BitVec 6) (v : Word) (n : Nat) : (s.setX d v n).sched = s.sched := by
  unfold State.setX
  split <;> rfl

/-- BIND at the lowest free index of the context (R202). -/
theorem State.bind_answers {s : State} {g : BitVec 4} {a b : BitVec 6} (hg : s.guard g = true) (d : BitVec 6) {i : Nat} (hi : i < 4096) :
    let m := s.rdX a; let base := (s.rdX b).toNat % 2 ^ 55; let w := (s.rdX (b + 1)).toNat; let len := w % 2 ^ 40
    let mine := s.sched.bindings.filter fun q => decide (q.asid = s.core.t.id.asid)
    badObject m = false → base % 64 = 0 → len % 64 = 0 → len ≠ 0 → w < 2 ^ 42 →
    (∀ q ∈ mine, ¬(q.base < base + len ∧ base < q.base + q.len)) → (∀ q ∈ mine, q.index ≠ i) → (∀ j < i, ∃ q ∈ mine, q.index = j) →
    Answers (execBind g d a b s) fun u => u.sched.bindings = s.sched.bindings ++
        [{ asid := s.core.t.id.asid, index := i, obj := objectOf m, base, len, scope := w / 2 ^ 40 % 4 }] ∧
      GivesX d (BitVec.ofNat 64 i) 1 { s.regionEntry i with sched := u.sched } u := by
  intro m base w len mine object aligned sized nonempty word apart unused lower
  have region : ¬(base % 64 ≠ 0 ∨ len % 64 ≠ 0 ∨ len = 0 ∨ w / 2 ^ 42 ≠ 0) := by omega
  have free : (mine.any fun q => decide (q.base < base + len ∧ base < q.base + q.len)) = false :=
    List.any_eq_false.2 fun q hq => by simpa only [decide_eq_true_eq] using apart q hq
  have first : ((List.range 4096).find? fun i => !(mine.any fun q => decide (q.index = i))) = some i := by
    simp only [List.find?_range_eq_some, List.mem_range, Bool.not_eq_true', Bool.not_not, List.any_eq_true, List.any_eq_false, decide_eq_true_eq]
    exact ⟨unused, hi, lower⟩
  have run : execBind g d a b s = .next (((s.regionEntry i).modSched fun q => { q with bindings := q.bindings ++
      [{ asid := s.core.t.id.asid, index := i, obj := objectOf m, base, len, scope := w / 2 ^ 40 % 4 }] }).setX d (BitVec.ofNat 64 i) 1) := by
    refine (State.when_on s g _ hg).trans (congrArg Host.Outcome.next ?_)
    simp only [bitsOf_zero, bitsOf_41_40]
    refine (if_neg (Bool.eq_false_iff.1 object)).trans ((if_neg region).trans ((if_neg (Bool.eq_false_iff.1 free)).trans ?_))
    rw [first]
  refine ⟨_, run, ?_⟩
  have sched : (s.regionEntry i).sched = s.sched := (s.regionEntry_keeps i).2.1
  simp only [State.setX_sched]
  exact ⟨congrArg (· ++ _) (congrArg Sched.bindings sched), State.setX_gives _ d _ 1⟩

/-- UNBIND: a binding of the index goes, or there is none to go (R202). -/
theorem State.unbind_answers {s : State} {g : BitVec 4} (hg : s.guard g = true) (a : BitVec 6) :
    let n := (s.rdX a).toNat; let used := ∃ q ∈ s.sched.bindings.filter (fun q => decide (q.asid = s.core.t.id.asid)), q.index = n
    (used → Answers (execUnbind g a s) fun u => u = { s.regionEntry n with sched := u.sched } ∧
      u.sched = { s.sched with bindings := u.sched.bindings } ∧
      ∀ q, q ∈ u.sched.bindings ↔ q ∈ s.sched.bindings ∧ ¬(q.asid = s.core.t.id.asid ∧ q.index = n)) ∧
    (¬used → Traps (s.slotExc .illegalOperand 1 0) s (execUnbind g a s)) := by
  intro n used
  have any : (s.sched.bindings.any fun q => decide (q.asid = s.core.t.id.asid ∧ q.index = n)) = true ↔ used := by
    simp only [List.any_eq_true, decide_eq_true_eq, used, List.mem_filter, and_assoc]
  have sched : (s.regionEntry (s.rdX a).toNat).sched = s.sched := (s.regionEntry_keeps _).2.1
  refine ⟨fun h => ⟨_, (State.when_on s g _ hg).trans (congrArg Host.Outcome.next (if_pos (any.2 h))), rfl, ?_, fun q => ?_⟩, fun h =>
    (State.when_on s g _ hg).trans (congrArg Host.Outcome.next (if_neg fun c => h (any.1 c)))⟩
  · simp only [State.modSched, sched]
  · simp only [State.modSched, sched, List.mem_filter, Bool.not_eq_true', decide_eq_false_iff_not, n]

/-! ### Tags (R204) -/

theorem Completion.pending_or_done (c : Completion) : c.pending ||| c.ctb = c.held ||| c.ctb := by
  refine BitVec.eq_of_getLsbD_eq fun i hi => ?_
  simp only [Completion.pending, BitVec.getLsbD_or, BitVec.getLsbD_and, BitVec.getLsbD_not, hi, decide_true, Bool.true_and]
  cases c.held.getLsbD i <;> cases c.ctb.getLsbD i <;> rfl

/-- A tag of a mask that has completed is known. -/
theorem Completion.known_of_done {c : Completion} {m : Word} (h : c.ctb &&& m ≠ 0) : (c.held ||| c.ctb) &&& m ≠ 0 := by
  refine fun e => h (BitVec.eq_of_getLsbD_eq fun i _ => ?_)
  have none : ((c.held.getLsbD i || c.ctb.getLsbD i) && m.getLsbD i) = false := by
    rw [← BitVec.getLsbD_or, ← BitVec.getLsbD_and, e]; exact BitVec.getLsbD_zero
  rw [BitVec.getLsbD_and, show BitVec.getLsbD (0 : Word) i = false from BitVec.getLsbD_zero]
  revert none
  cases c.held.getLsbD i <;> cases c.ctb.getLsbD i <;> simp

/-- A mask of which every tag has completed names no unknown tag. -/
theorem Completion.no_unknown_of_done {c : Completion} {m : Word} (h : c.ctb &&& m = m) : m &&& ~~~(c.held ||| c.ctb) = 0 := by
  refine BitVec.eq_of_getLsbD_eq fun i hi => ?_
  have done : (c.ctb.getLsbD i && m.getLsbD i) = m.getLsbD i := by rw [← BitVec.getLsbD_and, h]
  simp only [BitVec.getLsbD_or, BitVec.getLsbD_and, BitVec.getLsbD_not, hi, decide_true, Bool.true_and]
  rw [← done]
  cases c.held.getLsbD i <;> cases c.ctb.getLsbD i <;> simp

/-- WAITANY with its guard set. -/
theorem State.waitany_eq {s : State} {g : BitVec 4} (hg : s.guard g = true) (d a : BitVec 6) :
    let c := s.core.t.comp; let m := s.rdX a
    execWaitany g d a s = .next (if (c.held ||| c.ctb) &&& m = 0 then s.fault .illegalOperand 1
      else if c.ctb &&& m ≠ 0 then State.afterFlush (s.acquireTags (c.ctb &&& m)) fun s => s.setX d (c.ctb &&& m) 1 else s.waitHere) := by
  intro c m
  have empty : (m = 0 ∨ (c.pending ||| c.ctb) &&& m = 0) ↔ (c.held ||| c.ctb) &&& m = 0 := by
    rw [Completion.pending_or_done]
    exact ⟨fun h => h.elim (fun h => by rw [h]; exact BitVec.and_zero) id, .inr⟩
  exact (State.when_on s g _ hg).trans (congrArg Host.Outcome.next (if_congr empty rfl rfl))

/-- WAITALL with its guard set. -/
theorem State.waitall_eq {s : State} {g : BitVec 4} (hg : s.guard g = true) (d a : BitVec 6) :
    let c := s.core.t.comp; let m := s.rdX a
    execWaitall g d a s = .next (if m = 0 ∨ m &&& ~~~(c.held ||| c.ctb) ≠ 0 then s.fault .illegalOperand 1
      else if c.ctb &&& m = m then State.afterFlush (s.acquireTags m) fun s => s.setX d (c.cte &&& m) 1 else s.waitHere) := by
  intro c m
  refine (State.when_on s g _ hg).trans (congrArg Host.Outcome.next ?_)
  simp only [Completion.pending_or_done]
  rfl

/-- The tags of a mask begin with its lowest bit. -/
theorem tagsOf_eq_cons {m : Word} {i : Nat} (hi : i < 64) (on : m.getLsbD i = true) (lower : ∀ j < i, m.getLsbD j = false) :
    ∃ r, tagsOf m = i :: r := by
  rw [← List.head?_eq_some_iff, tagsOf, List.head?_filter, List.find?_range_eq_some]
  exact ⟨on, List.mem_range.2 hi, fun j hj => by rw [lower j hj]; rfl⟩

theorem tagsOf_zero : tagsOf 0 = [] := rfl

/-! ### The return queue (R92) -/

/-- RQPOP of an entry that is there. -/
theorem State.rqpop_takes {s : State} {g : BitVec 4} (hg : s.guard g = true) (d : BitVec 6) {q : RqEntry} {r : List RqEntry} {v : Word}
    (rq : s.core.t.comp.rq = q :: r) (hv : q.value = some v) (due : q.due ≤ s.core.clock) :
    Answers (execRqpop g d s) (GivesX d v 1 (s.modComp fun c => { c with rq := r })) := by
  refine ⟨_, (State.when_on s g _ hg).trans (congrArg Host.Outcome.next ?_), State.setX_gives (s.modComp fun c => { c with rq := r }) d v 1⟩
  simp only [rq, hv, due, decide_true]

/-- RQPOP of an entry that has not landed. -/
theorem State.rqpop_waits {s : State} {g : BitVec 4} (hg : s.guard g = true) (d : BitVec 6) {q : RqEntry} {r : List RqEntry}
    (rq : s.core.t.comp.rq = q :: r) (wait : q.value = none ∨ s.core.clock < q.due) :
    Answers (execRqpop g d s) fun u => u.core.bundle.held = true ∧ u.core.t = s.core.t ∧
      u.core.lodc = s.core.lodc + if s.core.bundle.again then 0 else 1 := by
  refine ⟨(s.modCore fun c => { c with lodc := if c.bundle.again then c.lodc else c.lodc + 1 }).waitHere,
    (State.when_on s g _ hg).trans (congrArg Host.Outcome.next ?_), rfl, rfl, ?_⟩
  · simp only [rq]
    split
    · next hv due =>
      have late := wait.resolve_left (hv ▸ Option.some_ne_none _)
      exact absurd (of_decide_eq_true due) (by omega)
    · rfl
  · simp only [State.modCore, State.waitHere]
    split
    · exact (BitVec.add_zero _).symm
    · rfl

/-- Settles O37. -/
theorem bindingsAndTags : Obligations.BindingsAndTags := by
  intro s g d a b c m known mine base w len
  refine ⟨fun i => ?region, State.objects_off d a b, fun hg => ?_⟩
  case region =>
    intro entry r
    obtain ⟨core, sched, bytes⟩ := s.regionEntry_keeps i
    exact ⟨core, sched, fun slot a ha => bytes slot a (.of_line ha), fun a ha => bytes _ a (.of_outside ha)⟩
  dsimp only [exec]
  refine ⟨fun i hi => State.bind_answers hg d hi, State.unbind_answers hg a, ?any, ?anyWaits, ?anyNone, ?all, ?allWaits, ?allNone, ?none, ?lowest,
    State.when_on s g _ hg, ?takes, ?waits, ?empty⟩
  case any =>
    intro some here
    exact ⟨_, (State.waitany_eq hg d a).trans (congrArg Host.Outcome.next ((if_neg (Completion.known_of_done some)).trans ((if_pos some).trans
      ((here.acquireTags _).afterFlush _)))), State.setX_gives _ d _ 1⟩
  case anyWaits =>
    intro none some
    exact (State.waitany_eq hg d a).trans (congrArg Host.Outcome.next ((if_neg some).trans (if_neg (not_not.2 none))))
  case anyNone => exact fun none => (State.waitany_eq hg d a).trans (congrArg Host.Outcome.next (if_pos none))
  case all =>
    intro some done here
    have known : ¬(m = 0 ∨ m &&& ~~~(c.held ||| c.ctb) ≠ 0) := fun h => h.elim some fun h => h (Completion.no_unknown_of_done done)
    exact ⟨_, (State.waitall_eq hg d a).trans (congrArg Host.Outcome.next ((if_neg known).trans ((if_pos done).trans
      ((here.acquireTags _).afterFlush _)))), State.setX_gives _ d _ 1⟩
  case allWaits =>
    intro known wait
    have some : m ≠ 0 := fun e => wait (by rw [e]; exact BitVec.and_zero)
    exact (State.waitall_eq hg d a).trans (congrArg Host.Outcome.next
      ((if_neg fun h => h.elim some fun h => h known).trans (if_neg wait)))
  case allNone => exact fun bad => (State.waitall_eq hg d a).trans (congrArg Host.Outcome.next (if_pos bad))
  case none =>
    intro none
    refine ⟨s.setX d 64 1, (State.when_on s g _ hg).trans (congrArg Host.Outcome.next ?_), State.setX_gives s d 64 1⟩
    simp only [show s.core.t.comp.ctb &&& s.rdX a = 0 from none, tagsOf_zero]
  case lowest =>
    intro i hi on lower here
    obtain ⟨r, hr⟩ := tagsOf_eq_cons hi on lower
    refine ⟨(s.acquireTag i).setX d (BitVec.ofNat 64 i) 1, (State.when_on s g _ hg).trans (congrArg Host.Outcome.next ?_),
      State.setX_gives (s.acquireTag i) d (BitVec.ofNat 64 i) 1⟩
    simp only [show tagsOf (s.core.t.comp.ctb &&& s.rdX a) = i :: r from hr]
    exact (here.acquireTag i).afterFlush _
  case takes => exact fun q r v rq hv due => State.rqpop_takes hg d rq hv due
  case waits => exact fun q r rq wait => State.rqpop_waits hg d rq wait
  case empty =>
    intro rq
    refine (State.when_on s g _ hg).trans (congrArg Host.Outcome.next ?_)
    simp only [show s.core.t.comp.rq = [] from rq]
    rfl

end Sys2Proof.Machine
end

section
/-! PROOF. O52: selection, image loads and slices (R9, R259, R263, R265, R270). -/

namespace Sys2Proof.Machine

/-! ### Cores -/

theorem State.getCore_setCore_self (s : State) (n : Nat) (k : Core) : (s.setCore n k).getCore n = k := by
  unfold State.setCore
  split
  · next h => exact if_pos h
  · next h => exact (if_neg h).trans (mapGet_mapSet_self _ _ _ _)

theorem State.setCore_sched (s : State) (n : Nat) (k : Core) : (s.setCore n k).sched = s.sched := by unfold State.setCore; split <;> rfl

theorem State.switchTo_core (s : State) (n : Nat) : (s.switchTo n).core = s.getCore n := by
  unfold State.switchTo State.getCore
  split <;> rfl

theorem State.switchTo_eq (s : State) (n : Nat) :
    s.switchTo n = { s with core := s.getCore n, cur := n, others := (s.switchTo n).others } := by
  unfold State.switchTo State.getCore
  split
  · next h => subst h; rfl
  · rfl

/-- A turn of core n that changes nothing of the others: each core afterwards. -/
theorem State.getCore_onCore {s : State} {n : Nat} {f : State → State} (cur : (f (s.switchTo n)).cur = n)
    (others : (f (s.switchTo n)).others = (s.switchTo n).others) (m : Nat) :
    (s.onCore n f).getCore m = if m = n then (f (s.switchTo n)).core else s.getCore m := by
  unfold State.onCore
  generalize f (s.switchTo n) = v at *
  by_cases here : n = s.cur
  · subst here
    rw [State.switchTo_cur] at others
    rw [← cur, State.switchTo_cur, State.getCore, State.getCore, others, cur]
    split <;> rfl
  · simp only [State.switchTo, if_neg here] at others
    simp only [State.switchTo, cur, if_neg (Ne.symm here), others, State.getCore]
    by_cases back : m = s.cur
    · rw [if_pos back, if_neg (back ▸ Ne.symm here), if_pos back, mapGet_mapSet_self]
    · rw [if_neg back, if_neg back]
      by_cases own : m = n
      · rw [if_pos own, own, mapGet_mapSet_self]
      · rw [if_neg own, mapGet_mapSet_ne _ _ _ _ _ own, mapGet_mapSet_ne _ _ _ _ _ back, mapGet_mapSet_ne _ _ _ _ _ back, mapGet_mapSet_ne _ _ _ _ _ own]

theorem mapGet_of_not_mem {α : Type} {d : α} {m : List (Nat × α)} {k : Nat} (h : k ∉ m.map (·.1)) : mapGet d m k = d := by
  induction m with
  | nil => rfl
  | cons e r ih =>
    simp only [List.map_cons, List.mem_cons, not_or] at h
    rw [mapGet, if_neg (Ne.symm h.1), ih h.2]

/-- A core that does not rest is one of those listed. -/
theorem State.mem_liveCores {s : State} {n : Nat} (h : (s.getCore n).mode ≠ .idle) : n ∈ s.liveCores := by
  by_contra out
  obtain ⟨away, out⟩ := not_or.1 (List.mem_cons.not.1 out)
  refine h ?_
  rw [State.getCore, if_neg away, mapGet_of_not_mem out]
  rfl

/-! ### Slices (R270) -/

/-- A core with its task's system registers changed. -/
def Core.withSys (k : Core) (f : SysRegs → SysRegs) : Core := { k with t := { k.t with sys := f k.t.sys } }

theorem State.getCore_onCore_modSys (s : State) (n : Nat) (f : SysRegs → SysRegs) (m : Nat) :
    (s.onCore n fun s => s.modSys f).getCore m = if m = n then (s.getCore n).withSys f else s.getCore m := by
  refine (State.getCore_onCore (f := fun s => s.modSys f) ?_ rfl m).trans ?_
  · rw [State.switchTo_eq]; rfl
  · rw [show ((s.switchTo n).modSys f).core = ((s.switchTo n).core).withSys f from rfl, State.switchTo_core]

/-- A change that is made at most once in effect, on every core of a list. -/
theorem State.getCore_forEach_modSys {f : SysRegs → SysRegs} (once : ∀ y, f (f y) = f y) (l : List Nat) (s : State) (m : Nat) :
    (forEach l (fun n s => s.onCore n fun s => s.modSys f) s).getCore m = if m ∈ l then (s.getCore m).withSys f else s.getCore m := by
  induction l generalizing s with
  | nil => rfl
  | cons n r ih =>
    refine (ih _).trans ?_
    rw [State.getCore_onCore_modSys]
    by_cases first : m = n
    · subst first
      simp only [if_true, List.mem_cons, true_or]
      split
      · simp only [Core.withSys, once]
      · rfl
    · simp only [List.mem_cons, first, false_or, if_false]

/-- A preemption request reaches the core of the task it is for, and no byte of memory (R270). -/
theorem State.preempt_core {s : State} {c : Nat} {f : SysRegs → SysRegs} (run : (s.getCore c).mode = .running) (once : ∀ y, f (f y) = f y) :
    let k := s.getCore c; let u := s.preempt k.t.id f
    (u.getCore c).t = { k.t with sys := f k.t.sys } ∧ SameMemory s u := by
  intro k u
  have rests : k.mode ≠ .idle := by rw [show k.mode = .running from run]; exact CoreMode.noConfusion
  have mem : c ∈ s.coresOf k.t.id.asid k.t.id.record :=
    List.mem_filter.2 ⟨State.mem_liveCores rests, by simp only [show s.getCore c = k from rfl, rests, ne_eq, not_false_eq_true, and_self, decide_true, Bool.and_self]⟩
  refine ⟨?_, SameMemory.of_mem (forEach_keeps (P := fun u => u.mem = s.mem) (fun n _ u hu => ?_) rfl)⟩
  · rw [show u.getCore c = _ from State.getCore_forEach_modSys once _ s c, if_pos mem]
    rfl
  · simp only [State.onCore, State.switchTo_mem, State.modSys_mem, hu]

theorem execTimeSliceExpiry_eq {c : Nat} (hc : c < 576) (s : State) : let k := s.getCore c; let y := k.t.sys
    k.mode = .running → bitsOf y.tslice.toNat (8 * y.prio.toNat + 7) (8 * y.prio.toNat) ≠ 0 → y.preq.getLsbD 0 = false →
    execTimeSliceExpiry c s = if ((s.runQueue (coreDie c)).any fun r => decide (y.prio.toNat ≤ s.effPrio r) && s.fits r c) ||
        s.claimedFrom (coreDie c) (coreCluster c) none then
      .next (s.preempt k.t.id fun y => { y with preq := y.preq ||| 1, graceAt := s.mgmt.tsc }) else .next s := by
  intro k y run slice asked
  refine (if_neg (by omega)).trans (if_neg ?_)
  rintro (h | h | h)
  · exact h run
  · exact slice h
  · exact Bool.false_ne_true (asked.symm.trans h)

theorem execGraceExpiry_eq {c : Nat} (hc : c < 576) (s : State) : let k := s.getCore c
    k.mode = .running → k.t.sys.preq.getLsbD 0 = true → k.t.sys.preq.getLsbD 1 = false →
    execGraceExpiry c s = .next (s.preempt k.t.id fun y => { y with preq := y.preq ||| 3 }) := fun run asked forced =>
  (if_neg (by omega)).trans (if_pos ⟨run, asked, forced⟩)

/-- A request made just now leaves 10 microseconds of grace. -/
theorem State.preqNow_fresh {v : State} {y : SysRegs} (hy : v.core.old.sys = { y with preq := y.preq ||| 1, graceAt := v.mgmt.tsc })
    (unforced : y.preq.getLsbD 1 = false) : bitsOf v.preqNow 31 16 = 10 := by
  have asked : (y.preq ||| 1).getLsbD 0 = true := by rw [BitVec.getLsbD_or]; exact Bool.or_true _
  have waits : (y.preq ||| 1).getLsbD 1 = false := by rw [BitVec.getLsbD_or, unforced]; rfl
  simp only [State.preqNow, hy, asked, waits, Bool.not_false, Bool.and_true, if_true, BitVec.sub_self]
  generalize (y.preq ||| 1).toNat = p
  simp only [bitsOf, BitVec.toNat_ofNat]
  omega

/-! ### Writing a task record (R216, R304) -/

/-- The state after a write of an agent: memory, the rows it activates and the fault records it leaves, and nothing else. -/
def Written (s u : State) : Prop := ∃ mem mgmt rs, u = { s with mem, mgmt, xlat := { s.xlat with records := s.xlat.records ++ rs } }

theorem Written.refl (s : State) : Written s s := ⟨s.mem, s.mgmt, [], by rw [List.append_nil]⟩

theorem Written.store (s : State) (m : Mem) (pa : Nat) : Written s (({ s with mem := m } : State).activate pa) := by
  unfold State.activate
  split
  · exact ⟨m, s.mgmt, [], by rw [List.append_nil]⟩
  · exact ⟨m, _, [], by rw [List.append_nil]⟩

theorem Written.addRec {s u : State} (h : Written s u) (r : FaultRec) : Written s (u.addRec r) := by
  obtain ⟨mem, mgmt, rs, rfl⟩ := h
  exact ⟨mem, mgmt, rs ++ [r], by rw [← List.append_assoc]; rfl⟩

theorem Written.agentWrite {s u : State} {win : Option Nat} {asid : Nat} {va : VAddr} {bs : List Byte} {need : Need}
    (h : s.agentWrite win asid va bs need = .ok u) : Written s u := by
  unfold State.agentWrite at h
  split at h
  · split at h
    · cases h
    · split at h
      · cases h
      · cases h
        exact .store s _ _
  · cases h

theorem Written.agentPartial (s : State) (win : Option Nat) (asid : Nat) (va : VAddr) (bs : List Byte) : Written s (s.agentPartial win asid va bs) := by
  unfold State.agentPartial
  split
  · split
    · exact .refl s
    · exact (Written.store s _ _).addRec _
  · exact .refl s

theorem Written.agentWalkRec (s : State) (asid : Nat) (f : AccFail) (va : VAddr) (wr : Bool) (task : VAddr) :
    Written s (s.agentWalkRec asid f va wr task) := by
  cases f with
  | forbidden | walkPoison => exact (Written.refl s).addRec _
  | _ => exact .refl s

theorem Written.recSet (s : State) (asid : Nat) (rec : VAddr) (off n v : Nat) : Written s (s.recSet asid rec off n v) := by
  unfold State.recSet State.ctxWrite
  split
  · next h => exact .agentWrite h
  · exact .agentPartial s _ _ _ _
  · exact .agentWalkRec s _ _ _ _ _

/-! ### Fault records are kept (R304) -/

/-- No fault record is lost. -/
def RecordsKept (s u : State) : Prop := s.xlat.records ⊆ u.xlat.records

theorem RecordsKept.refl (s : State) : RecordsKept s s := List.Subset.refl _
theorem RecordsKept.trans {s t u : State} (h : RecordsKept s t) (k : RecordsKept t u) : RecordsKept s u := List.Subset.trans h k

theorem Written.recordsKept {s u : State} (h : Written s u) : RecordsKept s u := by
  obtain ⟨mem, mgmt, rs, rfl⟩ := h
  exact List.subset_append_left _ _

theorem RecordsKept.recSet {s u : State} (h : RecordsKept s u) (asid : Nat) (rec : VAddr) (off n v : Nat) : RecordsKept s (u.recSet asid rec off n v) :=
  h.trans (Written.recSet u asid rec off n v).recordsKept

theorem RecordsKept.ite {s u v : State} {c : Prop} [Decidable c] (h : RecordsKept s u) (k : RecordsKept s v) : RecordsKept s (if c then u else v) := by
  split
  · exact h
  · exact k

theorem RecordsKept.modRec {s u : State} (h : RecordsKept s u) (asid : Nat) (rec : VAddr) (f : SchedRec → SchedRec) : RecordsKept s (u.modRec asid rec f) := h
theorem RecordsKept.noteImages {s u : State} (h : RecordsKept s u) : RecordsKept s u.noteImages := h

theorem RecordsKept.makeReady {s u : State} (h : RecordsKept s u) (asid : Nat) (rec : VAddr) : RecordsKept s (u.makeReady asid rec) :=
  ((h.recSet asid rec 0 1 stReady).modRec ..).noteImages

theorem RecordsKept.tdec {s u : State} (h : RecordsKept s u) (asid : Nat) (rec : VAddr) (k : Nat) (pin : Option Nat) :
    RecordsKept s (u.tdec asid rec k pin).2 := by
  unfold State.tdec
  extract_lets old r s1 s2 s3
  have kept : RecordsKept s s2 := ((h.recSet ..).recSet ..).ite (h.recSet ..)
  refine RecordsKept.ite ?_ kept
  have ready := kept.makeReady asid rec
  split
  · exact ready
  · exact (ready.modRec ..).noteImages

theorem RecordsKept.finishNow {s u : State} (h : RecordsKept s u) (asid : Nat) (rec : VAddr) : RecordsKept s (u.finishNow asid rec) := by
  unfold State.finishNow
  split
  · exact h
  extract_lets s1 nt s2 s3
  have first : RecordsKept s s1 := (h.recSet ..).ite ((h.recSet ..).ite h)
  have second : RecordsKept s s2 := first.ite (first.tdec ..)
  have third : RecordsKept s s3 := by
    simp only [s3]
    split <;> exact second
  exact third

theorem RecordsKept.finish {s u : State} (h : RecordsKept s u) (asid : Nat) (rec : VAddr) (k : EndKind) : RecordsKept s (u.finish asid rec k) := by
  unfold State.finish
  extract_lets quiet s1 s2
  have first : RecordsKept s s1 := by
    cases k with
    | done => exact h
    | eclipsed => exact (h.recSet ..).ite h
    | stopped => exact h.recSet ..
  exact (RecordsKept.finishNow (u := s2) first asid rec).ite first

/-- Stopping a record leaves its kind-3 fault record (R231, R304). -/
theorem State.stopRecord_record (s : State) (r : SchedRec) (c : Cause) (va : VAddr) :
    ∃ q ∈ (s.stopRecord r c va).xlat.records, q.kind = 3 ∧ q.cause = c.code ∧ q.task = r.task.record ∧ q.va = va := by
  unfold State.stopRecord
  extract_lets id epc s1
  exact ⟨_, (RecordsKept.refl _).finish id.asid id.record .stopped (List.mem_append_right _ (List.mem_singleton_self _)), rfl, rfl, rfl, rfl⟩

/-! ### Records of the scheduler -/

theorem find?_modFirst {α : Type} {p : α → Bool} {f : α → α} (h : ∀ a, p (f a) = p a) (l : List α) : (modFirst p f l).find? p = (l.find? p).map f := by
  induction l with
  | nil => rfl
  | cons a r ih =>
    unfold modFirst
    by_cases hp : p a = true
    · rw [if_pos hp, List.find?_cons_of_pos (by rw [h, hp]), List.find?_cons_of_pos hp]; rfl
    · rw [if_neg hp, List.find?_cons_of_neg hp, List.find?_cons_of_neg hp, ih]

theorem State.schedRec_modRec {f : SchedRec → SchedRec} {asid : Nat} {rec : VAddr} (h : ∀ r, (f r).is asid rec = r.is asid rec) (s : State) :
    (s.modRec asid rec f).schedRec asid rec = (s.schedRec asid rec).map f := find?_modFirst h _

/-! ### Selection (R263) -/

/-- Selection at a core that is free: what it picks is dispatched there. -/
theorem execSelect_free {c : Nat} (hc : c < 576) {s : State} {r : SchedRec} (free : (s.getCore c).free) (settled : s.migrate (coreDie c) = s)
    (pick : s.pick c (sortBy s.before (s.runQueue (coreDie c))) = .run r) : execSelect c s = .next (s.dispatch r [c]) := by
  obtain ⟨idle, reserved, prefetch, l1⟩ := free
  have drained : (s.getCore c).atDrain = true := by simp only [Core.atDrain, idle, l1, decide_true, List.all_nil, Bool.and_self]
  refine (if_neg (by omega)).trans ?_
  simp only [l1, ne_eq, not_true_eq_false, and_false, if_false, drained, if_true, reserved, prefetch, State.selectAt, settled, pick]

/-- Early selection only chooses the next task. -/
theorem execSelect_early {c : Nat} (hc : c < 576) {s : State} {r : SchedRec} (early : (s.getCore c).saving = true ∨ (s.getCore c).endingHeld = true)
    (prefetch : (s.getCore c).prefetch = none) (reserved : (s.getCore c).reserved = none) (settled : s.migrate (coreDie c) = s)
    (pick : s.pick c (sortBy s.before (s.runQueue (coreDie c))) = .run r) :
    execSelect c s = .next (s.setCore c { s.getCore c with prefetch := some r.task }) := by
  have busy : (s.getCore c).mode ≠ .idle := by
    intro idle
    obtain h | h := early
    · simp only [Core.saving, idle, Bool.false_eq_true] at h
    · simp [Core.endingHeld, idle] at h
  have away : (s.getCore c).atDrain = false := by simp only [Core.atDrain, busy, decide_false, Bool.false_and]
  have may : (((s.getCore c).saving || (s.getCore c).endingHeld) && (s.getCore c).prefetch.isNone && (s.getCore c).reserved.isNone) = true := by
    simp only [prefetch, reserved, Option.isNone_none, Bool.and_true, Bool.or_eq_true, early]
  refine (if_neg (by omega)).trans ?_
  simp only [busy, false_and, if_false, away, Bool.false_eq_true, may, if_true, settled, pick]

/-! ### The first dispatch of a task (R9, R263, R269) -/

/-- The record of a task that is dispatched to one core. -/
def State.started (s : State) (r : SchedRec) : State :=
  (s.recSet r.task.asid r.task.record 0 1 stRunning).modRec r.task.asid r.task.record fun q =>
    { q with ready := false, pin := none, live := [0], refs := [] }

/-- A task without a save starts on its core as its one member. -/
theorem State.dispatch_first {s : State} {r : SchedRec} {c : Nat} (one : s.isGang r = false) (live : r.live = [])
    (fresh : s.sched.saved.any (fun v => decide (v.task.asid = r.task.asid ∧ v.task.record = r.task.record)) = false) (entry : s.entryOk r c = true) :
    s.dispatch r [c] = (s.started r).placeMember { r.task with member := 0 } c r.refs := by
  have members : s.membersOf r = [0] := by
    rw [State.membersOf, if_neg (not_not.2 live), if_neg (of_decide_eq_false one)]
  have unsaved : ∀ v ∈ s.sched.saved, (decide (v.task.asid = r.task.asid ∧ v.task.record = r.task.record) && !v.ended) = false := fun v hv => by
    rw [Bool.eq_false_iff.2 (List.any_eq_false.1 fresh v hv), Bool.false_and]
  have restores : s.badRestore r = none := by
    rw [State.badRestore, List.filter_eq_nil_iff.2 fun v hv => Bool.eq_false_iff.1 (unsaved v hv)]
    rfl
  have starts : (s.sched.saved.any fun v => decide (v.task.asid = r.task.asid ∧ v.task.record = r.task.record) && !v.ended) = false :=
    List.any_eq_false.2 fun v hv => Bool.eq_false_iff.1 (unsaved v hv)
  simp only [State.dispatch, restores, members, starts, List.all_cons, entry, List.all_nil, Bool.and_self, Bool.not_true, Bool.and_false,
    Bool.false_eq_true, if_false]
  rfl

/-- Dropping an empty L1 changes nothing outside the core. -/
theorem State.flushL1_of_empty {s : State} (h : s.core.l1 = []) : ∃ f, s.flushL1 = s.modCore f := by
  simp only [State.flushL1, State.writeBack, h, List.filter_nil]
  exact ⟨_, rfl⟩

/-- The turn in which a member without a save takes its core. -/
def State.takeCore (s : State) (id : TaskId) (n : Nat) (refs : List VAddr) : State :=
  let s1 := s.clearCore (s.recImage id) (decide (s.recKind id.asid id.record = 2))
  s1.modCore fun c => { c with t := s1.freshTask id n refs, mode := .running }

/-- The load and the saves as a member leaves them that takes core n. -/
def State.admitted (s : State) (id : TaskId) (n : Nat) : State :=
  (s.modCluster (coreCluster n) fun k => { k with load := k.load + classWeight (s.recClass id) }).modSched fun d =>
    { d with saved := d.saved.filter fun v => !decide (v.task = id) }

theorem State.placeMember_fresh {s : State} {id : TaskId} (h : (s.sched.saved.find? fun v => decide (v.task = id)) = none) (n : Nat) (refs : List VAddr) :
    s.placeMember id n refs = (s.admitted id n).onCore n fun s => s.takeCore id n refs := by
  simp only [State.placeMember, h]
  rfl

/-- Only cores, the scheduler's records, saves and cluster loads differ: an agent that reads or translates sees the same. -/
def SameReads (s u : State) : Prop := ∃ core cur others recs saved clusters,
  u = { s with core, cur, others, sched := { s.sched with recs, saved }, power := { s.power with clusters } }

theorem SameReads.recGet {s u : State} (h : SameReads s u) (asid : Nat) (rec : VAddr) (off n : Nat) : u.recGet asid rec off n = s.recGet asid rec off n := by
  obtain ⟨core, cur, others, recs, saved, clusters, rfl⟩ := h
  rfl

theorem SameReads.desc {s u : State} (h : SameReads s u) (asid off n : Nat) : u.desc asid off n = s.desc asid off n := by
  obtain ⟨core, cur, others, recs, saved, clusters, rfl⟩ := h
  rfl

theorem SameReads.mem_eq {s u : State} (h : SameReads s u) : u.mem = s.mem := by
  obtain ⟨core, cur, others, recs, saved, clusters, rfl⟩ := h
  rfl

theorem SameReads.modCore {s u : State} (h : SameReads s u) (f : Core → Core) : SameReads s (u.modCore f) := by
  obtain ⟨core, cur, others, recs, saved, clusters, rfl⟩ := h
  exact ⟨f core, cur, others, recs, saved, clusters, rfl⟩

theorem SameReads.switchTo {s u : State} (h : SameReads s u) (n : Nat) : SameReads s (u.switchTo n) := by
  obtain ⟨core, cur, others, recs, saved, clusters, rfl⟩ := h
  rw [State.switchTo_eq]
  exact ⟨_, _, _, recs, saved, clusters, rfl⟩

theorem SameReads.modRec (s : State) (asid : Nat) (rec : VAddr) (f : SchedRec → SchedRec) : SameReads s (s.modRec asid rec f) :=
  ⟨s.core, s.cur, s.others, _, s.sched.saved, s.power.clusters, rfl⟩

theorem SameReads.admitted (s : State) (id : TaskId) (n : Nat) : SameReads s (s.admitted id n) :=
  ⟨s.core, s.cur, s.others, s.sched.recs, _, _, rfl⟩

theorem State.modCore_modCore (s : State) (f g : Core → Core) : (s.modCore f).modCore g = s.modCore (g ∘ f) := rfl

/-- Clearing a core whose L1 is empty changes that core only. -/
theorem State.clearCore_of_empty {s : State} (h : s.core.l1 = []) (img : BitVec 32) (gang : Bool) : ∃ f, s.clearCore img gang = s.modCore f := by
  obtain ⟨f, hf⟩ := State.flushL1_of_empty h
  rw [State.clearCore, hf]
  exact ⟨_, State.modCore_modCore ..⟩

/-- A member without a save placed on a core with an empty L1: the core runs the state of R9, computed once the core is cleared. -/
theorem State.placeMember_core {s : State} {id : TaskId} {n : Nat} (unsaved : (s.sched.saved.find? fun v => decide (v.task = id)) = none)
    (l1 : (s.getCore n).l1 = []) (refs : List VAddr) : let u := s.placeMember id n refs
    (∃ v : State, SameReads s v ∧ v.cur = n ∧ u.getCore n = { v.core with t := v.freshTask id n refs, mode := .running }) ∧
      u.mem = s.mem ∧ u.sched.recs = s.sched.recs := by
  intro u
  let w := (s.admitted id n).switchTo n
  have empty : w.core.l1 = [] := by rw [State.switchTo_core]; exact l1
  obtain ⟨f, hf⟩ := State.clearCore_of_empty empty (w.recImage id) (decide (w.recKind id.asid id.record = 2))
  have taken : w.takeCore id n refs = (w.modCore f).modCore fun k => { k with t := (w.modCore f).freshTask id n refs, mode := .running } := by
    rw [State.takeCore, hf]
  have cur : (w.modCore f).cur = n := by rw [State.modCore_cur, show w.cur = n by rw [show w = _ from State.switchTo_eq ..]]
  have turn : u = (s.admitted id n).onCore n fun s => s.takeCore id n refs := State.placeMember_fresh unsaved n refs
  have ends : SameReads s u := by
    rw [turn, State.onCore, show ((s.admitted id n).switchTo n).takeCore id n refs = _ from taken]
    exact ((((SameReads.admitted s id n).switchTo n).modCore f).modCore _).switchTo _
  refine ⟨⟨w.modCore f, ((SameReads.admitted s id n).switchTo n).modCore f, cur, ?_⟩, ends.mem_eq, ?_⟩
  · rw [turn]
    refine (State.getCore_onCore (f := fun s => s.takeCore id n refs) ?_ ?_ n).trans ((if_pos rfl).trans ?_)
    · exact (congrArg State.cur taken).trans cur
    · exact (congrArg State.others taken).trans rfl
    · exact congrArg State.core taken
  · rw [turn, State.onCore, show ((s.admitted id n).switchTo n).takeCore id n refs = _ from taken, State.switchTo_eq]
    simp only [State.modCore_sched, w]
    rw [State.switchTo_eq]
    rfl

/-- The registers of a task that starts (R9). -/
theorem State.freshTask_x (s : State) (id : TaskId) (n : Nat) (refs : List VAddr) (i : BitVec 6) :
    fileGet (s.freshTask id n refs).x i =
      if i = 61 then id.record.zeroExtend 64 else if i = 1 then BitVec.ofNat 64 (s.recGet id.asid id.record 16 8) else 0 := by
  have files : (s.freshTask id n refs).x =
      filePut (filePut TaskState.reset.x 61 (id.record.zeroExtend 64)) 1 (BitVec.ofNat 64 (s.recGet id.asid id.record 16 8)) := rfl
  rw [files]
  by_cases first : i = 1
  · subst first
    rw [fileGet_filePut_self, if_neg (by decide), if_pos rfl]
  · rw [fileGet_filePut_ne _ _ _ _ first]
    by_cases tk : i = 61
    · rw [tk, fileGet_filePut_self, if_pos rfl]
    · rw [fileGet_filePut_ne _ _ _ _ tk, if_neg tk, if_neg first]
      exact fileGet_replicate 0 i

/-- The task that selection picks for the first time runs from its entry word with the state of R9. -/
theorem State.select_starts {s : State} {c : Nat} {r : SchedRec} (l1 : (s.getCore c).l1 = [])
    (fresh : s.sched.saved.any (fun v => decide (v.task.asid = r.task.asid ∧ v.task.record = r.task.record)) = false) :
    let s1 := s.recSet r.task.asid r.task.record 0 1 stRunning; let id : TaskId := { r.task with member := 0 }
    let u := (s.started r).placeMember id c r.refs; let n := u.getCore c
    n.mode = .running ∧ n.t.id = id ∧ n.t.pc = n.lit.base + s1.recEntry id ∧ n.t.refs = r.refs ∧ n.t.loop = LoopRegs.reset ∧ n.t.comp = TaskState.reset.comp ∧
      (∀ x : BitVec 6, fileGet n.t.x x = if x = 61 then id.record.zeroExtend 64 else if x = 1 then BitVec.ofNat 64 (s1.recGet id.asid id.record 16 8) else 0) ∧
      (∀ v, fileGet n.t.v v = 0) ∧ n.t.sys.th = false ∧ n.t.sys.preq = 0 ∧ n.t.sys.srseed = BitVec.ofNat 64 (s1.desc id.asid 40 8) ^^^ id.record.zeroExtend 64 ∧
      u.mem = s1.mem ∧ ∀ q, u.schedRec id.asid id.record = some q → q.ready = false ∧ q.live = [0] := by
  intro s1 id u n
  have fields : (s.started r).core = s.core ∧ (s.started r).cur = s.cur ∧ (s.started r).others = s.others ∧ (s.started r).sched.saved = s.sched.saved := by
    obtain ⟨mem, mgmt, rs, h⟩ := Written.recSet s r.task.asid r.task.record 0 1 stRunning
    simp only [State.started, h]
    exact ⟨rfl, rfl, rfl, rfl⟩
  obtain ⟨core, cur, others, saved⟩ := fields
  have unsaved : ((s.started r).sched.saved.find? fun v => decide (v.task = id)) = none := by
    rw [saved, List.find?_eq_none]
    intro v hv own
    rw [decide_eq_true_eq] at own
    exact List.any_eq_false.1 fresh v hv (by simp only [own, id, and_self, decide_true])
  have l1' : ((s.started r).getCore c).l1 = [] := by rw [State.getCore, core, cur, others]; exact l1
  obtain ⟨⟨v, reads, here, hn⟩, mem, recs⟩ := State.placeMember_core unsaved l1' r.refs
  have same (off k : Nat) : v.recGet id.asid id.record off k = s1.recGet id.asid id.record off k :=
    (reads.recGet ..).trans ((SameReads.modRec s1 ..).recGet ..)
  have desc : v.desc id.asid 40 8 = s1.desc id.asid 40 8 := (reads.desc ..).trans ((SameReads.modRec s1 ..).desc ..)
  have lit : (v.getCore c).lit = v.core.lit := by rw [← here, State.getCore_cur]
  have entry : v.recEntry id = s1.recEntry id := congrArg (BitVec.ofNat 55) (same 12 4)
  replace hn : n = { v.core with t := v.freshTask id c r.refs, mode := .running } := hn
  refine ⟨by rw [hn], by rw [hn]; rfl, ?pc, by rw [hn]; rfl, by rw [hn]; rfl, by rw [hn]; rfl, fun i => ?x, fun i => ?v, by rw [hn]; rfl,
    by rw [hn]; rfl, ?seed, mem, ?record⟩
  case pc =>
    rw [hn, ← entry]
    exact congrArg (·.base + v.recEntry id) lit
  case x =>
    rw [hn, ← same]
    exact v.freshTask_x id c r.refs i
  case v =>
    rw [hn]
    exact fileGet_replicate 0 i
  case seed =>
    rw [hn, ← desc]
    rfl
  case record =>
    intro q hq
    have kept : ∀ q : SchedRec, ({ q with ready := false, pin := none, live := [0], refs := [] } : SchedRec).is r.task.asid r.task.record =
        q.is r.task.asid r.task.record := fun _ => rfl
    rw [State.schedRec, recs] at hq
    obtain ⟨q', -, rfl⟩ := Option.map_eq_some_iff.1 ((State.schedRec_modRec kept s1).symm.trans hq)
    exact ⟨rfl, rfl⟩

/-! ### Image loads (R265) -/

theorem State.imageLate_of {s : State} {r : SchedRec} (ready : r.ready = true) (held : s.imageHeld r = false) (coming : s.imageComing r = false)
    (late : ∃ t, r.lackAt = some t ∧ 1000 * s.mgmt.aging.toNat ≤ s.since t) : s.imageLate r = true := by
  obtain ⟨t, lack, hours⟩ := late
  simp only [State.imageLate, ready, held, coming, lack, hours, decide_true, Bool.not_false, Bool.and_self]

theorem execImageLoadStart_unplaceable {s : State} {a t : Nat} {r : SchedRec} (rec : s.schedRec a (BitVec.ofNat 55 t) = some r)
    (late : s.imageLate r = true) (runs : s.contextRuns a = true) (lost : s.unplaceable r = true) :
    execImageLoadStart a t s = .next (s.stopRecord r .badTarget (s.entryVa r.task)) := by
  simp only [execImageLoadStart, rec, late, runs, Bool.true_eq_false, or_self, if_false, lost, if_true]

theorem execImageLoadStart_placed {s : State} {a t n : Nat} {r : SchedRec} (rec : s.schedRec a (BitVec.ofNat 55 t) = some r)
    (late : s.imageLate r = true) (runs : s.contextRuns a = true) (placed : s.unplaceable r = false) (core : s.loadCore r = some n) :
    execImageLoadStart a t s = .next (s.startLoad n { image := s.recImage r.task, tag := none, asid := a }) := by
  simp only [execImageLoadStart, rec, late, runs, Bool.true_eq_false, or_self, if_false, placed, Bool.false_eq_true, core]

/-- A load at a core that loads nothing: only that core changes, and the records' notes of what they lack. -/
theorem State.startLoad_idle {s : State} {n : Nat} (idle : (s.getCore n).loading = none) (l : PlaneLoad) : let k := s.getCore n; let u := s.startLoad n l
    SameMemory s u ∧ u.sched.saved = s.sched.saved ∧
      u.sched.recs.map (fun q => { q with lackAt := none }) = s.sched.recs.map (fun q => { q with lackAt := none }) ∧
      u.getCore n = { k with loading := some l, shadow := { k.shadow with state := .loading } } := by
  intro k u
  have nothing : s.cancelLoad n = s.setCore n { k with loading := none } := by simp only [State.cancelLoad, idle]; rfl
  let v := (s.cancelLoad n).setCore n { (s.cancelLoad n).getCore n with loading := some l, shadow := { ((s.cancelLoad n).getCore n).shadow with state := .loading } }
  have hu : u = v.noteImages := rfl
  have sched : v.sched = s.sched := by rw [State.setCore_sched, nothing, State.setCore_sched]
  have mem : v.mem = s.mem := by rw [State.setCore_mem, nothing, State.setCore_mem]
  have core : v.getCore n = { k with loading := some l, shadow := { k.shadow with state := .loading } } := by
    rw [State.getCore_setCore_self, nothing, State.getCore_setCore_self]
  rw [hu]
  refine ⟨SameMemory.of_mem mem, (congrArg Sched.saved sched : v.sched.saved = _), ?_, core⟩
  rw [← sched, State.noteImages, State.modSched, List.map_map]
  rfl

/-- Settles O52. -/
theorem schedulerWork : Obligations.SchedulerWork := by
  intro s c hc k
  dsimp only [exec]
  refine ⟨fun r free settled pick one live fresh entry => ?start, fun r early prefetch reserved settled pick => ?early,
    fun a t r rec ready held coming runs late => ⟨?stops, ?loads⟩, ?slice, ?grace⟩
  case start =>
    exact ⟨_, (execSelect_free hc free settled pick).trans (congrArg Host.Outcome.next (State.dispatch_first one live fresh entry)),
      State.select_starts free.2.2.2 fresh⟩
  case early =>
    exact ⟨_, execSelect_early hc early prefetch reserved settled pick, State.getCore_setCore_self .., SameMemory.of_mem (State.setCore_mem ..),
      State.setCore_sched ..⟩
  case stops =>
    exact fun lost => ⟨_, execImageLoadStart_unplaceable rec (State.imageLate_of ready held coming late) runs lost, State.stopRecord_record ..⟩
  case loads =>
    exact fun placed core idle =>
      ⟨_, execImageLoadStart_placed rec (State.imageLate_of ready held coming late) runs placed core, State.startLoad_idle idle _⟩
  case slice =>
    intro run slice asked
    have runs := execTimeSliceExpiry_eq hc s run slice asked
    refine ⟨fun none => runs.trans (if_neg (Bool.eq_false_iff.1 none)), fun some => ?_⟩
    obtain ⟨core, mem⟩ := State.preempt_core (f := fun y => { y with preq := y.preq ||| 1, graceAt := s.mgmt.tsc }) run fun y => by
      rw [BitVec.or_assoc, BitVec.or_self]
    exact ⟨_, runs.trans (if_pos some), core, mem, fun unforced v hv hm => State.preqNow_fresh (by rw [hv, core, hm]) unforced⟩
  case grace =>
    intro run asked forced
    exact ⟨_, execGraceExpiry_eq hc s run asked forced, State.preempt_core run fun y => by rw [BitVec.or_assoc, BitVec.or_self]⟩

end Sys2Proof.Machine
end

section
/-! PROOF. O1: what the encoder writes is read back, put together from the lemma of each constructor (R25, R27, R35 to R44). -/

namespace Sys2Proof.Laws.RoundTrip

open Sys2Proof

/-- Every word that the encoder writes reads back as its instruction. -/
theorem readFields_encode (i : Instr) : Statement i := by
  cases i
  exacts [nop _ _ _ _ _ _, add _ _ _ _, sub _ _ _ _, and _ _ _ _, or _ _ _ _, xor _ _ _ _, andn _ _ _ _, orn _ _ _ _, sll _ _ _ _, srl _ _ _ _,
    sra _ _ _ _, rol _ _ _ _, ror _ _ _ _, mul _ _ _ _, mulh _ _ _ _, mulhu _ _ _ _, div _ _ _ _, divu _ _ _ _, rem _ _ _ _, remu _ _ _ _,
    min _ _ _ _, max _ _ _ _, minu _ _ _ _, maxu _ _ _ _, adds _ _ _ _, subs _ _ _ _, slt _ _ _ _, sltu _ _ _ _, seq _ _ _ _, clz _ _ _, ctz _ _ _,
    popc _ _ _, brev _ _ _, bswap _ _ _, sextb _ _ _, sexth _ _ _, sextw _ _ _, peq _ _ _ _, pne _ _ _ _, plt _ _ _ _, pge _ _ _ _, pltu _ _ _ _,
    pgeu _ _ _ _, ptox _ _ _ _, xtop _ _ _ _, pcnt _ _ _ _, addi _ _ _ _, andi _ _ _ _, ori _ _ _ _, xori _ _ _ _, slli _ _ _ _, srli _ _ _ _,
    srai _ _ _ _, lih _ _ _, ldb _ _ _ _, ldbu _ _ _ _, ldh _ _ _ _, ldhu _ _ _ _, ldw _ _ _ _, ldwu _ _ _ _, ldd _ _ _ _, ldq _ _ _ _, stb _ _ _ _,
    sth _ _ _ _, stw _ _ _ _, std _ _ _ _, stq _ _ _ _, prf _ _ _, zln _ _ _, br _ _, call _ _, jr _ _, jalr _ _ _, loop _ _ _ _, loopi _ _ _ _,
    loopp _ _ _ _ _, lexit _ _, vadd _ _ _ _ _, vsub _ _ _ _ _, vadds _ _ _ _ _, vsubs _ _ _ _ _, vaddsu _ _ _ _ _, vsubsu _ _ _ _ _, vmul _ _ _ _ _,
    vmulh _ _ _ _ _, vmulhu _ _ _ _ _, vmulq _ _ _ _ _ _, vmin _ _ _ _ _, vmax _ _ _ _ _, vminu _ _ _ _ _, vmaxu _ _ _ _ _, vand _ _ _ _ _,
    vor _ _ _ _ _, vxor _ _ _ _ _, vandn _ _ _ _ _, vsll _ _ _ _ _, vsrl _ _ _ _ _, vsra _ _ _ _ _, vabs _ _ _ _, vneg _ _ _ _, vavg _ _ _ _ _ _,
    vmov _ _ _ _, vsel _ _ _ _ _, vcls _ _ _ _, vpopc _ _ _ _, vcmpeq _ _ _ _ _, vcmpne _ _ _ _ _, vcmplt _ _ _ _ _, vcmple _ _ _ _ _,
    vcmpltu _ _ _ _ _, vcmpleu _ _ _ _ _, vnarrow _ _ _ _ _ _, vwiden _ _ _ _ _ _, vshrr _ _ _ _ _, vsshr _ _ _ _ _, vsplat _ _ _ _,
    vextr _ _ _ _ _ _, vinsr _ _ _ _ _, viota _ _ _ _ _, vcb4 _ _ _ _ _, vq4p _ _ _, vq4u _ _ _ _, vredadd _ _ _ _ _ _, vredmax _ _ _ _ _ _,
    vredmin _ _ _ _ _ _, vredor _ _ _ _ _, vtorq _ _ _ _ _, vcens _ _ _ _ _, vexp _ _ _ _, vrcp _ _ _ _, vrsq _ _ _ _, vdiv _ _ _ _, vopt _ _ _ _,
    vbmm _ _ _ _ _, vpdep _ _ _ _ _, vpext _ _ _ _ _, vbperm _ _ _ _, vperm _ _ _ _ _ _, vslide _ _ _ _ _ _, vspush _ _ _ _, vspop _ _ _ _ _ _,
    vsflush _ _ _ _, vslen _ _ _ _, vld _ _ _ _ _, vst _ _ _ _ _, vlds _ _ _ _ _, vsts _ _ _ _ _, vldx _ _ _ _ _ _, vstx _ _ _ _ _ _, vldt _ _ _ _ _,
    vstt _ _ _ _ _, vldb _ _ _ _ _, vldp _ _ _ _, vstp _ _ _ _, mpw _ _ _ _, mpr _ _ _ _, mcfg _ _ _, mdrain _ _ _, mcall _ _ _ _ _,
    mcallg _ _ _ _ _, mspec _ _ _, mcommit _ _, mdiscard _ _, mzero _ _ _ _, maccld _ _ _ _, maccst _ _ _ _, mucw _ _ _ _ _, mucr _ _ _ _ _,
    mstat _ _ _, mrpg _ _ _, erw _ _ _, erd _ _ _, cpy _ _ _ _ _, cpym _ _ _ _ _, cpyx _ _ _ _, cpyw _ _ _ _ _, cpyc _ _ _, coll _ _ _, csig _ _ _,
    acq _ _ _, rel _ _ _, bind _ _ _ _, unbind _ _, fence _ _, qmake _ _ _, qpush _ _ _ _, qpop _ _ _, qfree _ _, mbsend _ _ _ _, mbrecv _ _ _ _,
    mbbind _ _ _, sbarm _ _ _, sbwait _ _ _ _, sbtst _ _ _, dbar _ _ _, waitany _ _ _, waitall _ _ _, ffr _ _ _, tagclr _ _, rqpop _ _,
    ldacq _ _ _ _, strel _ _ _ _, invr _ _ _, wbr _ _ _, tspawn _ _, tspawnr _ _, tspawng _ _, fspawn _ _, fref _ _, fdrop _ _, fget _ _ _ _,
    tdec _ _ _ _, tcont _ _ _, tend _ _, tyield _ _, rnext _ _, nxtreq _ _ _, pload _ _ _, pswap _, tsrd _ _ _ _, tswr _ _ _ _, tsclr _ _, srd _ _ _,
    swr _ _ _, trap _ _, eret _, feat _ _ _, aadd _ _ _ _ _, amin _ _ _ _ _, amax _ _ _ _ _, aminu _ _ _ _ _, amaxu _ _ _ _ _, aand _ _ _ _ _,
    aor _ _ _ _ _, axor _ _ _ _ _, aswap _ _ _ _ _, acas _ _ _ _ _, aadds _ _ _ _ _, redadd _ _ _ _, redmin _ _ _ _, redmax _ _ _ _, redadds _ _ _ _,
    redor _ _ _ _, loadLand _ _ _, returnQueueLand _ _, matrixCommandAccept _ _, microEnd _ _, microNop _ _, microSetm _ _, microSeti _ _,
    microAddi _ _, microBnz _ _, microJmp _ _, microLda _ _, microLdb _ _, microMac _ _, microZero _ _, microScat _ _, microAddv _ _, microChk _ _,
    microReserved _ _, stagingLoadComplete _ _ _, macStepComplete _ _, matrixCommandComplete _ _, copyCommandStart _ _, permitGrant _ _,
    copyGranuleWrite _ _, copyCommandComplete _ _ _, collectiveStart _, readyBitSet _ _, collectiveComplete _, nxtreqAnswer _, redTranslate _,
    pageWalkComplete _, faultRecordWrite _, verdictRetry _ _, verdictTranslation _ _, verdictProtection _ _, verdictDrop _ _, select _,
    imageLoadStart _ _, planeLoadComplete _, timeSliceExpiry _, graceExpiry _, saveComplete _, eclipseReclaim _, taskFinish _ _, dimmerUpdate _ _,
    governorWindowEnd, scrub _ _ _, freezeSignal _ _ _, holdbackEnd _, regularRefresh _, writePacket _ _, readPacket _ _, rdataPacket _ _,
    atomicPacket _ _, aresultPacket _ _, redPacket _ _, chunkPacket _ _, ackPacket _ _, beaconPacket _ _, probePacket _ _, packetForward _ _,
    packetAgeDiscard _ _, ackSend _, retxTimeout _, portDown _, beaconSend, beaconMiss _, probeSend _, peerLostDeclare _, lostDeclaration _,
    hostMemoryAccess _ _ _ _, hostScratchpadAccess _ _ _ _, launch _ _, launchDrop _ _, contextRegister _, contextDelete _, halt _, haltDrainDone,
    resume _ _, tlbinvPage _, tlbinvAsid _, tlbinvDone, packageAdmit _, modeWrite _, thresholdWrite _, rowThresholdWrite _, afterglowRun _ _,
    keyLoad _, attest _, attestDone, bootGo _, mgmtWrite _ _, coldReset, warmReset, supplyLoss, l1Eviction _ _]
end Sys2Proof.Laws.RoundTrip

namespace Sys2Proof

open Laws.RoundTrip

/-! ### Headers without slots (R27, R29) -/

theorem headerWord_mask (h : Header) : (headerWord h).extractLsb' 22 6 = h.mask := header_mask ..

theorem headerWord_low (h : Header) : (headerWord h).extractLsb' 0 3 = 0#3 := extract_lo _ 0#3 0 3 (by decide)

/-- A header that names a predicate exactly when it has an operation is refused by no check (R29). -/
theorem decodeHeader_of_dataOk {w : Code} (hc : Code.cls w = 0xF#4) (low : w.extractLsb' 0 3 = 0#3)
    (ok : (nopOf (headerFields w)).dataOk = true) : decodeHeader w = .ok (headerFields w) := by
  have notD : ¬(0xF#4 = 0xD#4) := by decide
  simp only [nopOf, Instr.dataOk] at ok
  simp only [decodeHeader, hc, low, notD, ne_eq, not_true_eq_false, if_false]
  split at ok
  · rw [if_pos ‹_›, if_pos (of_decide_eq_true ok)]
  · rw [if_neg ‹_›, if_neg (of_decide_eq_true ok)]

/-- The word of an empty bundle decodes to it. -/
theorem decodeWord_header {w : Code} (hc : Code.cls w = 0xF#4) (ok : (nopOf (headerFields w)).dataOk = true)
    (h : encode (nopOf (headerFields w)) = some w) : decodeWord w = .ok (nopOf (headerFields w)) := by
  have word : headerWord { headerFields w with mask := 0 } = w := Option.some.inj h
  have low : w.extractLsb' 0 3 = 0#3 := word ▸ headerWord_low _
  have mask : (headerFields w).mask = 0 := by
    have := headerWord_mask { headerFields w with mask := 0 }
    rwa [word] at this
  simp only [decodeWord, hc, decodeHeader_of_dataOk hc low ok, mask, if_true]

/-! ### Slot words (R43) -/

/-- A word that reads as a slot instruction within the limits decodes to it. -/
theorem decodeWord_slot {i : Instr} {w : Code} (hc : Code.cls w ≠ 0xF#4) (read : readSlot w = some i) (shape : i.shapeOk = true)
    (limits : i.operandFault = none) : decodeWord w = .ok i := by
  have notE : Code.cls w ≠ 0xE#4 := fun e => by simp [readSlot, e] at read
  simp only [decodeWord, hc, notE, if_false, decodeSlot, read, shape, limits, if_true]

theorem Instr.wellFormed_iff {i : Instr} : i.wellFormed = true ↔ i.shapeOk = true ∧ i.operandFault = none ∧ i.dataOk = true := by
  simp only [Instr.wellFormed, Bool.and_eq_true, Option.isNone_iff_eq_none, and_assoc]

/-- Settles O1: by the word's class, since the encoder's word reads back as its instruction. -/
theorem decodeEncode : Obligations.DecodeEncode := by
  intro i w wf h
  obtain ⟨shape, limits, data⟩ := Instr.wellFormed_iff.1 wf
  have read := readFields_encode i w h
  by_cases hc : Code.cls w = 0xF#4
  · rw [readFields, if_pos hc] at read
    obtain rfl := Option.some.inj read
    exact decodeWord_header hc data h
  · rw [readFields, if_neg hc] at read
    exact decodeWord_slot hc read shape limits

end Sys2Proof
end

section
/-! PROOF. O2: what a class reader reads from fields is written back as those fields (R25, R27, R35 to R44). -/

namespace Sys2Proof

/-! ### Operands and what they are written as -/

theorem code_ofCode : ∀ w : BitVec 2, (Width.ofCode w).code = w := by decide
theorem flag_bit : ∀ b : BitVec 1, flag (decide (b = 1#1)) = b := by decide
theorem reg_vopnd : ∀ (b : BitVec 5) (s : BitVec 1), (vopnd b s).reg = b := by decide
theorem sbit_vopnd : ∀ (b : BitVec 5) (s : BitVec 1), (vopnd b s).sbit = s := by decide
theorem optReg_optX : ∀ (b : BitVec 5) (s : BitVec 1), s = 1#1 ∨ b = 0#5 → optReg (optX b s) = b := by decide
theorem optSbit_optX : ∀ (b : BitVec 5) (s : BitVec 1), optSbit (optX b s) = s := by decide

/-! ### Fields put together again from their parts -/

/-- Two neighbouring parts of a word are one part. -/
theorem extract_join {n : Nat} (x : BitVec n) {hi lo k m : Nat} (h : hi = lo + m) :
    x.extractLsb' hi k ++ x.extractLsb' lo m = x.extractLsb' lo (k + m) := BitVec.extractLsb'_append_extractLsb'_eq_extractLsb' h

theorem join_p2 : ∀ a : BitVec 6, a.extractLsb' 4 2 = 0#2 → 0#2 ++ a.extractLsb' 0 4 = a := by decide
theorem join_p1 : ∀ a : BitVec 5, a.extractLsb' 4 1 = 0#1 → 0#1 ++ a.extractLsb' 0 4 = a := by decide
theorem join_n : ∀ a : BitVec 5, a.extractLsb' 2 3 = 0#3 → 0#3 ++ a.extractLsb' 0 2 = a := by decide
theorem join_e : ∀ c : BitVec 6, c.extractLsb' 1 5 = 0#5 → 0#5 ++ c.extractLsb' 0 1 = c := by decide
theorem join_yz : ∀ c : BitVec 6, c.extractLsb' 2 4 = 0#4 → 0#4 ++ c.extractLsb' 1 1 ++ c.extractLsb' 0 1 = c := by decide
theorem join_k2 : ∀ c : BitVec 6, c.extractLsb' 4 2 = 0#2 → 0#2 ++ c.extractLsb' 1 3 ++ c.extractLsb' 0 1 = c := by decide
theorem join_k3 : ∀ c : BitVec 6, c.extractLsb' 3 3 = 0#3 → 0#3 ++ c.extractLsb' 1 2 ++ c.extractLsb' 0 1 = c := by decide

theorem join_jr (f : BitVec 20) (hi : f.extractLsb' 14 6 = 0#6) (lo : f.extractLsb' 0 8 = 0#8) : 0#6 ++ f.extractLsb' 8 6 ++ 0#8 = f := by
  rw [← hi, ← lo, extract_join, extract_join, BitVec.extractLsb'_eq_self] <;> rfl
theorem join_jalr (f : BitVec 20) (lo : f.extractLsb' 0 8 = 0#8) : f.extractLsb' 14 6 ++ f.extractLsb' 8 6 ++ 0#8 = f := by
  rw [← lo, extract_join, extract_join, BitVec.extractLsb'_eq_self] <;> rfl
theorem join_loopp (f : BitVec 20) : f.extractLsb' 18 2 ++ f.extractLsb' 12 6 ++ f.extractLsb' 9 3 ++ f.extractLsb' 0 9 = f := by
  rw [extract_join, extract_join, extract_join, BitVec.extractLsb'_eq_self] <;> rfl
theorem join_loop (f : BitVec 20) (mid : f.extractLsb' 9 3 = 0#3) : f.extractLsb' 18 2 ++ f.extractLsb' 12 6 ++ 0#3 ++ f.extractLsb' 0 9 = f := by
  rw [← mid, join_loopp]
theorem join_loopi (f : BitVec 20) : f.extractLsb' 18 2 ++ f.extractLsb' 9 9 ++ f.extractLsb' 0 9 = f := by
  rw [extract_join, extract_join, BitVec.extractLsb'_eq_self] <;> rfl
theorem join_lexit (f : BitVec 20) (lo : f.extractLsb' 0 18 = 0#18) : f.extractLsb' 18 2 ++ 0#18 = f := by
  rw [← lo, extract_join, BitVec.extractLsb'_eq_self]; rfl

theorem left12 (b c : BitVec 6) : (b ++ c : BitVec 12).extractLsb' 6 6 = b := BitVec.extractLsb'_append_eq_left
theorem right12 (b c : BitVec 6) : (b ++ c : BitVec 12).extractLsb' 0 6 = c := BitVec.extractLsb'_append_eq_right
theorem left15 (a : BitVec 6) (m : BitVec 9) : (a ++ m : BitVec 15).extractLsb' 9 6 = a := BitVec.extractLsb'_append_eq_left
theorem right15 (a : BitVec 6) (m : BitVec 9) : (a ++ m : BitVec 15).extractLsb' 0 9 = m := BitVec.extractLsb'_append_eq_right

/-! ### What a class reader reads is written back -/

/-- The instruction that is read, if any, is written as the word. -/
def WritesBack (r : Option Instr) (w : Code) : Prop := ∀ i, r = some i → encode i = some w

theorem writesBack_some {i : Instr} {w : Code} : WritesBack (some i) w ↔ encode i = some w := by
  simp only [WritesBack, Option.some.injEq, forall_eq']

theorem writesBack_none {w : Code} : WritesBack none w := by rintro j ⟨⟩

theorem writesBack_ite {p : Prop} [Decidable p] {i : Instr} {w : Code} :
    WritesBack (if p then some i else none) w ↔ (p → encode i = some w) := by
  by_cases hp : p <;> simp [hp, writesBack_some, writesBack_none]

theorem eq_ofNat_of_toNat {n k : Nat} {x : BitVec n} (h : x.toNat = k) : x = BitVec.ofNat n k := by
  rw [← h, BitVec.ofNat_toNat, BitVec.setWidth_eq]

/-- The classes of the general and coprocessor forms (R35, R40): the opcode is split, and each field is put together again. -/
theorem readGeneral_writesBack (op a b c : BitVec 6) (g : BitVec 4) :
    WritesBack (readClass0 op a b c g) (generalWord 0x0#4 op a b c g) ∧ WritesBack (readClass8 op a b c g) (generalWord 0x8#4 op a b c g) ∧
    WritesBack (readClass9 op a b c g) (generalWord 0x9#4 op a b c g) ∧ WritesBack (readClassA op a b c g) (generalWord 0xA#4 op a b c g) ∧
    WritesBack (readClassB op a b c g) (generalWord 0xB#4 op a b c g) := by
  simp only [readClass0, readClass8, readClass9, readClassA, readClassB]
  refine ⟨?_, ?_, ?_, ?_, ?_⟩ <;> split <;> rename_i ho
  all_goals try obtain rfl := eq_ofNat_of_toNat ho
  all_goals simp only [writesBack_some, writesBack_none, writesBack_ite]
  all_goals
    intros
    change some _ = some _
    simp only [join_p2, join_e, join_yz, join_k2, join_k3, flag_bit, left12, right12, *]

/-- The immediate form (R36). -/
theorem readClass1_writesBack (op : BitVec 3) (d a : BitVec 6) (m : BitVec 9) (g : BitVec 4) :
    WritesBack (readClass1 op d a m g) (immWord op d a m g) := by
  unfold readClass1
  split <;> rename_i ho
  all_goals try obtain rfl := eq_ofNat_of_toNat ho
  all_goals simp only [writesBack_some, writesBack_none]
  all_goals
    change some _ = some _
    simp only [left15, right15]

/-- The memory form (R37). -/
theorem readClass2_writesBack (op : BitVec 4) (t b : BitVec 6) (o : BitVec 8) (g : BitVec 4) :
    WritesBack (readClass2 op t b o g) (memWord op t b o g) := by
  unfold readClass2
  split <;> rename_i ho
  all_goals try obtain rfl := eq_ofNat_of_toNat ho
  all_goals simp only [writesBack_some, writesBack_none, writesBack_ite]
  all_goals
    intros
    change some _ = some _
    simp only [*]

/-- The control form (R38). -/
theorem readClass3_writesBack (op : BitVec 4) (f : BitVec 20) (g : BitVec 4) : WritesBack (readClass3 op f g) (controlWord op f g) := by
  unfold readClass3
  split <;> rename_i ho
  all_goals try obtain rfl := eq_ofNat_of_toNat ho
  all_goals simp only [writesBack_some, writesBack_none, writesBack_ite, and_imp]
  all_goals
    intros
    change some _ = some _
    simp only [join_jr, join_jalr, join_loop, join_loopi, join_loopp, join_lexit, *]

/-- The vector form (R39). -/
theorem readVector_writesBack (op : BitVec 5) (w : BitVec 2) (d a b : BitVec 5) (s m : BitVec 1) (g : BitVec 4) :
    WritesBack (readClass4 op w d a b s m g) (vectorWord 0x4#4 op w d a b s m g) ∧
    WritesBack (readClass5 op w d a b s m g) (vectorWord 0x5#4 op w d a b s m g) ∧
    WritesBack (readClass6 op w d a b s m g) (vectorWord 0x6#4 op w d a b s m g) ∧
    WritesBack (readClass7 op w d a b s m g) (vectorWord 0x7#4 op w d a b s m g) := by
  simp only [readClass4, readClass5, readClass6, readClass7]
  refine ⟨?_, ?_, ?_, ?_⟩ <;> split <;> rename_i ho
  all_goals try obtain rfl := eq_ofNat_of_toNat ho
  all_goals simp only [writesBack_some, writesBack_none, writesBack_ite, and_imp]
  all_goals
    intros
    change some _ = some _
    simp only [join_p1, join_n, code_ofCode, reg_vopnd, sbit_vopnd, optReg_optX, optSbit_optX, flag_bit, *]

/-- The atomic form (R41). -/
theorem readClassC_writesBack (z : BitVec 2) (op : BitVec 4) (d a b : BitVec 6) (g : BitVec 4) :
    WritesBack (readClassC z op d a b g) (atomicWord z op d a b g) := by
  unfold readClassC
  split <;> rename_i ho
  all_goals try obtain rfl := eq_ofNat_of_toNat ho
  all_goals simp only [writesBack_some, writesBack_none, writesBack_ite]
  all_goals
    intros
    change some _ = some _
    simp only [*]

/-! ### A word is the word of its fields -/

theorem generalWord_of_fields {w : Code} {k : BitVec 4} (hc : Code.cls w = k) :
    generalWord k (w.extractLsb' 22 6) (w.extractLsb' 16 6) (w.extractLsb' 10 6) (w.extractLsb' 4 6) (w.extractLsb' 0 4) = w := by
  subst hc
  rw [generalWord, Code.cls, extract_join, extract_join, extract_join, extract_join, extract_join, BitVec.extractLsb'_eq_self] <;> rfl

theorem immWord_of_fields {w : Code} (hc : Code.cls w = 0x1#4) :
    immWord (w.extractLsb' 25 3) (w.extractLsb' 19 6) (w.extractLsb' 13 6) (w.extractLsb' 4 9) (w.extractLsb' 0 4) = w := by
  rw [immWord, ← hc, Code.cls, extract_join, extract_join, extract_join, extract_join, extract_join, BitVec.extractLsb'_eq_self] <;> rfl

theorem memWord_of_fields {w : Code} (hc : Code.cls w = 0x2#4) :
    memWord (w.extractLsb' 24 4) (w.extractLsb' 18 6) (w.extractLsb' 12 6) (w.extractLsb' 4 8) (w.extractLsb' 0 4) = w := by
  rw [memWord, ← hc, Code.cls, extract_join, extract_join, extract_join, extract_join, extract_join, BitVec.extractLsb'_eq_self] <;> rfl

theorem controlWord_of_fields {w : Code} (hc : Code.cls w = 0x3#4) :
    controlWord (w.extractLsb' 24 4) (w.extractLsb' 4 20) (w.extractLsb' 0 4) = w := by
  rw [controlWord, ← hc, Code.cls, extract_join, extract_join, extract_join, BitVec.extractLsb'_eq_self] <;> rfl

theorem vectorWord_of_fields {w : Code} {k : BitVec 4} (hc : Code.cls w = k) :
    vectorWord k (w.extractLsb' 23 5) (w.extractLsb' 21 2) (w.extractLsb' 16 5) (w.extractLsb' 11 5) (w.extractLsb' 6 5) (w.extractLsb' 5 1)
      (w.extractLsb' 4 1) (w.extractLsb' 0 4) = w := by
  subst hc
  rw [vectorWord, Code.cls, extract_join, extract_join, extract_join, extract_join, extract_join, extract_join, extract_join, extract_join,
    BitVec.extractLsb'_eq_self] <;> rfl

theorem atomicWord_of_fields {w : Code} (hc : Code.cls w = 0xC#4) :
    atomicWord (w.extractLsb' 26 2) (w.extractLsb' 22 4) (w.extractLsb' 16 6) (w.extractLsb' 10 6) (w.extractLsb' 4 6) (w.extractLsb' 0 4) = w := by
  rw [atomicWord, ← hc, Code.cls, extract_join, extract_join, extract_join, extract_join, extract_join, extract_join,
    BitVec.extractLsb'_eq_self] <;> rfl

theorem WritesBack.of_eq {r : Option Instr} {v w : Code} (h : WritesBack r v) (e : v = w) : WritesBack r w := e ▸ h

/-- What a slot word reads as is written as that word. -/
theorem readSlot_writesBack (w : Code) : WritesBack (readSlot w) w := by
  obtain ⟨class0, class8, class9, classA, classB⟩ :=
    readGeneral_writesBack (w.extractLsb' 22 6) (w.extractLsb' 16 6) (w.extractLsb' 10 6) (w.extractLsb' 4 6) (w.extractLsb' 0 4)
  obtain ⟨class4, class5, class6, class7⟩ := readVector_writesBack (w.extractLsb' 23 5) (w.extractLsb' 21 2) (w.extractLsb' 16 5)
    (w.extractLsb' 11 5) (w.extractLsb' 6 5) (w.extractLsb' 5 1) (w.extractLsb' 4 1) (w.extractLsb' 0 4)
  unfold readSlot
  split <;> rename_i hc
  · exact class0.of_eq (generalWord_of_fields (eq_ofNat_of_toNat hc))
  · exact (readClass1_writesBack _ _ _ _ _).of_eq (immWord_of_fields (eq_ofNat_of_toNat hc))
  · exact (readClass2_writesBack _ _ _ _ _).of_eq (memWord_of_fields (eq_ofNat_of_toNat hc))
  · exact (readClass3_writesBack _ _ _).of_eq (controlWord_of_fields (eq_ofNat_of_toNat hc))
  · exact class4.of_eq (vectorWord_of_fields (eq_ofNat_of_toNat hc))
  · exact class5.of_eq (vectorWord_of_fields (eq_ofNat_of_toNat hc))
  · exact class6.of_eq (vectorWord_of_fields (eq_ofNat_of_toNat hc))
  · exact class7.of_eq (vectorWord_of_fields (eq_ofNat_of_toNat hc))
  · exact class8.of_eq (generalWord_of_fields (eq_ofNat_of_toNat hc))
  · exact class9.of_eq (generalWord_of_fields (eq_ofNat_of_toNat hc))
  · exact classA.of_eq (generalWord_of_fields (eq_ofNat_of_toNat hc))
  · exact classB.of_eq (generalWord_of_fields (eq_ofNat_of_toNat hc))
  · exact (readClassC_writesBack _ _ _ _ _ _).of_eq (atomicWord_of_fields (eq_ofNat_of_toNat hc))
  · exact writesBack_none

/-! ### Headers and slot words that decode (R27, R29, R43) -/

/-- An instruction with a word is the empty bundle of a header, or its data need no range. -/
theorem Instr.dataOk_of_encode {i : Instr} {w : Code} (h : encode i = some w) (hc : Code.cls w ≠ 0xF#4) : i.dataOk = true := by
  cases i
  case nop => cases h; exact absurd (header_cls ..) hc
  all_goals cases h <;> rfl

theorem flag_getLsbD (w : Code) (k : Nat) : flag (w.getLsbD k) = w.extractLsb' k 1 := by
  apply BitVec.eq_of_getLsbD_eq
  intro i hi
  obtain rfl : i = 0 := by omega
  cases h : w.getLsbD k <;> simp [flag, h]

/-- A header without slots is the word of its empty bundle. -/
theorem encode_nopOf {w : Code} (hc : Code.cls w = 0xF#4) (mask : (headerFields w).mask = 0) (low : w.extractLsb' 0 3 = 0#3) :
    encode (nopOf (headerFields w)) = some w := by
  refine congrArg some ?_
  have mask : 0 = w.extractLsb' 22 6 := mask.symm
  simp only [headerWord, headerFields, flag_getLsbD]
  rw [← hc, mask, ← low, Code.cls, extract_join, extract_join, extract_join, extract_join, extract_join, extract_join, extract_join, extract_join,
    BitVec.extractLsb'_eq_self] <;> rfl

/-- A header that decodes passes the checks of R29. -/
theorem decodeHeader_ok {w : Code} {h : Header} (e : decodeHeader w = .ok h) :
    h = headerFields w ∧ w.extractLsb' 0 3 = 0#3 ∧ (nopOf h).dataOk = true := by
  simp only [decodeHeader, ne_eq, ite_not] at e
  split at e
  · cases e
  split at e <;> [skip; cases e]
  split at e <;> [skip; cases e]
  split at e <;> split at e <;> cases e
  · exact ⟨rfl, ‹_›, by simp_all [nopOf, Instr.dataOk]⟩
  · exact ⟨rfl, ‹_›, by simp_all [nopOf, Instr.dataOk]⟩

/-- A slot word that decodes reads as the instruction, whose limits hold. -/
theorem decodeSlot_ok {w : Code} {i : Instr} (e : decodeSlot w = .ok i) : readSlot w = some i ∧ i.shapeOk = true ∧ i.operandFault = none := by
  simp only [decodeSlot] at e
  split at e
  · cases e
  split at e <;> [skip; cases e]
  split at e <;> cases e
  exact ⟨‹_›, ‹_›, ‹_›⟩

/-- Settles O2: by the word's class. -/
theorem encodeDecode : Obligations.EncodeDecode := by
  intro i w e
  rw [Instr.wellFormed_iff]
  by_cases hc : Code.cls w = 0xF#4
  · simp only [decodeWord, hc, if_true] at e
    split at e <;> [skip; cases e]
    rename_i h ok
    split at e <;> cases e
    obtain ⟨rfl, low, data⟩ := decodeHeader_ok ok
    exact ⟨encode_nopOf hc ‹_› low, rfl, rfl, data⟩
  · simp only [decodeWord, hc, if_false] at e
    split at e
    · cases e
    obtain ⟨read, shape, limits⟩ := decodeSlot_ok e
    have written := readSlot_writesBack w i read
    exact ⟨written, shape, limits, i.dataOk_of_encode written hc⟩

end Sys2Proof
end

section
/-! PROOF. O17: branches, calls and jumps (R30, R77, R78, R83). -/

namespace Sys2Proof.Machine

/-- The relative target as signed arithmetic says it (R77). -/
theorem State.relTarget_eq (s : State) (o : BitVec 20) : s.relTarget o = s.core.bundle.header + BitVec.ofInt 55 (4 * o.toInt) := by
  rw [State.relTarget, BitVec.shiftLeft_eq_mul_twoPow, BitVec.signExtend, Int.mul_comm, BitVec.ofInt_mul]
  rfl

theorem State.branchTo_scw {s : State} {a : VAddr} (h : s.core.isScw a = true) (f : BitVec 3) : s.branchTo a f = s.setRedirect (.branch a) :=
  if_pos h

theorem State.branchTo_bad {s : State} {a : VAddr} (h : s.core.isScw a = false) (f : BitVec 3) :
    s.branchTo a f = s.raise (s.slotExc .badTarget f a) :=
  if_neg (by simp [h])

theorem State.jumpTo_misaligned {s : State} {w : Word} (h : w.toNat % 4 ≠ 0) : s.jumpTo w = s.raise (s.slotExc .misaligned 1 (vaOf w)) := if_pos h

theorem State.jumpTo_aligned {s : State} {w : Word} (h : w.toNat % 4 = 0) : s.jumpTo w = s.branchTo (vaOf w) 1 := if_neg (by simp [h])

/-- After a fault no link is written. -/
theorem State.linked_raise (s : State) (e : Exc) (d : BitVec 6) : s.linked (s.raise e) d = s.raise e := if_pos rfl

/-- A taken branch that links writes the address after the bundle. -/
theorem State.linked_gives {s : State} (h : s.core.bundle.exc = none) (r : Redirect) (d : BitVec 6) :
    GivesX d (s.core.bundle.next.setWidth 64) 1 (s.setRedirect r) (s.linked (s.setRedirect r) d) := by
  have hexc : (s.setRedirect r).core.bundle.exc.isSome = false := by rw [State.setRedirect, State.modBundle, h]; rfl
  rw [State.linked, hexc]
  exact State.setX_gives _ d _ 1

/-- A bundle whose branch is taken continues at the target, one stall cycle later (R77, R83). -/
theorem State.completeBundle_branch {s : State} {a : VAddr} (h : s.core.bundle.redirect = .branch a) :
    s.completeBundle.core.t.pc = a ∧ s.completeBundle.core.stallc = s.core.stallc + 1 := by
  obtain ⟨p, landP, -, hhead⟩ := s.headLogic_eq s.core.bundle.head
  unfold State.completeBundle State.completeWith
  simp only [hhead, h]
  obtain ⟨rp, sp, hr⟩ := State.renewed_eq (State.modT (State.modT (s.modT fun t => { t with p, sb := { t.sb with landP } }) _) _) s.core.bundle.head
  rw [hr]
  exact ⟨rfl, rfl⟩

/-! ### The instructions, with their guard set -/

section
variable {s : State} {g : BitVec 4} (hg : s.guard g = true)
include hg

theorem exec_br_on (o : BitVec 20) : exec (.br g o) s = .next (s.branchTo (s.relTarget o) 4) := by
  rw [show exec (.br g o) s = execBr g o s from rfl, execBr, State.when_on _ _ _ hg]

theorem exec_call_on (o : BitVec 20) : exec (.call g o) s = .next (s.linked (s.branchTo (s.relTarget o) 4) 63) := by
  rw [show exec (.call g o) s = execCall g o s from rfl, execCall, State.when_on _ _ _ hg]

theorem exec_jr_on (a : BitVec 6) : exec (.jr g a) s = .next (s.jumpTo (s.rdX a)) := by
  rw [show exec (.jr g a) s = execJr g a s from rfl, execJr, State.when_on _ _ _ hg]

theorem exec_jalr_on (d a : BitVec 6) : exec (.jalr g d a) s = .next (s.linked (s.jumpTo (s.rdX a)) d) := by
  rw [show exec (.jalr g d a) s = execJalr g d a s from rfl, execJalr, State.when_on _ _ _ hg]

/-- BR and CALL to a segment control word. -/
theorem State.relative_taken {o : BitVec 20} {x : VAddr} (hx : s.branchTo (s.relTarget o) 4 = s.setRedirect (.branch x)) :
    exec (.br g o) s = .next (s.setRedirect (.branch x)) ∧ (s.core.bundle.exc = none →
      Answers (exec (.call g o) s) (GivesX 63 (s.core.bundle.next.setWidth 64) 1 (s.setRedirect (.branch x)))) := by
  rw [exec_br_on hg, exec_call_on hg, hx]
  exact ⟨rfl, fun hexc => ⟨_, rfl, State.linked_gives hexc _ 63⟩⟩

/-- BR and CALL to a word that refuses them. -/
theorem State.relative_traps {o : BitVec 20} {e : Exc} (he : s.branchTo (s.relTarget o) 4 = s.raise e) :
    ∀ i ∈ [Instr.br g o, .call g o], Traps e s (exec i s) := by
  simp only [List.forall_mem_cons, exec_br_on hg, exec_call_on hg, he, State.linked_raise]
  exact ⟨rfl, rfl, List.forall_mem_nil _⟩

/-- JR and JALR to a segment control word. -/
theorem State.register_taken {d a : BitVec 6} {x : VAddr} (hx : s.jumpTo (s.rdX a) = s.setRedirect (.branch x)) :
    exec (.jr g a) s = .next (s.setRedirect (.branch x)) ∧ (s.core.bundle.exc = none →
      Answers (exec (.jalr g d a) s) (GivesX d (s.core.bundle.next.setWidth 64) 1 (s.setRedirect (.branch x)))) := by
  rw [exec_jr_on hg, exec_jalr_on hg, hx]
  exact ⟨rfl, fun hexc => ⟨_, rfl, State.linked_gives hexc _ d⟩⟩

/-- JR and JALR to a word that refuses them. -/
theorem State.register_traps {d a : BitVec 6} {e : Exc} (he : s.jumpTo (s.rdX a) = s.raise e) :
    ∀ i ∈ [Instr.jr g a, .jalr g d a], Traps e s (exec i s) := by
  simp only [List.forall_mem_cons, exec_jr_on hg, exec_jalr_on hg, he, State.linked_raise]
  exact ⟨rfl, rfl, List.forall_mem_nil _⟩

end

/-- With its guard clear no branch does anything (R30). -/
theorem exec_branch_off {s : State} {g : BitVec 4} (hg : s.guard g = false) (o : BitVec 20) (d a : BitVec 6) :
    ∀ i ∈ [Instr.br g o, .call g o, .jr g a, .jalr g d a], exec i s = .next s := by
  simp only [List.forall_mem_cons]
  exact ⟨.trans (b := execBr g o s) rfl (State.when_off _ _ _ hg), .trans (b := execCall g o s) rfl (State.when_off _ _ _ hg),
    .trans (b := execJr g a s) rfl (State.when_off _ _ _ hg), .trans (b := execJalr g d a s) rfl (State.when_off _ _ _ hg), List.forall_mem_nil _⟩

/-- Settles O17. -/
theorem branches : Obligations.Branches := by
  intro s g o d a near reg led
  have hnear : s.relTarget o = near := s.relTarget_eq o
  refine ⟨fun hg => exec_branch_off hg o d a, fun hg => ⟨fun hscw => State.relative_taken hg ?_, fun hscw => State.relative_traps hg ?_,
    fun hal hscw => State.register_taken hg ?_, fun i hi => ⟨fun hal => State.register_traps hg ?_ i hi,
    fun hal hscw => State.register_traps hg ?_ i hi⟩⟩, State.completeBundle_branch rfl⟩
  · rw [hnear, State.branchTo_scw hscw]
  · rw [hnear, State.branchTo_bad hscw]
  · rw [State.jumpTo_aligned hal]; exact State.branchTo_scw hscw 1
  · exact State.jumpTo_misaligned hal
  · rw [State.jumpTo_aligned hal]; exact State.branchTo_bad hscw 1

end Sys2Proof.Machine
end

section
/-! PROOF. O15: accesses that cannot complete (R31, R71 to R74, R203, R213, R215, R235, R296). -/

namespace Sys2Proof.Machine

/-! ### How the operations on memory fail -/

/-- A failed walk as the fault of the executing slot. -/
theorem State.xlExc_eq (s : State) {r : Xl × Cause × Option Status} (hr : r ∈ xlFailures) (f : BitVec 3) (va : VAddr) (el : BitVec 16) (wr : Bool) :
    s.xlExc r.1 f va el wr = { s.slotExc r.2.1 f va with elem := el, wr, rec4 := r.2.2 } := by
  simp only [xlFailures, List.mem_cons, List.not_mem_nil, or_false] at hr
  obtain rfl | rfl | rfl | rfl := hr <;> rfl

theorem ne_ok_of_mem_xlFailures {r : Xl × Cause × Option Status} (hr : r ∈ xlFailures) (l : Loc) : r.1 ≠ .ok l := by
  simp only [xlFailures, List.mem_cons, List.not_mem_nil, or_false] at hr
  obtain rfl | rfl | rfl | rfl := hr <;> exact Xl.noConfusion

section
variable {s : State} {x : Xl} {va : VAddr} (hx : ∀ l, x ≠ .ok l)
include hx

theorem State.load_of_xl (h : s.xlate (some s.cur) s.core.t.id.asid va needR = x) (n : Nat) (f p : BitVec 3) (el : BitVec 16) :
    s.load va n f p el = .error (.exc (s.xlExc x f va el false)) := by
  cases x with
  | ok l => exact absurd rfl (hx l)
  | _ => simp only [State.load, h]

theorem State.store_of_xl (h : s.xlate (some s.cur) s.core.t.id.asid va needW = x) (bs : List Byte) (f : BitVec 3) (el : BitVec 16) :
    s.store va bs f el = .error (.exc (s.xlExc x f va el true)) := by
  cases x with
  | ok l => exact absurd rfl (hx l)
  | _ => simp only [State.store, h]

theorem State.amo_of_xl (h : s.xlate (some s.cur) s.core.t.id.asid va needRW = x) (op n v c : Nat) :
    s.amo va op n v c = .fails (.exc (s.xlExc x 1 va 0xFFFF true)) := by
  cases x with
  | ok l => exact absurd rfl (hx l)
  | _ => simp only [State.amo, h]

end

/-! ### Poison -/

theorem maskBits_getLsbD (i n j : Nat) : (maskBits i n).getLsbD j = (decide (j < 64) && decide (i ≤ j ∧ j < i + n)) := by
  rw [maskBits, BitVec.getLsbD_ofNat, Nat.testBit_mul_two_pow, Nat.testBit_two_pow_sub_one, ← Bool.decide_and]
  congr 2
  exact propext (by omega)

/-- A mask built byte by byte has the bits of the bytes that have the property. -/
theorem getLsbD_foldl_maskBits (p : Nat → Bool) {j : Nat} (hj : j < 64) (l : List Nat) (m : BitVec 64) :
    (l.foldl (fun m i => if p i then m ||| maskBits i 1 else m) m).getLsbD j = (m.getLsbD j || (decide (j ∈ l) && p j)) := by
  induction l generalizing m with
  | nil => simp
  | cons i r ih =>
    rw [List.foldl_cons, ih]
    by_cases hi : j = i
    · subst hi; by_cases hp : p j = true <;> simp [hp, maskBits_getLsbD, hj]
    · have off : (maskBits i 1).getLsbD j = false := by rw [maskBits_getLsbD]; simp; omega
      by_cases hp : p i = true <;> simp [hp, off, hi]

/-- A line that the L1 does not hold comes with the poison of its bytes. -/
theorem State.l1Fetch_poison {s : State} {l : Loc} (h : l1Find s.core.l1 l = none) (va : VAddr) {j : Nat} (hj : j < 64) :
    (s.l1Fetch l va).poison.getLsbD j = s.mem.poisoned (l.pa / 64 * 64 + j) 1 := by
  simp only [State.l1Fetch, h]
  rw [getLsbD_foldl_maskBits (fun i => s.mem.poisoned (l.pa / 64 * 64 + i) 1) hj]
  simp [hj]

theorem State.load_poisoned_own {s : State} {l : Loc} {va : VAddr} {n : Nat} (h : s.xlate (some s.cur) s.core.t.id.asid va needR = .ok l)
    (hown : s.ownWindow va = true) (hp : s.mem.poisoned l.pa n = true) (f p : BitVec 3) (el : BitVec 16) :
    s.load va n f p el = .error (.exc (s.accExc .poison p va el false none)) := by
  simp only [State.load, h, hown, hp, if_true]

theorem State.load_poisoned_fetch {s : State} {l : Loc} {va : VAddr} {n k : Nat} (h : s.xlate (some s.cur) s.core.t.id.asid va needR = .ok l)
    (hown : s.ownWindow va = false) (hpkg : l.pkg = none) (hfind : l1Find s.core.l1 l = none) (hend : l.pa % 64 + n ≤ 64) (hk : k < n)
    (hp : s.mem.poisoned (l.pa + k) 1 = true) (f p : BitVec 3) (el : BitVec 16) :
    s.load va n f p el = .error (.exc (s.accExc .poison p va el false none)) := by
  have hbit : ((s.l1Fetch l va).poison &&& maskBits (l.pa % 64) n).getLsbD (l.pa % 64 + k) = true := by
    have hplace : l.pa / 64 * 64 + (l.pa % 64 + k) = l.pa + k := by omega
    rw [BitVec.getLsbD_and, State.l1Fetch_poison hfind va (by omega), hplace, hp, maskBits_getLsbD]
    simp; omega
  have hmask : (s.l1Fetch l va).poison &&& maskBits (l.pa % 64) n ≠ 0 := fun h0 => by
    rw [h0] at hbit; simp at hbit
  simp only [State.load, h, hown, hpkg, hfind, Option.filter_none, Bool.false_eq_true, if_false, if_pos hmask]

theorem State.amo_poisoned {s : State} {l : Loc} {va : VAddr} {n : Nat} (h : s.xlate (some s.cur) s.core.t.id.asid va needRW = .ok l)
    (hpkg : l.pkg = none) (hp : s.mem.poisoned l.pa n = true) (op v c : Nat) :
    s.amo va op n v c = .fails (.exc (s.accExc .poison 1 va 0xFFFF true none)) := by
  simp only [State.amo, h, hpkg, hp, if_true]

/-! ### How the instructions fail -/

/-- An instruction that makes an access of n bytes raises its fault: of the alignment, or the one that the access answers. -/
def AccessFails (s : State) (ea : Word) (n : Nat) (fails : Exc → Prop) (i : Instr) : Prop :=
  (ea.toNat % n ≠ 0 → Traps (s.slotExc .misaligned 1 (vaOf ea)) s (exec i s)) ∧ ∀ x, ea.toNat % n = 0 → fails x → Traps x s (exec i s)

section
variable {s : State} {g : BitVec 4} (hg : s.guard g = true)
include hg

/-- An instruction that tests its alignment first, and then makes its access. -/
theorem AccessFails.of_when {i : Instr} {ea : Word} {n : Nat} {fails : Exc → Prop} {f : State → State}
    (hexec : exec i s = s.when g fun s => f s) (halign : ea.toNat % n ≠ 0 → f s = s.faultAt .misaligned 1 (vaOf ea))
    (hfails : ∀ x, ea.toNat % n = 0 → fails x → f s = s.raise x) : AccessFails s ea n fails i := by
  rw [State.when_on s g _ hg] at hexec
  exact ⟨fun h => hexec.trans (congrArg _ (halign h)), fun x h hx => hexec.trans (congrArg _ (hfails x h hx))⟩

theorem State.scalarLoad_fails {i : Instr} {t b : BitVec 6} {o : BitVec 8} {n ext : Nat} (hexec : exec i s = s.scalarLoad g t b o n ext) :
    AccessFails s (s.ea b o n) n (fun x => s.load (vaOf (s.ea b o n)) n 1 0 0xFFFF = .error (.exc x)) i :=
  .of_when hg hexec (fun h => if_pos h) fun x h hx => by simp only [h, hx, ne_eq, not_true_eq_false, if_false, State.accFail]

theorem State.scalarStore_fails {i : Instr} {t b : BitVec 6} {o : BitVec 8} {n : Nat} (hexec : exec i s = s.scalarStore g t b o n) :
    AccessFails s (s.ea b o n) n (fun x => ∀ bs, s.store (vaOf (s.ea b o n)) bs 1 0xFFFF = .error (.exc x)) i :=
  .of_when hg hexec (fun h => if_pos h) fun x h hx => by simp only [h, hx, ne_eq, not_true_eq_false, if_false, State.accFail]

theorem State.atomic_fails {i : Instr} {op : Nat} {z : BitVec 2} {d a b : BitVec 6} (hexec : exec i s = s.atomic g op z d a b) :
    AccessFails s (s.rdX a) (amoBytes z) (fun x => s.redsTo (vaOf (s.rdX a)) (amoBytes z) = false ∧
      ∀ op v c, s.amo (vaOf (s.rdX a)) op (amoBytes z) v c = .fails (.exc x)) i :=
  .of_when hg hexec (fun h => if_pos h) fun x h hx => by
    simp only [h, hx.1, hx.2, ne_eq, not_true_eq_false, Bool.false_eq_true, if_false, State.accFail]

theorem State.reduction_misaligned {i : Instr} {op : Nat} {z : BitVec 2} {a b : BitVec 6} (hexec : exec i s = s.reduction g op z a b) :
    AccessFails s (s.rdX a) (amoBytes z) (fun _ => False) i :=
  .of_when hg hexec (fun h => if_pos h) fun _ _ hx => hx.elim

theorem loads_fail (t b : BitVec 6) (o : BitVec 8) : ∀ q ∈ loadsOf g t b o,
    AccessFails s (s.ea b o q.2) q.2 (fun x => s.load (vaOf (s.ea b o q.2)) q.2 1 0 0xFFFF = .error (.exc x)) q.1 := by
  simp only [loadsOf, List.forall_mem_cons]
  refine ⟨State.scalarLoad_fails hg rfl, State.scalarLoad_fails hg rfl, State.scalarLoad_fails hg rfl, State.scalarLoad_fails hg rfl,
    State.scalarLoad_fails hg rfl, State.scalarLoad_fails hg rfl, State.scalarLoad_fails hg rfl, ?ldq, List.forall_mem_nil _⟩
  case ldq =>
    exact .of_when hg (show exec (.ldq g t b o) s = execLdq g t b o s from rfl) (fun h => if_pos h) fun x h hx => by
      simp only [h, hx, ne_eq, not_true_eq_false, if_false, State.accFail]

theorem stores_fail (t b : BitVec 6) (o : BitVec 8) : ∀ q ∈ storesOf g t b o,
    AccessFails s (s.ea b o q.2) q.2 (fun x => ∀ bs, s.store (vaOf (s.ea b o q.2)) bs 1 0xFFFF = .error (.exc x)) q.1 := by
  simp only [storesOf, List.forall_mem_cons]
  refine ⟨State.scalarStore_fails hg rfl, State.scalarStore_fails hg rfl, State.scalarStore_fails hg rfl, State.scalarStore_fails hg rfl, ?stq,
    ?zln, List.forall_mem_nil _⟩
  case stq =>
    exact .of_when hg (show exec (.stq g t b o) s = execStq g t b o s from rfl) (fun h => if_pos h) fun x h hx => by
      simp only [h, hx, ne_eq, not_true_eq_false, if_false, State.accFail]
  case zln =>
    exact .of_when hg (show exec (.zln g b o) s = execZln g b o s from rfl) (fun h => if_pos h) fun x h hx => by
      simp only [h, hx, ne_eq, not_true_eq_false, if_false, State.accFail]

theorem atomics_fail (z : BitVec 2) (d a b : BitVec 6) : ∀ i ∈ atomicsOf g z d a b,
    AccessFails s (s.rdX a) (amoBytes z) (fun x => s.redsTo (vaOf (s.rdX a)) (amoBytes z) = false ∧
      ∀ op v c, s.amo (vaOf (s.rdX a)) op (amoBytes z) v c = .fails (.exc x)) i := by
  simp only [atomicsOf, List.forall_mem_cons]
  exact ⟨State.atomic_fails hg rfl, State.atomic_fails hg rfl, State.atomic_fails hg rfl, State.atomic_fails hg rfl, State.atomic_fails hg rfl,
    State.atomic_fails hg rfl, State.atomic_fails hg rfl, State.atomic_fails hg rfl, State.atomic_fails hg rfl, State.atomic_fails hg rfl,
    State.atomic_fails hg rfl, List.forall_mem_nil _⟩

theorem reductions_misaligned (z : BitVec 2) (a b : BitVec 6) : ∀ i ∈ reductionsOf g z a b, AccessFails s (s.rdX a) (amoBytes z) (fun _ => False) i := by
  simp only [reductionsOf, List.forall_mem_cons]
  exact ⟨State.reduction_misaligned hg rfl, State.reduction_misaligned hg rfl, State.reduction_misaligned hg rfl,
    State.reduction_misaligned hg rfl, State.reduction_misaligned hg rfl, List.forall_mem_nil _⟩

theorem sync_misaligned (t b k : BitVec 6) : ∀ i ∈ [Instr.ldacq g t b k, .strel g t b k], AccessFails s (s.rdX b) 8 (fun _ => False) i := by
  simp only [List.forall_mem_cons]
  exact ⟨.of_when hg (show exec (.ldacq g t b k) s = execLdacq g t b k s from rfl) (fun h => if_pos h) fun _ _ hx => hx.elim,
    .of_when hg (show exec (.strel g t b k) s = execStrel g t b k s from rfl) (fun h => if_pos h) fun _ _ hx => hx.elim, List.forall_mem_nil _⟩

end

/-- Settles O15. -/
theorem accessFaults : Obligations.AccessFaults := by
  intro s g t b o z d hg
  have loads := loads_fail hg t b o
  have stores := stores_fail hg t b o
  have atomics := atomics_fail hg z d b t
  refine ⟨fun q hq => (List.mem_append.1 hq).elim (fun h => (loads q h).1) (fun h => (stores q h).1),
    fun i hi => (List.mem_append.1 hi).elim (fun h => (atomics i h).1) (fun h => (reductions_misaligned hg z b t i h).1),
    fun k i hi => (sync_misaligned hg t b k i hi).1, fun r hr => ⟨fun q hq hal hx => ?_, fun q hq hal hx => ?_, fun i hi hal hred hx => ?_⟩,
    fun q hq l hal hx => ⟨fun hown hp => ?_, fun hown hpkg hfind hend hk => ?_⟩, fun i hi l hal hred hx hpkg hp => ?_⟩
  · refine (loads q hq).2 _ hal ?_
    rw [State.load_of_xl (ne_ok_of_mem_xlFailures hr) hx, State.xlExc_eq s hr]; rfl
  · refine (stores q hq).2 _ hal fun bs => ?_
    rw [State.store_of_xl (ne_ok_of_mem_xlFailures hr) hx, State.xlExc_eq s hr]; rfl
  · refine (atomics i hi).2 _ hal ⟨hred, fun op v c => ?_⟩
    rw [State.amo_of_xl (ne_ok_of_mem_xlFailures hr) hx, State.xlExc_eq s hr]; rfl
  · exact (loads q hq).2 _ hal (State.load_poisoned_own hx hown hp _ _ _)
  · obtain ⟨k, hk, hp⟩ := hk
    exact (loads q hq).2 _ hal (State.load_poisoned_fetch hx hown hpkg hfind hend hk hp _ _ _)
  · exact (atomics i hi).2 _ hal ⟨hred, State.amo_poisoned hx hpkg hp⟩

end Sys2Proof.Machine
end

section
/-! PROOF. O25: reductions, return-queue pushes and headroom (R92, R105, R107, R125 to R127). -/

namespace Sys2Proof.Machine

/-! ### The active elements -/

theorem filterMap_zip_map {α β : Type} (p : α → Bool) (f : α → β) (l : List α) :
    ((l.zip (l.map f)).filterMap fun q => if p q.1 then some q.2 else none) = (l.filter p).map f := by
  induction l with
  | nil => rfl
  | cons x r ih => by_cases hx : p x = true <;> simp [hx, ih]

/-- The active elements of all the lanes are those of the active lanes. -/
theorem activeOf_lanes {α : Type} (s : State) (g : BitVec 4) (w : Width) (f : Nat → α) :
    activeOf w (s.rdP g) ((List.range (Width.lanes w)).map f) = (s.lanesOf g w).map f := by
  rw [activeOf, List.length_map, List.length_range]
  exact filterMap_zip_map _ _ _

/-! ### What the operations leave of a list -/

theorem toNat_foldl_add (l : List Word) (z : Word) :
    (l.foldl (fun x y => x + y) z).toNat = (z.toNat + (l.map BitVec.toNat).sum) % 2 ^ 64 := by
  induction l generalizing z with
  | nil => simp [Nat.mod_eq_of_lt z.isLt]
  | cons x r ih => rw [List.foldl_cons, ih, BitVec.toNat_add, List.map_cons, List.sum_cons, Nat.mod_add_mod, Nat.add_assoc]

theorem getLsbD_foldl_or (l : List Word) (z : Word) (k : Nat) :
    (l.foldl (fun x y => x ||| y) z).getLsbD k = (z.getLsbD k || l.any fun v => v.getLsbD k) := by
  induction l generalizing z with
  | nil => simp
  | cons x r ih => rw [List.foldl_cons, ih, BitVec.getLsbD_or, List.any_cons, Bool.or_assoc]

/-- An operation that answers one of its operands, of the greater key, leaves a greatest element. -/
theorem foldl_greatest {α : Type} {key : α → Int} {op : α → α → α} (hop : ∀ x y, op x y = x ∧ key y ≤ key x ∨ op x y = y ∧ key x ≤ key y)
    (l : List α) (z : α) : l.foldl op z ∈ z :: l ∧ ∀ v ∈ z :: l, key v ≤ key (l.foldl op z) := by
  induction l generalizing z with
  | nil => simp
  | cons x r ih =>
    obtain ⟨hmem, hmax⟩ := ih (op z x)
    rw [List.forall_mem_cons] at hmax
    rw [List.foldl_cons, List.forall_mem_cons, List.forall_mem_cons]
    obtain ⟨e, hle⟩ | ⟨e, hle⟩ := hop z x <;> rw [e] at hmem hmax ⊢
    · exact ⟨List.mem_cons.2 ((List.mem_cons.1 hmem).imp_right (List.mem_cons_of_mem x)), hmax.1, hle.trans hmax.1, hmax.2⟩
    · exact ⟨List.mem_cons_of_mem z hmem, hle.trans hmax.1, hmax.1, hmax.2⟩

/-- A word as VREDMAX and VREDMIN order it: unsigned where m is set. -/
def redKey (m : Bool) (v : Word) : Int := if m then v.toNat else v.toInt

/-- The one of two words with the greater key. -/
theorem ite_greater {key : Word → Int} {c : Prop} [Decidable c] {x y : Word} (hc : c ↔ key x ≤ key y) : let z := if c then y else x
    z = x ∧ key y ≤ key x ∨ z = y ∧ key x ≤ key y := by
  by_cases h : c
  · exact .inr ⟨if_pos h, hc.1 h⟩
  · exact .inl ⟨if_neg h, le_of_lt (not_le.1 (mt hc.2 h))⟩

/-- The one of two words with the lesser key. -/
theorem ite_less {key : Word → Int} {c : Prop} [Decidable c] {x y : Word} (hc : c ↔ key x ≤ key y) : let z := if c then x else y
    z = x ∧ -key y ≤ -key x ∨ z = y ∧ -key x ≤ -key y := by
  by_cases h : c
  · exact .inl ⟨if_pos h, neg_le_neg (hc.1 h)⟩
  · exact .inr ⟨if_neg h, neg_le_neg (le_of_lt (not_le.1 (mt hc.2 h)))⟩

theorem redMax_greater (m : Bool) (x y : Word) : let z := if m then maxU x y else maxS x y
    z = x ∧ redKey m y ≤ redKey m x ∨ z = y ∧ redKey m x ≤ redKey m y := by
  cases m
  case false => rw [maxS_eq]; exact ite_greater Iff.rfl
  case true => rw [maxU_eq]; exact ite_greater (key := redKey true) Int.ofNat_le.symm

theorem redMin_less (m : Bool) (x y : Word) : let z := if m then minU x y else minS x y
    z = x ∧ -redKey m y ≤ -redKey m x ∨ z = y ∧ -redKey m x ≤ -redKey m y := by
  cases m
  case false => rw [minS_eq]; exact ite_less Iff.rfl
  case true => rw [minU_eq]; exact ite_less (key := redKey true) Int.ofNat_le.symm

/-! ### The result of a reduction -/

theorem getLsbD_lowBytes (k : Nat) (hk : k < 256) : BitVec.getLsbD (0xFF : Pred) k = decide (k < 8) := by
  change (BitVec.ofNat 256 (2 ^ 8 - 1)).getLsbD k = _
  rw [BitVec.getLsbD_ofNat, Nat.testBit_two_pow_sub_one]
  simp [hk]

theorem mergeV_low (old : VecReg) (x : Word) : (mergeV old (x.zeroExtend 2048) 0xFF).extractLsb' 0 64 = x := by
  apply BitVec.eq_of_getLsbD_eq
  intro k hk
  have h8 : k / 8 < 8 := by omega
  rw [BitVec.getLsbD_extractLsb', mergeV_getLsbD _ _ _ _ (by omega), Nat.zero_add, getLsbD_lowBytes _ (by omega), BitVec.getLsbD_setWidth]
  simp [hk, h8, show k < 2048 by omega]

theorem mergeV_high (old : VecReg) (x : Word) : (mergeV old (x.zeroExtend 2048) 0xFF).extractLsb' 64 1984 = old.extractLsb' 64 1984 := by
  apply BitVec.eq_of_getLsbD_eq
  intro k hk
  have h8 : ¬(64 + k) / 8 < 8 := by omega
  rw [BitVec.getLsbD_extractLsb', BitVec.getLsbD_extractLsb', mergeV_getLsbD _ _ _ _ (by omega), getLsbD_lowBytes _ (by omega)]
  simp [h8]

/-- A reduction writes the low word, and nothing else. -/
theorem State.vred_answers {i : Instr} {s : State} {g : BitVec 4} {w : Width} {d a : BitVec 5} {b : Option (BitVec 5)} {m : Bool} {ident : Word}
    {op : Word → Word → Word} {r : Word → Prop} (hexec : exec i s = s.vred g w d a b m ident op)
    (hr : r (((s.lanesOf g w).map (elemWord w (s.rdV a) m)).foldl op ((b.map s.rdS).getD ident))) :
    Answers (exec i s) fun t => OnlyV d s t ∧ r ((t.curV d).extractLsb' 0 64) ∧
      (t.curV d).extractLsb' 64 1984 = (s.curV d).extractLsb' 64 1984 ∧ fileGet t.core.t.sb.landV (physV s.core.old.vrb d) = s.core.t.sb.cyc + 4 := by
  refine ⟨_, hexec, State.setV_only s d _ 4 0xFF, ?_, ?_, by simp [State.setV, State.renewV]⟩ <;> rw [State.curV_renewV, State.curV_setV_self]
  · rw [mergeV_low, activeOf_lanes]
    cases b <;> exact hr
  · exact mergeV_high _ _

/-! ### VTORQ and VCENS -/

theorem paramBad_iff (p : Word) (k : Nat) : paramBad p k = true ↔ 2 ^ k ≤ p.toNat := by
  rw [paramBad, decide_eq_true_eq, ne_eq, Nat.div_eq_zero_iff_lt (by positivity), not_lt]

/-- The least headroom of some elements is one of theirs. -/
theorem minOf_spec {hs : List Nat} (hne : hs ≠ []) (h63 : ∀ h ∈ hs, h ≤ 63) : minOf hs ∈ hs ∧ ∀ h ∈ hs, minOf hs ≤ h := by
  have least : ∀ x y : Nat, Nat.min x y = x ∧ -(y : Int) ≤ -(x : Int) ∨ Nat.min x y = y ∧ -(x : Int) ≤ -(y : Int) := fun x y => by
    have : Nat.min x y = min x y := rfl
    omega
  obtain ⟨hmem, hmin⟩ := foldl_greatest (key := fun x : Nat => -(x : Int)) least hs 63
  have hle : ∀ h ∈ hs, minOf hs ≤ h := fun h hh =>
    Int.ofNat_le.1 (neg_le_neg_iff.1 (hmin h (List.mem_cons_of_mem _ hh)))
  refine ⟨(List.mem_cons.1 hmem).elim (fun e => ?_) id, hle⟩
  obtain ⟨h, hh⟩ := List.exists_mem_of_ne_nil hs hne
  have e : minOf hs = 63 := e
  have : h = minOf hs := by have := hle h hh; have := h63 h hh; omega
  exact this ▸ hh

theorem clsInt_laneS_le (w : Width) (v : VecReg) (l : Nat) : clsInt (Width.bits w) (laneS (Width.bits w) v l) ≤ 63 := by
  have hlt := (clsInt_spec (Width.bits_pos w) (lane_lt (Width.bits w) v l)).1
  rw [laneS_eq]
  have : Width.bits w ≤ 64 := by cases w <;> decide
  omega

/-- VTORQ with its guard set, by its index. -/
theorem State.vtorq_on {s : State} {g : BitVec 4} (hg : s.guard g = true) (w : Width) (a : BitVec 5) (o : Option (BitVec 5)) (m : Bool) :
    exec (.vtorq g w a o m) s = .next (
      let i := ((o.map s.rdS).getD 0).toNat
      if Width.lanes w ≤ i then s.raise (s.slotExc .illegalOperand 2 0)
      else if 16 ≤ s.core.t.comp.rq.length then s.raise (s.slotExc .illegalOperand 4 0)
      else s.pushRq { value := some (elemWord w (s.rdV a) m i), due := s.core.clock + 2, tag := 0 }) := by
  rw [show exec (.vtorq g w a o m) s = execVtorq g w a o m s from rfl, execVtorq, State.when_on _ _ _ hg]
  cases o <;> rfl

/-- VCENS, by its parameter word and its active elements. -/
theorem State.vcens_eq (s : State) (g : BitVec 4) (w : Width) (a b : BitVec 5) (m : Bool) :
    exec (.vcens g w a b m) s = .next (
      let p := s.rdS b; let t := p.extractLsb' 0 6; let act := (s.lanesOf g w).map (laneS (Width.bits w) (s.rdV a))
      if paramBad p 6 then s.raise (s.slotExc .illegalOperand 2 0)
      else if act.isEmpty then s
      else (s.census t (minOf (act.map (clsInt (Width.bits w))))).countSat t (if m then (act.filter (atEnd (Width.bits w))).length else 0)) := by
  rw [show exec (.vcens g w a b m) s = execVcens g w a b m s from rfl, execVcens]
  simp only [activeOf_lanes]
  split
  · rfl
  · split
    · rfl
    · cases m <;> rfl

/-- A census value and a count join those of the bundle in issue. -/
theorem State.countSat_census (s : State) (t : BitVec 6) (h n : Nat) : (s.census t h).countSat t n =
    { s with core := { s.core with bundle := { s.core.bundle with
      census := s.core.bundle.census ++ [(t, h)]
      sats := s.core.bundle.sats ++ (if n = 0 then [] else [(t, n)])
      satSlots := s.core.bundle.satSlots ++ (if n = 0 then [] else [(BitVec.ofNat 3 s.core.bundle.slot, t)]) } } } := by
  unfold State.countSat
  split <;> simp [State.census, State.modBundle]

/-- VCENS with sound parameters and an active element (R107, R127). -/
theorem State.vcens_reports {s : State} {g : BitVec 4} {w : Width} {a b : BitVec 5} (hp : (s.rdS b).toNat < 64) (hon : s.lanesOf g w ≠ []) (m : Bool) :
    let X l := laneS (Width.bits w) (s.rdV a) l; let n := Width.bits w; let t := BitVec.ofNat 6 (s.rdS b).toNat
    let count := if m then ((s.lanesOf g w).filter fun l => X l = -(2 ^ (n - 1) : Int) ∨ X l = 2 ^ (n - 1) - 1).length else 0
    ∃ least, (∃ l ∈ s.lanesOf g w, clsInt n (X l) = least) ∧ (∀ l ∈ s.lanesOf g w, least ≤ clsInt n (X l)) ∧
      exec (.vcens g w a b m) s = .next { s with core := { s.core with bundle := { s.core.bundle with
        census := s.core.bundle.census ++ [(t, least)]
        sats := s.core.bundle.sats ++ (if count = 0 then [] else [(t, count)])
        satSlots := s.core.bundle.satSlots ++ (if count = 0 then [] else [(BitVec.ofNat 3 s.core.bundle.slot, t)]) } } } := by
  intro X n t count
  have ht : (s.rdS b).extractLsb' 0 6 = t := BitVec.eq_of_toNat_eq (by simp [t])
  have hpar : ¬paramBad (s.rdS b) 6 = true := by rw [paramBad_iff]; omega
  have hact : ¬((s.lanesOf g w).map X).isEmpty = true := by simpa using hon
  have hcount : (if m then (((s.lanesOf g w).map X).filter (atEnd n)).length else 0) = count := by
    simp only [count, List.filter_map, List.length_map, Function.comp_def, atEnd, Bool.decide_or]
  obtain ⟨hmem, hle⟩ := minOf_spec (hs := ((s.lanesOf g w).map X).map (clsInt n)) (by simpa using hon) (by
    simp only [List.map_map, List.forall_mem_map]
    exact fun l _ => clsInt_laneS_le w _ l)
  rw [List.map_map] at hmem hle
  refine ⟨_, List.mem_map.1 hmem, fun l hl => hle _ (List.mem_map_of_mem hl), ?_⟩
  rw [State.vcens_eq]
  simp only [if_neg hpar]
  rw [if_neg hact, hcount, State.countSat_census, ht, List.map_map]

/-- The reductions, by what holds of the low word. -/
theorem State.reductions (s : State) (g : BitVec 4) (w : Width) (d a : BitVec 5) (b : Option (BitVec 5)) (m : Bool)
    {low : Instr → (Word → Prop) → Prop}
    (hlow : ∀ {i k ident op r}, exec i s = s.vred g w d a b k ident op →
      r (((s.lanesOf g w).map (elemWord w (s.rdV a) k)).foldl op ((b.map s.rdS).getD ident)) → low i r) :
    let word := elemWord w (s.rdV a); let on := s.lanesOf g w; let init (z : Word) := (b.map s.rdS).getD z
    low (.vredadd g w d a b m) (fun r => r.toNat = ((init 0).toNat + (on.map fun l => (word m l).toNat).sum) % 2 ^ 64) ∧
    low (.vredmax g w d a b m) (fun r => let z := init (if m then 0 else BitVec.ofInt 64 (-2 ^ 63))
      r ∈ z :: on.map (word m) ∧ ∀ v ∈ z :: on.map (word m), redKey m v ≤ redKey m r) ∧
    low (.vredmin g w d a b m) (fun r => let z := init (BitVec.ofNat 64 (if m then 2 ^ 64 - 1 else 2 ^ 63 - 1))
      r ∈ z :: on.map (word m) ∧ ∀ v ∈ z :: on.map (word m), redKey m r ≤ redKey m v) ∧
    low (.vredor g w d a b) (fun r => ∀ k < 64, r.getLsbD k = ((init 0).getLsbD k || on.any fun l => (word false l).getLsbD k)) := by
  refine ⟨hlow rfl ?add, hlow rfl ?max, hlow rfl ?min, hlow rfl fun k _ => ?or⟩
  case add => rw [toNat_foldl_add, List.map_map]; rfl
  case max =>
    have : (if m then 0 else 0x8000_0000_0000_0000 : Word) = if m then 0 else BitVec.ofInt 64 (-2 ^ 63) := by cases m <;> decide
    rw [this]
    exact foldl_greatest (redMax_greater m) _ _
  case min =>
    have : (if m then BitVec.allOnes 64 else 0x7FFF_FFFF_FFFF_FFFF : Word) = BitVec.ofNat 64 (if m then 2 ^ 64 - 1 else 2 ^ 63 - 1) := by
      cases m <;> decide
    rw [this]
    obtain ⟨hmem, hmin⟩ := foldl_greatest (redMin_less m) ((s.lanesOf g w).map (elemWord w (s.rdV a) m)) _
    exact ⟨hmem, fun v hv => neg_le_neg_iff.1 (hmin v hv)⟩
  case or => rw [getLsbD_foldl_or, List.any_map]; rfl

/-- Settles O25. -/
theorem reductionsAndCensus : Obligations.ReductionsAndCensus := by
  refine ⟨fun s g w d a b m => ?reductions, fun s g w a o b m => ⟨fun hg => .trans (b := execVtorq g w a o m s) rfl (State.when_off _ _ _ hg),
    fun hg hi hq => ?push, fun hg hi => ?index, fun hg hi hq => ?full, fun hp => ?param, fun hp hon => ?none,
    fun hp hon => State.vcens_reports hp hon m⟩⟩
  case reductions =>
    intro n word init on low key
    obtain ⟨hadd, hmax, hmin, hor⟩ := s.reductions g w d a b m (low := low) fun {i k ident op r} he hr => State.vred_answers (r := r) he hr
    exact ⟨hadd, hmax, hmin, fun hm => by subst hm; exact hor⟩
  case push =>
    rw [State.vtorq_on hg]
    refine ⟨_, rfl, ?_⟩
    simp only [if_neg (not_le.2 hi), if_neg (not_le.2 hq)]
    exact ⟨⟨rfl, SameMemory.of_mem rfl⟩, rfl⟩
  case index =>
    rw [State.vtorq_on hg]
    exact congrArg _ (if_pos hi)
  case full =>
    rw [State.vtorq_on hg]
    exact congrArg _ ((if_neg (not_le.2 hi)).trans (if_pos hq))
  case param =>
    rw [State.vcens_eq]
    exact congrArg _ (if_pos ((paramBad_iff _ 6).2 hp))
  case none =>
    have hpar : ¬paramBad (s.rdS b) 6 = true := by rw [paramBad_iff]; omega
    rw [State.vcens_eq, hon]
    exact congrArg _ (if_neg hpar)

end Sys2Proof.Machine
end

section
/-! PROOF. O5: two slots of a bundle that do not both go through, and the empty bundle (R27, R28, R31, R34, R88). -/

namespace Sys2Proof.Machine

/-! ### Trying the slots of a bundle -/

section
variable {begun s s1 : State} {k : Nat} {i : Instr} {r : List (Nat × Instr)} {t : Tried}

theorem State.tryFrom_waits (hexec : exec i (s.atSlot k) = .next s1) (hheld : s1.core.bundle.held = true) (hasks : s1.core.asks = begun.core.asks) :
    begun.tryFrom s ((k, i) :: r) t = begun.tryFrom s r { t with waits := some (t.waits.getD (k, i)) } := by
  simp only [State.tryFrom, hexec, hheld, hasks, if_true]

theorem State.tryFrom_faults {e : Exc} (hexec : exec i (s.atSlot k) = .next s1) (hheld : s1.core.bundle.held = false)
    (hexc : s1.core.bundle.exc = some e) :
    begun.tryFrom s ((k, i) :: r) t = begun.tryFrom s r { t with bad := some (t.bad.getD (.next (begun.raise e))) } := by
  simp only [State.tryFrom, hexec, hheld, hexc, Bool.false_eq_true, if_false]

theorem State.tryFrom_goes (hexec : exec i (s.atSlot k) = .next s1) (hheld : s1.core.bundle.held = false) (hexc : s1.core.bundle.exc = none) :
    begun.tryFrom s ((k, i) :: r) t = begun.tryFrom (if i.last then s else s1) r t := by
  simp only [State.tryFrom, hexec, hheld, hexc, Bool.false_eq_true, if_false]

end

/-- The first slot that waits stays the one found. -/
theorem State.tryFrom_waits_kept {begun : State} {q : Nat × Instr} (slots : List (Nat × Instr)) {s : State} {t : Tried} (h : t.waits = some q) :
    (begun.tryFrom s slots t).waits = some q := by
  induction slots generalizing s t with
  | nil => exact h
  | cons p r ih =>
    unfold State.tryFrom
    repeat' split
    all_goals exact ih (by simp [h])

/-- The first slot that faults stays the one found. -/
theorem State.tryFrom_bad_kept {begun : State} {o : Out} (slots : List (Nat × Instr)) {s : State} {t : Tried} (h : t.bad = some o) :
    (begun.tryFrom s slots t).bad = some o := by
  induction slots generalizing s t with
  | nil => exact h
  | cons p r ih =>
    unfold State.tryFrom
    repeat' split
    all_goals exact ih (by simp [h])

/-- A last slot that does not wait adds no wait. -/
theorem State.tryFrom_last_waits {begun s s1 : State} {k : Nat} {i : Instr} (t : Tried) (hexec : exec i (s.atSlot k) = .next s1)
    (hheld : s1.core.bundle.held = false) : (begun.tryFrom s [(k, i)] t).waits = t.waits := by
  cases hexc : s1.core.bundle.exc with
  | none => rw [State.tryFrom_goes hexec hheld hexc]; rfl
  | some e => rw [State.tryFrom_faults hexec hheld hexc]; rfl

/-- A slot that waits decides (R88). -/
theorem State.probe_of_waits {s : State} {slots : List (Nat × Instr)} {q : Nat × Instr} (h : (s.tryFrom s slots .start).waits = some q) :
    s.probe slots = some (s.waitAt q) := by
  simp only [State.probe, h]

/-- Where none waits, the first that faults decides (R31). -/
theorem State.probe_of_bad {s : State} {slots : List (Nat × Instr)} {o : Out} (hw : (s.tryFrom s slots .start).waits = none)
    (h : (s.tryFrom s slots .start).bad = some o) : s.probe slots = some o := by
  simp only [State.probe, hw, h]

theorem State.waitAt_eq {s s1 : State} {q : Nat × Instr} (h : exec q.2 (s.atSlot q.1) = .next s1) :
    s.waitAt q = .next (if s1.core.bundle.held then s1 else s.hold) := by
  simp only [State.waitAt, h]

/-- Two slots whose trial decides do nothing else (R31, R88). -/
theorem State.runSlots_two {s : State} {d : Decoded} {p q : Nat × Instr} {o : Out} (hd : d.slots = [p, q]) (h : s.probe [p, q] = some o) :
    s.runSlots d = o := by
  simp only [State.runSlots, hd, h]

/-! ### The empty bundle -/

theorem getLsbD_plopValue (op : BitVec 3) (a b : Pred) {l : Nat} (hl : l < 256) : (plopValue op a b).getLsbD l =
    let x := a.getLsbD l; let y := b.getLsbD l
    match op.toNat with
    | 1 => x && y | 2 => x || y | 3 => xor x y | 4 => x && !y | 5 => x || !y | 6 => !(x && y) | _ => !(xor x y) := by
  unfold plopValue
  generalize op.toNat = n
  rcases n with _ | _ | _ | _ | _ | _ | _ | n <;> simp [hl]

/-- The header's predicate logic writes its destination for the next bundle (R28, R87). -/
theorem State.headLogic_gives {s : State} {h : Header} (hp : h.plop ≠ 0) :
    GivesP h.pd (plopValue h.plop (s.rdP h.pa) (s.rdP h.pb)) s (s.headLogic h) := by
  rw [State.headLogic, if_neg hp]
  exact State.setP_gives s _ _

/-- What a bundle that goes on in line leaves of predicates, scoreboard and count. -/
theorem State.completeWith_counts {s : State} (h : InLine s s.core.bundle.redirect) (hd : Header) :
    let u := s.completeWith hd; let q := s.headLogic hd
    u.core.t.p = q.core.t.p ∧ u.core.t.sb.landP = q.core.t.sb.landP ∧ u.core.t.sb.cyc = s.core.t.sb.cyc + 1 + hd.wait.toNat ∧
      u.core.t.seg = s.core.t.seg.account hd.wait s.core.bundle.words := by
  obtain ⟨p, landP, -, hhead⟩ := s.headLogic_eq hd
  unfold State.completeWith
  simp only [hhead]
  rw [h.modT_redirect]
  case hu => rfl
  obtain ⟨rp, sp, hr⟩ := State.renewed_eq (State.modT (State.modT (s.modT fun t => { t with p, sb := { t.sb with landP } }) _) _) hd
  rw [hr]
  refine ⟨rfl, ?_, ?_, rfl⟩ <;> simp only [State.modT, State.modSb, State.modCore, Scoreboard.harden, TaskState.applyCounts] <;> split <;> rfl

/-- The empty bundle's effects. -/
theorem State.emptyBundle_effects {s : State} {h : Header} (hpd : h.plop ≠ 0 → h.pd ≠ 0) (inLine : InLine s s.core.bundle.redirect)
    (hsats : s.core.bundle.sats = []) (hcensus : s.core.bundle.census = []) : let t := s.completeWith h
    t.core.t.pc = s.core.bundle.next ∧ t.core.t.sb.cyc = s.core.t.sb.cyc + 1 + h.wait.toNat ∧
      t.core.t.seg.count.toNat = min 4095 (s.core.t.seg.count.toNat + 1 + h.wait.toNat) ∧
      (h.plop ≠ 0 → fileGet t.core.t.sb.landP h.pd = s.core.t.sb.cyc + 1 ∧ ∀ l < 256, (t.pNow h.pd).getLsbD l =
        let x := (s.rdP h.pa).getLsbD l; let y := (s.rdP h.pb).getLsbD l
        match h.plop.toNat with
        | 1 => x && y | 2 => x || y | 3 => xor x y | 4 => x && !y | 5 => x || !y | 6 => !(x && y) | _ => !(xor x y)) ∧
      (∀ r, r ≠ h.pd ∨ h.plop = 0 → t.pNow r = s.pNow r) ∧ t.core.t.x = s.core.t.x ∧ t.core.t.v = s.core.t.v ∧ t.core.t.sys = s.core.t.sys ∧
      t.core.t.ts = s.core.t.ts ∧ t.core.t.loop = s.core.t.loop ∧ SameMemory s t := by
  obtain ⟨hpred, hlandP, hcyc, hseg⟩ := State.completeWith_counts inLine h
  have pNow (r : BitVec 4) : (s.completeWith h).pNow r = (s.headLogic h).pNow r := by simp only [State.pNow, hpred]
  obtain ⟨p, sb, seg, rp, sp, buf, asks, stallc, -, -, -, -, e⟩ := State.completeWith_inLine inLine h
  refine ⟨by rw [e], hcyc, ?count, fun hp => ⟨?lands, fun l hl => ?value⟩, fun r hr => ?others, by rw [e], by rw [e], by rw [e], ?slots, by rw [e],
    SameMemory.of_mem (by rw [e])⟩
  case count =>
    rw [hseg, Segment.account, BitVec.toNat_ofNat]
    exact Nat.mod_eq_of_lt (by omega)
  case lands => rw [hlandP]; exact (State.headLogic_gives hp).2.1 (hpd hp)
  case value =>
    rw [pNow, (State.headLogic_gives hp).1, if_neg (hpd hp)]
    exact getLsbD_plopValue _ _ _ hl
  case others =>
    rw [pNow]
    by_cases hp : h.plop = 0
    · rw [State.headLogic, if_pos hp]
    · obtain ⟨-, -, -, -, others, -⟩ := State.headLogic_gives (s := s) hp
      exact (others r (hr.resolve_right hp)).1
  case slots => rw [e, hsats, hcensus]; rfl

/-- Settles O5. -/
theorem bundleEffects : Obligations.BundleEffects := by
  refine ⟨fun s d k j a b t u w hd ht hu hw => ⟨fun e hth huh hte => ?_, fun e hth huh hte hue => ?_, fun hth hta => ?_, fun hth huh hua => ?_⟩, ?_⟩
  · have settled : t.settled = true := by simp [State.settled, hte]
    rw [settled, Bool.or_true, if_pos rfl] at hu
    refine State.runSlots_two hd (State.probe_of_bad ?_ ?_) <;> rw [State.tryFrom_faults ht hth hte]
    · exact State.tryFrom_last_waits _ hu huh
    · exact State.tryFrom_bad_kept _ rfl
  · have settled : t.settled = false := by simp [State.settled, hte, hth]
    rw [settled, Bool.or_false] at hu
    refine State.runSlots_two hd (State.probe_of_bad ?_ ?_) <;> rw [State.tryFrom_goes ht hth hte, State.tryFrom_faults hu huh hue] <;> rfl
  · have waits := State.tryFrom_waits_kept (begun := s) (q := (k, a)) [(j, b)] (s := s) (t := { Tried.start with waits := some (k, a) }) rfl
    rw [State.runSlots_two hd (State.probe_of_waits ((congrArg Tried.waits (State.tryFrom_waits ht hth hta)).trans waits)),
      State.waitAt_eq ht, if_pos hth]
  · have waits : (s.tryFrom s [(k, a), (j, b)] .start).waits = some (j, b) := by
      cases hte : t.core.bundle.exc with
      | none =>
        have settled : t.settled = false := by simp [State.settled, hte, hth]
        rw [settled, Bool.or_false] at hu
        rw [State.tryFrom_goes ht hth hte, State.tryFrom_waits hu huh hua]; rfl
      | some e =>
        have settled : t.settled = true := by simp [State.settled, hte]
        rw [settled, Bool.or_true, if_pos rfl] at hu
        rw [State.tryFrom_faults ht hth hte, State.tryFrom_waits hu huh hua]; rfl
    rw [State.runSlots_two hd (State.probe_of_waits waits), State.waitAt_eq hw]
  · intro s plop pd pa pb wait rp hpd hnone hloop hsats hcensus
    exact ⟨_, rfl, State.emptyBundle_effects hpd (.inr ⟨hnone, hloop⟩) hsats hcensus⟩

end Sys2Proof.Machine
end

section
/-! PROOF. O30: vector loads and stores in the own window, and their faults (R31, R58, R114, R128 to R130). -/

namespace Sys2Proof.Machine

/-! ### Bytes as numbers -/

theorem Mem.bytes_eq_map (m : Mem) (slot pa n : Nat) : m.bytes slot pa n = (List.range n).map fun i => m.byte slot (pa + i) := by
  induction n generalizing pa with
  | zero => rfl
  | succ n ih =>
    rw [Mem.bytes, ih, List.range_succ_eq_map, List.map_cons, List.map_map]
    simp only [Function.comp_def, Nat.add_zero, Nat.succ_eq_add_one, Nat.add_assoc, Nat.add_comm 1]

theorem State.leNat_bytes (s : State) (slot pa n : Nat) : leNat (s.mem.bytes slot pa n) = s.little slot pa n := by
  rw [Mem.bytes_eq_map]; rfl

@[simp] theorem length_leBytes (n v : Nat) : (leBytes n v).length = n := by
  induction n generalizing v with
  | zero => rfl
  | succ n ih => rw [leBytes, List.length_cons, ih]

theorem getD_leBytes {n k : Nat} (hk : k < n) (v : Nat) : (leBytes n v).getD k 0 = BitVec.ofNat 8 (v / 256 ^ k) := by
  induction n generalizing v k with
  | zero => omega
  | succ n ih =>
    cases k with
    | zero => simp [leBytes]
    | succ k => rw [leBytes, List.getD_cons_succ, ih (by omega), Nat.div_div_eq_div_mul, ← Nat.pow_succ']

/-! ### Elements put together in a register -/

/-- Ascending elements of e bytes added to what lies below them: each has its own bits. -/
theorem testBit_foldl_elems {e : Nat} (f : Nat → Nat) (hf : ∀ i, f i < 2 ^ (8 * e)) {l k : Nat} (hk : k < 8 * e) (on : List Nat)
    (hon : on.Pairwise (· < ·)) (acc : Nat) (hacc : ∀ i ∈ on, acc < 2 ^ (8 * e * i)) :
    (on.foldl (fun acc i => acc + f i * 2 ^ (8 * e * i)) acc).testBit (8 * e * l + k) =
      if l ∈ on then (f l).testBit k else acc.testBit (8 * e * l + k) := by
  induction on generalizing acc with
  | nil => simp
  | cons i r ih =>
    obtain ⟨hi, hr⟩ := List.pairwise_cons.1 hon
    have here := hacc i List.mem_cons_self
    have hnext : acc + f i * 2 ^ (8 * e * i) < 2 ^ (8 * e * (i + 1)) := by
      rw [Nat.mul_succ, Nat.add_comm (8 * e * i), Nat.pow_add]
      have := Nat.mul_le_mul_right (2 ^ (8 * e * i)) (hf i)
      rw [Nat.succ_mul] at this
      omega
    rw [List.foldl_cons, ih hr _ fun j hj => lt_of_lt_of_le hnext (Nat.pow_le_pow_right (by decide) (Nat.mul_le_mul_left _ (hi j hj)))]
    by_cases hl : l ∈ r
    · rw [if_pos hl, if_pos (List.mem_cons_of_mem i hl)]
    · rw [if_neg hl, Nat.add_comm acc, Nat.mul_comm (f i), Nat.testBit_two_pow_mul_add _ here]
      by_cases e1 : l = i
      · subst e1
        rw [if_neg (by omega), if_pos List.mem_cons_self, Nat.add_sub_cancel_left]
      · rw [if_neg (show l ∉ i :: r by simp [e1, hl])]
        by_cases lt : l < i
        · have : 8 * e * l + k < 8 * e * i := by
            have := Nat.mul_le_mul_left (8 * e) (show l + 1 ≤ i from lt)
            rw [Nat.mul_succ] at this; omega
          rw [if_pos this]
        · have le : 8 * e * (i + 1) ≤ 8 * e * l := Nat.mul_le_mul_left _ (by omega)
          have above : 2 ^ (8 * e * (i + 1)) ≤ 2 ^ (8 * e * l + k) := Nat.pow_le_pow_right (by decide) (by omega)
          rw [Nat.mul_succ] at le
          rw [if_neg (by omega), Nat.testBit_lt_two_pow (lt_of_le_of_lt (Nat.le_add_right _ _) (lt_of_lt_of_le hnext above))]
          refine Nat.testBit_lt_two_pow (lt_of_lt_of_le (hf i) (Nat.pow_le_pow_right (by decide) ?_))
          omega

theorem elemsNat_eq (e : Nat) (bs : Nat → List Byte) (on : List Nat) :
    elemsNat e (on.map fun i => (i, bs i)) = on.foldl (fun acc i => acc + leNat (bs i) * 2 ^ (8 * e * i)) 0 := by
  rw [elemsNat, List.foldl_map]

theorem leNat_lt_of_length {n : Nat} {bs : List Byte} (h : bs.length = n) : leNat bs < 2 ^ (8 * n) := by
  have := leNat_lt bs
  rwa [h, show (256 : Nat) = 2 ^ 8 from rfl, ← Nat.pow_mul] at this

/-- A lane of loaded elements holds its element's bytes. -/
theorem lane_elemsNat {w : Width} {bs : Nat → List Byte} (hlen : ∀ i, (bs i).length = Width.bytes w) {on : List Nat}
    (hon : on.Pairwise (· < ·)) {l : Nat} (hl : l ∈ on) (hlane : l < Width.lanes w) :
    lane (Width.bits w) (BitVec.ofNat 2048 (elemsNat (Width.bytes w) (on.map fun i => (i, bs i)))) l = leNat (bs l) := by
  have hend := Width.lane_end w l hlane
  have fits (i : Nat) : leNat (bs i) < 2 ^ (8 * Width.bytes w) := leNat_lt_of_length (hlen i)
  refine eq_of_low_bits (lane_lt _ _ _) (by rw [Width.bits_eq]; exact fits l) fun k hk => ?_
  rw [lane_testBit _ _ _ _ hk, BitVec.getLsbD_ofNat, elemsNat_eq, Width.bits_eq]
  rw [Width.bits_eq] at hk hend
  rw [testBit_foldl_elems _ fits hk on hon 0 fun _ _ => by positivity, if_pos hl]
  simp; omega

/-! ### The active lanes -/

theorem mem_lanesOf {s : State} {g : BitVec 4} {w : Width} {l : Nat} : l ∈ s.lanesOf g w ↔ l < Width.lanes w ∧ active w (s.rdP g) l = true := by
  rw [State.lanesOf, activeLanes, List.mem_filter, List.mem_range]

theorem lanesOf_ascending (s : State) (g : BitVec 4) (w : Width) : (s.lanesOf g w).Pairwise (· < ·) := List.pairwise_lt_range.filter _

theorem elemsMask_lanesOf (s : State) (g : BitVec 4) (w : Width) : elemsMask w (s.lanesOf g w) = s.lanesOn g w := by
  rw [elemsMask, State.lanesOn, laneMask]
  congr 1
  refine List.map_congr_left fun l hl => ?_
  rw [Bool.eq_iff_iff, List.contains_iff_mem, mem_lanesOf, and_iff_right (List.mem_range.1 hl)]

/-- With no active lane a vector result changes nothing. -/
theorem ResultV.of_none {s : State} {g : BitVec 4} {w : Width} {d : BitVec 5} {f : Nat → Nat} {n : Nat} {o : Out} (h : s.lanesOf g w = [])
    (ho : o = .next s) : ResultV g w d f n s o := by
  have off (l : Nat) (hl : l < Width.lanes w) : ¬active w (s.rdP g) l = true := fun ha => by
    have := mem_lanesOf.2 ⟨hl, ha⟩
    rw [h] at this
    exact List.not_mem_nil this
  exact ⟨s, ho, fun l hl => by rw [if_neg (off l hl)], fun ⟨l, hl, ha⟩ => absurd ha (off l hl), OnlyV.refl d s⟩

/-- A vector result holds the values of its active lanes alone. -/
theorem ResultV.of_lanes {s : State} {g : BitVec 4} {w : Width} {d : BitVec 5} {f h : Nat → Nat} {n : Nat} {o : Out}
    (hf : ∀ l ∈ s.lanesOf g w, f l % 2 ^ Width.bits w = h l % 2 ^ Width.bits w) (ho : ResultV g w d f n s o) : ResultV g w d h n s o := by
  obtain ⟨t, e, lanes, rest⟩ := ho
  refine ⟨t, e, fun l hl => ?_, rest⟩
  rw [lanes l hl]
  split
  · exact hf l (mem_lanesOf.2 ⟨hl, ‹_›⟩)
  · rfl

/-! ### Translation while lines are prepared -/

/-- The state with another content of the L1. -/
def State.withL1 (s : State) (ls : List L1Line) : State := s.modCore fun c => { c with l1 := ls }

theorem State.walkFrom_withL1 (s : State) (ls : List L1Line) (levels : List Nat) (table va : Nat) :
    (s.withL1 ls).walkFrom levels table va = s.walkFrom levels table va := by
  induction levels generalizing table with
  | nil => rfl
  | cons sh r ih =>
    simp only [State.walkFrom, ih]
    rfl

theorem State.xlate_withL1 (s : State) (ls : List L1Line) (win : Option Nat) (asid : Nat) (va : VAddr) (need : Need) :
    (s.withL1 ls).xlate win asid va need = s.xlate win asid va need := by
  have walk (va : VAddr) : (s.withL1 ls).walk asid va = s.walk asid va := by
    simp only [State.walk, State.walkFrom_withL1]
    rfl
  have walkRun : (s.withL1 ls).walkRun asid va = s.walkRun asid va := by
    simp only [State.walkRun, walk]
    rfl
  have pageOf : (s.withL1 ls).pageOf asid va = s.pageOf asid va := by
    simp only [State.pageOf, walkRun]
    rfl
  simp only [State.xlate, pageOf]
  rfl

/-- Lines are prepared in the L1, and nothing else changes. -/
theorem State.partLines_eq (s : State) (e : Nat) (addr : Nat → Word) (on : List Nat) : ∃ ls, s.partLines e addr on = s.withL1 ls := by
  unfold State.partLines
  split
  · exact ⟨s.core.l1, rfl⟩
  · exact ⟨_, rfl⟩

/-- An element of a vector access is aligned and lies in the own window, at a place of memory. -/
def OwnElem (s : State) (al : Nat) (addr : Nat → Word) (need : Need) (loc : Nat → Loc) (l : Nat) : Prop :=
  (addr l).toNat % al = 0 ∧ s.xlate (some s.cur) s.core.t.id.asid (vaOf (addr l)) need = .ok (loc l) ∧ s.ownWindow (vaOf (addr l)) = true

/-- Of elements in the own window no line is prepared. -/
theorem State.partLines_own {s : State} {e : Nat} {addr : Nat → Word} {on : List Nat} {al : Nat} {loc : Nat → Loc}
    (h : ∀ l ∈ on, OwnElem s al addr needR loc l) : s.partLines e addr on = s := by
  unfold State.partLines
  split
  · rfl
  · next hne =>
    refine absurd (List.filterMap_eq_nil_iff.2 fun l hl => ?_) hne
    obtain ⟨-, hx, hown⟩ := h l hl
    simp only [hx, hown, if_true]

end Sys2Proof.Machine
end

section
/-! PROOF. O30: the vector loads (R114, R128, R129). -/

namespace Sys2Proof.Machine

/-! ### Elements loaded from the own window -/

theorem State.load_own {s : State} {l : Loc} {va : VAddr} {n : Nat} (hx : s.xlate (some s.cur) s.core.t.id.asid va needR = .ok l)
    (hown : s.ownWindow va = true) (hp : s.mem.poisoned l.pa n = false) (f p : BitVec 3) (el : BitVec 16) :
    s.load va n f p el = .ok { bytes := s.mem.bytes l.key l.pa n, far := false, parts := [], state := s } := by
  simp only [State.load, hx, hown, hp, if_true, Bool.false_eq_true, if_false]

/-- An element of a load in the own window is not poisoned either. -/
def OwnLoadElem (s : State) (n al : Nat) (addr : Nat → Word) (loc : Nat → Loc) (l : Nat) : Prop :=
  OwnElem s al addr needR loc l ∧ s.mem.poisoned (loc l).pa n = false

section
variable {s : State} {n al : Nat} {addr : Nat → Word} {loc : Nat → Loc}

/-- The first element of a load is fine: the others decide. -/
theorem State.loadElems_cons_own {i : Nat} (h : OwnLoadElem s n al addr loc i) (r : List Nat) :
    s.loadElems n al addr (i :: r) = (s.loadElems n al addr r).map fun q =>
      { q with elems := (i, s.mem.bytes (loc i).key (loc i).pa n) :: q.elems } := by
  obtain ⟨⟨hal, hx, hown⟩, hp⟩ := h
  simp only [State.loadElems, hal, State.load_own hx hown hp, ne_eq, not_true_eq_false, if_false, if_true, List.map_nil, List.nil_append, Bool.false_or]
  cases s.loadElems n al addr r with
  | ok q => rfl
  | error x => cases x <;> rfl

theorem State.loadElems_own (on : List Nat) (h : ∀ l ∈ on, OwnLoadElem s n al addr loc l) :
    s.loadElems n al addr on =
      .ok { state := s, elems := on.map fun i => (i, s.mem.bytes (loc i).key (loc i).pa n), far := false, parts := [] } := by
  induction on with
  | nil => rfl
  | cons i r ih =>
    rw [State.loadElems_cons_own (h i List.mem_cons_self), ih fun l hl => h l (List.mem_cons_of_mem i hl)]
    rfl

theorem State.loadVec_own {on : List Nat} (h : ∀ l ∈ on, OwnLoadElem s n al addr loc l) :
    s.loadVec n al addr on =
      .ok { state := s, elems := on.map fun i => (i, s.mem.bytes (loc i).key (loc i).pa n), far := false, parts := [] } := by
  rw [State.loadVec, State.partLines_own fun l hl => (h l hl).1, State.loadElems_own on h]

end

theorem OwnRead.elem {s : State} {addr : Nat → Word} {n : Nat} {loc : Nat → Loc} {l : Nat} (h : OwnRead s (addr l) n (loc l)) :
    OwnLoadElem s n n addr loc l := by
  obtain ⟨hal, hx, hown, hp⟩ := h
  exact ⟨⟨hal, hx, hown⟩, hp⟩

/-! ### The loads -/

theorem State.activeLanes_eq (s : State) (g : BitVec 4) (w : Width) : activeLanes w (s.rdP g) = s.lanesOf g w := rfl

/-- A load of the active elements into a register (R114, R128). -/
theorem State.vload_result {i : Instr} {s : State} {g : BitVec 4} {w : Width} {d : BitVec 5} {addr : Nat → Word}
    (hexec : exec i s = s.vload g w d addr) : VecLoad i g w d addr s := by
  intro loc hread
  by_cases hon : s.lanesOf g w = []
  · exact .of_none hon (hexec.trans (if_pos (by rw [State.activeLanes_eq, hon]; rfl)))
  · have loaded := State.loadVec_own fun l hl => (hread l hl).elem
    have on : ¬(s.lanesOf g w).isEmpty = true := by simpa using hon
    rw [hexec, State.vload]
    simp only [State.activeLanes_eq, if_neg on, loaded, Bool.false_eq_true, if_false]
    rw [elemsMask_lanesOf]
    refine (s.putV_result g w d _ 6).of_lanes fun l hl => congrArg (· % _) ?_
    rw [lane_elemsNat (fun i => by rw [Mem.bytes_eq_map, List.length_map, List.length_range]) (lanesOf_ascending s g w) hl (mem_lanesOf.1 hl).1,
      State.leNat_bytes]

/-- One element loaded into every active lane (R128). -/
theorem State.vldb_result (s : State) (g : BitVec 4) (w : Width) (d a : BitVec 5) (o : Option (BitVec 5)) :
    VecLoad (.vldb g w d a o) g w d (fun _ => s.baseOff a o) s := by
  intro loc hread
  have hexec : exec (.vldb g w d a o) s = execVldb g w d a o s := rfl
  cases hon : s.lanesOf g w with
  | nil =>
    refine .of_none hon (hexec.trans ?_)
    rw [execVldb, State.activeLanes_eq, hon]
  | cons i r =>
    have loaded := State.loadVec_own (on := [i]) fun l hl => (hread l (hon ▸ List.mem_cons.2 (.inl (List.mem_singleton.1 hl)))).elem
    have same : ∀ l ∈ s.lanesOf g w, loc l = loc i := fun l hl => by
      obtain ⟨-, hx, -⟩ := hread l hl
      obtain ⟨-, hi, -⟩ := hread i (hon ▸ List.mem_cons_self)
      exact Xl.ok.inj (hx.symm.trans hi)
    rw [hexec, execVldb]
    simp only [State.activeLanes_eq, hon, loaded, Bool.false_eq_true, if_false]
    rw [← hon, elemsMask_lanesOf]
    refine (s.putV_result g w d _ 6).of_lanes fun l hl => ?_
    rw [lane_vecOf _ _ _ (Width.lane_end w l (mem_lanesOf.1 hl).1), List.getElem?_replicate, if_pos (mem_lanesOf.1 hl).1, Option.getD_some, Nat.mod_mod,
      same l hl]
    simp [State.leNat_bytes]

/-- Writing a predicate with any latency. -/
theorem State.setP_only (s : State) {p : BitVec 4} (hp : p ≠ 0) (v : Pred) (n : Nat) :
    OnlyP p s (s.setP p v n) ∧ (s.setP p v n).pNow p = v ∧ fileGet (s.setP p v n).core.t.sb.landP p = s.core.t.sb.cyc + n := by
  have hp' : ¬p = 0#4 := hp
  refine ⟨⟨by simp [State.setP, hp', State.modT], by simp [State.setP, hp'], fun r hr => ⟨?_, ?_⟩, SameMemory.of_mem (by simp)⟩, ?_, ?_⟩
  · rw [State.pNow_setP, if_neg hr]
    split
    · subst_vars; rfl
    · rfl
  · simp [State.setP, hp', fileGet_filePut_ne _ _ _ _ hr]
  · rw [State.pNow_setP, if_neg hp, if_pos rfl]
  · simp [State.setP, hp']

/-- A predicate loaded under lane 0 of its guard (R128). -/
theorem State.vldp_result {s : State} {g p : BitVec 4} {a : BitVec 5} {o : Option (BitVec 5)} {loc : Loc} (hp : p ≠ 0)
    (hread : OwnRead s (s.baseOff a o) 32 loc) :
    if s.guard g then Answers (exec (.vldp g p a o) s) fun t => OnlyP p s t ∧ t.pNow p = BitVec.ofNat 256 (s.little loc.key loc.pa 32) ∧
      fileGet t.core.t.sb.landP p = s.core.t.sb.cyc + 6
    else exec (.vldp g p a o) s = .next s := by
  have hexec : exec (.vldp g p a o) s = execVldp g p a o s := rfl
  rw [hexec, execVldp]
  split
  · next hg =>
    have loaded := State.loadVec_own (loc := fun _ => loc) (addr := fun _ => s.baseOff a o) (on := [0]) fun _ _ => hread.elem
    refine ⟨_, State.when_on s g _ hg, ?_⟩
    simp only [loaded, Bool.false_eq_true, if_false]
    have hval : elemsNat 32 ([0].map fun i => (i, s.mem.bytes loc.key loc.pa 32)) = s.little loc.key loc.pa 32 := by
      simp [elemsNat, State.leNat_bytes]
    rw [hval]
    exact s.setP_only hp _ 6
  · next hg => exact State.when_off s g _ (by simpa using hg)

end Sys2Proof.Machine
end

section
/-! PROOF. O30: the vector stores to the local window (R114, R128 to R131). -/

namespace Sys2Proof.Machine

/-! ### Writes that take effect together, in the scratchpads -/

/-- A byte of the scratchpads reads alike under every key slot. -/
theorem Mem.byte_slot (m : Mem) (slot slot' : Nat) {a : Nat} (h : spBase ≤ a) : m.byte slot a = m.byte slot' a := by
  have ring : ¬a < ringBase := by unfold ringBase; unfold spBase at h; omega
  simp only [Mem.byte, Mem.keyAt, if_neg ring, if_neg (not_lt.2 h)]

/-- Another byte is untouched by a write to the scratchpads, whatever its slot. -/
theorem Untouched.of_scratchpad {slot slot' a pa n : Nat} (hpa : spBase ≤ pa) (h : ¬(pa ≤ a ∧ a < pa + n)) : Untouched slot slot' a pa n := by
  by_cases ha : spBase ≤ a
  · intro x lo hi m v
    rw [Mem.byte_slot _ slot' slot ha, Untouched.of_outside h x lo hi m v, Mem.byte_slot _ slot slot' ha]
  · refine .of_line fun k _ => ?_
    unfold spBase at *
    omega

theorem Mem.byte_putBut_of_untouched {bad : List Nat} {slot slot' b pa : Nat} {bs : List Byte} (h : Untouched slot slot' b pa bs.length) (m : Mem) :
    (m.putBut bad slot pa bs).byte slot' b = m.byte slot' b := by
  induction bs generalizing m pa with
  | nil => rfl
  | cons c r ih =>
    rw [Mem.putBut]
    split
    · exact ih h.tail _
    · exact (ih h.tail _).trans (h pa le_rfl (by simp) m c)

theorem Mem.byte_foldl_of_untouched {put : Mem → Nat × List Byte → Mem} {slot b : Nat} (ws : List (Nat × List Byte))
    (h : ∀ q ∈ ws, ∀ m, (put m q).byte slot b = m.byte slot b) (m : Mem) : (ws.foldl put m).byte slot b = m.byte slot b := by
  induction ws generalizing m with
  | nil => rfl
  | cons q r ih =>
    rw [List.foldl_cons, ih (fun p hp => h p (List.mem_cons_of_mem q hp)), h q List.mem_cons_self]

theorem Mem.byte_storeAll_of_untouched {slot slot' b : Nat} {ws : List (Nat × List Byte)} (h : ∀ q ∈ ws, Untouched slot slot' b q.1 q.2.length)
    (m : Mem) : (m.storeAll slot ws).byte slot' b = m.byte slot' b :=
  Mem.byte_foldl_of_untouched ws (fun q hq m => Mem.byte_putBut_of_untouched (h q hq) m) m

/-- Where no word is poisoned, every byte of a write is put. -/
theorem Mem.putBut_nil (m : Mem) (slot pa : Nat) (bs : List Byte) : m.putBut [] slot pa bs = m.putBytes slot pa bs := by
  induction bs generalizing m pa with
  | nil => rfl
  | cons b r ih => exact ih _ _

/-- Of writes to memory without poison, a byte reads as the last one that holds it. -/
theorem Mem.byte_storeAll_of_clean {m : Mem} (hm : m.poison = []) (slot b : Nat) (pre post : List (Nat × List Byte)) (q : Nat × List Byte)
    (hq : q.1 ≤ b ∧ b < q.1 + q.2.length) (hpost : ∀ p ∈ post, ¬(p.1 ≤ b ∧ b < p.1 + p.2.length)) :
    (m.storeAll slot (pre ++ q :: post)).byte slot b = q.2.getD (b - q.1) 0 := by
  have all : (m.storeAll slot (pre ++ q :: post)).byte slot b =
      ((pre ++ q :: post).foldl (fun m r => m.putBytes slot r.1 r.2) m).byte slot b := by
    simp only [Mem.storeAll, hm, List.filter_nil, Mem.putBut_nil]
    rfl
  rw [all, List.foldl_append, List.foldl_cons,
    Mem.byte_foldl_of_untouched post fun p hp m => Mem.byte_putBytes_of_untouched (.of_outside (hpost p hp)) m, Mem.byte_putBytes, if_pos hq]

/-! ### The store under way -/

/-- Records of discarded writes touch nothing else. -/
theorem forEach_poisonedWrite (parts : List OwnWrite) (s : State) :
    ∃ recs, forEach parts (fun w s => s.poisonedWrite w.va w.loc.pa) s = { s with xlat := { s.xlat with records := recs } } ∧
      (parts = [] → recs = s.xlat.records) := by
  induction parts generalizing s with
  | nil => exact ⟨s.xlat.records, rfl, fun _ => rfl⟩
  | cons p r ih =>
    obtain ⟨recs, e, -⟩ := ih (s.poisonedWrite p.va p.loc.pa)
    exact ⟨recs, e, fun h => absurd h (List.cons_ne_nil p r)⟩

/-- The scratchpad bytes of a store are written together, and nothing but records comes of it. -/
theorem State.storeOwn_eq (s : State) (own : List OwnWrite) :
    ∃ recs, s.storeOwn own = { s with
      mem := s.mem.storeAll ((own.head?.map fun w => w.loc.key).getD 0) (own.map fun w => (w.loc.pa, w.bytes))
      xlat := { s.xlat with records := recs } } ∧ (s.mem.poison = [] → recs = s.xlat.records) := by
  unfold State.storeOwn
  obtain ⟨recs, e, hrecs⟩ := forEach_poisonedWrite
    (((own.filter fun w => s.mem.discards (own.map fun w => (w.loc.pa, w.bytes)) w.loc.pa w.bytes.length)).foldl
      (fun (acc : List OwnWrite) w => if acc.any fun q => decide (q.loc.pa / 16 = w.loc.pa / 16) then acc else acc ++ [w]) [])
    { s with mem := s.mem.storeAll ((own.head?.map fun w => w.loc.key).getD 0) (own.map fun w => (w.loc.pa, w.bytes)) }
  refine ⟨recs, e, fun hp => hrecs ?_⟩
  have kept (w : OwnWrite) : s.mem.discards (own.map fun w => (w.loc.pa, w.bytes)) w.loc.pa w.bytes.length = false := by
    rw [Mem.discards, hp]; rfl
  simp only [kept, List.filter_false]
  rfl

section
variable {s : State} {al : Nat} {addr : Nat → Word} {val : Nat → List Byte} {loc : Nat → Loc}

/-- Elements in the own window join the bytes of the store under way. -/
theorem State.storeElems_own_append (pre tail : List Nat) (own : List OwnWrite) (h : ∀ l ∈ pre, OwnElem s al addr needW loc l) :
    s.storeElems own al addr val (pre ++ tail) =
      s.storeElems (own ++ pre.map fun i => { va := vaOf (addr i), loc := loc i, bytes := val i }) al addr val tail := by
  induction pre generalizing own with
  | nil => rw [List.map_nil, List.append_nil, List.nil_append]
  | cons i r ih =>
    obtain ⟨hal, hx, hown⟩ := h i List.mem_cons_self
    rw [List.cons_append, State.storeElems]
    simp only [hal, State.storeInto, hx, hown, ne_eq, not_true_eq_false, if_false, if_true]
    rw [ih _ fun l hl => h l (List.mem_cons_of_mem i hl), List.map_cons, List.append_assoc]
    rfl

end

/-- An aligned element in the local window. -/
theorem OwnElem.of_window {s : State} {al : Nat} {addr : Nat → Word} {off : Nat → Nat} {l : Nat} (hal : (addr l).toNat % al = 0)
    (hplace : placeOf (vaOf (addr l)) = .window (off l)) (need : Need) : OwnElem s al addr need (fun l => s.windowLoc (off l)) l := by
  refine ⟨hal, ?_, ?_⟩
  · simp only [State.xlate, hplace]; rfl
  · simp only [State.ownWindow, hplace]

/-- Elements stored to the local window (R128). -/
theorem State.storeElems_window (s : State) {e al : Nat} {addr : Nat → Word} {off : Nat → Nat} (val : Nat → Nat) {on : List Nat}
    (hon : on.Pairwise (· < ·)) (h : ∀ l ∈ on, (addr l).toNat % al = 0 ∧ placeOf (vaOf (addr l)) = .window (off l)) :
    ∃ u, s.storeElems [] al addr (fun l => leBytes e (val l)) on = .ok u ∧ ElemsStored s on e off val u := by
  have own : ∀ l ∈ on, OwnElem s al addr needW (fun l => s.windowLoc (off l)) l := fun l hl => .of_window (h l hl).1 (h l hl).2 needW
  have stored := State.storeElems_own_append (val := fun l => leBytes e (val l)) on [] [] own
  rw [List.append_nil, List.nil_append] at stored
  obtain ⟨recs, eu, hrecs⟩ := s.storeOwn_eq (on.map fun i => { va := vaOf (addr i), loc := s.windowLoc (off i), bytes := leBytes e (val i) })
  have key : ((on.map fun i => ({ va := vaOf (addr i), loc := s.windowLoc (off i), bytes := leBytes e (val i) } : OwnWrite)).head?.map
      fun w => w.loc.key).getD 0 = 0 := by cases on <;> rfl
  rw [key, List.map_map] at eu
  refine ⟨_, stored.trans rfl, ?_⟩
  rw [eu]
  refine ⟨rfl, fun slot a ha => ?_, fun hp => ⟨hrecs hp, fun l hl k hk last => ?_⟩⟩
  · refine Mem.byte_storeAll_of_untouched (fun q hq => ?_) s.mem
    obtain ⟨i, hi, rfl⟩ := List.mem_map.1 hq
    refine .of_scratchpad (by simp only [Function.comp, State.windowLoc, spAddr]; omega) ?_
    simpa [State.windowLoc] using ha i hi
  · obtain ⟨pre, post, rfl⟩ := List.append_of_mem hl
    have later : ∀ j ∈ post, l < j := (List.pairwise_cons.1 (List.pairwise_append.1 hon).2.1).1
    rw [List.map_append, List.map_cons]
    refine (Mem.byte_storeAll_of_clean hp 0 _ _ _ _ ?_ fun q hq => ?_).trans ?_
    · simp only [Function.comp, State.windowLoc, length_leBytes]; omega
    · obtain ⟨j, hj, rfl⟩ := List.mem_map.1 hq
      have := last j (by simp [hj]) (later j hj)
      simp only [Function.comp, State.windowLoc, length_leBytes, spAddr]
      omega
    · simp only [Function.comp, State.windowLoc, Nat.add_sub_cancel_left]
      exact getD_leBytes hk (val l)

/-! ### The stores -/

/-- A store of the active elements of a register (R128). -/
theorem State.vstore_result {i : Instr} {s : State} {g : BitVec 4} {w : Width} {d : BitVec 5} {addr : Nat → Word}
    (hexec : exec i s = s.vstore g w d addr) : VecStore i g w addr (fun l => lane (8 * Width.bytes w) (s.rdV d) l) s := by
  intro off h
  obtain ⟨u, stored, hu⟩ := s.storeElems_window (e := Width.bytes w) (fun l => lane (8 * Width.bytes w) (s.rdV d) l) (lanesOf_ascending s g w) h
  refine ⟨u, ?_, hu⟩
  rw [hexec, State.vstore]
  simp only [State.activeLanes_eq, Width.bits_eq, stored]

/-- A predicate stored under lane 0 of its guard (R128). -/
theorem State.vstp_result {s : State} {g p : BitVec 4} {a : BitVec 5} {o : Option (BitVec 5)} {off : Nat} (hal : (s.baseOff a o).toNat % 32 = 0)
    (hplace : placeOf (vaOf (s.baseOff a o)) = .window off) :
    if s.guard g then Answers (exec (.vstp g p a o) s) (ElemsStored s [0] 32 (fun _ => off) fun _ => (s.rdP p).toNat)
    else exec (.vstp g p a o) s = .next s := by
  have hexec : exec (.vstp g p a o) s = execVstp g p a o s := rfl
  rw [hexec, execVstp]
  split
  · next hg =>
    obtain ⟨u, stored, hu⟩ := s.storeElems_window (e := 32) (al := 32) (addr := fun _ => s.baseOff a o) (off := fun _ => off)
      (fun _ => (s.rdP p).toNat) (List.pairwise_singleton _ 0) fun _ _ => ⟨hal, hplace⟩
    refine ⟨u, ?_, hu⟩
    rw [State.when_on s g _ hg]
    simp only [stored]
  · next hg => exact State.when_off s g _ (by simpa using hg)

end Sys2Proof.Machine
end

section
/-! PROOF. O30: the faults of vector accesses, and the settling of the statement (R129, R130). -/

namespace Sys2Proof.Machine

/-! ### The first element that is not fine -/

/-- How an element is not fine, and the fault it raises (R130). -/
inductive ElemBad (s : State) (n al : Nat) (addr : Nat → Word) (wr : Bool) (l : Nat) : Exc → Prop
  | misaligned (hal : (addr l).toNat % al ≠ 0) : ElemBad s n al addr wr l (s.elemExc .misaligned l (addr l) wr)
  | walk (hal : (addr l).toNat % al = 0) {r : Xl × Cause × Option Status} (hr : r ∈ xlFailures)
      (hx : s.xlate (some s.cur) s.core.t.id.asid (vaOf (addr l)) (if wr then needW else needR) = r.1) :
      ElemBad s n al addr wr l (s.xlExc r.1 1 (vaOf (addr l)) (BitVec.ofNat 16 l) wr)
  | poison (hal : (addr l).toNat % al = 0) {loc : Loc} (hwr : wr = false)
      (hx : s.xlate (some s.cur) s.core.t.id.asid (vaOf (addr l)) needR = .ok loc) (hown : s.ownWindow (vaOf (addr l)) = true)
      (hp : s.mem.poisoned loc.pa n = true) : ElemBad s n al addr wr l (s.accExc .poison 0 (vaOf (addr l)) (BitVec.ofNat 16 l) wr none)

/-- An access raises the fault of its first bad element, where those below it are fine. -/
theorem VecFaults.of_bad {i : Instr} {on : List Nat} {n al : Nat} {addr : Nat → Word} {wr : Bool} {s : State}
    (h : ∀ (pre rest : List Nat) (l : Nat) (x : Exc) (loc : Nat → Loc), on = pre ++ l :: rest →
      (∀ j ∈ pre, OwnElem s al addr (if wr then needW else needR) loc j ∧ (wr = false → s.mem.poisoned (loc j).pa n = false)) →
      ElemBad s n al addr wr l x → Traps x s (exec i s)) : VecFaults i on n al addr wr s := by
  intro k l hl below
  have split : on = on.take k ++ l :: on.drop (k + 1) := by
    obtain ⟨hk, e⟩ := List.getElem?_eq_some_iff.1 hl
    rw [← e, List.getElem_cons_drop, List.take_append_drop]
  have : ∀ j, ∃ loc, j ∈ on.take k → (addr j).toNat % al = 0 ∧
      s.xlate (some s.cur) s.core.t.id.asid (vaOf (addr j)) (if wr then needW else needR) = .ok loc ∧
      s.ownWindow (vaOf (addr j)) = true ∧ (wr = false → s.mem.poisoned loc.pa n = false) := fun j => by
    by_cases hj : j ∈ on.take k
    · obtain ⟨hal, loc, rest⟩ := below j hj
      exact ⟨loc, fun _ => ⟨hal, rest⟩⟩
    · exact ⟨s.windowLoc 0, fun hj' => absurd hj' hj⟩
  choose loc hloc using this
  have raises (x : Exc) (bad : ElemBad s n al addr wr l x) : Traps x s (exec i s) := h _ _ l x loc split (fun j hj => by
    obtain ⟨hal, hx, hown, hp⟩ := hloc j hj
    exact ⟨⟨hal, hx, hown⟩, hp⟩) bad
  refine ⟨fun hal => raises _ (.misaligned hal), fun hal => ⟨fun r hr hx => ?_, fun loc hwr hx hown hp => ?_⟩⟩
  · have := raises _ (.walk hal hr hx)
    rwa [State.xlExc_eq s hr] at this
  · subst hwr
    exact raises _ (.poison hal rfl hx hown hp)

/-! ### Loads -/

theorem ElemBad.withL1 {s : State} {n al : Nat} {addr : Nat → Word} {wr : Bool} {l : Nat} {x : Exc} (h : ElemBad s n al addr wr l x)
    (ls : List L1Line) :
    ElemBad (s.withL1 ls) n al addr wr l x := by
  cases h with
  | misaligned hal => exact .misaligned (s := s.withL1 ls) hal
  | walk hal hr hx =>
    have := ElemBad.walk (s := s.withL1 ls) (n := n) hal hr ((s.xlate_withL1 ls _ _ _ _).trans hx)
    rwa [State.xlExc_eq _ hr] at this ⊢
  | poison hal hwr hx hown hp => exact .poison (s := s.withL1 ls) hal hwr ((s.xlate_withL1 ls _ _ _ _).trans hx) hown hp

theorem OwnLoadElem.withL1 {s : State} {n al : Nat} {addr : Nat → Word} {loc : Nat → Loc} {l : Nat} (h : OwnLoadElem s n al addr loc l)
    (ls : List L1Line) : OwnLoadElem (s.withL1 ls) n al addr loc l := by
  obtain ⟨⟨hal, hx, hown⟩, hp⟩ := h
  exact ⟨⟨hal, (s.xlate_withL1 ls _ _ _ _).trans hx, hown⟩, hp⟩

section
variable {s : State} {n al : Nat} {addr : Nat → Word} {l : Nat} {x : Exc}

theorem State.loadElems_bad (h : ElemBad s n al addr false l x) (rest : List Nat) : s.loadElems n al addr (l :: rest) = .error (.exc x) := by
  rw [State.loadElems]
  cases h with
  | misaligned hal => rw [if_pos hal]
  | walk hal hr hx => simp only [hal, State.load_of_xl (ne_ok_of_mem_xlFailures hr) hx, ne_eq, not_true_eq_false, if_false]
  | poison hal _ hx hown hp => simp only [hal, State.load_poisoned_own hx hown hp, ne_eq, not_true_eq_false, if_false]

theorem State.loadElems_first_bad {loc : Nat → Loc} (h : ElemBad s n al addr false l x) (rest pre : List Nat)
    (below : ∀ j ∈ pre, OwnLoadElem s n al addr loc j) : s.loadElems n al addr (pre ++ l :: rest) = .error (.exc x) := by
  induction pre with
  | nil => exact State.loadElems_bad h rest
  | cons j r ih =>
    rw [List.cons_append, State.loadElems_cons_own (below j List.mem_cons_self), ih fun q hq => below q (List.mem_cons_of_mem j hq)]
    rfl

theorem State.loadVec_first_bad {loc : Nat → Loc} (h : ElemBad s n al addr false l x) (rest pre : List Nat)
    (below : ∀ j ∈ pre, OwnLoadElem s n al addr loc j) : s.loadVec n al addr (pre ++ l :: rest) = .error (.exc x) := by
  obtain ⟨ls, e⟩ := s.partLines_eq n addr (pre ++ l :: rest)
  rw [State.loadVec, e]
  exact State.loadElems_first_bad (h.withL1 ls) rest pre fun j hj => (below j hj).withL1 ls

end

/-- An instruction that loads some elements raises the fault of the first bad one. -/
theorem VecFaults.of_loadVec {i : Instr} {on : List Nat} {n al : Nat} {addr : Nat → Word} {s : State}
    (h : ∀ x, on ≠ [] → s.loadVec n al addr on = .error (.exc x) → Traps x s (exec i s)) : VecFaults i on n al addr false s := by
  refine .of_bad fun pre rest l x loc hon below bad => h x (by simp [hon]) ?_
  rw [hon]
  exact State.loadVec_first_bad bad rest pre fun j hj => ⟨(below j hj).1, (below j hj).2 rfl⟩

theorem State.vload_faults {i : Instr} {s : State} {g : BitVec 4} {w : Width} {d : BitVec 5} {addr : Nat → Word}
    (hexec : exec i s = s.vload g w d addr) : VecFaults i (s.lanesOf g w) (Width.bytes w) (Width.bytes w) addr false s := by
  refine .of_loadVec fun x hon hx => ?_
  have on : ¬(s.lanesOf g w).isEmpty = true := by simpa using hon
  rw [hexec, State.vload]
  simp only [State.activeLanes_eq, if_neg on, hx]
  rfl

theorem State.vldb_faults (s : State) (g : BitVec 4) (w : Width) (d a : BitVec 5) (o : Option (BitVec 5)) :
    VecFaults (.vldb g w d a o) ((s.lanesOf g w).take 1) (Width.bytes w) (Width.bytes w) (fun _ => s.baseOff a o) false s := by
  have hexec : exec (.vldb g w d a o) s = execVldb g w d a o s := rfl
  refine .of_loadVec fun x hon hx => ?_
  cases lanes : s.lanesOf g w with
  | nil => simp [lanes] at hon
  | cons i r =>
    rw [lanes, List.take_succ_cons, List.take_zero] at hx
    rw [hexec, execVldb]
    simp only [State.activeLanes_eq, lanes, hx]
    rfl

theorem State.vldp_faults {s : State} {g : BitVec 4} (hg : s.guard g = true) (p : BitVec 4) (a : BitVec 5) (o : Option (BitVec 5)) :
    VecFaults (.vldp g p a o) [0] 32 32 (fun _ => s.baseOff a o) false s := by
  have hexec : exec (.vldp g p a o) s = execVldp g p a o s := rfl
  refine .of_loadVec fun x _ hx => ?_
  rw [hexec, execVldp, State.when_on s g _ hg]
  simp only [hx]
  rfl

/-! ### Stores -/

theorem State.storeElems_bad {s : State} {n al : Nat} {addr : Nat → Word} {l : Nat} {x : Exc} (h : ElemBad s n al addr true l x)
    (own : List OwnWrite) (val : Nat → List Byte) (rest : List Nat) : s.storeElems own al addr val (l :: rest) = .error (.exc x) := by
  rw [State.storeElems]
  cases h with
  | misaligned hal => rw [if_pos hal]
  | walk hal hr hx =>
    have hx : s.xlate (some s.cur) s.core.t.id.asid (vaOf (addr l)) needW = _ := hx
    simp only [xlFailures, List.mem_cons, List.not_mem_nil, or_false] at hr
    obtain rfl | rfl | rfl | rfl := hr <;> simp only [hal, State.storeInto, hx, ne_eq, not_true_eq_false, if_false]
  | poison _ hwr => exact absurd hwr (by decide)

/-- An instruction that stores some elements raises the fault of the first bad one. -/
theorem VecFaults.of_storeElems {i : Instr} {on : List Nat} {n al : Nat} {addr : Nat → Word} {s : State} (val : Nat → List Byte)
    (h : ∀ x, s.storeElems [] al addr val on = .error (.exc x) → Traps x s (exec i s)) : VecFaults i on n al addr true s := by
  refine .of_bad fun pre rest l x loc hon below bad => h x ?_
  rw [hon, State.storeElems_own_append (loc := loc) pre (l :: rest) [] fun j hj => (below j hj).1]
  exact State.storeElems_bad bad _ val rest

theorem State.vstore_faults {i : Instr} {s : State} {g : BitVec 4} {w : Width} {d : BitVec 5} {addr : Nat → Word}
    (hexec : exec i s = s.vstore g w d addr) : VecFaults i (s.lanesOf g w) (Width.bytes w) (Width.bytes w) addr true s := by
  refine .of_storeElems (fun i => leBytes (Width.bytes w) (lane (Width.bits w) (s.rdV d) i)) fun x hx => ?_
  rw [hexec, State.vstore]
  simp only [State.activeLanes_eq, hx]
  rfl

theorem State.vstp_faults {s : State} {g : BitVec 4} (hg : s.guard g = true) (p : BitVec 4) (a : BitVec 5) (o : Option (BitVec 5)) :
    VecFaults (.vstp g p a o) [0] 32 32 (fun _ => s.baseOff a o) true s := by
  have hexec : exec (.vstp g p a o) s = execVstp g p a o s := rfl
  refine .of_storeElems (fun _ => leBytes 32 (s.rdP p).toNat) fun x hx => ?_
  rw [hexec, execVstp, State.when_on s g _ hg]
  simp only [hx]
  rfl

/-! ### Tiles (R129) -/

theorem tileParamBad_iff (p : Word) : tileParamBad p = false ↔
    p.toNat < 2 ^ 42 ∧ bitsOf p.toNat 34 32 ≤ 5 ∧ 1 ≤ bitsOf p.toNat 41 36 ∧ bitsOf p.toNat 41 36 ≤ 32 := by
  have hpar : paramBad p 42 = false ↔ p.toNat < 2 ^ 42 := by rw [← Bool.not_eq_true, paramBad_iff, not_le]
  simp only [tileParamBad, Bool.or_eq_false_iff, decide_eq_false_iff_not, hpar, and_assoc]
  omega

theorem State.tileShapeBad_iff (s : State) (base p : Word) (w : Width) :
    let col := bitsOf p.toNat 31 16; let lines := 2 ^ bitsOf p.toNat 34 32; let rl := bitsOf p.toNat 41 36; let column := p.getLsbD 35
    s.tileShapeBad base p w = false ↔
      rl ≤ lines ∧ (column = false → (col + Width.lanes w) * Width.bytes w ≤ 64 * rl) ∧
        (column = true → rl = lines ∧ col * Width.bytes w < 64 * rl) ∧ base.toNat % 64 = 0 ∧
        ∀ l < Width.lanes w, s.ownWindow (vaOf (tileAddr base p (Width.bytes w) l)) = true := by
  intro col lines rl column
  have dir : (if column then decide (rl ≠ lines) || decide (col * Width.bytes w ≥ 64 * rl)
      else decide ((col + Width.lanes w) * Width.bytes w > 64 * rl)) = false ↔
      (column = false → (col + Width.lanes w) * Width.bytes w ≤ 64 * rl) ∧ (column = true → rl = lines ∧ col * Width.bytes w < 64 * rl) := by
    cases column <;> simp
  have windows : ((List.range (Width.lanes w)).any fun i => !(s.ownWindow (vaOf (tileAddr base p (Width.bytes w) i)))) = false ↔
      ∀ l < Width.lanes w, s.ownWindow (vaOf (tileAddr base p (Width.bytes w) l)) = true := by
    simp
  rw [State.tileShapeBad]
  simp only [Bool.or_eq_false_iff]
  rw [dir, windows]
  simp only [decide_eq_false_iff_not, gt_iff_lt, not_lt, ne_eq, not_not, and_assoc]
  exact Iff.rfl

theorem State.tile_param {s : State} {p : Word} (h : tileParamBad p = true) (w : Width) (base : Word) (f : State → Out) :
    s.tile w base p f = .next (s.raise (s.slotExc .illegalOperand 2 0)) := if_pos h

theorem State.tile_shape {s : State} {w : Width} {base p : Word} (hp : tileParamBad p = false) (h : s.tileShapeBad base p w = true) (f : State → Out) :
    s.tile w base p f = .next (s.raise (s.slotExc .operandFormat 1 (vaOf base))) := by
  rw [State.tile, hp, if_neg Bool.false_ne_true, h, if_pos rfl]
  rfl

theorem State.tile_ok {s : State} {w : Width} {base p : Word} (hp : tileParamBad p = false) (h : s.tileShapeBad base p w = false) (f : State → Out) :
    s.tile w base p f = f s := by
  rw [State.tile, hp, if_neg Bool.false_ne_true, h, if_neg Bool.false_ne_true]

/-! ### Addresses and instructions -/

theorem State.baseOff_eq (s : State) (a : BitVec 5) (o : Option (BitVec 5)) : s.baseOff a o = s.rdS a + (o.map s.rdS).getD 0 := by
  cases o with
  | none => exact (BitVec.add_zero _).symm
  | some x => rfl

theorem indexed_eq (base : Word) (w : Width) (v : VecReg) (m : Bool) :
    indexed base w v m = fun l => base + BitVec.ofInt 64 (laneS (8 * Width.bytes w) v l * if m then (Width.bytes w : Int) else 1) := by
  funext l
  rw [indexed, Width.bits_eq, Nat.cast_ite, Nat.cast_one]

section
variable (s : State) (g : BitVec 4) (w : Width) (d a b : BitVec 5) (o : Option (BitVec 5)) (m : Bool)

theorem exec_vld : exec (.vld g w d a o) s = s.vload g w d fun l => s.rdS a + (o.map s.rdS).getD 0 + BitVec.ofNat 64 (l * Width.bytes w) := by
  rw [← State.baseOff_eq]; rfl

theorem exec_vst : exec (.vst g w d a o) s = s.vstore g w d fun l => s.rdS a + (o.map s.rdS).getD 0 + BitVec.ofNat 64 (l * Width.bytes w) := by
  rw [← State.baseOff_eq]; rfl

theorem exec_vldx : exec (.vldx g w d a b m) s = s.vload g w d fun l =>
    s.rdS a + BitVec.ofInt 64 (laneS (8 * Width.bytes w) (s.rdV b) l * if m then (Width.bytes w : Int) else 1) := by
  rw [← indexed_eq]; rfl

theorem exec_vstx : exec (.vstx g w d a b m) s = s.vstore g w d fun l =>
    s.rdS a + BitVec.ofInt 64 (laneS (8 * Width.bytes w) (s.rdV b) l * if m then (Width.bytes w : Int) else 1) := by
  rw [← indexed_eq]; rfl

theorem exec_vldt : exec (.vldt g w d a b) s =
    s.tile w (s.rdS a) (s.rdS b) fun s => s.vload g w d (tileAddr (s.rdS a) (s.rdS b) (Width.bytes w)) := rfl

theorem exec_vstt : exec (.vstt g w d a b) s =
    s.tile w (s.rdS a) (s.rdS b) fun s => s.vstore g w d (tileAddr (s.rdS a) (s.rdS b) (Width.bytes w)) := rfl

variable {s w a b} (hp : tileParamBad (s.rdS b) = false) (h : s.tileShapeBad (s.rdS a) (s.rdS b) w = false)
include hp h

theorem exec_vldt_ok : exec (.vldt g w d a b) s = s.vload g w d (tileAddr (s.rdS a) (s.rdS b) (Width.bytes w)) := by
  rw [exec_vldt, State.tile_ok hp h]

theorem exec_vstt_ok : exec (.vstt g w d a b) s = s.vstore g w d (tileAddr (s.rdS a) (s.rdS b) (Width.bytes w)) := by
  rw [exec_vstt, State.tile_ok hp h]

end

/-- Settles O30. -/
theorem vectorAccesses : Obligations.VectorAccesses := by
  refine ⟨fun s g w d a b o m p => ?loads, fun s g w d a b o m p => ?stores, fun s g w d a b o m p => ?faults⟩
  case loads =>
    intro e base
    have hbase : s.baseOff a o = base := s.baseOff_eq a o
    exact ⟨State.vload_result (exec_vld s g w d a o), State.vload_result rfl, State.vload_result (exec_vldx s g w d a b m),
      fun hp h => State.vload_result (exec_vldt_ok g d hp h), hbase ▸ s.vldb_result g w d a o,
      fun loc hp0 hread => State.vldp_result hp0 (hbase ▸ hread)⟩
  case stores =>
    intro e base val
    have hbase : s.baseOff a o = base := s.baseOff_eq a o
    exact ⟨State.vstore_result (exec_vst s g w d a o), State.vstore_result rfl, State.vstore_result (exec_vstx s g w d a b m),
      fun hp h => State.vstore_result (exec_vstt_ok g d hp h), fun off hal hplace => State.vstp_result (hbase ▸ hal) (hbase ▸ hplace)⟩
  case faults =>
    intro e base on line row at'
    have hbase : s.baseOff a o = base := s.baseOff_eq a o
    refine ⟨⟨State.vload_faults (exec_vld s g w d a o), State.vload_faults rfl, State.vload_faults (exec_vldx s g w d a b m),
      State.vstore_faults (exec_vst s g w d a o), State.vstore_faults rfl, State.vstore_faults (exec_vstx s g w d a b m),
      hbase ▸ s.vldb_faults g w d a o⟩,
      fun hg => ⟨hbase ▸ State.vldp_faults hg p a o, hbase ▸ State.vstp_faults hg p a o⟩, ?_⟩
    intro x tile col lines rl column range shape
    have hrange : tileParamBad (s.rdS b) = false ↔ range := tileParamBad_iff _
    have hshape : s.tileShapeBad (s.rdS a) (s.rdS b) w = false ↔ shape := s.tileShapeBad_iff _ _ w
    have range_bad (h : ¬range) : tileParamBad (s.rdS b) = true := by rwa [← hrange, Bool.not_eq_false] at h
    have shape_bad (h : ¬shape) : s.tileShapeBad (s.rdS a) (s.rdS b) w = true := by rwa [← hshape, Bool.not_eq_false] at h
    refine List.forall_mem_cons.2 ⟨⟨fun hr => (exec_vldt s g w d a b).trans (State.tile_param (range_bad hr) w _ _),
      fun hr hs => (exec_vldt s g w d a b).trans (State.tile_shape (hrange.2 hr) (shape_bad hs) _), fun hr hs => ?_⟩,
      List.forall_mem_cons.2 ⟨⟨fun hr => (exec_vstt s g w d a b).trans (State.tile_param (range_bad hr) w _ _),
      fun hr hs => (exec_vstt s g w d a b).trans (State.tile_shape (hrange.2 hr) (shape_bad hs) _), fun hr hs => ?_⟩, List.forall_mem_nil _⟩⟩
    · rw [decide_eq_false (fun h => Instr.noConfusion h)]
      exact State.vload_faults (exec_vldt_ok g d (hrange.2 hr) (hshape.2 hs))
    · rw [decide_eq_true rfl]
      exact State.vstore_faults (exec_vstt_ok g d (hrange.2 hr) (hshape.2 hs))

end Sys2Proof.Machine
end

section
/-! PROOF. O18: hardware loops (R81 to R87). -/

namespace Sys2Proof.Machine

/-! ### Starting a loop (R81) -/

theorem looppTotal_eq (trip : Nat) (n : BitVec 3) : looppTotal trip n = if trip = 0 then 0 else trip + n.toNat := by
  cases trip <;> rfl

theorem stagesAtStart_eq (p : File 4 Pred) :
    stagesAtStart p = p.mapIdx fun i v => if i < 8 then v else if i = 8 then BitVec.allOnes 256 else 0 := by
  ext i hi
  simp [stagesAtStart]

theorem stagesLand_eq (l : File 4 Nat) : stagesLand l = l.mapIdx fun i v => if i < 8 then v else 0 := by
  ext i hi
  simp [stagesLand]

/-- A level's registers written, with the stage predicates and the bundle's redirect, is what a loop that starts leaves. -/
theorem StartsLoop.of_start {s : State} {k : BitVec 2} {lb : VAddr} {len : BitVec 9} {lc : Nat} {p : File 4 Pred} {landP : File 4 Nat}
    {f : TaskState → TaskState}
    (hf : f s.core.t = { s.core.t with loop := s.core.t.loop.start k lb len lc, p, sb := { s.core.t.sb with landP } }) (r : Redirect) :
    StartsLoop s k lb len lc r p landP ((s.modT f).setRedirect r) := by
  rw [State.modT, hf]
  exact ⟨rfl, SameMemory.of_mem rfl⟩

section
variable {s : State} {k : BitVec 2} {len : BitVec 9} {total limit : Nat}

/-- How a loop instruction with its guard set is refused, in the model's order (R81) [log 40]. -/
theorem State.startLoop_traps {i : Instr} {stages : Option (BitVec 3)} (run : exec i s = .next (s.startLoop k len total limit stages)) :
    let nx := s.core.bundle.next; let past := nx + BitVec.ofNat 55 (4 * len.toNat)
    (s.core.t.loop.blocked k = true → Traps (s.slotExc .illegalOperand 0 0) s (exec i s)) ∧
    (s.core.t.loop.blocked k = false →
      (s.core.t.loop.holds nx len.toNat = false → Traps (s.slotExc .illegalOperand 2 0) s (exec i s)) ∧
      (s.core.t.loop.holds nx len.toNat = true →
        (limit < total → Traps (s.slotExc .illegalOperand 0 0) s (exec i s)) ∧
        (total ≤ limit →
          (s.core.isScw nx = false → Traps (s.slotExc .badTarget 4 nx) s (exec i s)) ∧
          (s.core.isScw nx = true → total = 0 → s.core.isScw past = false → Traps (s.slotExc .badTarget 4 past) s (exec i s))))) := by
  intro nx past
  rw [run]
  unfold State.startLoop
  refine ⟨fun active => ?_, fun free => ⟨fun outside => ?_, fun inside => ⟨fun many => ?_, fun few => ⟨fun noBody => ?_, fun body none noSkip => ?_⟩⟩⟩⟩
  · rw [if_pos active]; rfl
  · rw [if_neg (ne_true_of_eq_false free), if_pos outside]; rfl
  · rw [if_neg (ne_true_of_eq_false free), if_neg (ne_false_of_eq_true inside), if_pos many]; rfl
  · rw [if_neg (ne_true_of_eq_false free), if_neg (ne_false_of_eq_true inside), if_neg (not_lt.2 few), if_pos noBody]; rfl
  · rw [if_neg (ne_true_of_eq_false free), if_neg (ne_false_of_eq_true inside), if_neg (not_lt.2 few), if_neg (ne_false_of_eq_true body), if_pos none,
      if_pos noSkip]; rfl

section
variable (free : s.core.t.loop.blocked k = false) (inside : s.core.t.loop.holds s.core.bundle.next len.toNat = true)
  (body : s.core.isScw s.core.bundle.next = true) (few : total ≤ limit)
  (skip : total = 0 → s.core.isScw (s.core.bundle.next + BitVec.ofNat 55 (4 * len.toNat)) = true)
include free inside body few skip

/-- LOOP and LOOPI start their level, or with no iteration skip the body (R81). -/
theorem State.startLoop_starts : let nx := s.core.bundle.next
    StartsLoop s k nx len total (if total = 0 then .skip (nx + BitVec.ofNat 55 (4 * len.toNat)) else .enter nx) s.core.t.p s.core.t.sb.landP
      (s.startLoop k len total limit none) := by
  intro nx
  unfold State.startLoop
  rw [if_neg (ne_true_of_eq_false free), if_neg (ne_false_of_eq_true inside), if_neg (not_lt.2 few), if_neg (ne_false_of_eq_true body)]
  by_cases none : total = 0
  · rw [if_pos none, if_pos none, if_neg (ne_false_of_eq_true (skip none)), none]
    exact .of_start rfl _
  · rw [if_neg none, if_neg none]
    exact .of_start rfl _

/-- LOOPP starts its level as a pipelined one, with its stage predicates (R81, R86). -/
theorem State.startLoop_startsStages (st : BitVec 3) : let nx := s.core.bundle.next
    StartsLoop s k (nx ||| 1) len (if total = 0 then 0 else st.toNat * 2 ^ 29 + total)
      (if total = 0 then .skip (nx + BitVec.ofNat 55 (4 * len.toNat)) else .enter nx)
      (if total = 0 then s.core.t.p else s.core.t.p.mapIdx fun i v => if i < 8 then v else if i = 8 then BitVec.allOnes 256 else 0)
      (if total = 0 then s.core.t.sb.landP else s.core.t.sb.landP.mapIdx fun i v => if i < 8 then v else 0)
      (s.startLoop k len total limit (some st)) := by
  intro nx
  rw [← stagesAtStart_eq, ← stagesLand_eq]
  unfold State.startLoop
  rw [if_neg (ne_true_of_eq_false free), if_neg (ne_false_of_eq_true inside), if_neg (not_lt.2 few), if_neg (ne_false_of_eq_true body)]
  by_cases none : total = 0
  · simp only [if_pos none]
    rw [if_neg (ne_false_of_eq_true (skip none))]
    exact .of_start rfl _
  · simp only [if_neg none]
    exact .of_start rfl _

end
end

/-! ### Leaving a loop (R84) -/

section
variable {s : State} {g : BitVec 4} {k : BitVec 2} (hg : s.guard g = true)
include hg

theorem State.lexit_inactive (off : s.core.t.loop.lc[levelOf k] = 0) : execLexit g k s = .next s :=
  (State.when_on s g _ hg).trans (congrArg Host.Outcome.next (if_pos off))

theorem State.lexit_active (on : s.core.t.loop.lc[levelOf k] ≠ 0) : execLexit g k s =
    .next ((s.modT fun t => { t with loop := s.core.t.loop.endFrom k }).setRedirect (.skip (s.core.t.loop.bodyEnd (levelOf k)))) :=
  (State.when_on s g _ hg).trans (congrArg Host.Outcome.next (if_neg on))

end

/-! ### The end of a body (R82) -/

theorem LoopRegs.innermost_eq_none {l : LoopRegs} (h : ∀ j : Fin 3, l.lc[j] = 0) : l.innermost = none := by
  have h2 : l.lc[2] = 0 := h 2
  have h1 : l.lc[1] = 0 := h 1
  have h0 : l.lc[0] = 0 := h 0
  simp only [LoopRegs.innermost, h2, h1, h0, ne_eq, not_true_eq_false, if_false]

/-- A level's registers after an iteration that is not its last (R82). -/
def LoopRegs.turned (l : LoopRegs) (i : Fin 3) : LoopRegs :=
  let left := l.remaining i - 1
  { l with lc := l.lc.set i (BitVec.ofNat 32 (if l.isP i then l.lc[i].toNat / 2 ^ 29 * 2 ^ 29 + left else left)),
           vrb := if l.isP i then l.vrb + 1 else l.vrb, valid := true }

theorem LoopRegs.remaining_turned (l : LoopRegs) (i : Fin 3) : (l.turned i).remaining i = l.remaining i - 1 := by
  have kind : (l.turned i).isP i = l.isP i := rfl
  have count : (l.turned i).lc[i] = BitVec.ofNat 32 (if l.isP i then l.lc[i].toNat / 2 ^ 29 * 2 ^ 29 + (l.remaining i - 1) else l.remaining i - 1) := by
    simp [LoopRegs.turned]
  have small := l.lc[i].isLt
  rw [LoopRegs.remaining, kind, count, BitVec.toNat_ofNat]
  unfold LoopRegs.remaining
  cases l.isP i with
  | true => simp only [if_true]; omega
  | false => simp only [Bool.false_eq_true, if_false]; omega

section
variable {t : TaskState} {i : Fin 3} {pos : VAddr} (inner : t.loop.innermost = some i) (ends : t.loop.bodyEnd i = pos)
include inner ends

/-- With iterations left the body starts again; a pipelined level turns its stage predicates (R82). -/
theorem TaskState.loopEnd_again (more : 1 < t.loop.remaining i) (fresh n : Nat) : t.loopEnd fresh (n + 1) pos =
    { t with loop := t.loop.turned i, pc := t.loop.body i,
             p := if t.loop.isP i then rotateStages (t.stageVals fresh) (decide (t.loop.remaining i - 1 > t.loop.lc[i].toNat / 2 ^ 29)) else t.p,
             sb := if t.loop.isP i then { t.sb with landP := stagesLand t.sb.landP, far := t.sb.far.map fun f => f.retarget stageOn } else t.sb } := by
  have left : t.loop.remaining i - 1 > 0 := by omega
  simp only [TaskState.loopEnd, inner, ends, ne_eq, not_true_eq_false, if_false, left, decide_true, Bool.and_true, if_true]
  unfold LoopRegs.turned
  cases t.loop.isP i <;> rfl

/-- The last iteration ends the level (R82). -/
theorem TaskState.loopEnd_last (last : t.loop.remaining i = 1) (fresh n : Nat) : t.loopEnd fresh (n + 1) pos =
    TaskState.loopEnd { t with loop := { t.loop with lc := t.loop.lc.set i 0, vrb := if t.loop.isP i then t.loop.vrb + 1 else t.loop.vrb, valid := false } }
      fresh n pos := by
  simp only [TaskState.loopEnd, inner, ends, last, ne_eq, not_true_eq_false, if_false, Nat.sub_self, gt_iff_lt, Nat.lt_irrefl, decide_false, Bool.and_false,
    Bool.false_eq_true]
  cases t.loop.isP i <;> rfl

end

/-- A level with one iteration left ends, and with no other level active execution goes on past it. -/
theorem TaskState.loopEnd_leaves {t : TaskState} {i : Fin 3} {pos : VAddr} (inner : t.loop.innermost = some i) (ends : t.loop.bodyEnd i = pos)
    (last : t.loop.remaining i = 1) (alone : ∀ j : Fin 3, j ≠ i → t.loop.lc[j] = 0) (fresh n : Nat) : let u := t.loopEnd fresh (n + 1) pos
    u.pc = pos ∧ u.loop.lc[i] = 0 ∧ u.loop.innermost = none ∧ u.p = t.p ∧ u.x = t.x := by
  intro u
  let l : LoopRegs := { t.loop with lc := t.loop.lc.set i 0, vrb := if t.loop.isP i then t.loop.vrb + 1 else t.loop.vrb, valid := false }
  have counts (j : Fin 3) : l.lc[j] = 0 := by
    by_cases h : j = i
    · subst h; simp [l]
    · have other : (i : Nat) ≠ j := fun e => h (Fin.ext e.symm)
      simpa [l, Vector.getElem_set_ne, other] using alone j h
  have none : l.innermost = none := LoopRegs.innermost_eq_none counts
  have hu : u = { t with loop := l, pc := pos } :=
    (TaskState.loopEnd_last inner ends last fresh n).trans (TaskState.loopEnd_of_no_loop none fresh n pos)
  rw [hu]
  exact ⟨rfl, counts i, none, rfl, rfl⟩

/-- A level with iterations left starts its body again (R82). -/
theorem TaskState.loopEnd_loops {t : TaskState} {i : Fin 3} {pos : VAddr} (inner : t.loop.innermost = some i) (ends : t.loop.bodyEnd i = pos)
    (more : 1 < t.loop.remaining i) (fresh n : Nat) : let u := t.loopEnd fresh (n + 1) pos
    u.pc = t.loop.body i ∧ u.loop.remaining i = t.loop.remaining i - 1 ∧ u.loop.lb = t.loop.lb ∧ u.loop.ln = t.loop.ln ∧
      u.loop.vrb = (if t.loop.isP i then t.loop.vrb + 1 else t.loop.vrb) ∧ u.x = t.x ∧
      (t.loop.isP i = true → ∀ j : Fin 16, 8 < j.val → t.sb.landP[j.val - 1]'(by omega) ≤ t.sb.cyc + 1 → u.p[j] = t.p[j.val - 1]'(by omega)) ∧
      (t.loop.isP i = true → u.p[8] = if t.loop.lc[i].toNat / 2 ^ 29 < t.loop.remaining i - 1 then BitVec.allOnes 256 else 0) ∧
      (t.loop.isP i = false → u.p = t.p) := by
  intro u
  have hu : u = _ := TaskState.loopEnd_again inner ends more fresh n
  rw [hu]
  refine ⟨rfl, t.loop.remaining_turned i, rfl, rfl, rfl, rfl, fun stages j hj landed => ?_, fun stages => ?_, fun plain => ?_⟩
  · have turn : ¬j.val < 8 ∧ j.val ≠ 8 := by omega
    have late : ¬(8 ≤ j.val - 1 ∧ t.sb.cyc + 1 < t.sb.landP[j.val - 1]) := by omega
    simp [stages, rotateStages, TaskState.stageVals, turn, late]
  · simp [stages, rotateStages]
  · simp only [plain, Bool.false_eq_true, if_false]

/-! ### The instructions, with their guard set -/

section
variable {s : State} {g : BitVec 4} (hg : s.guard g = true)
include hg

theorem exec_loop_on (k : BitVec 2) (c : BitVec 6) (len : BitVec 9) :
    exec (.loop g k c len) s = .next (s.startLoop k len (s.rdX c).toNat 0xFFFFFFFF none) := by
  rw [show exec (.loop g k c len) s = execLoop g k c len s from rfl, execLoop, State.when_on _ _ _ hg]

theorem exec_loopi_on (k : BitVec 2) (n len : BitVec 9) : exec (.loopi g k n len) s = .next (s.startLoop k len n.toNat 0xFFFFFFFF none) := by
  rw [show exec (.loopi g k n len) s = execLoopi g k n len s from rfl, execLoopi, State.when_on _ _ _ hg]

theorem exec_loopp_on (k : BitVec 2) (c : BitVec 6) (st : BitVec 3) (len : BitVec 9) : exec (.loopp g k c st len) s =
    .next (s.startLoop k len (if (s.rdX c).toNat = 0 then 0 else (s.rdX c).toNat + st.toNat) 0x1FFFFFFF (some st)) := by
  rw [show exec (.loopp g k c st len) s = execLoopp g k c st len s from rfl, execLoopp, State.when_on _ _ _ hg, looppTotal_eq]

end

/-- With its guard clear no loop instruction does anything (R30). -/
theorem exec_loops_off {s : State} {g : BitVec 4} (hg : s.guard g = false) (k : BitVec 2) (c : BitVec 6) (n : BitVec 9) (st : BitVec 3) (len : BitVec 9) :
    ∀ i ∈ [Instr.loop g k c len, .loopi g k n len, .loopp g k c st len, .lexit g k], exec i s = .next s := by
  simp only [List.forall_mem_cons]
  exact ⟨.trans (b := execLoop g k c len s) rfl (State.when_off _ _ _ hg), .trans (b := execLoopi g k n len s) rfl (State.when_off _ _ _ hg),
    .trans (b := execLoopp g k c st len s) rfl (State.when_off _ _ _ hg), .trans (b := execLexit g k s) rfl (State.when_off _ _ _ hg),
    List.forall_mem_nil _⟩

/-- Settles O18: by what `startLoop` refuses and starts, what a level's registers are at a body's end, and which levels a branch keeps. -/
theorem hardwareLoops : Obligations.HardwareLoops := by
  refine ⟨?instructions, ?bodyEnd, ?branch⟩
  case instructions =>
    intro s g k c n st len _ nx past count total
    refine ⟨fun hg => exec_loops_off hg k c n st len, fun hg free inside body => ⟨fun few skip => ?_, fun skip => ?_, fun few skip => ?_⟩, fun hg => ?_,
      fun hg off => State.lexit_inactive hg off, fun hg on => ⟨_, State.lexit_active hg on, fun i => ?_, rfl, rfl, rfl, rfl, rfl, SameMemory.of_mem rfl⟩⟩
    · exact ⟨_, exec_loop_on hg k c len, State.startLoop_starts free inside body few skip⟩
    · have none : n = 0 ↔ n.toNat = 0 := ⟨congrArg BitVec.toNat, BitVec.eq_of_toNat_eq (y := 0)⟩
      simp only [none] at skip ⊢
      exact ⟨_, exec_loopi_on hg k n len, State.startLoop_starts free inside body (by omega) skip⟩
    · exact ⟨_, exec_loopp_on hg k c st len, State.startLoop_startsStages free inside body few skip st⟩
    · simp only [List.forall_mem_cons]
      exact ⟨State.startLoop_traps (exec_loop_on hg k c len), State.startLoop_traps (exec_loopi_on hg k n len),
        State.startLoop_traps (exec_loopp_on hg k c st len), List.forall_mem_nil _⟩
    · simp [LoopRegs.endFrom, State.setRedirect]
  case bodyEnd =>
    intro t i pos fresh n inner ends
    exact ⟨fun more => TaskState.loopEnd_loops inner ends more fresh n, fun last alone => TaskState.loopEnd_leaves inner ends last alone fresh n⟩
  case branch =>
    intro t fresh pos a
    refine ⟨rfl, rfl, rfl, fun j => ⟨rfl, rfl, ?_⟩⟩
    simp [TaskState.redirect, LoopRegs.leave]

end Sys2Proof.Machine
end

section
/-! PROOF. O32: speculation, accumulator transfers and status reads (R92, R154, R155, R165, R167, R170, R278). -/

namespace Sys2Proof.Machine

/-- With room in its engine's queue an instruction goes on (R154). -/
theorem State.whenRoom_room {s : State} {e : Bool} (h : (s.core.t.me e).room = true) (f : State → State) : s.whenRoom e f = f s := if_pos h

/-- A full queue holds the bundle before anything is checked (R88, R154). -/
theorem State.whenRoom_full {s : State} {e : Bool} (h : (s.core.t.me e).room = false) (f : State → State) : s.whenRoom e f = s.hold :=
  if_neg (Bool.eq_false_iff.1 h)

/-- A command of one engine joins its queue and the hazard unit, and leaves the engine's speculation as the core tracks it (R154, R155, R278). -/
theorem State.queueMat_spec_queues (s : State) (e : Bool) (k : MatKind) (a b : Word) (reads writes : List Interval) (spec : Bool) :
    QueuedMat e k a b false spec s
      ((s.queueMat e (s.matCmd e k a b) reads writes).modT fun t => t.setMe e { t.me e with specIssue := spec }) := by
  cases e <;>
  exact ⟨_, rfl, rfl, rfl, rfl, rfl, rfl, rfl, rfl, rfl, rfl, rfl, rfl, rfl, ⟨_, rfl, rfl, rfl⟩, rfl, rfl,
    ⟨rfl, rfl, rfl, rfl, rfl, rfl⟩, SameMemory.of_mem rfl⟩

theorem State.specCmd_queues (s : State) (e : Bool) (k : MatKind) (spec : Bool) : QueuedMat e k 0 0 false spec s (s.specCmd e k spec) :=
  s.queueMat_spec_queues e k 0 0 [] [] spec

/-- Other commands leave the speculation as it is. -/
theorem State.queueMat_queues (s : State) (e : Bool) (k : MatKind) (a b : Word) (reads writes : List Interval) :
    QueuedMat e k a b false (s.core.t.me e).specIssue s (s.queueMat e (s.matCmd e k a b) reads writes) := by
  have same : ((s.queueMat e (s.matCmd e k a b) reads writes).modT fun t => t.setMe e { t.me e with specIssue := (s.core.t.me e).specIssue }) =
      s.queueMat e (s.matCmd e k a b) reads writes := by cases e <;> rfl
  exact same ▸ s.queueMat_spec_queues e k a b reads writes _

/-- A command leaves the completion state and the bundle as they are. -/
theorem State.specCmd_comp (s : State) (e : Bool) (k : MatKind) (spec : Bool) : (s.specCmd e k spec).core.t.comp = s.core.t.comp := by
  cases e <;> rfl

theorem State.queueMat_comp (s : State) (e : Bool) (c : MatCmd) (reads writes : List Interval) :
    (s.queueMat e c reads writes).core.t.comp = s.core.t.comp := by
  cases e <;> rfl

theorem State.queueMat_bundle (s : State) (e : Bool) (c : MatCmd) (reads writes : List Interval) :
    (s.queueMat e c reads writes).core.bundle = s.core.bundle := rfl

/-- MSTAT's command reserves a place in the return queue (R92, R170). -/
theorem State.mstat_queues (s : State) (e : Bool) (k : BitVec 2) : let c := s.matCmd e (.mstat k) 0 0
    let u := (s.queueMat e c [] []).pushRq { value := none, due := 0, tag := c.seq }
    QueuedMat e (.mstat k) 0 0 false (s.core.t.me e).specIssue s u ∧
      u.core.t.comp = { s.core.t.comp with rq := s.core.t.comp.rq ++ [{ value := none, due := 0, tag := s.core.t.nextSeq }] } := by
  refine ⟨s.queueMat_queues e (.mstat k) 0 0 [] [], ?_⟩
  cases e <;> rfl

/-- MACCST's command; one in mode 3 takes its random bits (R102, R167). -/
theorem State.maccst_queues (s : State) (e : Bool) (x w : Word) :
    let q := s.queueMat e (s.matCmd e .maccst x w) [] (foot (vaOf x) (xferOf w).span)
    let u := if (xferOf w).mode = 3 then q.useRandom else q
    QueuedMat e .maccst x w false (s.core.t.me e).specIssue s u ∧ u.core.t.comp = s.core.t.comp ∧
      u.core.bundle = { s.core.bundle with random := s.core.bundle.random + if (xferOf w).mode = 3 then 1 else 0 } := by
  intro q u
  have queued : QueuedMat e .maccst x w false (s.core.t.me e).specIssue s q := s.queueMat_queues e .maccst x w [] _
  have comp : q.core.t.comp = s.core.t.comp := s.queueMat_comp e _ [] _
  by_cases random : (xferOf w).mode = 3
  · simp only [u, if_pos random]
    exact ⟨queued, comp, rfl⟩
  · simp only [u, if_neg random]
    exact ⟨queued, comp, rfl⟩

/-- What MZERO refuses (R167): with z clear, a rectangle outside the array or bits above it. -/
theorem mzeroBad_iff (z : Bool) (w : Word) : (!z && ((xferOf w).badRect || decide (w.toNat / 2 ^ 33 ≠ 0))) = true ↔
    z = false ∧ ((xferOf w).badRect = true ∨ 2 ^ 33 ≤ w.toNat) := by
  have above : w.toNat / 2 ^ 33 ≠ 0 ↔ 2 ^ 33 ≤ w.toNat := by rw [Nat.div_ne_zero_iff]; exact and_iff_right (by decide)
  rw [Bool.and_eq_true, Bool.not_eq_true', Bool.or_eq_true, decide_eq_true_eq, above]

/-! ### Instructions that need room, with their guard set -/

section
variable {s : State} {g : BitVec 4} {e : Bool} {o : Out} {f : State → State} (hg : s.guard g = true) (ho : o = s.when g fun s => s.whenRoom e f)
include hg ho

theorem State.next_of_room (room : (s.core.t.me e).room = true) {u : State} (hu : f s = u) : o = .next u :=
  ho.trans ((State.when_on s g _ hg).trans (congrArg Host.Outcome.next ((State.whenRoom_room room f).trans hu)))

theorem State.next_of_full (full : (s.core.t.me e).room = false) : o = .next s.hold :=
  ho.trans ((State.when_on s g _ hg).trans (congrArg Host.Outcome.next (State.whenRoom_full full f)))

end

/-- Settles O32: each command is `queueMat` of its kind with the engine's snapshot, after the checks of its words. -/
theorem matrixCommandsQueue : Obligations.MatrixCommandsQueue := by
  intro s g x a k z e hg m w f bad
  refine ⟨fun room => ?_, fun full => ?_⟩
  · dsimp only [exec]
    refine ⟨?opens, ?closes, ?zero, ?moves, ?stat, ?noEntry, ?openTwice, ?closedTwice, ?badZero, ?badLoad, ?badStore, ?misaligned⟩
    case opens =>
      exact fun closed => ⟨_, State.next_of_room hg rfl room (if_neg (Bool.eq_false_iff.1 closed)), s.specCmd_queues e _ true, s.specCmd_comp e _ true⟩
    case closes =>
      exact fun opened => ⟨⟨_, State.next_of_room hg rfl room (if_pos opened), s.specCmd_queues e _ false, s.specCmd_comp e _ false⟩,
        ⟨_, State.next_of_room hg rfl room (if_pos opened), s.specCmd_queues e _ false, s.specCmd_comp e _ false⟩⟩
    case zero =>
      intro legal
      have fine : ¬(!z && (f.badRect || decide (w.toNat / 2 ^ 33 ≠ 0))) = true := fun h => by
        obtain ⟨hz, rect | high⟩ := (mzeroBad_iff z w).1 h
        · exact Bool.false_ne_true ((legal hz).1.symm.trans rect)
        · exact absurd (legal hz).2 (not_lt.2 high)
      exact ⟨_, State.next_of_room hg rfl room (if_neg fine), s.queueMat_queues e _ w 0 [] [], s.queueMat_comp e _ [] []⟩
    case moves =>
      intro aligned
      exact ⟨fun legal => ⟨_, State.next_of_room hg rfl room ((if_neg (Bool.eq_false_iff.1 legal)).trans (if_neg (not_not.2 aligned))),
          s.queueMat_queues e _ _ w _ [], s.queueMat_comp e _ _ [], s.queueMat_bundle e _ _ []⟩,
        fun legal => ⟨_, State.next_of_room hg rfl room ((if_neg (Bool.eq_false_iff.1 legal)).trans (if_neg (not_not.2 aligned))), s.maccst_queues e (s.rdX x) w⟩⟩
    case stat => exact fun free => ⟨_, State.next_of_room hg rfl room (if_neg (not_le.2 free)), s.mstat_queues e k⟩
    case noEntry => exact fun full => State.next_of_room hg rfl room (if_pos full)
    case openTwice => exact fun opened => State.next_of_room hg rfl room (if_pos opened)
    case closedTwice =>
      exact fun closed => ⟨State.next_of_room hg rfl room (if_neg (Bool.eq_false_iff.1 closed)), State.next_of_room hg rfl room (if_neg (Bool.eq_false_iff.1 closed))⟩
    case badZero => exact fun illegal => State.next_of_room hg rfl room (if_pos ((mzeroBad_iff false w).2 ⟨rfl, illegal⟩))
    case badLoad => exact fun illegal => State.next_of_room hg rfl room (if_pos illegal)
    case badStore => exact fun illegal => State.next_of_room hg rfl room (if_pos illegal)
    case misaligned =>
      exact fun odd => ⟨fun legal => State.next_of_room hg rfl room ((if_neg (Bool.eq_false_iff.1 legal)).trans (if_pos odd)),
        fun legal => State.next_of_room hg rfl room ((if_neg (Bool.eq_false_iff.1 legal)).trans (if_pos odd))⟩
  · simp only [List.forall_mem_cons]
    dsimp only [exec]
    exact ⟨State.next_of_full hg rfl full, State.next_of_full hg rfl full, State.next_of_full hg rfl full, State.next_of_full hg rfl full,
      State.next_of_full hg rfl full, State.next_of_full hg rfl full, State.next_of_full hg rfl full, List.forall_mem_nil _⟩

end Sys2Proof.Machine
end

section
/-! PROOF. O43: what writing back the L1 leaves, and the operations that leave the core in turn as it is (R208, R210, R217, R225, R240). -/

namespace Sys2Proof.Machine

/-! ### Writing back the L1 (R240) -/

/-- Memory, the rows it activates, fault records and packets differ, and nothing else. -/
def SentHome (s u : State) : Prop := ∃ mem mgmt xlat fabric, u = { s with mem, mgmt, xlat, fabric }

theorem SentHome.refl (s : State) : SentHome s s := ⟨s.mem, s.mgmt, s.xlat, s.fabric, rfl⟩

theorem SentHome.trans {s t u : State} (h : SentHome s t) (k : SentHome t u) : SentHome s u := by
  obtain ⟨_, _, _, _, rfl⟩ := h
  obtain ⟨mem, mgmt, xlat, fabric, rfl⟩ := k
  exact ⟨mem, mgmt, xlat, fabric, rfl⟩

theorem Written.sentHome {s u : State} (h : Written s u) : SentHome s u := by
  obtain ⟨mem, mgmt, rs, rfl⟩ := h
  exact ⟨mem, mgmt, _, s.fabric, rfl⟩

theorem Written.homeWritePart (s : State) (key : Nat) (va : VAddr) (pa base : Nat) (runs : List (Nat × List Byte)) :
    Written s (s.homeWritePart key va pa base runs) := by
  unfold State.homeWritePart
  dsimp only
  split
  · exact (Written.store s _ pa).addRec _
  · exact Written.store s _ pa

theorem SentHome.send (s : State) (sp : PacketSpec) (owner : Option Waiter) (source : Option (Nat × Nat × VAddr)) : SentHome s (s.send sp owner source) := by
  unfold State.send State.emit
  dsimp only
  split <;> exact ⟨s.mem, s.mgmt, s.xlat, _, rfl⟩

theorem SentHome.writeBackPart (s : State) (l : L1Line) (j : Nat) : SentHome s (s.writeBackPart l j) := by
  unfold State.writeBackPart
  split
  · exact .refl s
  · dsimp only
    split
    · exact (Written.homeWritePart ..).sentHome
    · split
      · exact ((Written.refl s).addRec _).sentHome
      · exact .send ..

theorem SentHome.writeBackLine (s : State) (l : L1Line) : SentHome s (s.writeBackLine l) :=
  forEach_keeps (fun j _ u hu => hu.trans (.writeBackPart u l j)) (.refl s)

theorem SentHome.writeBackEach (s : State) (ls : List L1Line) : SentHome s (s.writeBackEach ls).1 := by
  suffices all : ∀ q : State × List L1Line, SentHome s q.1 →
      SentHome s (ls.foldl (fun q l => if q.1.lineStuck l then (q.1, q.2 ++ [l]) else (q.1.writeBackLine l, q.2)) q).1 from all (s, []) (.refl s)
  induction ls with
  | nil => exact fun _ h => h
  | cons l r ih =>
    refine fun q h => ih _ ?_
    dsimp only
    split
    · exact h
    · exact h.trans (.writeBackLine q.1 l)

/-- Besides what has gone home, a write-back changes the L1 and its fills; each line it leaves was there, or is clean. -/
theorem State.writeBack_eq (s : State) (sel : L1Line → Bool) (drop : Bool) : ∃ l1 fills,
    SentHome { s with core := { s.core with l1, fills } } (s.writeBack sel drop) ∧ ∀ o ∈ l1, o ∈ s.core.l1 ∨ o.dirty = 0 := by
  obtain ⟨mem, mgmt, xlat, fabric, h⟩ := SentHome.writeBackEach s (s.core.l1.filter sel)
  unfold State.writeBack
  simp only [h]
  refine ⟨_, _, ⟨mem, mgmt, xlat, fabric, rfl⟩, fun o ho => ?_⟩
  cases drop with
  | true => exact .inl (List.mem_of_mem_filter ho)
  | false =>
    obtain ⟨l, hl, rfl⟩ := List.mem_map.1 ho
    split
    · exact .inr rfl
    · exact .inl hl

/-- A line of this package, or with nothing in it to write, waits for no flow (R324). -/
theorem State.lineStuck_of_here {l : L1Line} (h : l.pkg = none ∨ l.dirty = 0) (s : State) : s.lineStuck l = false := by
  unfold State.lineStuck
  obtain h | h := h
  · rw [h]
  · split
    · rfl
    · simp only [h, ne_eq, not_true_eq_false, decide_false, Bool.false_and]

theorem State.writeBackPart_fabric {l : L1Line} (h : l.pkg = none ∨ l.dirty = 0) (s : State) (j : Nat) : (s.writeBackPart l j).fabric = s.fabric := by
  obtain h | h := h
  · unfold State.writeBackPart
    split
    · rfl
    · simp only [h]
      obtain ⟨mem, mgmt, rs, e⟩ := Written.homeWritePart s l.key (BitVec.ofNat 55 (64 * l.va + _)) (64 * l.line + _) (64 * l.line) _
      rw [e]
  · simp only [State.writeBackPart, L1Line.partRuns, L1Line.dirtyRuns_of_clean h, List.filter_nil]

/-- Lines that nothing can hold up are all written back, and send no packet. -/
theorem State.writeBackEach_here {ls : List L1Line} (h : ∀ l ∈ ls, l.pkg = none ∨ l.dirty = 0) (s : State) :
    (s.writeBackEach ls).2 = [] ∧ (s.writeBackEach ls).1.fabric = s.fabric := by
  suffices all : ∀ q : State × List L1Line,
      let r := ls.foldl (fun q l => if q.1.lineStuck l then (q.1, q.2 ++ [l]) else (q.1.writeBackLine l, q.2)) q
      r.2 = q.2 ∧ r.1.fabric = q.1.fabric from all (s, [])
  induction ls with
  | nil => exact fun _ => ⟨rfl, rfl⟩
  | cons l r ih =>
    intro q
    have here := h l List.mem_cons_self
    have line : (q.1.writeBackLine l).fabric = q.1.fabric :=
      forEach_keeps (P := fun u => u.fabric = q.1.fabric) (fun j _ u hu => (State.writeBackPart_fabric here u j).trans hu) rfl
    obtain ⟨waits, fabric⟩ := ih (fun o ho => h o (List.mem_cons_of_mem _ ho)) (q.1.writeBackLine l, q.2)
    simp only [List.foldl_cons, State.lineStuck_of_here here, Bool.false_eq_true, if_false]
    exact ⟨waits, fabric.trans line⟩

/-- A release of an L1 in which nothing waits leaves every line clean, and sends no packet. -/
theorem L1Here.releaseAll {s : State} (h : L1Here s) : (∀ o ∈ s.releaseAll.core.l1, o.dirty = 0) ∧ s.releaseAll.fabric = s.fabric := by
  obtain ⟨waits, fabric⟩ := State.writeBackEach_here (fun l hl => h l (List.mem_of_mem_filter hl)) s (ls := s.core.l1.filter fun _ => true)
  refine ⟨fun o ho => ?_, fabric⟩
  simp only [State.releaseAll, State.writeBack, waits, State.modCore, List.any_nil, Bool.not_false, Bool.and_self, if_true, Bool.false_eq_true, if_false] at ho
  obtain ⟨l, -, rfl⟩ := List.mem_map.1 ho
  rfl

/-! ### What leaves the core in turn and the records as they are -/

/-- Other cores, saves, barriers and queues differ, and what agents write; the core in turn and the scheduler's records are as before. -/
def Aside (s u : State) : Prop := ∃ others saved barriers queues spill mem mgmt xlat,
  u = { s with others, mem, mgmt, xlat, sched := { s.sched with saved, barriers, queues, spill } }

theorem Aside.refl (s : State) : Aside s s :=
  ⟨s.others, s.sched.saved, s.sched.barriers, s.sched.queues, s.sched.spill, s.mem, s.mgmt, s.xlat, rfl⟩

theorem Aside.core {s u : State} (h : Aside s u) : u.core = s.core := by obtain ⟨_, _, _, _, _, _, _, _, rfl⟩ := h; rfl
theorem Aside.cur {s u : State} (h : Aside s u) : u.cur = s.cur := by obtain ⟨_, _, _, _, _, _, _, _, rfl⟩ := h; rfl
theorem Aside.recs {s u : State} (h : Aside s u) : u.sched.recs = s.sched.recs := by obtain ⟨_, _, _, _, _, _, _, _, rfl⟩ := h; rfl

theorem Aside.written {s u v : State} (h : Aside s u) (k : Written u v) : Aside s v := by
  obtain ⟨others, saved, barriers, queues, spill, _, _, _, rfl⟩ := h
  obtain ⟨mem, mgmt, rs, rfl⟩ := k
  exact ⟨others, saved, barriers, queues, spill, mem, mgmt, _, rfl⟩

theorem Aside.modSched {s u : State} (h : Aside s u) {f : Sched → Sched}
    (hf : ∀ d, ∃ saved barriers queues spill, f d = { d with saved, barriers, queues, spill }) : Aside s (u.modSched f) := by
  obtain ⟨others, _, _, _, _, mem, mgmt, xlat, rfl⟩ := h
  obtain ⟨saved, barriers, queues, spill, e⟩ := hf _
  exact ⟨others, saved, barriers, queues, spill, mem, mgmt, xlat, by rw [State.modSched, e]⟩

theorem Aside.setCore {s u : State} (h : Aside s u) {n : Nat} (away : n ≠ s.cur) (k : Core) : Aside s (u.setCore n k) := by
  have other : n ≠ u.cur := h.cur ▸ away
  rw [State.setCore, if_neg other]
  obtain ⟨_, saved, barriers, queues, spill, mem, mgmt, xlat, rfl⟩ := h
  exact ⟨_, saved, barriers, queues, spill, mem, mgmt, xlat, rfl⟩

theorem Aside.agentPut {s u v : State} (h : Aside s u) {asid k : Nat} {va : VAddr} {bs : List Byte} (put : u.agentPut asid k va bs = .ok v) : Aside s v := by
  induction k generalizing u va bs with
  | zero => cases put; exact h
  | succ j ih =>
    unfold State.agentPut at put
    split at put
    · cases put
    · next written => exact ih (h.written (.agentWrite written)) put

theorem Aside.pokeTask {s u : State} (h : Aside s u) (id : TaskId) : Aside s (u.pokeTask id) := by
  refine forEach_keeps (fun v _ w hw => ?_) h
  unfold State.pokeSmall
  split
  · split
    · next put => exact hw.agentPut put
    · exact hw
  · exact hw

/-- A tag of a task that does not run on the core in turn. -/
theorem Aside.completeTag {s u : State} (h : Aside s u) {id : TaskId} (away : s.core.mode = .idle ∨ id ≠ s.core.t.id) (t : BitVec 6) (bad : Bool) :
    Aside s (u.completeTag id t bad) := by
  unfold State.completeTag
  refine ((forEach_keeps (fun n hn v hv => hv.setCore ?_ _) h).modSched fun d => ⟨_, d.barriers, d.queues, d.spill, rfl⟩).pokeTask id
  rintro rfl
  have runs := (List.mem_filter.1 hn).2
  rw [← h.cur, State.getCore_cur, h.core, Bool.and_eq_true, decide_eq_true_eq, decide_eq_true_eq] at runs
  exact away.elim runs.1 (· runs.2.symm)

/-- No barrier completes a tag of the core's task: the core is idle, or its task waits at none. -/
def NoTagDue (s u : State) : Prop := s.core.mode = .idle ∨ ∀ b ∈ u.sched.barriers, ∀ a ∈ b.waiting, a.task ≠ s.core.t.id

theorem Aside.settleBarriers {s u : State} (h : Aside s u) (away : NoTagDue s u) : Aside s u.settleBarriers := by
  unfold State.settleBarriers
  refine (forEach_keeps (fun a ha v hv => hv.completeTag (away.imp_right fun waits => ?_) a.tag false) h).modSched fun d =>
    ⟨d.saved, _, d.queues, d.spill, rfl⟩
  obtain ⟨l, hl, ha⟩ := List.mem_flatten.1 ha
  obtain ⟨b, hb, rfl⟩ := List.mem_map.1 hl
  exact waits b hb a (List.mem_of_mem_filter ha)

theorem Aside.leaveGang {s u : State} (h : Aside s u) (away : NoTagDue s u) (id : TaskId) : Aside s (u.leaveGang id) := by
  refine (h.modSched fun d => ⟨d.saved, _, d.queues, d.spill, rfl⟩).settleBarriers (away.imp_right fun waits b hb => ?_)
  obtain ⟨b', hb', rfl⟩ := List.mem_map.1 hb
  split
  · exact waits b' hb'
  · exact waits b' hb'

theorem Aside.returnToken {s u : State} (h : Aside s u) (asid : Nat) (k : Token) : Aside s (u.returnToken asid k) :=
  (h.modSched fun d => ⟨d.saved, d.barriers, _, d.spill, rfl⟩).modSched fun d => ⟨d.saved, d.barriers, d.queues, _, rfl⟩

/-- Freeing what the task holds changes of its core the boxes, a load's tag, and the task's tokens, tags and stream buffers (R220). -/
theorem State.freeHeld_aside (s : State) : ∃ mail loading, Aside { s with core := { s.core with mail, loading, t := { s.core.t with
    tokens := [], comp := { ctb := 0, cte := 0, held := 0, rq := [] }, streams := .replicate _ [] } } } s.freeHeld := by
  have tokens : Aside s (forEach s.core.t.tokens (fun k u => u.returnToken s.core.t.id.asid k) s) :=
    forEach_keeps (fun k _ u hu => hu.returnToken s.core.t.id.asid k) (.refl s)
  obtain ⟨others, saved, barriers, queues, spill, mem, mgmt, xlat, e⟩ := tokens
  unfold State.freeHeld
  simp only [e]
  refine ⟨_, _, Aside.leaveGang ⟨others, saved, _, queues, spill, mem, mgmt, xlat, rfl⟩ (.inr fun b hb a ha => ?_) _⟩
  obtain ⟨b', -, rfl⟩ := List.mem_map.1 hb
  simpa using (List.mem_filter.1 ha).2

end Sys2Proof.Machine
end

section
/-! PROOF. O43: the end of a record, and the references dropped with it, seen from an idle core (R217, R219, R225, R309). -/

namespace Sys2Proof.Machine

/-! ### A core that nothing changes but in what it names of records -/

/-- The same core has the turn, and only its boxes and its prefetch slot may differ. -/
def Rests (s u : State) : Prop := u.cur = s.cur ∧ ∃ mail prefetch, u.core = { s.core with mail, prefetch }

theorem Rests.refl (s : State) : Rests s s := ⟨rfl, s.core.mail, s.core.prefetch, rfl⟩

theorem Rests.of_eq {s u v : State} (h : Rests s u) (cur : v.cur = u.cur) (core : v.core = u.core) : Rests s v :=
  ⟨cur.trans h.1, h.2.imp fun _ => .imp fun _ => core.trans⟩

theorem Rests.idle {s u : State} (h : Rests s u) (idle : s.core.mode = .idle) : u.core.mode = .idle := by
  obtain ⟨-, mail, prefetch, core⟩ := h
  rw [core]; exact idle

theorem Rests.written {s u v : State} (h : Rests s u) (k : Written u v) : Rests s v := by
  obtain ⟨mem, mgmt, rs, rfl⟩ := k
  exact h

theorem Rests.aside {s u v : State} (h : Rests s u) (k : Aside u v) : Rests s v := h.of_eq k.cur k.core

theorem Rests.ite {s u v : State} {c : Prop} [Decidable c] (h : Rests s u) (k : Rests s v) : Rests s (if c then u else v) := by
  split
  · exact h
  · exact k

theorem Rests.recSet {s u : State} (h : Rests s u) (asid : Nat) (rec : VAddr) (off n v : Nat) : Rests s (u.recSet asid rec off n v) :=
  h.written (.recSet ..)

theorem Rests.modSched {s u : State} (h : Rests s u) (f : Sched → Sched) : Rests s (u.modSched f) := h

theorem Rests.makeReady {s u : State} (h : Rests s u) (asid : Nat) (rec : VAddr) : Rests s (u.makeReady asid rec) :=
  ((h.recSet asid rec 0 1 stReady).modSched _).modSched _

theorem Rests.tdec {s u : State} (h : Rests s u) (asid : Nat) (rec : VAddr) (k : Nat) (pin : Option Nat) : Rests s (u.tdec asid rec k pin).2 := by
  unfold State.tdec
  extract_lets old r s1 s2 s3
  have kept : Rests s s2 := ((h.recSet ..).recSet ..).ite (h.recSet ..)
  refine Rests.ite ?_ kept
  split
  · exact kept.makeReady ..
  · exact ((kept.makeReady ..).modSched _).modSched _

theorem Rests.forgetRecord {s u : State} (h : Rests s u) (asid : Nat) (rec : VAddr) : Rests s (u.forgetRecord asid rec) := by
  obtain ⟨cur, mail, prefetch, core⟩ := h
  let c := u.core.forgetRecord asid rec
  have boxes : c = { u.core with mail := c.mail, prefetch := c.prefetch } := rfl
  refine ⟨cur, c.mail, c.prefetch, boxes.trans ?_⟩
  rw [core]

theorem Rests.finishNow {s u : State} (h : Rests s u) (asid : Nat) (rec : VAddr) : Rests s (u.finishNow asid rec) := by
  unfold State.finishNow
  split
  · exact h
  extract_lets s1 nt s2 s3
  have first : Rests s s1 := (h.recSet ..).ite ((h.recSet ..).ite h)
  have second : Rests s s2 := first.ite (first.tdec ..)
  have third : Rests s s3 := by
    clear_value s2
    simp only [s3]
    split
    · exact second
    · exact second.of_eq rfl rfl
  clear_value s3
  exact third.modSched _

theorem Rests.finish {s u : State} (h : Rests s u) (asid : Nat) (rec : VAddr) (k : EndKind) : Rests s (u.finish asid rec k) := by
  unfold State.finish
  extract_lets quiet s1 s2
  have first : Rests s s1 := by
    cases k with
    | done => exact h
    | eclipsed => exact (h.recSet ..).ite h
    | stopped => exact h.recSet ..
  have second : Rests s s2 := (first.forgetRecord asid rec).modSched _
  exact (second.finishNow asid rec).ite second

theorem Rests.memberEnds {s u : State} (h : Rests s u) (id : TaskId) (k : EndKind) : Rests s (u.memberEnds id k) := by
  unfold State.memberEnds
  extract_lets s1
  have first : Rests s s1 := h.modSched _
  split
  · exact first
  · exact (first.finish ..).ite first

/-! ### References dropped while the core is idle -/

/-- What is done on another core leaves this one as it is. -/
theorem Rests.onCore_modSys {s u : State} (h : Rests s u) {n : Nat} (away : n ≠ s.cur) (f : SysRegs → SysRegs) :
    Rests s (u.onCore n fun v => v.modSys f) := by
  have cur : (u.onCore n fun v => v.modSys f).cur = u.cur := by rw [State.onCore, State.switchTo_eq]
  refine h.of_eq cur ?_
  rw [← State.getCore_cur, cur, State.getCore_onCore_modSys, if_neg (h.1 ▸ away.symm), State.getCore_cur]

section
variable {s u : State} (idle : s.core.mode = .idle)
include idle

theorem Rests.dropSavedOf (h : Rests s u) (asid : Nat) (f : VAddr) : Rests s (u.dropSavedOf asid f).1 := by
  unfold State.dropSavedOf
  extract_lets sv s1 s2
  have tokens : Rests s s1 := forEach_keeps (fun k _ v hv => hv.aside ((Aside.refl v).returnToken asid k)) h
  exact forEach_keeps (fun v _ w hw => hw.aside ((Aside.refl w).leaveGang (.inl (hw.idle idle)) v.task)) (tokens.modSched _)

/-- No core on which a task runs is the idle one. -/
theorem Rests.away_of_coresOf (h : Rests s u) {asid : Nat} {f : VAddr} {n : Nat} (hn : n ∈ u.coresOf asid f) : n ≠ s.cur := by
  rintro rfl
  have runs := (List.mem_filter.1 hn).2
  simp [← h.1, h.idle idle] at runs

theorem Rests.dropRef (h : Rests s u) (asid : Nat) (f : VAddr) : Rests s (u.dropRef asid f).1 := by
  unfold State.dropRef
  extract_lets cons s1 st q refs s2
  have first : Rests s s1 := h.recSet ..
  have second : Rests s s2 := (first.dropSavedOf idle asid f).modSched _
  clear_value s2 refs st s1
  split
  · exact first
  split
  · exact forEach_keeps (fun n hn v hv => hv.onCore_modSys (second.away_of_coresOf idle hn) _) second
  · exact (second.modSched _).finish asid f .eclipsed

theorem Rests.dropRefs (h : Rests s u) (asid fuel : Nat) (fs : List VAddr) : Rests s (u.dropRefs asid fuel fs) := by
  induction fuel generalizing u fs with
  | zero => unfold State.dropRefs; exact h
  | succ n ih =>
    cases fs with
    | nil => exact h
    | cons f r => exact ih (h.dropRef idle asid f) _

end

/-- Dropping all that the task holds leaves it no reference, and the rest of an idle core as it is (R217). -/
theorem Rests.dropHeld {s : State} (idle : s.core.mode = .idle) : Rests (s.modT fun t => { t with refs := [] }) s.dropHeld :=
  Rests.dropRefs (s := s.modT fun t => { t with refs := [] }) idle (.refl _) _ _ _

/-- Nothing to drop changes nothing. -/
theorem State.dropRefs_nil (s : State) (asid fuel : Nat) : s.dropRefs asid fuel [] = s := by cases fuel <;> rfl

/-! ### The record that ends or goes on -/

theorem State.schedRec_of_recs {s u : State} (h : u.sched.recs = s.sched.recs) (asid : Nat) (rec : VAddr) : u.schedRec asid rec = s.schedRec asid rec := by
  rw [State.schedRec, h]; rfl

/-- A record whose end is complete is gone. -/
theorem State.schedRec_finishNow (s : State) (asid : Nat) (rec : VAddr) : (s.finishNow asid rec).schedRec asid rec = none := by
  unfold State.finishNow
  split
  · next none => exact none
  · refine List.find?_eq_none.2 fun r hr => ?_
    simpa using (List.mem_filter.1 hr).2

/-- A record that ends this way, and is there still, says so. -/
theorem State.finish_record {s : State} {asid : Nat} {rec : VAddr} {k : EndKind} {r : SchedRec} (hr : (s.finish asid rec k).schedRec asid rec = some r) :
    r.finish = some k := by
  unfold State.finish at hr
  extract_lets quiet s1 s2 at hr
  split at hr
  · rw [State.schedRec_finishNow] at hr
    cases hr
  · have kept : ∀ q : SchedRec, ({ q with finish := some k, ready := false, lackAt := none } : SchedRec).is asid rec = q.is asid rec := fun _ => rfl
    obtain ⟨q, -, rfl⟩ := Option.map_eq_some_iff.1 ((State.schedRec_modRec kept _).symm.trans hr)
    rfl

/-- The last member that leaves ends its record (R220). -/
theorem State.memberEnds_last {s : State} {id : TaskId} {q : SchedRec} (hq : s.schedRec id.asid id.record = some q) (last : q.live = [id.member])
    {k : EndKind} {r : SchedRec} (hr : (s.memberEnds id k).schedRec id.asid id.record = some r) : r.finish = some k := by
  have kept : ∀ q : SchedRec, ({ q with live := q.live.filter (· ≠ id.member) } : SchedRec).is id.asid id.record = q.is id.asid id.record := fun _ => rfl
  unfold State.memberEnds at hr
  extract_lets s1 at hr
  have left : s1.schedRec id.asid id.record = some { q with live := [] } := by
    rw [State.schedRec_modRec kept, hq, Option.map_some, last]
    simp
  simp only [left, List.isEmpty_nil, if_true] at hr
  exact State.finish_record hr

theorem State.schedRec_noteImages (s : State) (asid : Nat) (rec : VAddr) : s.noteImages.schedRec asid rec =
    (s.schedRec asid rec).map fun r => { r with lackAt := if r.ready && !(s.imageHeld r) then some (r.lackAt.getD s.now) else none } :=
  List.find?_map

/-- A record made READY keeps its references and its members (R259). -/
theorem State.makeReady_record {s : State} {asid : Nat} {rec : VAddr} {q : SchedRec} (hq : s.schedRec asid rec = some q) :
    ∃ r, (s.makeReady asid rec).schedRec asid rec = some r ∧ r.refs = q.refs ∧ r.live = q.live ∧ r.ready = true := by
  have kept : ∀ r : SchedRec, ({ r with ready := true, rt := s.now } : SchedRec).is asid rec = r.is asid rec := fun _ => rfl
  have recs : (s.recSet asid rec 0 1 stReady).sched.recs = s.sched.recs := ((Aside.refl s).written (.recSet ..)).recs
  rw [State.makeReady, State.schedRec_noteImages, State.schedRec_modRec kept, State.schedRec_of_recs recs, hq]
  exact ⟨_, rfl, rfl, rfl, rfl⟩

end Sys2Proof.Machine
end

section
/-! PROOF. O43: ending and continuing a task (R88, R90, R139, R220, R242). -/

namespace Sys2Proof.Machine

/-! ### What a bundle's completion leaves of its core -/

theorem TaskState.loopEnd_keeps (t : TaskState) (fresh fuel : Nat) (pos : VAddr) :
    (t.loopEnd fresh fuel pos).id = t.id ∧ (t.loopEnd fresh fuel pos).refs = t.refs := by
  induction fuel generalizing t with
  | zero => exact ⟨rfl, rfl⟩
  | succ n ih =>
    unfold TaskState.loopEnd
    split
    · exact ⟨rfl, rfl⟩
    · dsimp only
      split
      · exact ⟨rfl, rfl⟩
      · split
        · exact ⟨rfl, rfl⟩
        · exact ih _

theorem TaskState.stagesFirst_keeps (t : TaskState) : t.stagesFirst.id = t.id ∧ t.stagesFirst.refs = t.refs := by
  unfold TaskState.stagesFirst
  split
  · exact ⟨rfl, rfl⟩
  · split <;> exact ⟨rfl, rfl⟩

/-- Wherever a bundle leads, its task keeps its identity and its references. -/
theorem TaskState.redirect_keeps (t : TaskState) (fresh : Nat) (r : Redirect) (next : VAddr) :
    (t.redirect fresh r next).id = t.id ∧ (t.redirect fresh r next).refs = t.refs := by
  cases r with
  | none => exact t.loopEnd_keeps fresh 3 next
  | skip a => exact t.loopEnd_keeps fresh 3 a
  | branch a => exact ⟨rfl, rfl⟩
  | eret => exact ⟨rfl, rfl⟩
  | enter a => exact t.stagesFirst_keeps

/-- A bundle that completes changes its core only, whose task, references and L1 stay. -/
theorem State.completeBundle_frame (s : State) : ∃ core, s.completeBundle = { s with core } ∧ core.bundle.complete = true ∧ core.l1 = s.core.l1 ∧
    core.t.id = s.core.t.id ∧ core.t.refs = s.core.t.refs := by
  obtain ⟨p, landP, -, head⟩ := s.headLogic_eq s.core.bundle.head
  unfold State.completeBundle State.completeWith
  simp only [head]
  obtain ⟨rp, sp, renewed⟩ := State.renewed_eq (State.modT (State.modT (s.modT fun t => { t with p, sb := { t.sb with landP } }) _) _) s.core.bundle.head
  rw [renewed]
  exact ⟨_, rfl, rfl, rfl, (TaskState.redirect_keeps ..).1, (TaskState.redirect_keeps ..).2⟩

/-! ### What a task that leaves has given up (R139, R220) -/

/-- The bundle has completed over an L1 without a dirty line. -/
def Core.settled (k : Core) : Prop := k.bundle.complete = true ∧ ∀ l ∈ k.l1, l.dirty = 0

/-- And the task holds no token, no tag, no return-queue entry and no stream byte. -/
def Core.emptied (k : Core) : Prop := k.settled ∧ k.t.tokens = [] ∧ k.t.comp = { ctb := 0, cte := 0, held := 0, rq := [] } ∧
  ∀ n : BitVec 2, fileGet k.t.streams n = []

/-- The same task with the same references, among the same records. -/
def SameTask (s u : State) : Prop := u.core.t.id = s.core.t.id ∧ u.core.t.refs = s.core.t.refs ∧ u.sched.recs = s.sched.recs

theorem SameTask.trans {s t u : State} (h : SameTask s t) (k : SameTask t u) : SameTask s u :=
  ⟨k.1.trans h.1, k.2.1.trans h.2.1, k.2.2.trans h.2.2⟩

theorem SameTask.completeBundle (s : State) : SameTask s s.completeBundle := by
  obtain ⟨core, e, -, -, id, refs⟩ := s.completeBundle_frame
  rw [e]
  exact ⟨id, refs, rfl⟩

theorem SameTask.written {s u : State} (h : Written s u) : SameTask s u := by
  obtain ⟨mem, mgmt, rs, rfl⟩ := h
  exact ⟨rfl, rfl, rfl⟩

theorem SameTask.writeBack (s : State) (sel : L1Line → Bool) (drop : Bool) : SameTask s (s.writeBack sel drop) := by
  obtain ⟨l1, fills, ⟨mem, mgmt, xlat, fabric, e⟩, -⟩ := s.writeBack_eq sel drop
  rw [e]
  exact ⟨rfl, rfl, rfl⟩

/-- Freeing what it holds leaves a core emptied (R220). -/
theorem State.freeHeld_emptied {s : State} (h : s.core.settled) : s.freeHeld.core.emptied ∧ SameTask s s.freeHeld := by
  obtain ⟨mail, loading, others, saved, barriers, queues, spill, mem, mgmt, xlat, e⟩ := s.freeHeld_aside
  rw [e]
  exact ⟨⟨h, rfl, rfl, fun n => fileGet_replicate [] n⟩, rfl, rfl, rfl⟩

theorem State.leaveCommands_emptied {s : State} (h : s.core.emptied) : s.leaveCommands.core.emptied ∧ SameTask s s.leaveCommands := by
  unfold State.leaveCommands
  dsimp only
  split <;> exact ⟨h, rfl, rfl, rfl⟩

/-- A core that reaches its drain point has the mode given, and what is left in its L1 is clean (R8). -/
theorem State.drainPoint_emptied {s : State} (h : s.core.emptied) (m : CoreMode) :
    (s.drainPoint m).core.emptied ∧ (s.drainPoint m).core.mode = m ∧ SameTask s (s.drainPoint m) := by
  obtain ⟨l1, fills, ⟨mem, mgmt, xlat, fabric, e⟩, lines⟩ := s.writeBack_eq (fun _ => true) true
  obtain ⟨⟨complete, clean⟩, held⟩ := h
  unfold State.drainPoint State.flushL1
  rw [e]
  exact ⟨⟨⟨complete, fun l hl => (lines l hl).elim (clean l) id⟩, held⟩, rfl, rfl, rfl, rfl⟩

theorem Rests.emptied {s u : State} (h : Rests s u) (k : s.core.emptied) : u.core.emptied := by
  obtain ⟨-, mail, prefetch, e⟩ := h
  rw [e]
  exact k

theorem Rests.refs {s u : State} (h : Rests s u) : u.core.t.refs = s.core.t.refs := by
  obtain ⟨-, mail, prefetch, e⟩ := h
  rw [e]

/-! ### The point at which a task leaves (R90, R220, R242) -/

/-- A release over a core's L1 keeps its bundle and a clean L1. -/
theorem Core.settled.releaseAll {s : State} (h : s.core.settled) : s.releaseAll.core.settled := by
  obtain ⟨l1, fills, ⟨mem, mgmt, xlat, fabric, e⟩, lines⟩ := s.writeBack_eq (fun _ => true) false
  unfold State.releaseAll
  rw [e]
  exact ⟨h.1, fun l hl => (lines l hl).elim (h.2 l) id⟩

theorem Core.settled.written {s u : State} (h : s.core.settled) (k : Written s u) : u.core.settled := by
  obtain ⟨mem, mgmt, rs, rfl⟩ := k
  exact h

/-- Released with nothing waiting and completed, the bundle leaves a settled core. -/
theorem State.leaving_settled {s : State} (here : L1Here s) :
    s.releaseAll.completeBundle.core.settled ∧ SameTask s s.releaseAll.completeBundle := by
  refine ⟨?_, (SameTask.writeBack s _ _).trans (.completeBundle _)⟩
  obtain ⟨core, e, complete, l1, -, -⟩ := s.releaseAll.completeBundle_frame
  rw [e]
  exact ⟨complete, by rw [l1]; exact here.releaseAll.1⟩

theorem State.releaseAll_performed {s : State} (h : Performed s) : (s.releaseAll.writesDue || s.releaseAll.writesStuck) = false := by
  obtain ⟨due, here⟩ := h
  obtain ⟨clean, fabric⟩ := here.releaseAll
  have cur : s.releaseAll.cur = s.cur := by
    obtain ⟨l1, fills, ⟨mem, mgmt, xlat, fabric, e⟩, -⟩ := s.writeBack_eq (fun _ => true) false
    unfold State.releaseAll
    rw [e]
  have still : L1Here s.releaseAll := fun l hl => .inr (clean l hl)
  have same : s.releaseAll.writesDue = s.writesDue := by
    unfold State.writesDue State.netEng
    rw [fabric, cur]
  rw [same, due, still.not_stuck]
  rfl

section
variable {s : State} (quiet : s.quiet = true)
include quiet

theorem not_waiting : ¬(s.core.bundle.checked = false ∧ s.quiet = false) := fun h => ne_false_of_eq_true quiet h.2

theorem State.ending_goes (closes : s.closing.fails = false) (performed : Performed s) (f : State → State) :
    s.ending f = f s.releaseAll.completeBundle := by
  rw [State.ending, if_neg (not_waiting quiet), if_neg (ne_true_of_eq_false closes), if_neg (ne_true_of_eq_false (State.releaseAll_performed performed))]

theorem State.ending_mirror (fails : s.closing.fails = true) (f : State → State) : s.ending f = s.raise s.mirrorExc := by
  rw [State.ending, if_neg (not_waiting quiet), if_pos fails]

/-- While stores are on their way the bundle waits (R242) [log 51]. -/
theorem State.ending_waits (closes : s.closing.fails = false) (checked : s.core.bundle.checked = false) (due : s.releaseAll.writesDue = true)
    (f : State → State) : s.ending f = s.releaseAll.waitHere := by
  have waits : (s.releaseAll.writesDue || s.releaseAll.writesStuck) = true := by rw [due]; rfl
  rw [State.ending, if_neg (not_waiting quiet), if_neg (ne_true_of_eq_false closes), if_pos waits, if_neg (ne_true_of_eq_false checked)]

end

/-! ### TEND (R217, R220) -/

/-- The state in which a task that ends has left its core, before its record is told. -/
def State.afterLeaving (s : State) (id : TaskId) (result : Option (BitVec 128)) : State :=
  let s1 := s.releaseAll
  let s2 := match result with
    | none => s1
    | some v => if id.member = 0 then s1.recSet id.asid id.record 80 16 v.toNat else s1
  s2.freeHeld.leaveCommands.drainPoint .idle

theorem State.endTask_eq (s : State) (id : TaskId) (result : Option (BitVec 128)) :
    s.endTask id result = ((s.afterLeaving id result).memberEnds id .done).dropHeld := rfl

theorem State.afterLeaving_emptied {s : State} (h : s.core.settled) (id : TaskId) (result : Option (BitVec 128)) :
    (s.afterLeaving id result).core.emptied ∧ (s.afterLeaving id result).core.mode = .idle ∧ SameTask s (s.afterLeaving id result) := by
  unfold State.afterLeaving
  extract_lets s1 s2
  have told : Written s1 s2 := by
    cases result with
    | none => exact .refl s1
    | some v =>
      dsimp only [s2]
      split
      · exact .recSet ..
      · exact .refl s1
  have settled : s2.core.settled := h.releaseAll.written told
  have same : SameTask s s2 := (SameTask.writeBack s _ _).trans (.written told)
  obtain ⟨freed, same1⟩ := State.freeHeld_emptied settled
  obtain ⟨left, same2⟩ := State.leaveCommands_emptied freed
  obtain ⟨drained, idle, same3⟩ := State.drainPoint_emptied left .idle
  exact ⟨drained, idle, ((same.trans same1).trans same2).trans same3⟩

/-- TEND leaves an idle core with nothing held, and ends the record of a task without references whose last member this is. -/
theorem State.endTask_ends {s : State} (h : s.core.settled) (id : TaskId) (result : Option (BitVec 128)) : let u := s.endTask id result
    (u.core.emptied ∧ u.core.mode = .idle ∧ u.core.t.refs = []) ∧
      ∀ q, s.schedRec id.asid id.record = some q → q.live = [id.member] → s.core.t.refs = [] →
        ∀ r, u.schedRec id.asid id.record = some r → r.finish = some .done := by
  obtain ⟨emptied, idle, -, refs, recs⟩ := State.afterLeaving_emptied h id result
  rw [State.endTask_eq]
  generalize s.afterLeaving id result = v at *
  have ended : Rests v (v.memberEnds id .done) := (Rests.refl v).memberEnds id .done
  intro u
  refine ⟨?_, fun q hq last none r hr => ?_⟩
  · have dropped := Rests.dropHeld (ended.idle idle)
    exact ⟨dropped.emptied (ended.emptied emptied), dropped.idle (ended.idle idle), dropped.refs⟩
  · have nothing : (v.memberEnds id .done).core.t.refs = [] := ended.refs.trans (refs.trans none)
    have same : u = (v.memberEnds id .done).modT fun t => { t with refs := [] } := by
      simp only [u, State.dropHeld, nothing, State.dropRefs_nil]
    rw [same] at hr
    exact State.memberEnds_last ((State.schedRec_of_recs recs ..).trans hq) last hr

/-! ### TCONT (R220) -/

/-- The record takes back the references of the member that leaves, and no member is left running. -/
def State.handBack (s : State) (id : TaskId) (refs : List VAddr) : State :=
  (s.modT fun t => { t with refs := [] }).modRec id.asid id.record fun q => { q with refs, live := [] }

/-- The state in which a task that continues has left its core. -/
def State.afterContinuing (s : State) (id : TaskId) (entry dep : Nat) : State :=
  ((((s.releaseAll.recSet id.asid id.record 12 4 entry).recSet id.asid id.record 24 4 dep).freeHeld.handBack id s.core.t.refs).leaveCommands.drainPoint
    .idle).forgetRecord id.asid id.record

theorem State.continueTask_eq (s : State) (id : TaskId) (entry dep : Nat) : s.continueTask id entry dep =
    if dep = 0 then (s.afterContinuing id entry dep).makeReady id.asid id.record
    else (s.afterContinuing id entry dep).recSet id.asid id.record 0 1 stWaiting := rfl

theorem State.schedRec_handBack (s : State) (id : TaskId) (refs : List VAddr) : (s.handBack id refs).schedRec id.asid id.record =
    (s.schedRec id.asid id.record).map fun q => { q with refs, live := [] } :=
  State.schedRec_modRec (f := fun q => { q with refs, live := [] }) (fun _ => rfl) (s.modT fun t => { t with refs := [] })

/-- It is idle and holds nothing, and its record has its references. -/
theorem State.afterContinuing_emptied {s : State} (h : s.core.settled) (id : TaskId) (entry dep : Nat) : let u := s.afterContinuing id entry dep
    (u.core.emptied ∧ u.core.mode = .idle ∧ u.core.t.refs = []) ∧
      u.schedRec id.asid id.record = (s.schedRec id.asid id.record).map fun q => { q with refs := s.core.t.refs, live := [] } := by
  unfold State.afterContinuing
  have told : SameTask s ((s.releaseAll.recSet id.asid id.record 12 4 entry).recSet id.asid id.record 24 4 dep) :=
    ((SameTask.writeBack s _ _).trans (.written (.recSet ..))).trans (.written (.recSet ..))
  have settled := (h.releaseAll.written (.recSet s.releaseAll id.asid id.record 12 4 entry)).written (.recSet _ id.asid id.record 24 4 dep)
  generalize (s.releaseAll.recSet id.asid id.record 12 4 entry).recSet id.asid id.record 24 4 dep = v at *
  obtain ⟨freed, same1⟩ := State.freeHeld_emptied settled
  have recs1 := (told.trans same1).2.2
  generalize v.freeHeld = w at *
  obtain ⟨left, same2⟩ := State.leaveCommands_emptied (s := w.handBack id s.core.t.refs) freed
  obtain ⟨drained, idle, same3⟩ := State.drainPoint_emptied left .idle
  obtain ⟨-, refs, recs⟩ := same2.trans same3
  generalize (w.handBack id s.core.t.refs).leaveCommands.drainPoint .idle = x at *
  have forgotten : Rests x (x.forgetRecord id.asid id.record) := (Rests.refl x).forgetRecord id.asid id.record
  refine ⟨⟨forgotten.emptied drained, forgotten.idle idle, forgotten.refs.trans refs⟩, ?_⟩
  rw [State.schedRec_of_recs (s := w.handBack id s.core.t.refs) (u := x.forgetRecord id.asid id.record) recs, State.schedRec_handBack, State.schedRec_of_recs recs1]

/-- TCONT leaves an idle core with nothing held; the record keeps the references, has no member running, and is READY for a counter of 0. -/
theorem State.continueTask_goesOn {s : State} (h : s.core.settled) (id : TaskId) (entry dep : Nat) : let u := s.continueTask id entry dep
    (u.core.emptied ∧ u.core.mode = .idle ∧ u.core.t.refs = []) ∧
      ∀ q, s.schedRec id.asid id.record = some q →
        ∃ r, u.schedRec id.asid id.record = some r ∧ r.refs = s.core.t.refs ∧ r.live = [] ∧ (dep = 0 → r.ready = true) := by
  obtain ⟨⟨emptied, idle, refs⟩, record⟩ := State.afterContinuing_emptied h id entry dep
  rw [State.continueTask_eq]
  generalize s.afterContinuing id entry dep = v at *
  have rests : Rests v (if dep = 0 then v.makeReady id.asid id.record else v.recSet id.asid id.record 0 1 stWaiting) :=
    ((Rests.refl v).makeReady ..).ite ((Rests.refl v).recSet ..)
  refine ⟨⟨rests.emptied emptied, rests.idle idle, rests.refs.trans refs⟩, fun q hq => ?_⟩
  rw [hq, Option.map_some] at record
  by_cases counter : dep = 0
  · rw [if_pos counter]
    obtain ⟨r, hr, refs, live, ready⟩ := State.makeReady_record record
    exact ⟨r, hr, refs, live, fun _ => ready⟩
  · rw [if_neg counter, State.schedRec_of_recs (SameTask.written (.recSet ..)).2.2, record]
    exact ⟨_, rfl, rfl, rfl, fun zero => absurd zero counter⟩

/-! ### The instructions, with their guard set -/

section
variable {s : State} {g : BitVec 4} (hg : s.guard g = true) (a b : BitVec 6)
include hg

theorem exec_tend_on : exec (.tend g a) s =
    .next (s.ending fun u => u.endTask s.self (if a = 0 then none else some (s.rdPair a))) := by
  rw [show exec (.tend g a) s = execTend g a s from rfl, execTend, State.when_on _ _ _ hg]

/-- TCONT checks its operands once nothing holds it (R220). -/
theorem exec_tcont_on (quiet : s.quiet = true) : exec (.tcont g a b) s =
    .next (if (s.rdX a).toNat % 4 ≠ 0 ∨ 2 ^ 32 ≤ (s.rdX a).toNat then s.fault .illegalOperand 1
      else if 2 ^ 32 ≤ (s.rdX b).toNat then s.fault .illegalOperand 2
      else if s.recKind s.core.t.id.asid s.tk = 2 then s.fault .illegalOperand 4
      else s.ending fun u => u.continueTask s.self (s.rdX a).toNat (s.rdX b).toNat) := by
  rw [show exec (.tcont g a b) s = execTcont g a b s from rfl, execTcont, State.when_on _ _ _ hg]
  exact congrArg Host.Outcome.next (if_neg (not_waiting quiet))

/-- With legal operands and a record that is no gang's it ends its use of the core. -/
theorem exec_tcont_free (quiet : s.quiet = true) (free : (s.rdX a).toNat % 4 = 0 ∧ (s.rdX a).toNat < 2 ^ 32 ∧ (s.rdX b).toNat < 2 ^ 32 ∧
    s.recKind s.core.t.id.asid s.tk ≠ 2) :
    exec (.tcont g a b) s = .next (s.ending fun u => u.continueTask s.self (s.rdX a).toNat (s.rdX b).toNat) := by
  obtain ⟨aligned, small, counter, kind⟩ := free
  rw [exec_tcont_on hg a b quiet, if_neg (by omega), if_neg (not_le.2 counter), if_neg kind]

end

/-- Settles O43: what a task holds is freed before its core rests, and its record is ended or handed its references after that. -/
theorem tasksEnd : Obligations.TasksEnd := by
  intro s g a b hg bad freed free asid
  refine ⟨fun quiet closes performed => ⟨?ends, fun legal => ?goesOn⟩, fun quiet closes checked due => ?storesDue, fun busy checked => ?busy,
    fun quiet fails => ?mirror, fun quiet => ?operands⟩
  case ends =>
    obtain ⟨settled, -, refs, recs⟩ := State.leaving_settled performed.2
    obtain ⟨⟨⟨⟨complete, clean⟩, tokens, comp, streams⟩, idle, dropped⟩, record⟩ :=
      State.endTask_ends settled s.self (if a = 0 then none else some (s.rdPair a))
    refine ⟨_, (exec_tend_on hg a).trans (congrArg Host.Outcome.next (State.ending_goes quiet closes performed _)),
      ⟨complete, idle, tokens, dropped, comp, streams, clean⟩, fun q hq last none => ?_⟩
    exact record q ((State.schedRec_of_recs recs ..).trans hq) last (refs.trans none)
  case goesOn =>
    obtain ⟨settled, -, refs, recs⟩ := State.leaving_settled performed.2
    obtain ⟨⟨⟨⟨complete, clean⟩, tokens, comp, streams⟩, idle, dropped⟩, record⟩ :=
      State.continueTask_goesOn settled s.self (s.rdX a).toNat (s.rdX b).toNat
    refine ⟨_, (exec_tcont_free hg a b quiet legal).trans (congrArg Host.Outcome.next (State.ending_goes quiet closes performed _)),
      ⟨complete, idle, tokens, dropped, comp, streams, clean⟩, fun q hq => ?_⟩
    obtain ⟨r, hr, kept, live, ready⟩ := record q ((State.schedRec_of_recs recs ..).trans hq)
    exact ⟨r, hr, kept.trans refs, live, fun zero => ready (congrArg BitVec.toNat zero)⟩
  case storesDue =>
    exact ⟨(exec_tend_on hg a).trans (congrArg Host.Outcome.next (State.ending_waits quiet closes checked due _)),
      fun legal => (exec_tcont_free hg a b quiet legal).trans (congrArg Host.Outcome.next (State.ending_waits quiet closes checked due _))⟩
  case busy =>
    exact ⟨(exec_tend_on hg a).trans (congrArg Host.Outcome.next (if_pos ⟨checked, busy⟩)),
      .trans (b := execTcont g a b s) rfl ((State.when_on s g _ hg).trans (congrArg Host.Outcome.next (if_pos ⟨checked, busy⟩)))⟩
  case mirror =>
    exact ⟨(exec_tend_on hg a).trans (congrArg Host.Outcome.next (State.ending_mirror quiet fails _)),
      fun legal => (exec_tcont_free hg a b quiet legal).trans (congrArg Host.Outcome.next (State.ending_mirror quiet fails _))⟩
  case operands =>
    have run := exec_tcont_on hg a b quiet
    refine ⟨fun illegal => ?_, fun aligned small => ⟨fun large => ?_, fun counter kind => ?_⟩⟩
    · exact run.trans (congrArg Host.Outcome.next (if_pos illegal))
    · exact run.trans (congrArg Host.Outcome.next ((if_neg (by omega)).trans (if_pos large)))
    · exact run.trans (congrArg Host.Outcome.next ((if_neg (by omega)).trans ((if_neg (not_le.2 counter)).trans (if_pos kind))))

end Sys2Proof.Machine
end
